-- ==== Sys2Proof/Word.lean ====
section
/-! DEFINITION. The word types of the RSL-8864 and their plainest arithmetic. -/

namespace Sys2Proof

/-- One byte (R34, R242). -/
abbrev Byte := BitVec 8
/-- An X register, a 64-bit register pair of BAR0, a time value (R8, R82, R556). -/
abbrev W64 := BitVec 64
/-- One BAR0 register, one slot of an instruction word, one lane (R8, R78, R213). -/
abbrev W32 := BitVec 32
/-- One V register: 64 lanes of 32 bits, lane `i` in bits `32 i` and up (R82, R213). -/
abbrev VReg := BitVec 2048
/-- One 512-byte row, byte `i` in bits `8 i` and up (R242). -/
abbrev Row := BitVec 4096
/-- One accumulator entry: 64 lanes of 128 bits; in the 32-bit modes the low 2,048 bits hold 64 lanes of 32 bits (R132). -/
abbrev AccBits := BitVec 8192
/-- One 256-bit instruction word, slot `k` in bits `32 k` and up (R78). -/
abbrev IWord := BitVec 256
/-- One 128-bit message header (R350). -/
abbrev Header := BitVec 128
/-- One record of an image section, its bytes read little-endian as one number (R34). -/
abbrev Rec := Nat

/-- Bits `lo` to `lo + w - 1` of a number, as a number. -/
def natBits (n lo w : Nat) : Nat := (n >>> lo) % 2 ^ w

/-- The `n`-byte little-endian field at byte offset `off` of a record (R34). -/
def Rec.le (r : Rec) (off n : Nat) : Nat := natBits r (8 * off) (8 * n)

/-- The signed value of the low `w` bits of a number. -/
def signedOf (w n : Nat) : Int :=
  let m := n % 2 ^ w
  if 2 * m < 2 ^ w then (m : Int) else (m : Int) - (2 ^ w : Nat)

end Sys2Proof
end

