-- ==== Sys2Proof/Syntax.lean ====
section
/-! DEFINITION. The commands of the RSL-8864: the operands of every row, and Instr with one constructor per row. -/

namespace Sys2Proof

/-- A cluster number (00 R2). -/
abbrev ClusterId := Fin 32
/-- A partition number (17 R659). -/
abbrev PartId := Fin 16

/-- A physical core, named by its cluster and its number in it (01 R14). -/
structure CoreId where
  cluster : ClusterId
  core : Fin 24
  deriving DecidableEq, Repr

/-- The device-wide number of a physical core (01 R14). -/
def CoreId.num (k : CoreId) : Nat := 24 * k.cluster.val + k.core.val

/-- A bank: SBb of a core's scratchpad or CBb of a cluster memory (07, chapter head). -/
inductive BankId where
  | sp (k : CoreId) (b : Fin 8)
  | cm (c : ClusterId) (b : Fin 16)
  deriving DecidableEq, Repr

/-! ## Formats of the VEC and RED slots (22 R779, R788) -/

/-- Format V3. -/
structure V3 where
  vd : BitVec 6
  va : BitVec 6
  vb : BitVec 6
  mm : BitVec 4
  zm : Bool
  x0 : Bool
  deriving DecidableEq, Repr
/-- Format VF without its operation. -/
structure VF where
  p : Bool
  rm : BitVec 3
  zm : Bool
  mm : BitVec 4
  vd : BitVec 5
  va : BitVec 5
  vb : BitVec 5
  vc : BitVec 5
  deriving DecidableEq, Repr
/-- Format MD. -/
structure MD where
  md : BitVec 4
  va : BitVec 6
  vb : BitVec 6
  mm : BitVec 4
  zm : Bool
  deriving DecidableEq, Repr
/-- Format ML. -/
structure ML where
  md : BitVec 4
  ma : BitVec 4
  mb : BitVec 4
  mm : BitVec 4
  zm : Bool
  deriving DecidableEq, Repr
/-- Format CL. -/
structure CL where
  md : BitVec 4
  va : BitVec 6
  cls : BitVec 9
  mm : BitVec 4
  zm : Bool
  deriving DecidableEq, Repr
/-- Format AC. -/
structure AC where
  vd : BitVec 6
  e : BitVec 8
  md : BitVec 4
  mm : BitVec 4
  zm : Bool
  deriving DecidableEq, Repr
/-- Format CV. -/
structure CV where
  vd : BitVec 6
  va : BitVec 6
  dir : Bool
  rm : BitVec 3
  sat : Bool
  mm : BitVec 4
  zm : Bool
  deriving DecidableEq, Repr
/-- Formats NN and NX. -/
inductive NArgs where
  | nn (vd va : BitVec 6) (q rm : BitVec 3) (sat : Bool) (mm : BitVec 4) (zm : Bool)
  | nx (vd va : BitVec 6) (q : BitVec 3) (sr : Bool) (soff2 : BitVec 7)
  deriving DecidableEq, Repr
/-- Formats WN and WX. -/
inductive WArgs where
  | wn (vd va : BitVec 6) (q : BitVec 3) (mm : BitVec 4) (zm : Bool)
  | wx (vd va : BitVec 6) (q : BitVec 3) (sat : Bool) (soff2 : BitVec 7)
  deriving DecidableEq, Repr
/-- Format BI. -/
structure BI where
  vd : BitVec 5
  va : BitVec 5
  vh : BitVec 5
  hl2 : BitVec 5
  mm : BitVec 4
  deriving DecidableEq, Repr
/-- Format GU. -/
structure GU where
  vd : BitVec 6
  xs : BitVec 5
  xe : BitVec 5
  mm : BitVec 4
  zm : Bool
  deriving DecidableEq, Repr
/-- The RED format (22 R788). -/
structure RD where
  vd : BitVec 6
  va : BitVec 6
  mm : BitVec 4
  md : BitVec 4
  p : Bool
  zm : Bool
  deriving DecidableEq, Repr

/-! ## What comes with an event from outside -/

/-- What the codewords of an SRAM row hold: bit `i` below 16 for the data codeword of bits `256 i` to `256 i + 255` of the row, bit 16 for the codeword of its VALID and OVF bits (07 R276). -/
structure Codewords where
  /-- the codewords with an error that the code corrects -/
  corr : BitVec 17 := 0
  /-- the codewords with an error that it only detects -/
  bad : BitVec 17 := 0
  deriving DecidableEq, Repr

/-- Bit errors that strike a row: what its codewords hold from then on, and the stored bits that differ in the codewords that the code cannot correct (07 R276 to R278). -/
structure Ecc where
  words : Codewords := {}
  flips : Row := 0
  deriving DecidableEq, Repr

/-- What the error code of a GDDR7 channel shows of a row read: the corrected errors, and whether one cannot be corrected (08 R343). -/
structure DramEcc where
  corrected : Nat := 0
  uncorrectable : Bool := false
  deriving DecidableEq, Repr

/-- The completion of a host-memory read row: its data, or an error completion (08 R326). -/
inductive HostReply where
  | data (row : Row)
  | error
  deriving DecidableEq, Repr

/-- The acknowledgement of a written row: of device or cluster memory, of host memory, or an error of host memory (08 R304, R326). -/
inductive FarAck where
  | inner
  | hostDone (row : Nat)
  | hostError (row : Nat)
  deriving DecidableEq, Repr

/-- What a poll reads for one ring: its consumer word, and the SEQ words of the entries it reads; none on an error (15 R588, R595). -/
structure PollRead where
  ring : Fin 128
  cons : Option W64
  seqs : Option (List W64)
  deriving DecidableEq, Repr

/-- What causes an H reset (15 R601). -/
inductive HCause where
  | perst | hot | flr
  deriving DecidableEq, Repr

/-- The state of a host link as it comes up, or of one that is up, with the PCIe replays that it has counted (15 R574, R602, R607). -/
structure LinkState where
  replays : Nat
  flit : Bool
  width : Fin 16
  busMaster : Bool
  ats : Bool
  pri : Bool
  pasid : Bool
  deriving DecidableEq, Repr

/-- What a stop-and-switch of the clock covers: the clusters of a partition, or one cluster that throttles or ends its throttle (14 R552; 19 R715, R716). -/
inductive ClockUnit where
  | part (p : PartId)
  | cluster (c : ClusterId)
  deriving DecidableEq, Repr

/-- A reference clock (14 R565). -/
inductive RefClock where
  | refclk | h0 | h1 | xtal
  deriving DecidableEq, Repr

/-- A received frame that is discarded: one with uncorrectable codewords, one and `more` further, or its bytes from DA to FCS (12 R466, R467, R500). -/
inductive DiscardWhy where
  | fecUncorrectable (more : Nat)
  | wire (bytes : List Byte)
  deriving DecidableEq, Repr

/-- A frame of the Burtum protocol (12 R468, R471). -/
structure Frame where
  /-- TYPE: 1 DATA, 2 ACK, 3 SYNC, 4 DROP -/
  ftype : Nat := 2
  retx : Bool := false
  ackValid : Bool := false
  resync : Bool := false
  src : Nat := 0
  srcPort : Nat := 0
  dst : Nat := 0
  reason : Nat := 0
  session : BitVec 32 := 0
  seq : BitVec 24 := 0
  ackSession : BitVec 32 := 0
  cumAck : BitVec 24 := 0
  credit : Nat := 0
  sack : BitVec 64 := 0
  header : Header := 0
  rows : List Row := []
  deriving DecidableEq, Repr

/-- A requester of host memory whose request times out (15 R590, R597; 08 R326). -/
inductive HostRequester where
  | stream (c : ClusterId) (s : Fin 256)
  | ring (r : Fin 128)
  deriving DecidableEq, Repr

/-- The space of a 4-byte or 8-byte access: BAR0 with the registers, or BAR4 with the MSI-X table and the PBA (15 R575). -/
inductive RegBar where
  | bar0
  | bar4
  deriving DecidableEq, Repr

/-- An IDE_KM message of a DOE mailbox (15 R574). -/
inductive IdeKm where
  | query | keyProg (data : Nat) | setGo | setStop
  deriving DecidableEq, Repr

/-- The security algorithms that a requester offers to the SPDM responder (16 R644). -/
structure SpdmOffer where
  ed448 : Bool
  sha3_512 : Bool
  secp384r1 : Bool
  aes256Gcm : Bool
  deriving DecidableEq, Repr

/-! ## Flash records (16 R618 to R640, R657) -/

/-- SETTINGS (16 R657). -/
structure Settings where
  /-- primary port -/
  primary : Nat := 0
  /-- SMBus address of the management port (16 R611) -/
  mgtAddr : Nat := 0x5C
  /-- AUTOLOAD (16 R627) -/
  autoload : Bool := false
  /-- AUTOLOAD_ADDR (02 R66) -/
  autoloadAddr : Nat := 0
  /-- hold settings of SET_SETTING (16 R652) -/
  holdMs : Nat := 100
  /-- image keys of slots 1 to 7 (02 R43): slot and key -/
  keys : List (Nat × Nat) := []
  /-- digests of revoked keys, at most 16 (16 R652) -/
  revoked : List Nat := []
  /-- SECURITY_VERSION floors of the key slots (02 R44): slot and floor -/
  slotFloors : List (Nat × Nat) := []
  /-- firmware floors: component and floor (16 R631) -/
  fwFloors : List (Nat × Nat) := []
  /-- the owner root certificate (16 R653) -/
  ownerRoot : Option Nat := none
  deriving DecidableEq, Repr

/-- The payload of a copy of a flash record: its bytes, as a little-endian number of `len` bytes, or SETTINGS, whose byte form the specification does not give. -/
inductive FlashPayload where
  | bytes (len data : Nat)
  | settings (v : Settings)
  deriving DecidableEq, Repr

/-- What the boot finds outside Breeze (16 R627 to R633; 21 R746 to R751). -/
structure BootEnv where
  /-- the PUF secret, 256 bits; none where it cannot be reconstructed (stage 2) -/
  secret : Option (BitVec 256)
  /-- every main rail within its range when stage 6 begins or 2 ms later -/
  railsAll : Bool
  /-- every main rail below its range when stage 6 begins -/
  railsNone : Bool
  /-- the main rails returned in an order that 21 R749 allows -/
  railsOrder : Bool
  /-- REFCLK present when stage 6 begins -/
  refclk : Bool
  /-- cores that fail the self-test of stage 7, by cluster -/
  failed : List (BitVec 24)
  deriving DecidableEq, Repr

/-- What causes an F reset (19 R726, R730). -/
inductive FCause where
  | devReset | bothPerst
  deriving DecidableEq, Repr

/-- What RAISE_FLOOR raises (16 R652). -/
inductive FloorTarget where
  | slot (n : Byte)
  | component (n : Byte)
  deriving DecidableEq, Repr

/-- An association of a fabric port (12 R465, 16 R652). -/
inductive MacsecAssoc where
  | tx (an : Fin 2)
  | rx (dev : Fin 1024) (an : Fin 2)
  deriving DecidableEq, Repr

/-- A setting of SET_SETTING (16 R652). -/
inductive Setting where
  | mgtAddr (v : Byte)
  | autoload (v : Byte)
  | autoloadAddr (v : W64)
  | holdMs (v : W32)
  deriving DecidableEq, Repr

/-- The instruction in force in the TAP (21 R757 to R759). -/
inductive TapInstr where
  | bypass | idcode | samplePreload | extest | clamp | highz
  | challenge (code : BitVec 6)
  deriving DecidableEq, Repr

/-! ## The eight slots of an instruction word (22 R767 to R793) -/

/-- The three-register operations of the CTL slot (22 R772). -/
inductive XOp where
  | add | sub | mul | and | or | xor | shl | shr | sra
  deriving DecidableEq, Repr

/-- A CTL slot. -/
inductive CtlOp where
  | nop
  | b (cond : BitVec 3) (xs : BitVec 5) (target : BitVec 14)
  | loop (xs : BitVec 5) (stop : BitVec 14)
  | loopi (count : BitVec 16) (offset : BitVec 8)
  | calm (stepFlag : Bool) (index : BitVec 16)
  | end_
  | x (o : XOp) (xd xa xb : BitVec 5)
  | xaddi (xd xa : BitVec 5) (imm : BitVec 14)
  | xli (xd : BitVec 5) (kf : BitVec 2) (imm : BitVec 16)
  deriving DecidableEq, Repr

/-- A SIN slot (22 R775). -/
inductive SinOp where
  | nop
  | trecv (vd : BitVec 6) (tag : BitVec 5) (h : Bool) (xh : BitVec 5)
  | trecvs (xr tag : BitVec 5) (inc : BitVec 8)
  | srecv (vd : BitVec 6) (port : BitVec 2)
  | sgo (stream : BitVec 8) (xa : BitVec 5)
  | gtake (ch : BitVec 2) (xd : BitVec 5) (md : BitVec 4)
  | gret (ch : BitVec 2)
  deriving DecidableEq, Repr

/-- A MAT slot (22 R776). -/
inductive MatIns where
  | nop
  | matcfg (format : BitVec 4) (accmode : BitVec 2) (systolic : Bool) (xe : BitVec 5)
  | wld (xr : BitVec 5) (inc : BitVec 8)
  | wswap
  | mmul (e : BitVec 8) (zero swap : Bool) (src : BitVec 2) (source : BitVec 12)
  | laccadd (e : BitVec 8) (n : BitVec 4)
  | adrain (e : BitVec 8) (port : BitVec 2) (bf : Bool) (part : BitVec 2) (last : Bool)
  deriving DecidableEq, Repr

/-- The functions of latency row 7 (22 R784). -/
inductive VFn where
  | rcp | sqrt | rsqrt | div | exp | exp2 | log | log2 | tanh | sigm | erf | sin | cos
  deriving DecidableEq, Repr

/-- The two-operand FP32 operations with a rounding mode (22 R784). -/
inductive VArith where
  | add | sub | mul
  deriving DecidableEq, Repr

/-- The fused operations (22 R784). -/
inductive VFused where
  | fma | fms | fnma
  deriving DecidableEq, Repr

/-- The other V3 operations on lanes (22 R784). -/
inductive VLane where
  | min | max | abs | neg | mov | bcast | sel
  | iadd | isub | imul | and | or | xor | shl | shr | sra | shli | shri | srai
  deriving DecidableEq, Repr

/-- The mask operations (22 R784). -/
inductive MLogic where
  | and | or | xor | andn
  deriving DecidableEq, Repr

/-- A VEC0 or VEC1 slot (22 R784). -/
inductive VecOp where
  | nop
  | fn (f : VFn) (a : V3)
  | arith (o : VArith) (rm : BitVec 3) (a : V3)
  | fused (o : VFused) (a : VF)
  | lane (o : VLane) (a : V3)
  | pfmt (f : Bool)
  | cmp (cond : BitVec 3) (a : MD)
  | cls (a : CL)
  | mlogic (o : MLogic) (a : ML)
  | acc (form : BitVec 3) (a : AC)
  | cvt (a : CV)
  | cvtn (format : BitVec 4) (a : NArgs)
  | cvtw (format : BitVec 4) (a : WArgs)
  | biq (sr : Bool) (a : BI)
  | biqMark (a : BI)
  | biqScale (a : V3)
  | biadd (a : V3)
  | biaddHeader (a : V3)
  | bidq (a : BI)
  | gust (seed : BitVec 4) (a : GU)
  deriving DecidableEq, Repr

/-- The operations of the RED slot (22 R788). -/
inductive RedName where
  | sum | sumi | max | min | argmax | argmin | cnt
  deriving DecidableEq, Repr

/-- A RED slot. -/
inductive RedOp where
  | nop
  | red (o : RedName) (a : RD)
  deriving DecidableEq, Repr

/-- A MEM slot (22 R789). -/
inductive MemOp where
  | nop
  | sprd (vd : BitVec 6) (xr : BitVec 5) (c : Bool) (inc : BitVec 8)
  | spwr (vs : BitVec 6) (xr : BitVec 5) (inc : BitVec 8)
  | rowcmp (w : BitVec 2) (xr : BitVec 5) (md : BitVec 4) (vc : BitVec 6) (xk2 : BitVec 4)
  | rowcnt (xr : BitVec 5) (mm2 : BitVec 3) (xs : BitVec 5) (wrap rf : Bool) (md : BitVec 4) (ev : Bool)
  | cmrd (xc xr : BitVec 5)
  | cmwr (xc xr : BitVec 5)
  | cmcnt (xc : BitVec 5) (mm2 : BitVec 3) (xs : BitVec 5) (wrap ev : Bool)
  | rrd (vd : BitVec 6) (xa : BitVec 5)
  | rwr (vs : BitVec 6) (xa : BitVec 5)
  deriving DecidableEq, Repr

/-- An MSG slot (22 R793). -/
inductive MsgOp where
  | nop
  | msend (n xd : BitVec 5) (len1 : BitVec 3) (route : BitVec 4) (group : BitVec 6)
  deriving DecidableEq, Repr

/-- One slot of a word. -/
inductive SlotOp where
  | ctl (o : CtlOp)
  | sin (o : SinOp)
  | mat (o : MatIns)
  | vec (o : VecOp)
  | red (o : RedOp)
  | mem (o : MemOp)
  | msg (o : MsgOp)
  deriving DecidableEq, Repr

/-- A word whose eight slots all decode (03 R78). -/
structure WordOps where
  ctl : CtlOp := .nop
  sin : SinOp := .nop
  mat : MatIns := .nop
  vec0 : VecOp := .nop
  vec1 : VecOp := .nop
  red : RedOp := .nop
  mem : MemOp := .nop
  msg : MsgOp := .nop
  deriving DecidableEq, Repr

/-- The commands of the device, one per row of the table of operations and events.
An instruction row names the core that takes one cc, and the fields of its slot (22 R767 to R793). -/
inductive Instr where
  /-- NOP (R79) -/
  | nop (k : CoreId) (slot : Fin 8)
  /-- B (R88) -/
  | b (k : CoreId) (cond : BitVec 3) (xs : BitVec 5) (target : BitVec 14)
  /-- LOOP (R89) -/
  | loop (k : CoreId) (xs : BitVec 5) (stop : BitVec 14)
  /-- LOOPI (R772) -/
  | loopi (k : CoreId) (count : BitVec 16) (offset : BitVec 8)
  /-- CALM (R111) -/
  | calm (k : CoreId) (stepFlag : Bool) (index : BitVec 16)
  /-- END (R94) -/
  | end_ (k : CoreId)
  /-- XADD (R772) -/
  | xadd (k : CoreId) (xd xa xb : BitVec 5)
  /-- XSUB (R772) -/
  | xsub (k : CoreId) (xd xa xb : BitVec 5)
  /-- XMUL (R772) -/
  | xmul (k : CoreId) (xd xa xb : BitVec 5)
  /-- XAND (R772) -/
  | xand (k : CoreId) (xd xa xb : BitVec 5)
  /-- XOR (R772) -/
  | xor (k : CoreId) (xd xa xb : BitVec 5)
  /-- XXOR (R772) -/
  | xxor (k : CoreId) (xd xa xb : BitVec 5)
  /-- XSHL (R772) -/
  | xshl (k : CoreId) (xd xa xb : BitVec 5)
  /-- XSHR (R772) -/
  | xshr (k : CoreId) (xd xa xb : BitVec 5)
  /-- XSRA (R772) -/
  | xsra (k : CoreId) (xd xa xb : BitVec 5)
  /-- XADDI (R772) -/
  | xaddi (k : CoreId) (xd xa : BitVec 5) (imm : BitVec 14)
  /-- XLI (R772) -/
  | xli (k : CoreId) (xd : BitVec 5) (kf : BitVec 2) (imm : BitVec 16)
  /-- TRECV (R369) -/
  | trecv (k : CoreId) (vd : BitVec 6) (tag : BitVec 5) (h : Bool) (xh : BitVec 5)
  /-- TRECVS (R369) -/
  | trecvs (k : CoreId) (xr tag : BitVec 5) (inc : BitVec 8)
  /-- SRECV (R294) -/
  | srecv (k : CoreId) (vd : BitVec 6) (port : BitVec 2)
  /-- SGO (R297) -/
  | sgo (k : CoreId) (stream : BitVec 8) (xa : BitVec 5)
  /-- GTAKE (R412) -/
  | gtake (k : CoreId) (ch : BitVec 2) (xd : BitVec 5) (md : BitVec 4)
  /-- GRET (R413) -/
  | gret (k : CoreId) (ch : BitVec 2)
  /-- MATCFG (R163) -/
  | matcfg (k : CoreId) (format : BitVec 4) (accmode : BitVec 2) (systolic : Bool) (xe : BitVec 5)
  /-- WLD (R139) -/
  | wld (k : CoreId) (xr : BitVec 5) (inc : BitVec 8) (strikes : List (Fin 32768 × Ecc))
  /-- WSWAP (R141) -/
  | wswap (k : CoreId)
  /-- MMUL (R149) -/
  | mmul (k : CoreId) (e : BitVec 8) (zero swap : Bool) (src : BitVec 2) (source : BitVec 12)
  /-- LACCADD (R158) -/
  | laccadd (k : CoreId) (e : BitVec 8) (n : BitVec 4)
  /-- ADRAIN (R167) -/
  | adrain (k : CoreId) (e : BitVec 8) (port : BitVec 2) (bf : Bool) (part : BitVec 2) (last : Bool)
  /-- DRAIN_ROW_OFFER (R169) -/
  | drainRowOffer (k : CoreId) (port : Fin 4)
  /-- ROW_STALL_EXECUTE (R173) -/
  | rowStallExecute (k : CoreId)
  /-- VRCP (R234) -/
  | vrcp (k : CoreId) (u : Bool) (a : V3)
  /-- VSQRT (R234) -/
  | vsqrt (k : CoreId) (u : Bool) (a : V3)
  /-- VRSQRT (R234) -/
  | vrsqrt (k : CoreId) (u : Bool) (a : V3)
  /-- VDIV (R234) -/
  | vdiv (k : CoreId) (u : Bool) (a : V3)
  /-- VEXP (R234) -/
  | vexp (k : CoreId) (u : Bool) (a : V3)
  /-- VEXP2 (R234) -/
  | vexp2 (k : CoreId) (u : Bool) (a : V3)
  /-- VLOG (R234) -/
  | vlog (k : CoreId) (u : Bool) (a : V3)
  /-- VLOG2 (R234) -/
  | vlog2 (k : CoreId) (u : Bool) (a : V3)
  /-- VTANH (R234) -/
  | vtanh (k : CoreId) (u : Bool) (a : V3)
  /-- VSIGM (R234) -/
  | vsigm (k : CoreId) (u : Bool) (a : V3)
  /-- VERF (R234) -/
  | verf (k : CoreId) (u : Bool) (a : V3)
  /-- VSIN (R234) -/
  | vsin (k : CoreId) (u : Bool) (a : V3)
  /-- VCOS (R234) -/
  | vcos (k : CoreId) (u : Bool) (a : V3)
  /-- VADD (R219) -/
  | vadd (k : CoreId) (u : Bool) (rm : BitVec 3) (a : V3)
  /-- VSUB (R219) -/
  | vsub (k : CoreId) (u : Bool) (rm : BitVec 3) (a : V3)
  /-- VMUL (R219) -/
  | vmul (k : CoreId) (u : Bool) (rm : BitVec 3) (a : V3)
  /-- VFMA (R219) -/
  | vfma (k : CoreId) (u : Bool) (a : VF)
  /-- VFMS (R219) -/
  | vfms (k : CoreId) (u : Bool) (a : VF)
  /-- VFNMA (R219) -/
  | vfnma (k : CoreId) (u : Bool) (a : VF)
  /-- VMIN (R224) -/
  | vmin (k : CoreId) (u : Bool) (a : V3)
  /-- VMAX (R224) -/
  | vmax (k : CoreId) (u : Bool) (a : V3)
  /-- VABS (R219) -/
  | vabs (k : CoreId) (u : Bool) (a : V3)
  /-- VNEG (R219) -/
  | vneg (k : CoreId) (u : Bool) (a : V3)
  /-- VMOV (R219) -/
  | vmov (k : CoreId) (u : Bool) (a : V3)
  /-- VBCAST (R219) -/
  | vbcast (k : CoreId) (u : Bool) (a : V3)
  /-- VSEL (R219) -/
  | vsel (k : CoreId) (u : Bool) (a : V3)
  /-- VPFMT (R795) -/
  | vpfmt (k : CoreId) (u : Bool) (f : Bool)
  /-- VIADD (R219) -/
  | viadd (k : CoreId) (u : Bool) (a : V3)
  /-- VISUB (R219) -/
  | visub (k : CoreId) (u : Bool) (a : V3)
  /-- VIMUL (R219) -/
  | vimul (k : CoreId) (u : Bool) (a : V3)
  /-- VAND (R219) -/
  | vand (k : CoreId) (u : Bool) (a : V3)
  /-- VOR (R219) -/
  | vor (k : CoreId) (u : Bool) (a : V3)
  /-- VXOR (R219) -/
  | vxor (k : CoreId) (u : Bool) (a : V3)
  /-- VSHL (R219) -/
  | vshl (k : CoreId) (u : Bool) (a : V3)
  /-- VSHR (R219) -/
  | vshr (k : CoreId) (u : Bool) (a : V3)
  /-- VSRA (R219) -/
  | vsra (k : CoreId) (u : Bool) (a : V3)
  /-- VSHLI (R784) -/
  | vshli (k : CoreId) (u : Bool) (a : V3)
  /-- VSHRI (R784) -/
  | vshri (k : CoreId) (u : Bool) (a : V3)
  /-- VSRAI (R784) -/
  | vsrai (k : CoreId) (u : Bool) (a : V3)
  /-- VCMP (R224) -/
  | vcmp (k : CoreId) (u : Bool) (cond : BitVec 3) (a : MD)
  /-- VCLASS (R219) -/
  | vclass (k : CoreId) (u : Bool) (a : CL)
  /-- MAND (R784) -/
  | mand (k : CoreId) (u : Bool) (a : ML)
  /-- MOR (R784) -/
  | mor (k : CoreId) (u : Bool) (a : ML)
  /-- MXOR (R784) -/
  | mxor (k : CoreId) (u : Bool) (a : ML)
  /-- MANDN (R784) -/
  | mandn (k : CoreId) (u : Bool) (a : ML)
  /-- VACC (R225) -/
  | vacc (k : CoreId) (u : Bool) (form : BitVec 3) (a : AC)
  /-- VCVT (R227) -/
  | vcvt (k : CoreId) (u : Bool) (a : CV)
  /-- VCVTN (R228) -/
  | vcvtn (k : CoreId) (u : Bool) (format : BitVec 4) (a : NArgs)
  /-- VCVTW (R229) -/
  | vcvtw (k : CoreId) (u : Bool) (format : BitVec 4) (a : WArgs)
  /-- VBIQ (R514) -/
  | vbiq (k : CoreId) (u : Bool) (sr : Bool) (a : BI)
  /-- VBIQ_MARK (R514) -/
  | vbiqMark (k : CoreId) (u : Bool) (a : BI)
  /-- VBIQ_SCALE (R515) -/
  | vbiqScale (k : CoreId) (u : Bool) (a : V3)
  /-- VBIADD (R514) -/
  | vbiadd (k : CoreId) (u : Bool) (a : V3)
  /-- VBIADD_HEADER (R516) -/
  | vbiaddHeader (k : CoreId) (u : Bool) (a : V3)
  /-- VBIDQ (R514) -/
  | vbidq (k : CoreId) (u : Bool) (a : BI)
  /-- VGUST (R232) -/
  | vgust (k : CoreId) (u : Bool) (seed : BitVec 4) (a : GU)
  /-- RSUM (R237) -/
  | rsum (k : CoreId) (a : RD)
  /-- RSUMI (R237) -/
  | rsumi (k : CoreId) (a : RD)
  /-- RMAX (R237) -/
  | rmax (k : CoreId) (a : RD)
  /-- RMIN (R237) -/
  | rmin (k : CoreId) (a : RD)
  /-- RARGMAX (R238) -/
  | rargmax (k : CoreId) (a : RD)
  /-- RARGMIN (R238) -/
  | rargmin (k : CoreId) (a : RD)
  /-- RCNT (R237) -/
  | rcnt (k : CoreId) (a : RD)
  /-- SPRD (R244) -/
  | sprd (k : CoreId) (vd : BitVec 6) (xr : BitVec 5) (c : Bool) (inc : BitVec 8) (strikes : List (Fin 32768 × Ecc))
  /-- SPWR (R244) -/
  | spwr (k : CoreId) (vs : BitVec 6) (xr : BitVec 5) (inc : BitVec 8)
  /-- ROWCMP (R266) -/
  | rowcmp (k : CoreId) (w : BitVec 2) (xr : BitVec 5) (md : BitVec 4) (vc : BitVec 6) (xk2 : BitVec 4) (strikes : List (Fin 32768 × Ecc))
  /-- ROWCNT (R267) -/
  | rowcnt (k : CoreId) (xr : BitVec 5) (mm2 : BitVec 3) (xs : BitVec 5) (wrap rf : Bool) (md : BitVec 4) (ev : Bool) (strikes : List (Fin 32768 × Ecc))
  /-- CMRD (R252) -/
  | cmrd (k : CoreId) (xc xr : BitVec 5)
  /-- CMWR (R252) -/
  | cmwr (k : CoreId) (xc xr : BitVec 5) (strikes : List (Fin 32768 × Ecc))
  /-- CMCNT (R252) -/
  | cmcnt (k : CoreId) (xc : BitVec 5) (mm2 : BitVec 3) (xs : BitVec 5) (wrap ev : Bool)
  /-- RRD (R273) -/
  | rrd (k : CoreId) (vd : BitVec 6) (xa : BitVec 5)
  /-- RWR (R273) -/
  | rwr (k : CoreId) (vs : BitVec 6) (xa : BitVec 5)
  /-- MSEND (R354) -/
  | msend (k : CoreId) (n xd : BitVec 5) (len1 : BitVec 3) (route : BitVec 4) (group : BitVec 6)
  /-- STALL_DEADLINE (R107) -/
  | stallDeadline (k : CoreId)
  /-- FAULT_STOP_COMPLETE (R682) -/
  | faultStopComplete (p : PartId)
  /-- LATE_FAULT (R797) -/
  | lateFault (k : CoreId)
  /-- CORE_LULL (R108) -/
  | coreLull (k : CoreId)
  /-- CORE_WAKE (R108) -/
  | coreWake (k : CoreId)
  /-- CALM_REPORT (R111) -/
  | calmReport (k : CoreId)
  /-- BANK_LULL (R279) -/
  | bankLull (b : BankId) (cc : Nat)
  /-- BANK_WAKE (R280) -/
  | bankWake (b : BankId)
  /-- BANK_OFF (R281) -/
  | bankOff (h : Fin 2) (b : BankId)
  /-- BANK_POWER_DOWN (R282) -/
  | bankPowerDown (b : BankId)
  /-- BANK_ON (R284) -/
  | bankOn (h : Fin 2) (b : BankId)
  /-- BANK_READY (R284) -/
  | bankReady (b : BankId)
  /-- MOVE_EXECUTE (R252) -/
  | moveExecute (k : CoreId) (bank : Fin 16) (cc : Nat) (ecc : Ecc)
  /-- CMRD_DESTINATION_WRITE (R252) -/
  | cmrdDestinationWrite (k : CoreId) (bank : Fin 8)
  /-- REMOTE_REQUEST_SERVE (R274) -/
  | remoteRequestServe (c : ClusterId) (cc : Nat) (ecc : Ecc)
  /-- REMOTE_REPLY (R273) -/
  | remoteReply (k : CoreId)
  /-- STREAM_ROW_ISSUE (R307) -/
  | streamRowIssue (c : ClusterId) (stream : Fin 256) (cc : Nat) (ecc : Ecc)
  /-- STREAM_ROW_DELIVER (R301) -/
  | streamRowDeliver (c : ClusterId) (stream : Fin 256) (cc : Nat) (host : HostReply) (marks : BitVec 8)
  /-- STREAM_ROW_ACK (R305) -/
  | streamRowAck (c : ClusterId) (stream : Fin 256) (far : FarAck)
  /-- GDDR7_SLOT (R313) -/
  | gddr7Slot (c : ClusterId) (chan : Fin 32) (ecc : DramEcc)
  /-- GDDR7_REFRESH (R341) -/
  | gddr7Refresh (c : ClusterId) (chan : Fin 32)
  /-- PAGE_ZERO_FILL (R330) -/
  | pageZeroFill (p : PartId) (page : Fin 393216)
  /-- PAGE_TABLE_WRITE (R319) -/
  | pageTableWrite (h : Fin 2) (p : PartId) (data : W32)
  /-- PF_ACK (R347) -/
  | pfAck (h : Fin 2) (p : PartId) (data : W32)
  /-- PRI_RESPONSE (R330) -/
  | priResponse (h : Fin 2) (c : ClusterId) (stream : Fin 256) (success : Bool)
  /-- ATS_INVALIDATE (R324) -/
  | atsInvalidate (h : Fin 2) (pasid : BitVec 20) (page : Nat)
  /-- INVALIDATE_COMPLETION (R324) -/
  | invalidateCompletion (h : Fin 2) (pasid : BitVec 20) (page : Nat)
  /-- PF_DEADLINE (R333) -/
  | pfDeadline (c : ClusterId) (stream : Fin 256)
  /-- MESH_ROW_FORWARD (R362) -/
  | meshRowForward (c : ClusterId) (link : Fin 5) (cc : Nat)
  /-- STATIC_ROUTE_FORWARD (R383) -/
  | staticRouteForward (c : ClusterId) (input : Fin 30)
  /-- MESSAGE_EJECT (R370) -/
  | messageEject (c : ClusterId) (lcore : Fin 32) (marks : BitVec 8)
  /-- DROP_REPORT (R379) -/
  | dropReport (c : ClusterId) (input : Fin 29) (lane : Fin 64)
  /-- MCAST_MEMBER_FENCE (R388) -/
  | mcastMemberFence (k : CoreId) (group : Fin 64)
  /-- COMBINE (R390) -/
  | combine (c : ClusterId) (route : Fin 64)
  /-- COMBINE_TIMEOUT (R393) -/
  | combineTimeout (c : ClusterId) (route : Fin 64)
  /-- RING_POLL (R588) -/
  | ringPoll (p : PartId) (reads : List PollRead)
  /-- RING_ROWS_DELIVER (R588) -/
  | ringRowsDeliver (r : Fin 128) (cc : Nat) (rows : Option (List Row))
  /-- GATHER_SLOT_WRITE (R796) -/
  | gatherSlotWrite (c : ClusterId) (ch : Fin 4) (cc : Nat)
  /-- GATHER_DEADLINE (R407) -/
  | gatherDeadline (c : ClusterId) (ch : Fin 4)
  /-- BATCH_RELEASE (R406) -/
  | batchRelease (c : ClusterId) (ch : Fin 4) (cc : Nat)
  /-- BATCH_RETURN (R414) -/
  | batchReturn (k : CoreId) (ch : Fin 4)
  /-- COMPLETION_POST (R593) -/
  | completionPost (c : ClusterId) (ch : Fin 4) (cc : Nat) (ok : Bool) (ecc : Ecc)
  /-- BUFFER_FREE (R796) -/
  | bufferFree (c : ClusterId) (ch : Fin 4) (cc : Nat)
  /-- MSIX_MESSAGE (R599) -/
  | msixMessage (h : Fin 2) (vector : Fin 2048)
  /-- MSIX_UNMASK (R600) -/
  | msixUnmask (h : Fin 2) (vector : Fin 2048)
  /-- BAR2_READ (R581) -/
  | bar2Read (h : Fin 2) (offset : BitVec 36) (bytes : Fin 513) (ecc0 ecc1 : DramEcc)
  /-- BAR2_WRITE (R581) -/
  | bar2Write (h : Fin 2) (offset : BitVec 36) (data : List Byte)
  /-- RING_ENABLE (R591) -/
  | ringEnable (h : Fin 2) (r : Fin 128)
  /-- RING_DISABLE (R592) -/
  | ringDisable (h : Fin 2) (r : Fin 128)
  /-- H_RESET (R601) -/
  | hReset (h : Fin 2) (cause : HCause)
  /-- HOLD_END (R602) -/
  | holdEnd (h : Fin 2) (link : LinkState)
  /-- HOLD_EXPIRE (R603) -/
  | holdExpire (h : Fin 2)
  /-- D3HOT_ENTRY (R708) -/
  | d3hotEntry (h : Fin 2)
  /-- D0_RETURN (R708) -/
  | d0Return (h : Fin 2)
  /-- DEV_IMG_LOAD (R65) -/
  | devImgLoad (h : Fin 2)
  /-- DEV_IMG_VERIFY (R65) -/
  | devImgVerify (h : Fin 2)
  /-- DEV_IMG_DEFAULT_LOAD (R66) -/
  | devImgDefaultLoad (h : Fin 2)
  /-- DEV_IMG_DEFAULT_VERIFY (R66) -/
  | devImgDefaultVerify (h : Fin 2)
  /-- DEFAULT_IMAGE_COPY_END (R66) -/
  | defaultImageCopyEnd
  /-- PART_IMG_LOAD (R65) -/
  | partImgLoad (h : Fin 2) (p : PartId)
  /-- PART_IMG_VERIFY (R65) -/
  | partImgVerify (h : Fin 2) (p : PartId)
  /-- IMAGE_CHECKS_END (R73) -/
  | imageChecksEnd
  /-- IMAGE_APPLY_END (R75) -/
  | imageApplyEnd
  /-- APPLY_FAILURE (R77) -/
  | applyFailure (code : BitVec 16)
  /-- START (R664) -/
  | start (h : Fin 2) (p : PartId)
  /-- STOP (R666) -/
  | stop (h : Fin 2) (p : PartId)
  /-- STOP_DEADLINE (R668) -/
  | stopDeadline (p : PartId)
  /-- ABORT (R669) -/
  | abort (h : Fin 2) (p : PartId)
  /-- PAUSE (R446) -/
  | pause (h : Fin 2) (p : PartId)
  /-- CONTINUE (R446) -/
  | continue_ (h : Fin 2) (p : PartId)
  /-- FREEZE (R449) -/
  | freeze (h : Fin 2) (p : PartId)
  /-- THAW (R446) -/
  | thaw (h : Fin 2) (p : PartId)
  /-- SAVE (R451) -/
  | save (h : Fin 2) (p : PartId)
  /-- SAVE_END (R451) -/
  | saveEnd (p : PartId)
  /-- DUMP (R452) -/
  | dump (h : Fin 2) (p : PartId)
  /-- DUMP_END (R452) -/
  | dumpEnd (p : PartId)
  /-- RESTORE (R454) -/
  | restore (h : Fin 2) (p : PartId)
  /-- RESTORE_END (R454) -/
  | restoreEnd (p : PartId)
  /-- FREQ_CHANGE_CALM (R550) -/
  | freqChangeCalm (h : Fin 2) (p : PartId) (target : BitVec 3)
  /-- FREQ_CHANGE_IMMEDIATE (R550) -/
  | freqChangeImmediate (h : Fin 2) (p : PartId) (target : BitVec 3)
  /-- CLOCK_GATE (R552) -/
  | clockGate (unit : ClockUnit)
  /-- CLOCK_RESTART (R552) -/
  | clockRestart (unit : ClockUnit)
  /-- THERMAL_SAMPLE (R714) -/
  | thermalSample (sensor : Fin 34) (reading : BitVec 16)
  /-- PTP_SYNC (R559) -/
  | ptpSync (f : Fin 4) (offset : BitVec 64)
  /-- PTP_FRAME (R559) -/
  | ptpFrame (f : Fin 4) (slave : Option (Fin 4))
  /-- SYNC_TIMEOUT (R562) -/
  | syncTimeout
  /-- REFERENCE_LOSS (R565) -/
  | referenceLoss (ref : RefClock)
  /-- REFERENCE_RESTORE (R565) -/
  | referenceRestore (ref : RefClock)
  /-- GENERATOR_RELOCK (R567) -/
  | generatorRelock (c : ClusterId)
  /-- PPS_OUT (R568) -/
  | ppsOut
  /-- TIME_CAPTURE (R569) -/
  | timeCapture
  /-- LINK_UP (R497) -/
  | linkUp (f : Fin 4)
  /-- LINK_DOWN (R497) -/
  | linkDown (f : Fin 4)
  /-- LINK_HOLD_EXPIRE (R497) -/
  | linkHoldExpire (f : Fin 4)
  /-- ADMIN_DOWN (R497) -/
  | adminDown (h : Fin 2) (f : Fin 4)
  /-- FABRIC_MESSAGE_COMPLETE (R474) -/
  | fabricMessageComplete (f : Fin 4) (lane : Fin 64)
  /-- TX_SESSION_OPEN (R475) -/
  | txSessionOpen (f : Fin 4) (dev : Fin 1024)
  /-- WINDOW_OPEN (R491) -/
  | windowOpen (f : Fin 4) (window : Fin 1024)
  /-- WINDOW_CLOSE (R493) -/
  | windowClose (f : Fin 4) (window : Fin 1024)
  /-- PERIOD_BOUNDARY (R486) -/
  | periodBoundary
  /-- WINDOWS_SUSPEND (R494) -/
  | windowsSuspend
  /-- DATA_FRAME_RECEIVE (R481) -/
  | dataFrameReceive (f : Fin 4) (bytes : List Byte) (corrected : Nat)
  /-- DROP_FRAME_RECEIVE (R482) -/
  | dropFrameReceive (f : Fin 4) (bytes : List Byte) (corrected : Nat)
  /-- ACK_FRAME_RECEIVE (R483) -/
  | ackFrameReceive (f : Fin 4) (bytes : List Byte) (corrected : Nat)
  /-- SYNC_FRAME_RECEIVE (R477) -/
  | syncFrameReceive (f : Fin 4) (bytes : List Byte) (corrected : Nat)
  /-- FRAME_DISCARD (R467) -/
  | frameDiscard (f : Fin 4) (why : DiscardWhy) (corrected : Nat)
  /-- FRAME_DELIVER (R482) -/
  | frameDeliver (f : Fin 4) (dev : Fin 1024)
  /-- TWIN_DEADLINE (R541) -/
  | twinDeadline (p : PartId)
  /-- FF_CLEAR (R690) -/
  | ffClear (h : Fin 2) (rec : Option ClusterId) (code : W32)
  /-- REGISTER_WRITE (R698) -/
  | registerWrite (h : Fin 2) (bar : RegBar) (offset : BitVec 25) (data : W32) (enables : BitVec 4)
  /-- LOW_HALF_READ (R9) -/
  | lowHalfRead (h : Fin 2) (bar : RegBar) (offset : BitVec 25)
  /-- HIGH_HALF_READ (R9) -/
  | highHalfRead (h : Fin 2) (offset : BitVec 25)
  /-- WIDE_READ (R732) -/
  | wideRead (h : Fin 2) (bar : RegBar) (offset : BitVec 25)
  /-- P_RESET (R748) -/
  | pReset (env : BootEnv)
  /-- F_RESET (R726) -/
  | fReset (cause : FCause) (env : BootEnv)
  /-- M_RESET (R726) -/
  | mReset (env : BootEnv)
  /-- CLUSTER_POWER_UP (R710) -/
  | clusterPowerUp (c : ClusterId)
  /-- STANDBY_ENTRY (R722) -/
  | standbyEntry
  /-- STANDBY_EXIT (R725) -/
  | standbyExit (env : BootEnv)
  /-- FLASH_RECORD_COMMIT (R622) -/
  | flashRecordCommit (readBackOk : Bool)
  /-- FLASH_TIMEOUT (R700) -/
  | flashTimeout
  /-- I3C_ENTRY (R612) -/
  | i3cEntry (addr : BitVec 7)
  /-- RSTACT (R612) -/
  | rstact
  /-- SET_ENDPOINT_ID (R613) -/
  | setEndpointId (eid : Byte)
  /-- GET_ENDPOINT_ID (R615) -/
  | getEndpointId
  /-- GET_MCTP_VERSION_SUPPORT (R615) -/
  | getMctpVersionSupport (mtype : Byte)
  /-- GET_MESSAGE_TYPE_SUPPORT (R615) -/
  | getMessageTypeSupport
  /-- GET_VENDOR_DEFINED_MESSAGE_SUPPORT (R615) -/
  | getVendorDefinedMessageSupport (selector : Byte)
  /-- PLDM_BASE_DISCOVERY (R615) -/
  | pldmBaseDiscovery (command : Byte)
  /-- GET_SENSOR_READING (R617) -/
  | getSensorReading (sensor : BitVec 16)
  /-- GET_STATE_SENSOR_READINGS (R617) -/
  | getStateSensorReadings (sensor : BitVec 16)
  /-- SET_EVENT_RECEIVER (R616) -/
  | setEventReceiver (eid : Byte)
  /-- PASS_COMPONENT_TABLE (R651) -/
  | passComponentTable (component : BitVec 16) (size : Nat)
  /-- UPDATE_COMPONENT (R649) -/
  | updateComponent (component : BitVec 16) (size : Nat)
  /-- FIRMWARE_DATA (R649) -/
  | firmwareData (offset : Nat) (data : List Byte)
  /-- VERIFY_COMPLETE (R649) -/
  | verifyComplete
  /-- APPLY_COMPLETE (R649) -/
  | applyComplete
  /-- ACTIVATE_FIRMWARE (R650) -/
  | activateFirmware (component : BitVec 16) (selfContained : Bool)
  /-- GET_VERSION (R644) -/
  | getVersion (conn : Fin 3)
  /-- GET_CAPABILITIES (R644) -/
  | getCapabilities (conn : Fin 3)
  /-- NEGOTIATE_ALGORITHMS (R644) -/
  | negotiateAlgorithms (conn : Fin 3) (offer : SpdmOffer)
  /-- GET_DIGESTS (R644) -/
  | getDigests (conn : Fin 3)
  /-- GET_CERTIFICATE (R644) -/
  | getCertificate (conn : Fin 3) (slot : Fin 8)
  /-- CHALLENGE (R644) -/
  | challenge (conn : Fin 3) (slot : Fin 8) (nonce : BitVec 256)
  /-- GET_MEASUREMENTS (R645) -/
  | getMeasurements (conn : Fin 3) (index : Byte) (nonce : BitVec 256)
  /-- KEY_EXCHANGE (R644) -/
  | keyExchange (conn : Fin 3)
  /-- FINISH (R644) -/
  | finish (conn : Fin 3) (verified : Bool) (root : Option Nat)
  /-- END_SESSION (R644) -/
  | endSession (conn : Fin 3)
  /-- HEARTBEAT (R644) -/
  | heartbeat (conn : Fin 3)
  /-- GET_STATUS (R652) -/
  | getStatus
  /-- GET_FIRST_FAULT (R696) -/
  | getFirstFault
  /-- GET_LOG (R652) -/
  | getLog (from_ : W32)
  /-- SET_PRIMARY (R576) -/
  | setPrimary (inSession : Bool) (port : Byte) (persist : Byte)
  /-- SET_OWNER (R579) -/
  | setOwner (inSession : Bool) (part port : Byte)
  /-- ENROL_IMAGE_KEY (R654) -/
  | enrolImageKey (inSession : Bool) (slot : Byte) (key : BitVec 456)
  /-- REVOKE_IMAGE_KEY (R654) -/
  | revokeImageKey (inSession : Bool) (slot : Byte)
  /-- RAISE_FLOOR (R654) -/
  | raiseFloor (inSession : Bool) (target : FloorTarget) (value : W32)
  /-- MACSEC_KEY (R656) -/
  | macsecKey (inSession : Bool) (port : Byte) (an : MacsecAssoc) (sak : BitVec 256) (ssci : BitVec 32) (salt : BitVec 96)
  /-- SET_SETTING (R657) -/
  | setSetting (inSession : Bool) (setting : Setting)
  /-- ENROL_OWNER_ROOT (R653) -/
  | enrolOwnerRoot (inSession : Bool) (root : Nat)
  /-- RESET_MAIN (R652) -/
  | resetMain (inSession : Bool) (env : BootEnv)
  /-- BYPASS (R757) -/
  | bypass
  /-- IDCODE (R760) -/
  | idcode
  /-- SAMPLE_PRELOAD (R757) -/
  | samplePreload (pins : Nat) (load : Option Nat)
  /-- EXTEST (R758) -/
  | extest
  /-- CLAMP (R758) -/
  | clamp
  /-- HIGHZ (R758) -/
  | highz
  /-- PRIVATE_INSTRUCTION (R759) -/
  | privateInstruction (code : BitVec 6) (response : Option (List Byte)) (write : Option (BitVec 4 × List Byte))
  /-- TAP_RESET (R761) -/
  | tapReset (low : Bool)
  /-- ATS_TRANSLATION_COMPLETION (R322) -/
  | atsTranslationCompletion (h : Fin 2) (who : HostRequester) (result : Option Nat)
  /-- COMPLETION_TIMEOUT (R326) -/
  | completionTimeout (h : Fin 2) (who : HostRequester)
  /-- ABORT_END (R670) -/
  | abortEnd (p : PartId)
  /-- IDE_KM_MESSAGE (R574) -/
  | ideKmMessage (h : Fin 2) (message : IdeKm)
  deriving DecidableEq, Repr

end Sys2Proof
end

