-- ==== Sys2Proof/Decode.lean ====
section
/-! DEFINITION. The decoder of the instruction word a core fetches (03 R78 to R80, 22 R767 to R793), and decodeTableWord.
The table of operations and events gives its rows no bits, so decodeTableWord spells no command. -/

namespace Sys2Proof

/-- No row of the table of operations and events has bits: no word spells a command. -/
def decodeTableWord (_nbits _w : Nat) : Option Instr := none

namespace Decode

/-- The `n`-bit field of a slot whose lowest bit is `lo`. -/
abbrev fld (w : W32) (lo n : Nat) : BitVec n := w.extractLsb' lo n

/-- One bit of a slot. -/
abbrev bit (w : W32) (i : Nat) : Bool := w.getLsbD i

/-- Bits [23:0] outside `mask` are zero (22 R767, 03 R80). -/
def reservedZero (w : W32) (mask : BitVec 24) : Bool := (fld w 0 24) &&& ~~~mask == 0

/-- An operation, refused where a reserved bit is set (03 R80). -/
def only (w : W32) (mask : BitVec 24) (o : α) : Option α := if reservedZero w mask then some o else none

/-- The opcode of a slot (03 R79). -/
abbrev opcode (w : W32) : Nat := (fld w 24 8).toNat

/-- The CTL slot (22 R772). -/
def ctl (w : W32) : Option CtlOp :=
  let x (o : XOp) : Option CtlOp := only w 0xFFFE00 (.x o (fld w 19 5) (fld w 14 5) (fld w 9 5))
  match opcode w with
  | 0x00 => only w 0 .nop
  | 0x01 => only w 0xFF3FFF (.b (fld w 21 3) (fld w 16 5) (fld w 0 14))
  | 0x02 => only w 0xF83FFF (.loop (fld w 19 5) (fld w 0 14))
  | 0x03 => some (.loopi (fld w 8 16) (fld w 0 8))
  | 0x04 => only w 0x80FFFF (.calm (bit w 23) (fld w 0 16))
  | 0x05 => only w 0 .end_
  | 0x08 => x .add
  | 0x09 => x .sub
  | 0x0A => x .mul
  | 0x0B => x .and
  | 0x0C => x .or
  | 0x0D => x .xor
  | 0x0E => x .shl
  | 0x0F => x .shr
  | 0x10 => x .sra
  | 0x11 => some (.xaddi (fld w 19 5) (fld w 14 5) (fld w 0 14))
  | 0x12 => only w 0xFBFFFF (.xli (fld w 19 5) (fld w 16 2) (fld w 0 16))
  | _ => none

/-- The SIN slot (22 R775). -/
def sin (w : W32) : Option SinOp :=
  match opcode w with
  | 0x00 => only w 0 .nop
  | 0x01 => only w 0xFFFF80 (.trecv (fld w 18 6) (fld w 13 5) (bit w 12) (fld w 7 5))
  | 0x02 => only w 0xFFFFC0 (.trecvs (fld w 19 5) (fld w 14 5) (fld w 6 8))
  | 0x03 => only w 0xFF0000 (.srecv (fld w 18 6) (fld w 16 2))
  | 0x04 => only w 0xFFF800 (.sgo (fld w 16 8) (fld w 11 5))
  | 0x05 => only w 0xFFE000 (.gtake (fld w 22 2) (fld w 17 5) (fld w 13 4))
  | 0x06 => only w 0xC00000 (.gret (fld w 22 2))
  | _ => none

/-- The bits that the source field of an MMUL occupies, by SRC (22 R777). -/
def mmulSourceMask (src : BitVec 2) : BitVec 24 :=
  match src.toNat with
  | 0 => 0xFFFFF0
  | 1 => 0xFFFF80
  | 2 => 0xFFF180
  | _ => 0

/-- The MAT slot (22 R776, R777). SRC 3 is reserved. -/
def mat (w : W32) : Option MatIns :=
  match opcode w with
  | 0x00 => only w 0 .nop
  | 0x01 => only w 0xFFF000 (.matcfg (fld w 20 4) (fld w 18 2) (bit w 17) (fld w 12 5))
  | 0x02 => only w 0xFFF800 (.wld (fld w 19 5) (fld w 11 8))
  | 0x03 => only w 0 .wswap
  | 0x04 =>
    let src : BitVec 2 := fld w 12 2
    if src = 3 then none
    else only w (mmulSourceMask src) (.mmul (fld w 16 8) (bit w 15) (bit w 14) src (fld w 0 12))
  | 0x05 => only w 0xFFF000 (.laccadd (fld w 16 8) (fld w 12 4))
  | 0x06 => only w 0xFFFC00 (.adrain (fld w 16 8) (fld w 14 2) (bit w 13) (fld w 11 2) (bit w 10))
  | _ => none

/-- The fields of format V3 (22 R779). -/
def v3 (w : W32) : V3 := { vd := fld w 18 6, va := fld w 12 6, vb := fld w 6 6, mm := fld w 2 4, zm := bit w 1, x0 := bit w 0 }
/-- The fields of format BI. -/
def bi (w : W32) : BI := { vd := fld w 19 5, va := fld w 14 5, vh := fld w 9 5, hl2 := fld w 4 5, mm := fld w 0 4 }
/-- The fields of format ML. -/
def ml (w : W32) : ML := { md := fld w 20 4, ma := fld w 16 4, mb := fld w 12 4, mm := fld w 2 4, zm := bit w 1 }

/-- The functions of opcodes 0x01 to 0x0D (22 R784). -/
def vfn : Nat → Option VFn
  | 0x01 => some .rcp | 0x02 => some .sqrt | 0x03 => some .rsqrt | 0x04 => some .div
  | 0x05 => some .exp | 0x06 => some .exp2 | 0x07 => some .log | 0x08 => some .log2
  | 0x09 => some .tanh | 0x0A => some .sigm | 0x0B => some .erf | 0x0C => some .sin | 0x0D => some .cos
  | _ => none

/-- The two-operand lane operations whose three register fields and mask are used whole; bit 0 as R781 gives it. -/
def vlane (op : Nat) : Option (VLane × BitVec 24) :=
  match op with
  | 0x28 => some (.min, 0xFFFFFF) | 0x29 => some (.max, 0xFFFFFF)
  | 0x2A => some (.abs, 0xFFF03F) | 0x2B => some (.neg, 0xFFF03F) | 0x2C => some (.mov, 0xFFF03E)
  | 0x2D => some (.bcast, 0xFFF7FE) | 0x2E => some (.sel, 0xFFFFFE)
  | 0x50 => some (.iadd, 0xFFFFFF) | 0x51 => some (.isub, 0xFFFFFF) | 0x52 => some (.imul, 0xFFFFFF)
  | 0x53 => some (.and, 0xFFFFFE) | 0x54 => some (.or, 0xFFFFFE) | 0x55 => some (.xor, 0xFFFFFE)
  | 0x56 => some (.shl, 0xFFFFFE) | 0x57 => some (.shr, 0xFFFFFE) | 0x58 => some (.sra, 0xFFFFFE)
  | 0x59 => some (.shli, 0xFFF7FE) | 0x5A => some (.shri, 0xFFF7FE) | 0x5B => some (.srai, 0xFFF7FE)
  | _ => none

/-- The MX formats of the array (04 R134). -/
def isMx (format : Nat) : Bool := format == 3 || format == 4 || (7 ≤ format && format ≤ 10)

/-- VCVTN of a format (22 R783, R784). -/
def vcvtn (w : W32) (format : Nat) : Option VecOp :=
  let f : BitVec 4 := BitVec.ofNat 4 format
  if isMx format then only w 0xFFFFFE (.cvtn f (.nx (fld w 18 6) (fld w 12 6) (fld w 9 3) (bit w 8) (fld w 1 7)))
  else some (.cvtn f (.nn (fld w 18 6) (fld w 12 6) (fld w 9 3) (fld w 6 3) (bit w 5) (fld w 1 4) (bit w 0)))

/-- VCVTW of a format (22 R783, R784). -/
def vcvtw (w : W32) (format : Nat) : Option VecOp :=
  let f : BitVec 4 := BitVec.ofNat 4 format
  if isMx format then only w 0xFFFFFE (.cvtw f (.wx (fld w 18 6) (fld w 12 6) (fld w 9 3) (bit w 8) (fld w 1 7)))
  else only w 0xFFFE3E (.cvtw f (.wn (fld w 18 6) (fld w 12 6) (fld w 9 3) (fld w 2 4) (bit w 1)))

/-- A VEC opcode of 0x80 and above: format VF (22 R779). OP 3 is reserved. -/
def vfused (w : W32) : Option VecOp :=
  let a : VF := { p := bit w 28, rm := fld w 25 3, zm := bit w 24, mm := fld w 20 4, vd := fld w 15 5, va := fld w 10 5, vb := fld w 5 5, vc := fld w 0 5 }
  match (fld w 29 2).toNat with
  | 0 => some (.fused .fma a)
  | 1 => some (.fused .fms a)
  | 2 => some (.fused .fnma a)
  | _ => none

/-- The opcodes 0x4D to 0x7F without a V3 lane operation (22 R784). -/
def vecUpper (w : W32) (op : Nat) : Option VecOp :=
  if op = 0x4D then only w 0xFFF03E (.mlogic .and (ml w))
  else if op = 0x4E then only w 0xFFF03E (.mlogic .or (ml w))
  else if op = 0x4F then only w 0xFFF03E (.mlogic .xor (ml w))
  else if op = 0x5E then only w 0xFFF03E (.mlogic .andn (ml w))
  else if op = 0x5C then only w 0xFFFFBE (.cvt { vd := fld w 18 6, va := fld w 12 6, dir := bit w 11, rm := fld w 8 3, sat := bit w 7, mm := fld w 2 4, zm := bit w 1 })
  else if op = 0x5D then some (.cls { md := fld w 20 4, va := fld w 14 6, cls := fld w 5 9, mm := fld w 1 4, zm := bit w 0 })
  else if op = 0x5F then only w 0xFFF7FE (.biqScale (v3 w))
  else if 0x60 ≤ op ∧ op ≤ 0x67 then only w 0xF3FFFE (.cmp (fld w 24 3) { md := fld w 20 4, va := fld w 12 6, vb := fld w 6 6, mm := fld w 2 4, zm := bit w 1 })
  else if 0x68 ≤ op ∧ op ≤ 0x6D then only w 0xFFFFFE (.acc (BitVec.ofNat 3 (op - 0x68)) { vd := fld w 18 6, e := fld w 10 8, md := fld w 6 4, mm := fld w 2 4, zm := bit w 1 })
  else if op = 0x6E then some (if bit w 0 then .biaddHeader (v3 w) else .biadd (v3 w))
  else if op = 0x6F then some (.bidq (bi w))
  else if 0x70 ≤ op ∧ op ≤ 0x7F then only w 0xFFFF3E (.gust (fld w 24 4) { vd := fld w 18 6, xs := fld w 13 5, xe := fld w 8 5, mm := fld w 2 4, zm := bit w 1 })
  else none

/-- A VEC0 or VEC1 slot (22 R784). -/
def vec (w : W32) : Option VecOp :=
  let op := opcode w
  if 0x80 ≤ op then vfused w
  else if op = 0 then only w 0 .nop
  else match vfn op with
  | some f => only w 0xFFFFFE (.fn f (v3 w))
  | none =>
    if 0x10 ≤ op ∧ op ≤ 0x14 then some (.arith .add (fld w 24 3) (v3 w))
    else if 0x18 ≤ op ∧ op ≤ 0x1C then some (.arith .sub (fld w 24 3) (v3 w))
    else if 0x20 ≤ op ∧ op ≤ 0x24 then some (.arith .mul (fld w 24 3) (v3 w))
    else match vlane op with
    | some (o, m) => only w m (.lane o (v3 w))
    | none =>
      if op = 0x2F then only w 1 (.pfmt (bit w 0))
      else if 0x30 ≤ op ∧ op ≤ 0x3C then vcvtn w (op - 0x30)
      else if op = 0x3D then some (.biq false (bi w))
      else if op = 0x3E then some (.biq true (bi w))
      else if op = 0x3F then some (.biqMark (bi w))
      else if 0x40 ≤ op ∧ op ≤ 0x4C then vcvtw w (op - 0x40)
      else vecUpper w op

/-- The RED slot (22 R788). -/
def red (w : W32) : Option RedOp :=
  let a : RD := { vd := fld w 18 6, va := fld w 12 6, mm := fld w 8 4, md := fld w 4 4, p := bit w 3, zm := bit w 2 }
  let o (n : RedName) : Option RedOp := only w 0xFFFFFC (.red n a)
  match opcode w with
  | 0x00 => only w 0 .nop
  | 0x01 => o .sum
  | 0x02 => o .sumi
  | 0x03 => o .max
  | 0x04 => o .min
  | 0x05 => o .argmax
  | 0x06 => o .argmin
  | 0x07 => o .cnt
  | _ => none

/-- The MEM slot (22 R789). -/
def mem (w : W32) : Option MemOp :=
  match opcode w with
  | 0x00 => only w 0 .nop
  | 0x01 => only w 0xFFFFF0 (.sprd (fld w 18 6) (fld w 13 5) (bit w 12) (fld w 4 8))
  | 0x02 => only w 0xFFEFF0 (.spwr (fld w 18 6) (fld w 13 5) (fld w 4 8))
  | 0x03 => only w 0xFFFFF8 (.rowcmp (fld w 22 2) (fld w 17 5) (fld w 13 4) (fld w 7 6) (fld w 3 4))
  | 0x04 => only w 0xFFFFF0 (.rowcnt (fld w 19 5) (fld w 16 3) (fld w 11 5) (bit w 10) (bit w 9) (fld w 5 4) (bit w 4))
  | 0x05 => only w 0xFFC000 (.cmrd (fld w 19 5) (fld w 14 5))
  | 0x06 => only w 0xFFC000 (.cmwr (fld w 19 5) (fld w 14 5))
  | 0x07 => only w 0xFFFC10 (.cmcnt (fld w 19 5) (fld w 16 3) (fld w 11 5) (bit w 10) (bit w 4))
  | 0x08 => only w 0xFFE000 (.rrd (fld w 18 6) (fld w 13 5))
  | 0x09 => only w 0xFFE000 (.rwr (fld w 18 6) (fld w 13 5))
  | _ => none

/-- The MSG slot (22 R793). -/
def msg (w : W32) : Option MsgOp :=
  match opcode w with
  | 0x00 => only w 0 .nop
  | 0x01 => only w 0xFFFFFE (.msend (fld w 19 5) (fld w 14 5) (fld w 11 3) (fld w 7 4) (fld w 1 6))
  | _ => none

/-- Slot `i` of a word (03 R78). -/
def slotOf (w : IWord) (i : Nat) : W32 := w.extractLsb' (32 * i) 32

/-- One slot of a word as its operation; none where the slot raises 0x0101 by R80. -/
def slot (w : IWord) (i : Fin 8) : Option SlotOp :=
  let b := slotOf w i.val
  match i.val with
  | 0 => (ctl b).map .ctl
  | 1 => (sin b).map .sin
  | 2 => (mat b).map .mat
  | 3 => (vec b).map .vec
  | 4 => (vec b).map .vec
  | 5 => (red b).map .red
  | 6 => (mem b).map .mem
  | _ => (msg b).map .msg

/-- The lowest slot that does not decode (03 R80, R105); none where all eight do. -/
def badSlot (w : IWord) : Option Nat :=
  (List.finRange 8).findSome? (fun i => if (slot w i).isNone then some i.val else none)

/-- A word with an undecodable slot read as NOP. -/
def word (w : IWord) : WordOps :=
  { ctl := (ctl (slotOf w 0)).getD .nop, sin := (sin (slotOf w 1)).getD .nop, mat := (mat (slotOf w 2)).getD .nop,
    vec0 := (vec (slotOf w 3)).getD .nop, vec1 := (vec (slotOf w 4)).getD .nop, red := (red (slotOf w 5)).getD .nop,
    mem := (mem (slotOf w 6)).getD .nop, msg := (msg (slotOf w 7)).getD .nop }

/-! ## The words of the slots (03 R79, R80; 22 R767 to R793): opcode in bits 31 to 24, reserved bits 0 -/

/-- One bit of a word. -/
abbrev b1 (b : Bool) : BitVec 1 := BitVec.ofBool b

/-- The opcode of a three-register operation of the CTL slot (22 R772). -/
def xOpcode : XOp → BitVec 8
  | .add => 0x08 | .sub => 0x09 | .mul => 0x0A | .and => 0x0B | .or => 0x0C | .xor => 0x0D | .shl => 0x0E | .shr => 0x0F | .sra => 0x10

/-- The word of a CTL operation (22 R772). -/
def encCtl : CtlOp → W32
  | .nop => 0
  | .b cond xs target => (0x01#8 ++ cond ++ xs ++ 0#2 ++ target : BitVec 32)
  | .loop xs stop => (0x02#8 ++ xs ++ 0#5 ++ stop : BitVec 32)
  | .loopi count offset => (0x03#8 ++ count ++ offset : BitVec 32)
  | .calm s index => (0x04#8 ++ b1 s ++ 0#7 ++ index : BitVec 32)
  | .end_ => 0x05000000
  | .x o xd xa xb => (xOpcode o ++ xd ++ xa ++ xb ++ 0#9 : BitVec 32)
  | .xaddi xd xa imm => (0x11#8 ++ xd ++ xa ++ imm : BitVec 32)
  | .xli xd kf imm => (0x12#8 ++ xd ++ 0#1 ++ kf ++ imm : BitVec 32)

/-- The word of a SIN operation (22 R775). -/
def encSin : SinOp → W32
  | .nop => 0
  | .trecv vd tag h xh => (0x01#8 ++ vd ++ tag ++ b1 h ++ xh ++ 0#7 : BitVec 32)
  | .trecvs xr tag inc => (0x02#8 ++ xr ++ tag ++ inc ++ 0#6 : BitVec 32)
  | .srecv vd port => (0x03#8 ++ vd ++ port ++ 0#16 : BitVec 32)
  | .sgo st xa => (0x04#8 ++ st ++ xa ++ 0#11 : BitVec 32)
  | .gtake ch xd md => (0x05#8 ++ ch ++ xd ++ md ++ 0#13 : BitVec 32)
  | .gret ch => (0x06#8 ++ ch ++ 0#22 : BitVec 32)

/-- The word of a MAT operation (22 R776, R777). -/
def encMat : MatIns → W32
  | .nop => 0
  | .matcfg format accmode systolic xe => (0x01#8 ++ format ++ accmode ++ b1 systolic ++ xe ++ 0#12 : BitVec 32)
  | .wld xr inc => (0x02#8 ++ xr ++ inc ++ 0#11 : BitVec 32)
  | .wswap => 0x03000000
  | .mmul e z w src source => (0x04#8 ++ e ++ b1 z ++ b1 w ++ src ++ source : BitVec 32)
  | .laccadd e n => (0x05#8 ++ e ++ n ++ 0#12 : BitVec 32)
  | .adrain e port bf part last => (0x06#8 ++ e ++ port ++ b1 bf ++ part ++ b1 last ++ 0#10 : BitVec 32)

/-- The word of format V3 under an opcode (22 R779). -/
def encV3 (op : BitVec 8) (a : V3) : W32 := (op ++ a.vd ++ a.va ++ a.vb ++ a.mm ++ b1 a.zm ++ b1 a.x0 : BitVec 32)
/-- The word of format BI under an opcode. -/
def encBi (op : BitVec 8) (a : BI) : W32 := (op ++ a.vd ++ a.va ++ a.vh ++ a.hl2 ++ a.mm : BitVec 32)
/-- The word of format ML under an opcode. -/
def encMl (op : BitVec 8) (a : ML) : W32 := (op ++ a.md ++ a.ma ++ a.mb ++ 0#6 ++ a.mm ++ b1 a.zm ++ 0#1 : BitVec 32)

/-- The opcode of a function (22 R784). -/
def fnOpcode : VFn → BitVec 8
  | .rcp => 0x01 | .sqrt => 0x02 | .rsqrt => 0x03 | .div => 0x04 | .exp => 0x05 | .exp2 => 0x06 | .log => 0x07 | .log2 => 0x08
  | .tanh => 0x09 | .sigm => 0x0A | .erf => 0x0B | .sin => 0x0C | .cos => 0x0D

/-- The opcode of a lane operation (22 R784). -/
def laneOpcode : VLane → BitVec 8
  | .min => 0x28 | .max => 0x29 | .abs => 0x2A | .neg => 0x2B | .mov => 0x2C | .bcast => 0x2D | .sel => 0x2E
  | .iadd => 0x50 | .isub => 0x51 | .imul => 0x52 | .and => 0x53 | .or => 0x54 | .xor => 0x55 | .shl => 0x56 | .shr => 0x57 | .sra => 0x58
  | .shli => 0x59 | .shri => 0x5A | .srai => 0x5B

/-- The first opcode of the rounding modes of an operation (22 R784). -/
def arithOpcode : VArith → BitVec 8
  | .add => 0x10 | .sub => 0x18 | .mul => 0x20

/-- The two operation bits of format VF (22 R779). -/
def fusedCode : VFused → BitVec 2
  | .fma => 0 | .fms => 1 | .fnma => 2

/-- The opcode of a mask operation (22 R784). -/
def maskOpcode : MLogic → BitVec 8
  | .and => 0x4D | .or => 0x4E | .xor => 0x4F | .andn => 0x5E

/-- The word of a VCVTN under an opcode (22 R783). -/
def encN (op : BitVec 8) : NArgs → W32
  | .nn vd va q rm sat mm zm => (op ++ vd ++ va ++ q ++ rm ++ b1 sat ++ mm ++ b1 zm : BitVec 32)
  | .nx vd va q sr soff2 => (op ++ vd ++ va ++ q ++ b1 sr ++ soff2 ++ 0#1 : BitVec 32)

/-- The word of a VCVTW under an opcode (22 R783). -/
def encW (op : BitVec 8) : WArgs → W32
  | .wn vd va q mm zm => (op ++ vd ++ va ++ q ++ 0#3 ++ mm ++ b1 zm ++ 0#1 : BitVec 32)
  | .wx vd va q sat soff2 => (op ++ vd ++ va ++ q ++ b1 sat ++ soff2 ++ 0#1 : BitVec 32)

/-- The word of a VEC operation (22 R779 to R784). -/
def encVec : VecOp → W32
  | .nop => 0
  | .fn f a => encV3 (fnOpcode f) a
  | .arith o rm a => encV3 (arithOpcode o + rm.setWidth 8) a
  | .fused o a => (1#1 ++ fusedCode o ++ b1 a.p ++ a.rm ++ b1 a.zm ++ a.mm ++ a.vd ++ a.va ++ a.vb ++ a.vc : BitVec 32)
  | .lane o a => encV3 (laneOpcode o) a
  | .pfmt f => (0x2F#8 ++ 0#23 ++ b1 f : BitVec 32)
  | .cmp cond a => ((0x60#8 + cond.setWidth 8) ++ a.md ++ 0#2 ++ a.va ++ a.vb ++ a.mm ++ b1 a.zm ++ 0#1 : BitVec 32)
  | .cls a => (0x5D#8 ++ a.md ++ a.va ++ a.cls ++ a.mm ++ b1 a.zm : BitVec 32)
  | .mlogic o a => encMl (maskOpcode o) a
  | .acc form a => ((0x68#8 + form.setWidth 8) ++ a.vd ++ a.e ++ a.md ++ a.mm ++ b1 a.zm ++ 0#1 : BitVec 32)
  | .cvt a => (0x5C#8 ++ a.vd ++ a.va ++ b1 a.dir ++ a.rm ++ b1 a.sat ++ 0#1 ++ a.mm ++ b1 a.zm ++ 0#1 : BitVec 32)
  | .cvtn format a => encN (0x30 + format.setWidth 8) a
  | .cvtw format a => encW (0x40 + format.setWidth 8) a
  | .biq sr a => encBi (if sr then 0x3E else 0x3D) a
  | .biqMark a => encBi 0x3F a
  | .biqScale a => encV3 0x5F a
  | .biadd a => encV3 0x6E a
  | .biaddHeader a => encV3 0x6E a
  | .bidq a => encBi 0x6F a
  | .gust seed a => ((0x70#8 + seed.setWidth 8) ++ a.vd ++ a.xs ++ a.xe ++ 0#2 ++ a.mm ++ b1 a.zm ++ 0#1 : BitVec 32)

/-- The opcode of a reduction (22 R788). -/
def redOpcode : RedName → BitVec 8
  | .sum => 1 | .sumi => 2 | .max => 3 | .min => 4 | .argmax => 5 | .argmin => 6 | .cnt => 7

/-- The word of a RED operation (22 R788). -/
def encRed : RedOp → W32
  | .nop => 0
  | .red o a => (redOpcode o ++ a.vd ++ a.va ++ a.mm ++ a.md ++ b1 a.p ++ b1 a.zm ++ 0#2 : BitVec 32)

/-- The word of a MEM operation (22 R789). -/
def encMem : MemOp → W32
  | .nop => 0
  | .sprd vd xr c inc => (0x01#8 ++ vd ++ xr ++ b1 c ++ inc ++ 0#4 : BitVec 32)
  | .spwr vs xr inc => (0x02#8 ++ vs ++ xr ++ 0#1 ++ inc ++ 0#4 : BitVec 32)
  | .rowcmp w xr md vc xk2 => (0x03#8 ++ w ++ xr ++ md ++ vc ++ xk2 ++ 0#3 : BitVec 32)
  | .rowcnt xr mm2 xs wrap rf md ev => (0x04#8 ++ xr ++ mm2 ++ xs ++ b1 wrap ++ b1 rf ++ md ++ b1 ev ++ 0#4 : BitVec 32)
  | .cmrd xc xr => (0x05#8 ++ xc ++ xr ++ 0#14 : BitVec 32)
  | .cmwr xc xr => (0x06#8 ++ xc ++ xr ++ 0#14 : BitVec 32)
  | .cmcnt xc mm2 xs wrap ev => (0x07#8 ++ xc ++ mm2 ++ xs ++ b1 wrap ++ 0#5 ++ b1 ev ++ 0#4 : BitVec 32)
  | .rrd vd xa => (0x08#8 ++ vd ++ xa ++ 0#13 : BitVec 32)
  | .rwr vs xa => (0x09#8 ++ vs ++ xa ++ 0#13 : BitVec 32)

/-- The word of an MSG operation (22 R793). -/
def encMsg : MsgOp → W32
  | .nop => 0
  | .msend n xd len1 route group => (0x01#8 ++ n ++ xd ++ len1 ++ route ++ group ++ 0#1 : BitVec 32)

/-- The word of a slot's operation. -/
def encSlot : SlotOp → W32
  | .ctl o => encCtl o
  | .sin o => encSin o
  | .mat o => encMat o
  | .vec o => encVec o
  | .red o => encRed o
  | .mem o => encMem o
  | .msg o => encMsg o

/-- A MAT operation leaves the reserved bits of its source field 0 and does not name source 3 (22 R777). -/
def wfMat : MatIns → Bool
  | .mmul _ _ _ src source => src != 3 && ((source.setWidth 24) &&& ~~~mmulSourceMask src &&& 0xFFF) == 0
  | _ => true

/-- A VEC operation lies in its opcode's range and leaves the fields that its opcode does not use 0 (22 R779 to R784). -/
def wfVec : VecOp → Bool
  | .fn _ a => !a.x0
  | .arith _ rm _ => decide (rm.toNat ≤ 4)
  | .lane o a => match vlane (laneOpcode o).toNat with
    | some (_, m) => reservedZero (encV3 0 a) m
    | none => false
  | .acc form _ => decide (form.toNat ≤ 5)
  | .cvtn format a => decide (format.toNat ≤ 12) && (match a with | .nn .. => !isMx format.toNat | .nx .. => isMx format.toNat)
  | .cvtw format a => decide (format.toNat ≤ 12) && (match a with | .wn .. => !isMx format.toNat | .wx .. => isMx format.toNat)
  | .biqScale a => !a.x0 && !a.vb.getLsbD 5
  | .biadd a => !a.x0
  | .biaddHeader a => a.x0
  | _ => true

/-- An operation belongs to slot `i` and has a word there (03 R78 to R80). -/
def fits (i : Fin 8) : SlotOp → Bool
  | .ctl _ => i == 0
  | .sin _ => i == 1
  | .mat o => i == 2 && wfMat o
  | .vec o => (i == 3 || i == 4) && wfVec o
  | .red _ => i == 5
  | .mem _ => i == 6
  | .msg _ => i == 7

end Decode

end Sys2Proof
end

