-- ==== Sys2Proof/Machine/Float.lean ====
section
/-! DEFINITION. Number formats, exact values, rounding, events and conversions (05 R181 to R199). -/

namespace Sys2Proof.Machine

/-- Events of R194 as bits: 0 INVALID, 1 DIV_ZERO, 2 OVERFLOW, 3 UNDERFLOW, 4 INEXACT, 5 SATURATE (05 R194, 06 R240). -/
abbrev Ev := BitVec 6
/-- INVALID. -/
def evInvalid : Ev := 1
/-- DIV_ZERO. -/
def evDivZero : Ev := 2
/-- OVERFLOW. -/
def evOverflow : Ev := 4
/-- UNDERFLOW. -/
def evUnderflow : Ev := 8
/-- INEXACT. -/
def evInexact : Ev := 16
/-- SATURATE. -/
def evSaturate : Ev := 32
/-- An event raised under a condition. -/
def evIf (b : Bool) (e : Ev) : Ev := if b then e else 0

/-- An exact value: NaN, an infinity, or (-1)^neg times a magnitude. The magnitude is `m * 2^e`, or with `sticky` a number
strictly between `m * 2^e` and `(m + 1) * 2^e`. -/
inductive Num where
  | nan
  | inf (neg : Bool)
  | fin (neg : Bool) (m : Nat) (e : Int) (sticky : Bool)
  deriving DecidableEq, Repr

/-- The special codes of a floating-point format (05 R183). -/
inductive FKind where
  | ieee | e4m3 | finite
  deriving DecidableEq, Repr

/-- A floating-point format (05 R181). -/
structure Fmt where
  ebits : Nat
  mbits : Nat
  bias : Nat
  kind : FKind
  deriving DecidableEq, Repr

/-- FP32 (05 R181). -/
def fp32 : Fmt := { ebits := 8, mbits := 23, bias := 127, kind := .ieee }
/-- BF16 (05 R181). -/
def bf16 : Fmt := { ebits := 8, mbits := 7, bias := 127, kind := .ieee }
/-- FP16 (05 R181). -/
def fp16 : Fmt := { ebits := 5, mbits := 10, bias := 15, kind := .ieee }
/-- FP8 E5M2 (05 R181). -/
def e5m2 : Fmt := { ebits := 5, mbits := 2, bias := 15, kind := .ieee }
/-- FP8 E4M3 (05 R181). -/
def e4m3 : Fmt := { ebits := 4, mbits := 3, bias := 7, kind := .e4m3 }
/-- FP6 E3M2 (05 R181). -/
def e3m2 : Fmt := { ebits := 3, mbits := 2, bias := 3, kind := .finite }
/-- FP6 E2M3 (05 R181). -/
def e2m3 : Fmt := { ebits := 2, mbits := 3, bias := 1, kind := .finite }
/-- FP4 E2M1 (05 R181). -/
def e2m1 : Fmt := { ebits := 2, mbits := 1, bias := 1, kind := .finite }

/-- The width of a format. -/
def Fmt.width (f : Fmt) : Nat := 1 + f.ebits + f.mbits
/-- The largest exponent field. -/
def Fmt.topE (f : Fmt) : Nat := 2 ^ f.ebits - 1
/-- The code of the largest finite magnitude (05 R183). -/
def Fmt.maxCode (f : Fmt) : Nat :=
  match f.kind with
  | .ieee => (f.topE - 1) * 2 ^ f.mbits + (2 ^ f.mbits - 1)
  | .e4m3 => f.topE * 2 ^ f.mbits + (2 ^ f.mbits - 2)
  | .finite => f.topE * 2 ^ f.mbits + (2 ^ f.mbits - 1)
/-- The canonical NaN, or +0 in a format that has none (05 R183, R197). -/
def Fmt.nanCode (f : Fmt) : Nat :=
  match f.kind with
  | .ieee => f.topE * 2 ^ f.mbits + 2 ^ (f.mbits - 1)
  | .e4m3 => f.topE * 2 ^ f.mbits + (2 ^ f.mbits - 1)
  | .finite => 0
/-- The exponent of the smallest normal value (05 R182). -/
def Fmt.emin (f : Fmt) : Int := 1 - (f.bias : Int)

/-- The value of a code (05 R182, R183). -/
def decodeFp (f : Fmt) (code : Nat) : Num :=
  let neg := (code >>> (f.ebits + f.mbits)) % 2 == 1
  let e := (code >>> f.mbits) % 2 ^ f.ebits
  let m := code % 2 ^ f.mbits
  if f.kind = .ieee ∧ e = f.topE then (if m = 0 then .inf neg else .nan)
  else if f.kind = .e4m3 ∧ e = f.topE ∧ m = 2 ^ f.mbits - 1 then .nan
  else if e = 0 then .fin neg m (f.emin - f.mbits) false
  else .fin neg (2 ^ f.mbits + m) ((e : Int) - f.bias - f.mbits) false

/-- The value of a two's-complement code of `w` bits in units of `2^ue` (05 R185, R186). -/
def decodeInt (w : Nat) (ue : Int) (code : Nat) : Num :=
  let k := signedOf w code
  .fin (k < 0) k.natAbs ue false

/-- `floor(m * 2^k)`. -/
def shiftI (m : Nat) (k : Int) : Nat := if 0 ≤ k then m <<< k.toNat else m >>> (-k).toNat

/-- `floor(log2 (m * 2^e))` of a non-zero magnitude. -/
def ilog2 (m : Nat) (e : Int) : Int := (Nat.log2 m : Int) + e

/-- The rounding of a magnitude onto the grid `2^g`: the multiple chosen, and whether it differs from the magnitude.
`rm` is the code of R191, `r` the 24-bit draw of R192 (05 R191, R192). -/
def roundGrid (rm : Nat) (neg : Bool) (r : Nat) (m : Nat) (e : Int) (sticky : Bool) (g : Int) : Nat × Bool :=
  let n := shiftI m (e - g)
  let k : Nat := (g - e).toNat
  let rem := if 0 ≤ e - g then 0 else m % 2 ^ k
  let inexact := rem != 0 || sticky
  let aboveHalf := 2 * rem > 2 ^ k || (2 * rem == 2 ^ k && sticky && 0 < k)
  let tie := 0 < k && 2 * rem == 2 ^ k && !sticky
  let up := match rm with
    | 0 => (0 < k && aboveHalf) || (tie && n % 2 == 1)
    | 1 => false
    | 2 => inexact && neg
    | 3 => inexact && !neg
    | _ => (rem <<< 24) / 2 ^ k + r % 2 ^ 24 ≥ 2 ^ 24
  (if up then n + 1 else n, inexact)

/-- The code of a magnitude `n * 2^g` that the format holds exactly and that does not exceed its largest finite value. -/
def packMag (f : Fmt) (n : Nat) (g : Int) : Nat :=
  if n = 0 then 0
  else
    let e := ilog2 n g
    if e < f.emin then shiftI n (g - (f.emin - f.mbits))
    else (e + f.bias).toNat * 2 ^ f.mbits + (shiftI n (g - (e - f.mbits)) - 2 ^ f.mbits)

/-- The largest finite magnitude in units of `2^(emin - mbits)`. -/
def Fmt.maxUnits (f : Fmt) : Nat :=
  let c := f.maxCode
  (2 ^ f.mbits + c % 2 ^ f.mbits) <<< (c / 2 ^ f.mbits - 1)

/-- The delivery of a finite value beyond the largest finite one; what is delivered differs from it, so that INEXACT comes with OVERFLOW or SATURATE (05 R194, R196). -/
def overflowCode (f : Fmt) (rm : Nat) (sat : Bool) (neg : Bool) : Nat × Ev :=
  let sb := if neg then 2 ^ (f.ebits + f.mbits) else 0
  if sat || f.kind == .finite then (sb + f.maxCode, evSaturate ||| evInexact)
  else if rm = 1 ∨ (rm = 2 ∧ neg = false) ∨ (rm = 3 ∧ neg = true) then (sb + f.maxCode, evOverflow ||| evInexact)
  else if f.kind = .e4m3 then (f.nanCode, evOverflow ||| evInexact)
  else (sb + f.topE * 2 ^ f.mbits, evOverflow ||| evInexact)

/-- One rounding of an exact value into a floating-point format, with its events (05 R191 to R198). INEXACT is raised wherever the delivered value differs from the exact one, an infinity clamped to a largest finite value included; a conversion that R194 calls INVALID has no exact result to differ from (DEDUCED). -/
def encodeFp (f : Fmt) (rm : Nat) (sat : Bool) (r : Nat) (v : Num) : Nat × Ev :=
  match v with
  | .nan => (f.nanCode, evInvalid)
  | .inf neg =>
    let sb := if neg then 2 ^ (f.ebits + f.mbits) else 0
    if sat || f.kind == .finite then (sb + f.maxCode, evSaturate ||| evInexact)
    else if f.kind = .ieee then (sb + f.topE * 2 ^ f.mbits, 0)
    else (f.nanCode, evInvalid)
  | .fin neg m e sticky =>
    let sb := if neg then 2 ^ (f.ebits + f.mbits) else 0
    if m = 0 ∧ sticky = false then (sb, 0)
    else
      let top := if m = 0 then f.emin else max (ilog2 m e) f.emin
      let g := top - f.mbits
      let (n, inexact) := roundGrid rm neg r m e sticky g
      let units := shiftI n (g - (f.emin - f.mbits))
      if units > f.maxUnits then overflowCode f rm sat neg
      else
        let tiny := units < 2 ^ f.mbits
        (sb + packMag f n g, evIf inexact evInexact ||| evIf (inexact && tiny) evUnderflow)

/-- One rounding of an exact value into `w`-bit two's complement in units of `2^ue`, always clamped; a clamped value differs from the exact one, which is INEXACT (05 R192, R194, R196, R197). -/
def encodeInt (w : Nat) (ue : Int) (rm r : Nat) (v : Num) : Nat × Ev :=
  let hi := 2 ^ (w - 1) - 1
  let lo := 2 ^ (w - 1)
  match v with
  | .nan => (0, evInvalid)
  | .inf neg => (if neg then lo else hi, evSaturate ||| evInexact)
  | .fin neg m e sticky =>
    let (n, inexact) := roundGrid rm neg r m e sticky ue
    let ev := evIf inexact evInexact
    if neg then (if n > lo then (lo, evInexact ||| evSaturate) else ((2 ^ w - n) % 2 ^ w, ev))
    else if n > hi then (hi, evInexact ||| evSaturate) else (n, ev)

/-- The signed numerator of a finite value over `2^e`. -/
def Num.at (neg : Bool) (m : Nat) (e g : Int) : Int :=
  let n : Int := (m <<< (e - g).toNat : Nat)
  if neg then -n else n

/-- The exact sum of two values; `rm` decides only the sign of an exact zero (05 R189, R190). -/
def addNum (rm : Nat) (a b : Num) : Num × Ev :=
  match a, b with
  | .nan, _ => (.nan, evInvalid)
  | _, .nan => (.nan, evInvalid)
  | .inf s, .inf t => if s = t then (.inf s, 0) else (.nan, evInvalid)
  | .inf s, .fin .. => (.inf s, 0)
  | .fin .., .inf t => (.inf t, 0)
  | .fin s m e _, .fin t n f _ =>
    let g := min e f
    let v := Num.at s m e g + Num.at t n f g
    if v ≠ 0 then (.fin (v < 0) v.natAbs g false, 0)
    else if m = 0 ∧ n = 0 then (.fin (if rm = 2 then s || t else s && t) 0 g false, 0)
    else (.fin (rm == 2) 0 g false, 0)

/-- A value with its sign flipped. -/
def negNum : Num → Num
  | .nan => .nan
  | .inf s => .inf (!s)
  | .fin s m e k => .fin (!s) m e k

/-- The exact product of two values (05 R189). -/
def mulNum (a b : Num) : Num × Ev :=
  match a, b with
  | .nan, _ => (.nan, evInvalid)
  | _, .nan => (.nan, evInvalid)
  | .inf s, .inf t => (.inf (s != t), 0)
  | .inf s, .fin t n _ _ => if n = 0 then (.nan, evInvalid) else (.inf (s != t), 0)
  | .fin s m _ _, .inf t => if m = 0 then (.nan, evInvalid) else (.inf (s != t), 0)
  | .fin s m e _, .fin t n f _ => (.fin (s != t) (m * n) (e + f) false, 0)

/-- The exact `a * b + c` (05 R189, 06 R224). -/
def fmaNum (rm : Nat) (a b c : Num) : Num × Ev :=
  match mulNum a b with
  | (.nan, e) => (.nan, e)
  | (p, _) => addNum rm p c

/-- Whether `a` orders below `b`, with -0 below +0 (06 R224). Both are not NaN. -/
def ltNum (a b : Num) : Bool :=
  match a, b with
  | .inf s, .inf t => s && !t
  | .inf s, .fin .. => s
  | .fin .., .inf t => !t
  | .fin s m e _, .fin t n f _ =>
    let g := min e f
    let x := Num.at s m e g
    let y := Num.at t n f g
    if x = y then s && !t && m == 0 else x < y
  | _, _ => false

/-- Whether two values are equal, with -0 equal to +0 (06 R224). Both are not NaN. -/
def eqNum (a b : Num) : Bool :=
  match a, b with
  | .inf s, .inf t => s == t
  | .fin s m e _, .fin t n f _ =>
    let g := min e f
    Num.at s m e g == Num.at t n f g
  | _, _ => false

/-- The class index of an FP32 code (22 R786). -/
def classOf (code : Nat) : Nat :=
  match decodeFp fp32 code with
  | .nan => 0
  | .inf s => if s then 2 else 1
  | .fin s m _ _ =>
    let k := if m = 0 then 3 else if (code >>> 23) % 256 = 0 then 5 else 7
    if s then k + 1 else k

/-- A term of an anchored-window sum truncated to the window unit `2^u` (05 R200). -/
def windowTerm (u : Int) : Num → Int
  | .fin s m e _ => let n : Int := (shiftI m (e - u) : Nat); if s then -n else n
  | _ => 0

/-- The largest `floor(log2)` over the non-zero finite terms; none where there is none (05 R200). -/
def anchor (ps : List Num) : Option Int :=
  ps.foldl (fun a p => match p with
    | .fin _ m e _ => if m = 0 then a else some (match a with | none => ilog2 m e | some x => max x (ilog2 m e))
    | _ => a) none

/-- The anchored-window sum (05 R200). -/
def anchoredSum (ps : List Num) : Num :=
  if ps.any (fun p => p == .nan) then .nan
  else if ps.contains (.inf false) && ps.contains (.inf true) then .nan
  else if ps.contains (.inf false) then .inf false
  else if ps.contains (.inf true) then .inf true
  else match anchor ps with
  | none =>
    let allNeg := ps.all (fun p => match p with | .fin s _ _ _ => s | _ => false)
    .fin (!ps.isEmpty && allNeg) 0 0 false
  | some top =>
    let u := top - 87
    let w := ps.foldl (fun a p => a + windowTerm u p) (0 : Int)
    .fin (w < 0) w.natAbs u false

end Sys2Proof.Machine
end

