-- ==== Sys2Proof/Machine/Gust.lean ====
section
/-! DEFINITION. The Gust generator and the digest CRC (11 R437 to R441). -/

namespace Sys2Proof.Machine

/-- The rotation amounts of one group of rounds (11 R439). -/
def gustRots : List Nat := [12, 20, 8, 28]

/-- Four rounds of the generator (11 R439). -/
def gustRounds (ab : W32 × W32) : W32 × W32 :=
  gustRots.foldl (fun (p : W32 × W32) r => let a := p.1 + p.2; (a, p.2.rotateLeft r ^^^ a)) ab

/-- The key words of the generator (11 R439). -/
def gustKey (seed : BitVec 128) (step : W64) (core : Nat) (stream : W32) (j : Nat) : W32 :=
  let k0 := seed.extractLsb' 0 32 ^^^ step.extractLsb' 0 32
  let k1 := seed.extractLsb' 32 32 ^^^ step.extractLsb' 32 32
  let k2 := seed.extractLsb' 64 32 ^^^ stream
  let k3 := seed.extractLsb' 96 32 ^^^ BitVec.ofNat 32 core
  match j % 5 with
  | 0 => k0
  | 1 => k1
  | 2 => k2
  | 3 => k3
  | _ => k0 ^^^ k1 ^^^ k2 ^^^ k3 ^^^ 0x6A3DE951

/-- The injection of key words `j` and `j + 1` (11 R439). -/
def gustInject (key : Nat → W32) (j : Nat) (ab : W32 × W32) : W32 × W32 :=
  (ab.1 + key j, ab.2 + key (j + 1) + BitVec.ofNat 32 j)

/-- The 64 output bits of the generator (11 R437, R439). -/
def gust (seed : BitVec 128) (step : W64) (core : Nat) (stream : W32) (index : W64) : W64 :=
  let key := gustKey seed step core stream
  let s0 := gustInject key 0 (index.extractLsb' 0 32, index.extractLsb' 32 32)
  let s1 := gustInject key 1 (gustRounds s0)
  let s2 := gustInject key 2 (gustRounds s1)
  let s3 := gustInject key 3 (gustRounds s2)
  s3.2 ++ s3.1

/-- One bit of a CRC, most significant first (11 R441). -/
def crcBit (crc : W64) (b : Bool) : W64 :=
  let out := crc.msb != b
  if out then (crc <<< 1) ^^^ 0x42F0E1EBA9EA3693 else crc <<< 1

/-- One byte of a CRC, most significant bit first (11 R441). -/
def crcByte (crc : W64) (b : Byte) : W64 :=
  [7, 6, 5, 4, 3, 2, 1, 0].foldl (fun c i => crcBit c (b.getLsbD i)) crc

/-- The state of a CRC before its first byte (11 R441). -/
def crcInit : W64 := 0xFFFFFFFFFFFFFFFF

/-- A run of bytes (11 R441). -/
def crcBytes (crc : W64) (bs : List Byte) : W64 := bs.foldl crcByte crc

/-- The value of a CRC after its last byte (11 R441). -/
def crcFinal (crc : W64) : W64 := crc ^^^ 0xFFFFFFFFFFFFFFFF

end Sys2Proof.Machine
end

