-- ==== Sys2Proof/Config.lean ====
section
/-! DEFINITION. What the specification leaves open: free values, opaque and without a body, applied to operands or to the state's counter. -/

namespace Sys2Proof.Config

/-- The 16-bit index of a peer in CORE_FAULT_DETAIL and the snapshot, by its cluster and logical core (03 R107 names it and gives no numbering). -/
opaque peerIndex : Nat → Nat → BitVec 16

/-- SEQ of the header of a digest-export row, by use count (13 R538 gives the header and no SEQ). -/
opaque exportSeq : Nat → BitVec 16

/-- ADJ that the servo writes after a Sync, by use count, from -1,717,986 to 1,717,986 (14 R556, R559 give its range and no law). -/
opaque servoAdj : Nat → Fin 3435973

/-- Whether the servo steps the counter where R560 allows a step, by use count. -/
opaque servoSteps : Nat → Bool

/-- The row that an access delivers which goes on although its bank has no power, by use count (07 R282: the contents are lost). -/
opaque lostRow : Nat → Row

/-- The data that a BAR2 read of an uncorrectable GDDR7 codeword returns, by use count (08 R343 says what it does to a stream only). -/
opaque bar2Bad : Nat → Nat

/-- The header that AER logs with a completion timeout, by use count (15 R574 says that the first error's header is logged). -/
opaque aerHeader : Nat → BitVec 128

/-- The content of an IDE_KM answer, by use count (15 R574 names the protocol only). -/
opaque ideKmAnswer : Nat → Nat

/-- The unit that fails in a load failure, by use count and the error's code: UNIT_KIND, INDEX, the place of its cluster among the covered ones where it lies in one, and PCORE (02 R77 and 18 R680 give the code; the record names the unit). -/
opaque applyUnit : Nat → Nat → Fin 16 × BitVec 16 × Option (Fin 32) × Fin 32

/-- The digest of the boot ROM's contents, by stepping (16 R645 measures them and does not give them). -/
opaque romDigest : Bool → Nat

/-- The length of the SETTINGS payload in bytes, which fits its record (16 R618, R657: the fields are named and no layout is given). -/
opaque settingsLen : Settings → Fin 65409

/-- The bytes of the SETTINGS payload as a little-endian number (16 R657 gives no layout). -/
opaque settingsData : Settings → Nat

/-- The security version and the interface version that a firmware payload states, by its length and bytes (16 R631, R637 name them and give no place). -/
opaque firmwareVersions : Nat → Nat → W32 × W32

/-- The grade letter and the identity public key that a GRADE payload states, by its length and bytes (01 R25; 16 R632). -/
opaque gradeNames : Nat → Nat → Byte × BitVec 456

/-- DISABLED_c of a GRADE payload, by its length, its bytes and the cluster (01 R25). -/
opaque gradeMask : Nat → Nat → Nat → BitVec 24

/-- The public key, part number and serial number that the certificate of a CERT payload names, by its length and bytes (16 R630). -/
opaque certNames : Nat → Nat → BitVec 456 × BitVec 16 × BitVec 128

/-- Whether the certificate of a CERT payload is signed by the Dalard device CA, whose key the specification does not place in the device (16 R630). -/
opaque certByCa : Nat → Nat → Bool

/-- The version in the measurement log's entry of an index from 1 to 7, by index and digest (16 R646 does not say which version). -/
opaque logVersion : Nat → Nat → Nat

/-- The data of a management answer whose content the specification leaves to a standard it names, by command and use count (16 R613 to R617, R643, R644). -/
opaque answerData : Nat → Nat → List Nat

/-- What the instruction register captures after an instruction that the TAP accepts, by use count (21 R758 gives the value after a refused one). -/
opaque tapCapture : Nat → BitVec 6

/-- The challenge that a private instruction of the TAP gives, by use count (21 R759 does not state its form). -/
opaque tapChallenge : Nat → Nat

/-- Whether a response to a challenge is signed with a Dalard test key as the boot ROM verifies it (21 R759 states neither the algorithm nor the key). -/
opaque testVerifies : Nat → List Byte → Bool

/-- The bytes that device memory holds after a P or F reset or a loss of the main rails, by use count (21 R753 says that they are undefined after such a loss; 19 R729 does not list them). -/
opaque lostMemory : Nat → List (Nat × Byte)

end Sys2Proof.Config
end

