-- ==== Sys2Proof/Machine/State.lean ====
section
/-! DEFINITION. The state of the RSL-8864 as plain data, its faults and refusals, and the state right after a power-on reset.
Every field's comment gives its register or unit, its width, the file and rule of the specification, and its reset value. -/

namespace Sys2Proof.Machine

/-- Why the model stops with a fault. -/
inductive Fault where
  /-- Raised by nobody: no command of this block stops the machine (every fault of the specification is a record, a reaction and a next state). Safe. -/
  | none_
  deriving DecidableEq, Repr

/-- Why the model refuses a command. -/
inductive Refusal where
  /-- A row that has no meaning yet. Safe. -/
  | notModelled (mnemonic : String)
  deriving DecidableEq, Repr

/-- A sparse table: keys strictly rising in every table that the operations build; a key that is not listed reads as the default its reader names. -/
abbrev SMap (α : Type) := List (Nat × α)

/-- A byte memory in the host's form: addresses strictly rising, no byte 0 listed (an unlisted byte reads as 0). -/
abbrev Mem := List Host.Cell

/-- A 48-bit statistic counter with its PINNED bit (03 R127). -/
structure Stat where
  /-- COUNT, 48 bits [03 R127]; reset 0 -/
  count : BitVec 48 := 0
  /-- PINNED, 1 bit [03 R127]; reset 0 -/
  pinned : Bool := false
  deriving DecidableEq, Repr

/-- A first-fault latch with VALID and OVERFLOW (03 R129, 18 R685). -/
structure Latch (α : Type) where
  /-- VALID, 1 bit [18 R685]; reset 0 -/
  valid : Bool := false
  /-- OVERFLOW, 1 bit [18 R685]; reset 0 -/
  overflow : Bool := false
  /-- the latched fields [18 R685]; reset 0 -/
  info : α
  deriving DecidableEq, Repr

/-! ## Core -/

/-- The task of a core: the TASKS record in force (02 R54). -/
structure Task where
  /-- PROGRAM, 16 bits [02 R54] -/
  program : Nat := 0
  /-- ENTRY_PC, 14 bits [02 R54] -/
  entry : Nat := 0
  /-- CORE_PASID, 20 bits [03 R126]; reset 0 -/
  pasid : Nat := 0
  /-- CORE_SP_BASE, 16 bits [03 R126]; reset 0 -/
  spBase : Nat := 0
  /-- CORE_SP_BOUND, 16 bits [03 R126]; reset 0 -/
  spBound : Nat := 0
  /-- CORE_CM_BASE, 19 bits [03 R126]; reset 0 -/
  cmBase : Nat := 0
  /-- CORE_CM_BOUND, 19 bits [03 R126]; reset 0 -/
  cmBound : Nat := 0
  /-- CORE_DM_BASE, 64 bits [03 R126]; reset 0 -/
  dmBase : Nat := 0
  /-- CORE_DM_BOUND, 64 bits [03 R126]; reset 0 -/
  dmBound : Nat := 0
  /-- CORE_HM_BASE, 64 bits [03 R126]; reset 0 -/
  hmBase : Nat := 0
  /-- CORE_HM_BOUND, 64 bits [03 R126]; reset 0 -/
  hmBound : Nat := 0
  deriving DecidableEq, Repr

/-- STATE of CORE_STATUS (03 R126). -/
inductive RunState where
  | noTask | stopped | running | frozen | lull | ended | faultHold | disabled
  deriving DecidableEq, Repr

/-- FREEZE_CAUSE of CORE_STATUS (03 R99, R126). -/
inductive FreezeCause where
  | none | input | output | calm | external
  deriving DecidableEq, Repr

/-- One open loop level (03 R82, R89). -/
structure LoopLevel where
  /-- remaining count, 32 bits [03 R82] -/
  count : BitVec 32
  /-- start word index, 14 bits [03 R82] -/
  start : Nat
  /-- end word index, 14 bits [03 R82] -/
  stop : Nat
  deriving DecidableEq, Repr

/-- The mode in which a MAT operation issued (04 R163). -/
structure MatMode where
  /-- FORMAT of CORE_MAT_MODE, 4 bits [04 R179]; reset 0 -/
  format : Nat := 0
  /-- ACCMODE of CORE_MAT_MODE, 2 bits [04 R179]; reset 0 -/
  accmode : Nat := 0
  /-- SYSTOLIC of CORE_MAT_MODE, 1 bit [04 R179]; reset 0 -/
  systolic : Bool := false
  /-- E_LO of CORE_MAT_MODE, 10 bits signed [04 R179]; reset 0 -/
  eLo : Int := 0
  deriving DecidableEq, Repr

/-- One accumulator entry with its VALID bit (04 R132, R133). -/
structure AccEntry where
  /-- the 64 lanes [04 R132]; reset 0 -/
  bits : AccBits := 0
  /-- VALID [04 R133]; reset 1 by R166 -/
  valid : Bool := true
  deriving DecidableEq, Repr

/-- One weight set of the array (04 R130, R143). -/
structure WeightSet where
  /-- the format of the WLD that filled it; none while unfilled [04 R143]; reset none -/
  format : Option Nat := none
  /-- the block's rows and, in MX formats, its scale row, in ascending row order [04 R138]; reset empty -/
  rows : List Row := []
  /-- issue positions until a swap may make it current [04 R140]; reset 0 -/
  busy : Nat := 0
  deriving DecidableEq, Repr

/-- A MAT operation with its operands as captured at issue (04 R173). -/
inductive MatOp where
  /-- MMUL with entry, ZERO, mode, weight set and weights of its issue, its vector (a bubble has none) and its source port: 0 to 3 an SP port, 4 + tag a tag queue -/
  | mmul (e : Nat) (zero : Bool) (mode : MatMode) (set : Nat) (weights : List Row) (vec : Option (Row × Nat)) (port : Option Nat)
  /-- LACCADD of four V registers -/
  | laccadd (e : Nat) (mode : MatMode) (addend : AccBits)
  /-- ADRAIN to a port -/
  | adrain (e : Nat) (port : Nat) (bf : Bool) (part : Nat) (last : Bool) (mode : MatMode)
  /-- the place that a MATCFG, WLD or WSWAP takes in the elastic buffer -/
  | place
  deriving DecidableEq, Repr

/-- What an operation in flight does when its result becomes visible (03 R85, R103). -/
inductive FlightEff where
  /-- a V register takes lanes under a mask; inactive lanes keep or clear by ZM (06 R222) -/
  | writeV (r : Nat) (val : VReg) (mask : BitVec 64) (zm : Bool)
  /-- part of a V register is replaced: the bits of `keep` keep their value (06 R228) -/
  | mergeV (r : Nat) (val keep : VReg)
  /-- an M register takes bits under a mask (06 R222) -/
  | writeM (r : Nat) (val mask : BitVec 64) (zm : Bool)
  /-- an X register takes a value (09 R369, 10 R412) -/
  | writeX (r : Nat) (val : W64)
  /-- vector flags and counters of one operation (06 R235, R236) -/
  | vecEvents (ev : BitVec 6)
  /-- clamps and poisoned lanes counted for the partition (13 R518) -/
  | collCount (esc poison : Bool)
  /-- a row write to the core's own scratchpad (07 R244) -/
  | rowWrite (row : Nat) (val : Row) (produce : Bool)
  /-- the write of a ROWCNT with its OVF bit, its EV bit and the mask register that takes OVF (07 R267 to R270) -/
  | countWrite (row : Nat) (val : Row) (ovf ev : Bool) (md : Option Nat)
  /-- a MAT operation that executes (04 R162) -/
  | mat (op : MatOp)
  /-- a MATCFG that changes ACCMODE clears every accumulator entry (04 R164) -/
  | accClear
  /-- a closed drain row reaches its offer (04 R169) -/
  | drainOffer (port : Nat) (row : Row)
  /-- a weight block reaches its set (04 R139, R140) -/
  | weights (set : Nat) (format : Nat) (base : Nat) (rows : List Row)
  /-- a fault found after its word issued (03 R797) -/
  | lateFault (code : Nat) (detail : W64)
  deriving DecidableEq, Repr

/-- An operation in flight (03 R85, R797). -/
structure Flight where
  /-- issue positions until its effect takes place [03 R103] -/
  left : Nat
  /-- the slot of its word [03 R797] -/
  slot : Nat
  /-- the PC of its word [03 R797] -/
  pc : Nat
  /-- CORE_ISSUE_CC of its word [03 R797] -/
  issue : W64
  /-- its effect -/
  eff : FlightEff
  deriving DecidableEq, Repr

/-- A cluster-memory move waiting in the move queue (07 R251, R252). -/
inductive Move where
  | cmrd (src dst : Nat)
  | cmwr (dst : Nat) (val : Row)
  | cmcnt (row : Nat) (mask : BitVec 128) (inc : BitVec 32) (wrap ev : Bool)
  deriving DecidableEq, Repr

/-- A CMRD that has read its row and waits for its remote-class write slot (07 R252). -/
structure CmrdLanding where
  dst : Nat
  val : Row
  deriving DecidableEq, Repr

/-- A remote access on its way (07 R272 to R275). -/
structure RemoteReq where
  /-- the requester's device-wide physical core -/
  core : Nat
  /-- 0 scratchpad, 1 cluster memory -/
  space : Nat
  /-- the cluster it reaches -/
  cluster : Nat
  /-- the logical core it reaches -/
  lcore : Nat
  /-- the row it reaches -/
  row : Nat
  /-- the row of a write; none for a read -/
  val : Option Row
  /-- the PC of the word that made it (03 R797) -/
  pc : Nat
  /-- CORE_ISSUE_CC of the word that made it (03 R797) -/
  issue : W64
  /-- the stream and its row that make the request; none for a program (08 R315) -/
  strm : Option (Nat × Nat)
  deriving DecidableEq, Repr

/-- The answer to a remote access: the row and any error of a read, the completion of a write (07 R273, R274, R278, R283). -/
structure RemoteReply where
  val : Row
  /-- the fault code the answer carries: 0 none, 0x0130, 0x0131 or 0x0132; 1 for a request that was refused (R260) -/
  err : Nat
  /-- the row lies in a cluster memory -/
  cm : Bool
  /-- the unit read: the core whose scratchpad it is, or 16 * cluster + bank -/
  target : Nat
  deriving DecidableEq, Repr

/-- One message row with its header and its addressing (09 R350, R354). -/
structure MsgRow where
  header : Header
  row : Row
  /-- PORT of the destination word (09 R354) -/
  fabPort : Nat
  /-- the vectors that the row's source marks as bubbles (04 R147) -/
  marks : BitVec 8 := 0
  /-- the cc, by the count of the cluster's cores, at which the row came to its outbound queue or lane buffer (09 R373) -/
  came : Nat := 0
  deriving DecidableEq, Repr

/-- One entry of a tag queue: reserved until filled (09 R351, R370). -/
structure TqEntry where
  header : Header
  /-- the row, none while the entry is only reserved -/
  row : Option Row
  /-- issue positions until a receive may take it (09 R370) -/
  age : Nat
  /-- the vectors of the row that its source marks as bubbles (04 R147) -/
  marks : BitVec 8 := 0
  deriving DecidableEq, Repr

/-- STATE of MSG_TQ_STATUS (09 R397). -/
inductive TqState where
  | closed | opened | fenced
  deriving DecidableEq, Repr

/-- A tag queue of a core with its record (09 R366, R397). -/
structure TagQueue where
  /-- the queue has a record in the image [09 R366]; reset none -/
  bound : Bool := false
  /-- STATE of MSG_TQ_STATUS, 2 bits [09 R397]; reset 0 -/
  state : TqState := .closed
  /-- BIND_MAT, 1 bit [09 R397]; reset 0 -/
  bindMat : Bool := false
  /-- MERGE, 2 bits [09 R397]; reset 0 -/
  merge : Nat := 0
  /-- CARRY, 1 bit [09 R397]; reset 0 -/
  carry : Bool := false
  /-- DEPTH, 9 bits [09 R397]; reset 0 -/
  depth : Nat := 0
  /-- POSITION, 5 bits [09 R397]; reset 0 -/
  position : Nat := 0
  /-- the senders by POSITION: device, cluster, logical core [09 R366]; reset none -/
  senders : List Nat := []
  /-- the entries, head first; OCC and PENDING are counted from them [09 R397]; reset empty -/
  entries : List TqEntry := []
  /-- vectors of the head entry already taken by MMULs [04 R146]; reset 0 -/
  taken : Nat := 0
  /-- MSG_TQ_ACCEPTED [09 R397]; reset 0 -/
  accepted : Stat := {}
  /-- the multicast rows that the queue refuses: group, the time since which it does, and the row's header [09 R388]; reset none -/
  refusing : SMap (Nat × Header) := []
  deriving DecidableEq, Repr

/-- One SP port: rows waiting, vectors taken from the head row (08 R294, 04 R146). -/
structure SpPort where
  /-- the stream bound to the port [08 R295]; reset none -/
  stream : Option Nat := none
  /-- the rows held, at most 4, each with the vectors that its source marks as bubbles [08 R294, 04 R147]; reset empty -/
  rows : List (Row × BitVec 8) := []
  /-- vectors taken from the head row [04 R146]; reset 0 -/
  taken : Nat := 0
  deriving DecidableEq, Repr

/-- A closed drain row at its offer, with the PC and issue position of its ADRAIN (04 R169, 03 R797). -/
structure OfferedRow where
  row : Row
  pc : Nat
  issue : W64
  deriving DecidableEq, Repr

/-- One SW port: the open drain row and the closed rows (04 R169). -/
structure SwPort where
  /-- the stream bound to the port [08 R295]; reset none -/
  stream : Option Nat := none
  /-- the open drain row [04 R169]; reset 0 -/
  openRow : Row := 0
  /-- closed rows offered and not yet in the buffer [04 R169]; reset empty -/
  offered : List OfferedRow := []
  /-- closed rows in the buffer, at most 2 [04 R169]; reset empty -/
  buffer : List Row := []
  deriving DecidableEq, Repr

/-- Power and Lull state of one bank (07 R279 to R284). -/
structure BankPower where
  /-- OFF of CORE_SP_PWR or CLU_CM_PWR [07 R285]; reset 0 -/
  off : Bool := false
  /-- PEND [07 R285]; reset 0 -/
  pend : Bool := false
  /-- READY [07 R285]; reset 1 -/
  ready : Bool := true
  /-- the bank is in Lull [07 R279]; reset 0 -/
  lull : Bool := false
  /-- 1 while the bank's wake is under way, otherwise 0 [07 R280]; reset 0 -/
  wake : Nat := 0
  deriving DecidableEq, Repr

/-- A party of a row access (07 R262, R286): KIND 0 program, 1 stream, 2 remote, 3 move queue, 4 gatherer. -/
structure Party where
  kind : Nat
  /-- the ID field of R286 -/
  id : Nat
  /-- PC of a program party (07 R286) -/
  pc : Nat := 0
  /-- external byte address of a stream writer's row (07 R286) -/
  addr : Nat := 0
  /-- slot and issue position of a program party's word (03 R797) -/
  slot : Nat := 0
  issue : W64 := 0
  deriving DecidableEq, Repr

/-- A use of a bank slot in the current cc: the row, the party and, for a write, the row as it stood before (07 R243, R262). -/
structure SlotUse where
  isWrite : Bool
  row : Nat
  party : Party
  old : Row
  deriving DecidableEq, Repr

/-- The latched core fault (03 R126, R129). -/
structure CoreFault where
  /-- SLOT of CORE_FAULT_INFO, 3 bits [03 R126]; reset 0 -/
  slot : Nat := 0
  /-- CODE of CORE_FAULT_INFO, 16 bits [03 R126]; reset 0 -/
  code : Nat := 0
  /-- CORE_FAULT_PC, 14 bits [03 R126]; reset 0 -/
  pc : Nat := 0
  /-- CORE_FAULT_ISSUE, 64 bits [03 R126]; reset 0 -/
  issue : W64 := 0
  /-- CORE_FAULT_STEP, 64 bits [03 R126]; reset 0 -/
  step : W64 := 0
  /-- CORE_FAULT_DETAIL, 64 bits [03 R126]; reset 0 -/
  detail : W64 := 0
  deriving DecidableEq, Repr

/-- The calm wait of a core (03 R111). -/
structure CalmWait where
  /-- the calm index -/
  index : BitVec 16
  /-- STEP of the CALM -/
  step : Bool
  /-- the PC of the CALM word (11 R436) -/
  pc : Nat
  /-- the core has reported -/
  reported : Bool
  /-- CORE_ISSUE_CC of the CALM word (03 R797) -/
  issue : W64
  deriving DecidableEq, Repr

/-- The array of a core (04). -/
structure Mat where
  /-- CORE_MAT_MODE: FORMAT, ACCMODE, SYSTOLIC, E_LO [04 R179]; reset 0 -/
  mode : MatMode := {}
  /-- the accumulator file with VALID bits [04 R132, R133]; reset every entry +0, VALID -/
  acc : SMap AccEntry := []
  /-- weight set 0 [04 R130]; reset unfilled -/
  set0 : WeightSet := {}
  /-- weight set 1 [04 R130]; reset unfilled -/
  set1 : WeightSet := {}
  /-- the current set [04 R130]; reset 0 -/
  cur : Nat := 0
  /-- the elastic buffer of row-stall mode: each operation with slot, pc, issue position and its architectural write time [04 R173]; reset empty -/
  elastic : List Flight := []
  /-- the latest architectural write position that has landed on an entry [04 R175]; reset none -/
  landed : SMap Nat := []
  /-- the array has executed an operation in the current cc [04 R173]; reset 0 -/
  ran : Bool := false
  /-- bubble-mode debts of the SP ports (0 to 3) and tag queues (4 + tag) [04 R170]; reset 0 -/
  debts : SMap Nat := []
  /-- CORE_MAT_FLAGS: NAN, FP_OVF, INT_SAT [04 R179]; reset 0 -/
  flags : BitVec 3 := 0
  /-- CORE_MAT_BUBBLES [04 R179]; reset 0 -/
  bubbles : Stat := {}
  /-- CORE_MAT_SLIPS [04 R179]; reset 0 -/
  slips : Stat := {}
  /-- CORE_MAT_LAG_MAX, 5 bits [04 R179]; reset 0 -/
  lagMax : Nat := 0
  deriving DecidableEq, Repr

/-- Statistic counters of a core block (03 R126, 06 R240, 07 R285). -/
structure CoreStats where
  /-- CORE_FREEZE_IN [03 R126]; reset 0 -/
  freezeIn : Stat := {}
  /-- CORE_FREEZE_OUT [03 R126]; reset 0 -/
  freezeOut : Stat := {}
  /-- CORE_FREEZE_CALM [03 R126]; reset 0 -/
  freezeCalm : Stat := {}
  /-- CORE_FREEZE_EXT [03 R126]; reset 0 -/
  freezeExt : Stat := {}
  /-- CORE_LULL_ENTRIES [03 R126]; reset 0 -/
  lullEntries : Stat := {}
  /-- CORE_FAULTS [03 R126]; reset 0 -/
  faults : Stat := {}
  /-- CORE_VEC_INVALID [06 R240]; reset 0 -/
  vecInvalid : Stat := {}
  /-- CORE_VEC_DIVZERO [06 R240]; reset 0 -/
  vecDivzero : Stat := {}
  /-- CORE_VEC_OVERFLOW [06 R240]; reset 0 -/
  vecOverflow : Stat := {}
  /-- CORE_VEC_UNDERFLOW [06 R240]; reset 0 -/
  vecUnderflow : Stat := {}
  /-- CORE_VEC_SATURATE [06 R240]; reset 0 -/
  vecSaturate : Stat := {}
  /-- CORE_ECC_CORR [07 R285]; reset 0 -/
  eccCorr : Stat := {}
  /-- CORE_ROWCNT_EVENTS [07 R285]; reset 0 -/
  rowcntEvents : Stat := {}
  deriving DecidableEq, Repr

/-- The local memory side of a core: split, banks, guarded rows, moves and remote port (07). -/
structure CoreMem where
  /-- CORE_SP_SPLIT: STRM_WR, PROG_WR, STRM_RD, PROG_RD, 32 bits [07 R285]; reset 0 -/
  split : W32 := 0
  /-- CORE_MEM_FLAGS: ECC_UE, ROWCNT_EVENT [07 R285]; reset 0 -/
  flags : BitVec 2 := 0
  /-- CORE_SP_PWR: OFF, READY, PEND of banks SB0 to SB7, with their Lull state [07 R279, R285]; reset OFF 0x00, READY 0xFF, PEND 0x00 -/
  banks : SMap BankPower := []
  /-- VALID of guarded scratchpad rows [07 R256]; reset clear -/
  valid : SMap Bool := []
  /-- OVF of scratchpad rows [07 R268]; reset clear -/
  ovf : SMap Bool := []
  /-- what the codewords of scratchpad rows hold [07 R276]; reset no error -/
  ecc : SMap Codewords := []
  /-- the last use of each bank: the core's cc count and the cluster's [07 R279]; reset 0 -/
  lastUse : SMap (Nat × Nat) := []
  /-- the move queue, 16 entries, oldest first, each with its number [07 R251]; reset empty -/
  moves : List (Nat × Move) := []
  /-- the number of the next move, by which a GRET knows the moves queued before it [10 R413]; reset 0 -/
  moveSeq : Nat := 0
  /-- CMRDs that have read and not yet written [07 R252]; reset empty -/
  landing : List CmrdLanding := []
  /-- remote rows outstanding, at most 4, oldest first [07 R273]; reset empty -/
  remote : List RemoteReq := []
  /-- a reply on its way to the landing buffer [07 R273]; reset none -/
  arriving : Option RemoteReply := none
  /-- the landing buffer of an RRD [07 R273]; reset empty -/
  reply : Option RemoteReply := none
  /-- an RRD has sent its request and waits [07 R273]; reset 0 -/
  rrdSent : Bool := false
  /-- bank-slot uses of the current cc [07 R262]; reset empty -/
  uses : List SlotUse := []
  /-- ROWCNT windows open: row, PC, issue position, cc left [07 R262]; reset empty -/
  cntWindows : List (Nat × Nat × Nat × Nat) := []
  deriving DecidableEq, Repr

/-- One physical core (03 R82, R126). -/
structure Core where
  /-- LCORE of CORE_STATUS, 5 bits [03 R126]; reset 0x1F (none) -/
  lcore : Option Nat := none
  /-- the task with its base, bound and PASID registers [02 R54, 03 R128]; reset none -/
  task : Option Task := none
  /-- instruction memory, 16,384 words [02 R56]; reset empty -/
  imem : SMap IWord := []
  /-- WORD_COUNT of the program [02 R56]; reset 0 -/
  wordCount : Nat := 0
  /-- STATE of CORE_STATUS, 4 bits [03 R126]; reset 0 -/
  state : RunState := .noTask
  /-- FREEZE_CAUSE of CORE_STATUS, 4 bits [03 R126]; reset 0 -/
  cause : FreezeCause := .none
  /-- SLOT of CORE_STATUS, 4 bits [03 R126]; reset 0 -/
  slot : Nat := 0
  /-- the tag, stream, peer or calm index waited for, 16 bits [03 R107]; reset 0 -/
  waitIx : Nat := 0
  /-- consecutive frozen cc of the word [03 R107]; reset 0 -/
  frozenFor : Nat := 0
  /-- consecutive frozen cc of the word since it last woke, toward CORE_LULL_IDLE [03 R108]; reset 0 -/
  idleFor : Nat := 0
  /-- the core has begun its Lull wake [03 R108]; reset 0 -/
  waking : Bool := false
  /-- the model's own: cc that the core has spent since its partition's last start, by which the cores of a cluster keep step [17 R664; 18 R682]; reset 0 -/
  ccs : Nat := 0
  /-- PC, 14 bits [03 R126]; reset 0 -/
  pc : Nat := 0
  /-- CORE_ISSUE_CC, 64 bits [03 R126]; reset 0 -/
  issued : W64 := 0
  /-- X0 to X31, 64 bits each [03 R82]; reset 0 -/
  x : SMap W64 := []
  /-- V0 to V63, 2,048 bits each [03 R82]; reset 0 -/
  v : SMap VReg := []
  /-- M1 to M15, 64 bits each; M0 reads all ones [03 R82, R83]; reset 0 -/
  m : SMap (BitVec 64) := []
  /-- loop levels 0 to 3, innermost first [03 R82]; reset closed -/
  loops : List LoopLevel := []
  /-- operations in flight [03 R85]; reset empty -/
  inflight : List Flight := []
  /-- the calm wait [03 R111]; reset none -/
  calm : Option CalmWait := none
  /-- the packed format of R795: false BF16, true FP16 [06 R795]; reset BF16 -/
  packedFp16 : Bool := false
  /-- CORE_VEC_GCOUNT, 64 bits [06 R240]; reset 0 -/
  gcount : W64 := 0
  /-- message SEQ, 16 bits [09 R352]; reset 0 -/
  seq : BitVec 16 := 0
  /-- CORE_VEC_FLAGS, 6 bits [06 R240]; reset 0 -/
  vecFlags : BitVec 6 := 0
  /-- the matrix array [04] -/
  mat : Mat := {}
  /-- the local memory side [07] -/
  mem : CoreMem := {}
  /-- SP0 to SP3 [08 R294]; reset empty -/
  sp : SMap SpPort := []
  /-- SW0 to SW3 [08 R294]; reset empty -/
  sw : SMap SwPort := []
  /-- tag queues 0 to 31 [09 R366]; reset closed -/
  tq : SMap TagQueue := []
  /-- the outbound queue, 8 rows, oldest first [09 R355]; reset empty -/
  outq : List MsgRow := []
  /-- the 0x0101 late detection and other late faults found and not yet taken [03 R797]; reset empty -/
  late : List CoreFault := []
  /-- CORE_FAULT_INFO and its companions [03 R126]; reset 0 -/
  fault : Latch CoreFault := { info := {} }
  /-- statistic counters of the core block -/
  stats : CoreStats := {}
  /-- the core is fenced: core fence [18 R683]; reset 0 -/
  fenced : Bool := false
  /-- the core stopped as a fenced multicast member [09 R388]; reset 0 -/
  mcastStopped : Bool := false
  /-- END has issued and the operations issued before it have not all completed; the queues are still open [03 R94]; reset 0 -/
  ending : Bool := false
  /-- the fault hold ends when the operations issued have completed: its reaction is RECORD [03 R106; 18 R678]; reset 0 -/
  release : Bool := false
  deriving DecidableEq, Repr

/-! ## Cluster -/

/-- A stream record (08 R289). -/
structure StreamDesc where
  owner : Nat := 0
  dirOut : Bool := false
  farSpace : Nat := 0
  farCluster : Nat := 0
  nearKind : Nat := 0
  nearIndex : Nat := 0
  nearLcore : Nat := 0
  tileDims : Nat := 1
  prefetch : Nat := 1
  tags : Nat := 1
  digest : Bool := false
  digestNum : Nat := 0
  farBase : Nat := 0
  nearBase : Nat := 0
  nearLen : Nat := 0
  counts : List Nat := [1, 1, 1, 1, 1]
  strides : List Int := [0, 0, 0, 0, 0]
  deriving DecidableEq, Repr

/-- STATE of STR_STATE (08 R346). -/
inductive StrState where
  | idle | running | halted | faulted | done
  deriving DecidableEq, Repr

/-- A stream row whose tag is held (08 R304). -/
structure StrTag where
  /-- the row number j -/
  j : Nat
  /-- the row has come back from the far end (DIR 0) or left for it (DIR 1) -/
  data : Option Row
  /-- the far-end address as issued: physical for device memory -/
  addr : Nat
  /-- the access failed: reason of R326, 0 none -/
  err : Nat
  /-- the far end has served the row: DIR 1 rows then wait for their acknowledgement (08 R304) -/
  served : Bool
  deriving DecidableEq, Repr

/-- One stream of a cluster (08 R289, R346). -/
structure Stream where
  /-- the stream record in force [08 R289]; reset none -/
  desc : Option StreamDesc := none
  /-- STATE of STR_STATE, 4 bits [08 R346]; reset 0 -/
  state : StrState := .idle
  /-- REASON of STR_STATE, 8 bits [08 R346]; reset 0 -/
  reason : Nat := 0
  /-- the next row to issue: STR_IDX01, STR_IDX23, STR_IDX4 are its index vector [08 R346]; reset 0 -/
  next : Nat := 0
  /-- the far base of its last SGO; STR_NEXT_ADDR is far of the next row [08 R297, R346]; reset 0 -/
  base : Int := 0
  /-- STR_DELIVERED, 64 bits [08 R346]; reset 0 -/
  delivered : Nat := 0
  /-- the consumer position [08 R302]; reset 0 -/
  consumed : Nat := 0
  /-- the tags held; INUSE counts them [08 R304, R346]; reset none -/
  tags : List StrTag := []
  /-- a PRI request for row j has ended in Success and its translation is requested again [08 R326, R330]; reset 0 -/
  resumed : Bool := false
  /-- time of the current halt [08 R333]; reset 0 -/
  haltTime : Nat := 0
  /-- the digest CRC since the last calm point; none before its first row [11 R442]; reset none -/
  crc : Option W64 := none
  /-- the host page whose ATS translation is outstanding for row j [08 R322]; reset none -/
  xlat : Option Nat := none
  deriving DecidableEq, Repr

/-- A guarded buffer declaration with its ring positions (08 R292). -/
structure Guarded where
  cm : Bool := false
  lcore : Nat := 0
  buffer : Nat := 0
  producer : Nat := 0
  producerId : Nat := 0
  producerCluster : Nat := 0
  consumer : Nat := 0
  consumerId : Nat := 0
  base : Nat := 0
  length : Nat := 8
  /-- producer ring position [08 R292]; reset BASE -/
  prodPos : Nat := 0
  /-- consumer ring position [08 R292]; reset BASE -/
  consPos : Nat := 0
  deriving DecidableEq, Repr

/-- STR_ERR_INFO and its companions (08 R345). -/
structure StrErr where
  /-- REASON, 8 bits [08 R345]; reset 0 -/
  reason : Nat := 0
  /-- STREAM, 8 bits [08 R345]; reset 0 -/
  stream : Nat := 0
  /-- STR_ERR_IDX01, IDX23, IDX4 [08 R345]; reset 0 -/
  idx : List Nat := [0, 0, 0, 0, 0]
  /-- STR_ERR_ADDR, 64 bits [08 R345]; reset 0 -/
  addr : Nat := 0
  /-- STR_ERR_STEP, 64 bits [08 R345]; reset 0 -/
  step : W64 := 0
  /-- STR_ERR_TIME, 64 bits [08 R345]; reset 0 -/
  time : W64 := 0
  deriving DecidableEq, Repr

/-- The stream engine of a cluster (08). -/
structure StrEng where
  /-- STR_SHARES.READ, 4 bits [08 R345]; reset 5 -/
  shareRd : Nat := 5
  /-- STR_SHARES.WRITE, 4 bits [08 R345]; reset 2 -/
  shareWr : Nat := 2
  /-- STR_SHARES.REMOTE, 4 bits [08 R345]; reset 1 -/
  shareRem : Nat := 1
  /-- the stream last served of the read, write and remote class [08 R309]; reset none served (255) -/
  lastRd : Nat := 255
  lastWr : Nat := 255
  lastRem : Nat := 255
  /-- the cluster cc in which the engine last issued a row [08 R307]; reset none -/
  issueCc : Option Nat := none
  /-- the 256 streams [08 R346] -/
  streams : SMap Stream := []
  /-- the guarded buffers of the cluster, both spaces [08 R292]; reset none -/
  buffers : List Guarded := []
  /-- the request waiting order of device-memory rows: stream, row j, oldest first [08 R313]; reset empty -/
  gddr : List (Nat × Nat) := []
  /-- the host-memory rows that wait at the host port: stream, row j, oldest first [08 R314]; reset empty -/
  host : List (Nat × Nat) := []
  /-- requests of the cluster's rings and completions that have yet to take a remote-class position [15 R589, R597]; reset 0 -/
  ringOwed : Nat := 0
  /-- the cluster cc up to which remote-class positions have gone to them [15 R589]; reset 0 -/
  ringCc : Nat := 0
  /-- STR_ROWS_RD [08 R345]; reset 0 -/
  rowsRd : Stat := {}
  /-- STR_ROWS_WR [08 R345]; reset 0 -/
  rowsWr : Stat := {}
  /-- STR_ROWS_REM [08 R345]; reset 0 -/
  rowsRem : Stat := {}
  /-- STR_PF_COUNT [08 R345]; reset 0 -/
  pfCount : Stat := {}
  /-- STR_REFRESH_LOST [08 R345]; reset 0 -/
  refreshLost : Stat := {}
  /-- STR_ERR_INFO to STR_ERR_TIME [08 R345]; reset 0 -/
  err : Latch StrErr := { info := {} }
  deriving DecidableEq, Repr

/-- State of one batch buffer (10 R422). -/
inductive BufState where
  | free | forming | released | held
  deriving DecidableEq, Repr

/-- One batch buffer of a channel (10 R403). -/
structure BatchBuf where
  /-- BUF0 or BUF1 of CLU_GATH_STATE [10 R422]; reset free -/
  state : BufState := .free
  /-- SLOT_REF of the rows accepted, slot order [10 R404]; reset empty -/
  refs : List W32 := []
  /-- SEQ of the work-ring entries accepted, slot order [15 R594]; reset empty -/
  seqs : List W64 := []
  /-- rows accepted and not yet written: slot and row [10 R796]; reset empty -/
  waiting : List (Nat × Row) := []
  /-- T_FIRST [10 R404]; reset 0 -/
  tFirst : W64 := 0
  /-- the deadline in force for the batch, ns [10 R407, R423]; reset 0 -/
  deadline : Nat := 0
  /-- the time from which the deadline runs: T_FIRST, moved by a thaw or a resume [10 R418, 11 R450]; reset 0 -/
  runFrom : Nat := 0
  /-- the batch is closed by its deadline [10 R407]; reset 0 -/
  flush : Bool := false
  /-- BATCH_SEQ, STEP and T_RELEASE at release [10 R404]; reset 0 -/
  batchSeq : W64 := 0
  step : W64 := 0
  tRelease : W64 := 0
  /-- cluster cc count of the release [10 R412]; reset 0 -/
  relCc : Nat := 0
  /-- consumers that have taken the batch, and that have returned it [10 R412, R414]; reset none -/
  taken : BitVec 24 := 0
  returned : BitVec 24 := 0
  /-- GRETs issued and not yet in effect: logical core and the number of the first move queued after it [10 R413]; reset none -/
  gret : SMap Nat := []
  /-- slots posted by completion posting [15 R593, R596]; reset 0 -/
  posted : Nat := 0
  /-- the rows that the zeroing before the buffer is free has yet to write, as offsets in the buffer [10 R796]; reset none: no zeroing under way -/
  toZero : Option (List Nat) := none
  deriving DecidableEq, Repr

/-- CLU_GATH_ERR (10 R422). -/
structure GathErr where
  /-- CAUSE, 2 bits [10 R422]; reset 0 -/
  cause : Nat := 0
  /-- LCORE, 5 bits [10 R422]; reset 0 -/
  lcore : Nat := 0
  deriving DecidableEq, Repr

/-- One gatherer channel (10 R401, R422). -/
structure Channel where
  /-- EN of CLU_GATH_CFG [10 R422]; reset 0 -/
  en : Bool := false
  /-- BASE of CLU_GATH_CFG, 18 bits [10 R422]; reset 0 -/
  base : Nat := 0
  /-- BATCH of CLU_GATH_CFG, 7 bits [10 R422]; reset 0 -/
  batch : Nat := 0
  /-- CLU_GATH_CONS, 24 bits [10 R422]; reset 0 -/
  cons : BitVec 24 := 0
  /-- batch buffer 0 [10 R403]; reset free -/
  buf0 : BatchBuf := {}
  /-- batch buffer 1 [10 R403]; reset free -/
  buf1 : BatchBuf := {}
  /-- CLU_GATH_SEQ, 64 bits [10 R422]; reset 0 -/
  seq : W64 := 0
  /-- CLU_GATH_REQS [10 R422]; reset 0 -/
  reqs : Stat := {}
  /-- CLU_GATH_FULL [10 R422]; reset 0 -/
  full : Stat := {}
  /-- CLU_GATH_FLUSHES [10 R422]; reset 0 -/
  flushes : Stat := {}
  /-- CLU_GATH_ERR [10 R422]; reset 0 -/
  err : Latch GathErr := { info := {} }
  deriving DecidableEq, Repr

/-- A row in a router input buffer or on its way to one (09 R362, R363). -/
structure MeshRow where
  /-- the message row; a drop report or a remote access has its own form -/
  msg : MsgRow
  /-- 0 message row, 1 drop report, 2 remote request, 3 remote reply -/
  kind : Nat
  /-- REASON of a drop report (09 R378) -/
  reason : Nat
  /-- the remote request carried, or the one that is answered (07 R274) -/
  remote : Option RemoteReq
  /-- the answer to a remote request (07 R274) -/
  reply : Option RemoteReply := none
  deriving DecidableEq, Repr

/-- A static route entry (09 R382). -/
structure RouteEntry where
  kind : Nat
  out : BitVec 5
  inp : BitVec 4
  fabPort : Nat
  tag : Nat
  lcores : BitVec 24
  localOut : Nat
  deriving DecidableEq, Repr

/-- The combine work of one route entry (09 R390). -/
structure CombineState where
  /-- rows of each input waiting, by input number: links 0 to 3, local core 4 + lcore [09 R390]; reset empty -/
  inputs : SMap (List MsgRow) := []
  /-- SEQ of the combined rows [09 R390]; reset 0 -/
  seq : BitVec 16 := 0
  /-- time at which the first input's row came [09 R393]; reset none -/
  firstTime : Option Nat := none
  /-- the group has stopped [09 R394]; reset 0 -/
  stopped : Bool := false
  deriving DecidableEq, Repr

/-- CLU_COLL_INFO and its companions (07 R286). -/
structure CollInfo where
  /-- READER, WRITER: KIND of each party [07 R286]; reset 0 -/
  reader : Party := { kind := 0, id := 0 }
  writer : Party := { kind := 0, id := 0 }
  /-- SPACE [07 R286]; reset 0 -/
  cm : Bool := false
  /-- PCORE [07 R286]; reset 0 -/
  pcore : Nat := 0
  /-- ROW, 18 bits [07 R286]; reset 0 -/
  row : Nat := 0
  deriving DecidableEq, Repr

/-- CLU_UNPWR_SRC (07 R286). -/
structure UnpwrInfo where
  kind : Nat := 0
  cm : Bool := false
  pcore : Nat := 0
  bank : Nat := 0
  id : Nat := 0
  deriving DecidableEq, Repr

/-- CLU_ECC_UE (07 R286). -/
structure EccInfo where
  cm : Bool := false
  pcore : Nat := 0
  reader : Nat := 0
  bank : Nat := 0
  bankRow : Nat := 0
  deriving DecidableEq, Repr

/-- A first-fault record's fields (18 R701). -/
structure FfInfo where
  /-- REACTION, 2 bits [18 R701]; reset 0 -/
  reaction : Nat := 0
  /-- CLASS, 4 bits [18 R701]; reset 0 -/
  cls : Nat := 0
  /-- UNIT_KIND, 4 bits [18 R701]; reset 0 -/
  kind : Nat := 0
  /-- CODE, 16 bits [18 R701]; reset 0 -/
  code : Nat := 0
  /-- PART_VALID and PARTITION of FF_UNIT [18 R701]; reset 0 -/
  part : Option Nat := none
  /-- CLUSTER_VALID and CLUSTER of FF_UNIT [18 R701]; reset 0 -/
  cluster : Option Nat := none
  /-- PCORE of FF_UNIT; 0x1F none [18 R701]; reset 0 -/
  pcore : Nat := 0
  /-- INDEX of FF_UNIT, 16 bits [18 R701]; reset 0 -/
  index : Nat := 0
  /-- PC_VALID, SLOT, PC of FF_PC [18 R701]; reset 0 -/
  pc : Option (Nat × Nat) := none
  /-- FF_DETAIL, 64 bits [18 R701]; reset 0 -/
  detail : W64 := 0
  /-- FF_STEP, 64 bits [18 R701]; reset 0 -/
  step : W64 := 0
  /-- FF_TIME, 64 bits [18 R701]; reset 0 -/
  time : W64 := 0
  deriving DecidableEq, Repr

/-- A first-fault record (18 R685, R701). -/
structure FfRecord where
  /-- VALID, OVERFLOW and the latched fields [18 R701]; reset 0 -/
  latch : Latch FfInfo := { info := {} }
  /-- FF_FAULTS [18 R701]; reset 0 -/
  faults : Stat := {}
  /-- the model's own: cluster and cc, by its cores' count, of the core fault latched, for the ties of R686 [18 R686]; reset none -/
  tie : Option (Nat × Nat) := none
  /-- REFUSED of FF_CLEAR_STATUS [18 R701]; reset 0 -/
  refused : Bool := false
  /-- CAUSE of FF_CLEAR_STATUS, 16 bits [18 R701]; reset 0 -/
  cause : Nat := 0
  deriving DecidableEq, Repr

/-- MSG_TX_DROP_INFO and MSG_TX_DROP_DEST (09 R396). -/
structure DropInfo where
  reason : Nat := 0
  lcore : Nat := 0
  seq : BitVec 16 := 0
  dest : BitVec 28 := 0
  deriving DecidableEq, Repr

/-- One core's line of a deadlock snapshot (09 R395, R396). -/
structure SnapCore where
  state : Nat := 0
  cause : Nat := 0
  slot : Nat := 0
  wait : Nat := 0
  outq : Nat := 0
  tq : Nat := 0
  deriving DecidableEq, Repr

/-- The deadlock snapshot (09 R395, R396). -/
structure Snapshot where
  /-- MSG_SNAP_INFO.PCORE [09 R396]; reset 0 -/
  pcore : Nat := 0
  /-- MSG_SNAP_TIME [09 R396]; reset 0 -/
  time : W64 := 0
  /-- MSG_SNAP_STEP [09 R396]; reset 0 -/
  step : W64 := 0
  /-- MSG_SNAP_CORE_p and MSG_SNAP_OCC_p [09 R396]; reset 0 -/
  cores : List SnapCore := []
  /-- MSG_SNAP_LANES_k, 64 bits each [09 R396]; reset 0 -/
  lanes : List W64 := []
  deriving DecidableEq, Repr

/-- The message side of a cluster: router, lanes, drops, snapshot (09). -/
structure ClusterMsg where
  /-- link tables: link number to 64 lane codes, 0xFF idle [09 R362, R364]; reset idle -/
  links : SMap (List Nat) := []
  /-- router input buffers: key 256 * input + lane code, inputs 0 north 1 east 2 south 3 west 4 I/O die [09 R363]; reset empty -/
  bufs : SMap (List MeshRow) := []
  /-- rows that wait to enter the mesh at this router: the lane queues of the cluster's own sources [09 R362]; reset empty -/
  inject : List MeshRow := []
  /-- static route entries by ROUTE_ID [09 R382]; reset none -/
  routes : SMap RouteEntry := []
  /-- combine work by ROUTE_ID [09 R390]; reset none -/
  combine : SMap CombineState := []
  /-- static rows copied to an output link and waiting for their slot of it: link and row [09 R362, R383]; reset none -/
  pendingOut : List (Nat × MsgRow) := []
  /-- rows from the fabric that wait at the I/O die to enter the mesh at this router: ingress lane and row [09 R360, R362]; reset empty -/
  ioIn : List (Nat × MeshRow) := []
  /-- fenced multicast members of this cluster: key 64 * lcore + group [09 R388]; reset none -/
  members : SMap Bool := []
  /-- MSG_RX_DROPS [09 R396]; reset 0 -/
  rxDrops : Stat := {}
  /-- MSG_TX_DROP_EVENTS [09 R396]; reset 0 -/
  txDropEvents : Stat := {}
  /-- MSG_TX_DROP_INFO and MSG_TX_DROP_DEST [09 R396]; reset 0 -/
  txDrop : Latch DropInfo := { info := {} }
  /-- MSG_ROWS_TX [09 R396]; reset 0 -/
  rowsTx : Stat := {}
  /-- MSG_ROWS_RX [09 R396]; reset 0 -/
  rowsRx : Stat := {}
  /-- MSG_SNAP_* [09 R396]; reset 0 -/
  snap : Latch Snapshot := { info := {} }
  deriving DecidableEq, Repr

/-- The cluster memory side (07). -/
structure ClusterMem where
  /-- CLU_CM_SLOT_n: the 256 entries of the slot table [07 R250, R286]; reset 0x1F per entry -/
  slots : SMap Nat := []
  /-- CLU_CM_PWR, CLU_CM_PWR_PEND and Lull of banks CB0 to CB15 [07 R286]; reset OFF 0x0000, READY 0xFFFF, PEND 0x0000 -/
  banks : SMap BankPower := []
  /-- cluster-memory banks fenced [18 R683]; reset none -/
  fencedBanks : BitVec 16 := 0
  /-- VALID of guarded cluster-memory rows [07 R256]; reset clear -/
  valid : SMap Bool := []
  /-- OVF of cluster-memory rows [07 R268]; reset clear -/
  ovf : SMap Bool := []
  /-- what the codewords of cluster-memory rows hold [07 R276]; reset no error -/
  ecc : SMap Codewords := []
  /-- the cluster cc of the last use of each bank [07 R279]; reset 0 -/
  lastUse : SMap Nat := []
  /-- the cluster cc count up to which events have been taken [07 R250]; reset 0 -/
  cc : Nat := 0
  /-- bank-slot uses of the current cluster cc [07 R262]; reset empty -/
  uses : List SlotUse := []
  /-- CLU_COLL_INFO, READER, WRITER, WRADDR [07 R286]; reset 0 -/
  coll : Latch CollInfo := { info := {} }
  /-- CLU_COLL_COUNT [07 R286]; reset 0 -/
  collCount : Stat := {}
  /-- CLU_UNPWR_DROPS [07 R286]; reset 0 -/
  unpwrDrops : Stat := {}
  /-- CLU_UNPWR_SRC [07 R286]; reset 0 -/
  unpwr : Latch UnpwrInfo := { info := {} }
  /-- CLU_ECC_CORR [07 R286]; reset 0 -/
  eccCorr : Stat := {}
  /-- CLU_ECC_UE [07 R286]; reset 0 -/
  eccUe : Latch EccInfo := { info := {} }
  deriving DecidableEq, Repr

/-- One cluster. -/
structure Cluster where
  /-- CLU_CORE_DISABLED, 24 bits [01 R32]; reset from the grade record -/
  disabled : BitVec 24 := 0
  /-- CLU_CORE_FAILED, 24 bits [01 R32]; reset from self-test -/
  failed : BitVec 24 := 0
  /-- CLU_LMAP_n, 5 bits each; unlisted 0x1F [01 R32]; reset 0x1F -/
  lmap : SMap Nat := []
  /-- STEP of CLU_CLK_STATUS, 3 bits: the step the generator runs at [14 R572]; reset 0 -/
  step : Nat := 0
  /-- STEP of the CLOCK_PLAN record [02 R50]; reset 0 -/
  planStep : Nat := 0
  /-- CORE_LULL_IDLE of the CLOCK_PLAN record, 16 bits [02 R50]; reset 0 -/
  coreLullIdle : Nat := 0
  /-- BANK_LULL_IDLE of the CLOCK_PLAN record, 16 bits [02 R50]; reset 0 -/
  bankLullIdle : Nat := 0
  /-- THROTTLED of CLU_CLK_STATUS [14 R572]; reset 0 -/
  throttled : Bool := false
  /-- a throttle (true) or its end (false) that waits for the end of a switch of the cluster [19 R717]; reset none -/
  throttleWait : Option Bool := none
  /-- since when the sensor reads 100 °C or less, while throttled [19 R716]; reset none -/
  coolSince : Option Nat := none
  /-- HOLDOVER of CLU_CLK_STATUS: the generator holds over [14 R572]; reset 0 -/
  holdover : Bool := false
  /-- the cluster's own stop-and-switch under way: to step 5 as its throttle begins (true), or back as it ends (false) [19 R715, R716]; reset none -/
  own : Option Bool := none
  /-- the clock is gated by the cluster's own switch: since when, by the time counter [14 R552; 19 R715]; reset none -/
  gated : Option Nat := none
  /-- the partitions that count one link pause for the cluster's own stop [14 R555]; reset none -/
  paused : List Nat := []
  /-- the clock is gated by a thermal trip [19 R720]; reset 0 -/
  tripGated : Bool := false
  /-- the cluster is powered [19 R709]; reset 0 -/
  powered : Bool := false
  /-- PWR_BECALMED bit c [19 R730]; reset 0 -/
  becalmed : Bool := false
  /-- cluster memory, slots, banks and memory latches [07] -/
  mem : ClusterMem := {}
  /-- the stream engine [08] -/
  str : StrEng := {}
  /-- the router and message registers [09] -/
  msg : ClusterMsg := {}
  /-- gatherer channels G0 to G3 [10 R401]; reset disabled -/
  chans : SMap Channel := []
  /-- remote requests waiting to be served at this cluster, in order of arrival [07 R247, R274]; reset empty -/
  remoteIn : List RemoteReq := []
  /-- the model's own: the cc, by the cores' count, after which a STOP reaction raised here lets no core issue [18 R682]; reset none -/
  stopAt : Option Nat := none
  /-- the cluster first-fault record CLU_FF_* [18 R701]; reset 0 -/
  ff : FfRecord := {}
  deriving DecidableEq, Repr

/-! ## Partition -/

/-- PART_STATUS.STATE (17 R659). -/
inductive PartState where
  | none | stopped | running | stopping | faulted | loading
  deriving DecidableEq, Repr

/-- The run defaults of the PARTITION_RUN record (02 R53). -/
structure RunDefaults where
  rowStall : Bool := false
  rawLenient : Bool := false
  openMerge : Bool := false
  deadlineFlush : Bool := false
  gatherDeadline : Nat := 0
  stepInit : W64 := 0
  ringPoll : Nat := 0
  msixMod : Nat := 0
  stallDeadline : Nat := 0
  deriving DecidableEq, Repr

/-- A loader register set, DEV_IMG_* or PART_IMG_* (02 R65). -/
structure ImgRegs where
  /-- ADDR, 64 bits [02 R65]; reset 0 -/
  addr : W64 := 0
  /-- LEN, 32 bits [02 R65]; reset 0 -/
  len : W32 := 0
  /-- RESULT_VALID, 1 bit [02 R65]; reset 0 -/
  resultValid : Bool := false
  /-- CODE, 16 bits [02 R65]; reset 0x0000 -/
  code : Nat := 0
  /-- SECTION, 16 bits [02 R65]; reset 0xFFFF -/
  section_ : Nat := 0xFFFF
  /-- RECORD, 32 bits [02 R65]; reset 0 -/
  record_ : Nat := 0
  /-- IMAGE_ID, 128 bits [02 R65]; reset 0 -/
  imageId : BitVec 128 := 0
  deriving DecidableEq, Repr

/-- One entry of the digest ring (11 R463). -/
structure DigEntry where
  digest : W64 := 0
  step : W64 := 0
  calm : BitVec 16 := 0
  seq : W64 := 0
  deriving DecidableEq, Repr

/-- A twin record (13 R537, R541). -/
structure TwinRec where
  step : W64
  ord : BitVec 16
  calm : BitVec 16
  digest : W64
  /-- time of arrival (13 R543) -/
  time : Nat
  deriving DecidableEq, Repr

/-- PART_TWIN_ERR and its companions (13 R544). -/
structure TwinErr where
  code : Nat := 0
  step : W64 := 0
  ord : BitVec 16 := 0
  calm : BitVec 16 := 0
  localDig : W64 := 0
  remoteDig : W64 := 0
  time : W64 := 0
  deriving DecidableEq, Repr

/-- The twin comparator of a partition (13 R537 to R544). -/
structure Twin where
  /-- PART_TWIN_CFG, 32 bits: EN, ROUTE_ID, EXPORT_CLUSTER, RECV_CLUSTER, RECV_LCORE, TAG [13 R544]; reset 0 -/
  cfg : W32 := 0
  /-- PART_TWIN_DEADLINE.US, 24 bits [13 R544]; reset 0x0F_4240 -/
  deadline : Nat := 0x0F4240
  /-- STATE of PART_TWIN_STATUS is diverged [13 R544]; reset 0 -/
  diverged : Bool := false
  /-- unmatched local records, LOCAL_PEND [13 R541]; reset empty -/
  localRecs : List TwinRec := []
  /-- unmatched remote records, REMOTE_PEND [13 R541]; reset empty -/
  remoteRecs : List TwinRec := []
  /-- the export queue of 16 rows, EXPORT_PEND [13 R537]; reset empty -/
  exports : List Row := []
  /-- layer digests formed since the step counter last changed, ORD [13 R537]; reset 0 -/
  ord : BitVec 16 := 0
  /-- PART_TWIN_MATCHED [13 R544]; reset 0 -/
  matched : Stat := {}
  /-- PART_TWIN_ERR to PART_TWIN_ERR_TIME [13 R544]; reset 0 -/
  err : Latch TwinErr := { info := {} }
  deriving DecidableEq, Repr

/-- How far the resolution of a host page has come: its request waits for room or for the link, has been sent, or was granted and the translation is requested again (08 R325, R330, R336). -/
inductive PriState where
  | waiting | sent | granted
  deriving DecidableEq, Repr

/-- A host page under resolution: PASID, page, whether a write needs it, and how far it has come (08 R325, R331). -/
structure PriReq where
  pasid : Nat
  page : Nat
  write : Bool
  st : PriState
  deriving DecidableEq, Repr

/-- The page-fault side of a partition (08 R330, R347, R348). -/
structure PageFaults where
  /-- PART_PT_INDEX.PAGE, 19 bits [08 R347]; reset 0 -/
  ptIndex : Nat := 0
  /-- PART_PF_DEADLINE.US, 24 bits [08 R347]; reset 0x00_2710 -/
  deadline : Nat := 0x2710
  /-- the request queue of 64 pages, head first; PART_PF_REQ and PART_PF_QUEUED show it [08 R347]; reset empty -/
  queue : List Nat := []
  /-- HOST_FILL pages waiting for room in the queue [08 R348]; reset empty -/
  overflow : List Nat := []
  /-- pages under resolution: page, reason, time of the halt [08 R330]; reset none -/
  resolving : List (Nat × Nat × Nat) := []
  /-- host pages under resolution by PRI [08 R325, R331]; reset none -/
  pri : List PriReq := []
  deriving DecidableEq, Repr

/-- Pause, save and digest registers of a partition (11 R463). -/
structure Det where
  /-- PHASE, 4 bits [11 R463]; reset 0 -/
  phase : Nat := 0
  /-- the PHASE held before FREEZE, SAVE, DUMP or RESTORE [11 R446]; reset 0 -/
  backPhase : Nat := 0
  /-- RESULT_VALID of PART_DET_STATUS [11 R463]; reset 0 -/
  resultValid : Bool := false
  /-- CODE of PART_DET_STATUS, 16 bits [11 R463]; reset 0 -/
  code : Nat := 0
  /-- PART_SAVE_ADDR, 64 bits [11 R463]; reset 0 -/
  saveAddr : W64 := 0
  /-- PART_SAVE_ROWS, 64 bits [11 R463]; reset 0 -/
  saveRows : Nat := 0
  /-- PART_EQUIV_ID, 128 bits [11 R463]; reset 0 -/
  equivId : BitVec 128 := 0
  /-- PART_CALM_LAST: VALID and INDEX [11 R463]; reset 0 -/
  calmLast : Option (BitVec 16) := none
  /-- the digest ring PART_DIG_n [11 R463]; reset 0 -/
  ring : SMap DigEntry := []
  /-- COUNT of PART_DIG_HEAD, 5 bits [11 R463]; reset 0 -/
  digCount : Nat := 0
  /-- NEWEST of PART_DIG_HEAD, 4 bits [11 R463]; reset 0 -/
  digNewest : Nat := 0
  /-- the digest sequence counter, 64 bits [11 R445]; reset 0 -/
  digSeq : W64 := 0
  /-- the time at which SAVE was commanded [11 R459]; reset 0 -/
  saveTime : W64 := 0
  /-- the time at which the freeze began [11 R450]; reset 0 -/
  freezeTime : Nat := 0
  /-- PART_EXC_PF [11 R463]; reset 0 -/
  excPf : Stat := {}
  /-- PART_EXC_THROTTLE [11 R463]; reset 0 -/
  excThrottle : Stat := {}
  /-- PART_EXC_FREQ [11 R463]; reset 0 -/
  excFreq : Stat := {}
  /-- PART_EXC_PAUSE [11 R463]; reset 0 -/
  excPause : Stat := {}
  /-- PART_EXC_FREEZE [11 R463]; reset 0 -/
  excFreeze : Stat := {}
  deriving DecidableEq, Repr

/-- The frequency command side of a partition (14 R571). -/
structure Freq where
  /-- CURRENT of PART_FREQ_STATUS, 3 bits [14 R571]; reset 0 -/
  current : Nat := 0
  /-- PENDING and TARGET of PART_FREQ_STATUS [14 R571]; reset 0 -/
  pending : Option Nat := none
  /-- SWITCHING of PART_FREQ_STATUS [14 R571]; reset 0 -/
  switching : Bool := false
  /-- the switch under way has reached its beat boundary [14 R552]; reset 0 -/
  gated : Bool := false
  /-- since when it has, by the time counter [14 R553]; reset 0 -/
  gatedAt : Nat := 0
  /-- the partitions that count one link pause for the stop under way [14 R555]; reset none -/
  paused : List Nat := []
  /-- the switch under way is that of a T reset, which leaves SWITCHING at its reset value [14 R571]; reset 0 -/
  quiet : Bool := false
  /-- the step the switch goes to [14 R552]; reset 0 -/
  target : Nat := 0
  /-- the switch releases calm participants (calm mode) rather than an external freeze [14 R552]; reset 0 -/
  calmMode : Bool := false
  /-- a stop takes effect when the switch ends [17 R667]; reset 0 -/
  stopAfter : Bool := false
  /-- an immediate change waits for a generator to relock [14 R567]; reset 0 -/
  waitRelock : Bool := false
  /-- the switch under way is the return to the CLOCK_PLAN step by a reset or a load, which is no frequency change of R550 [17 R674]; reset 0 -/
  byReset : Bool := false
  /-- PART_EXC_LINKPAUSE [14 R571]; reset 0 -/
  linkPause : Stat := {}
  deriving DecidableEq, Repr

/-- One partition (17 R659, R676). -/
structure Part where
  /-- PART_STATUS.STATE, 4 bits [17 R676]; reset 0 -/
  state : PartState := .none
  /-- PART_STATUS.KEPT [17 R676]; reset 0 -/
  kept : Bool := false
  /-- the start point was written by RESTORE [17 R664]; reset 0 -/
  restored : Bool := false
  /-- PART_STATUS.STOP_PENDING [17 R676]; reset 0 -/
  stopPending : Bool := false
  /-- the time of the STOP command while it has not ended [17 R668]; reset none -/
  stopTime : Option Nat := none
  /-- PART_STATUS.DEGRADED [17 R676]; reset 0 -/
  degraded : Bool := false
  /-- PART_STATUS.RESULT_VALID [17 R676]; reset 0 -/
  resultValid : Bool := false
  /-- PART_STATUS.CODE, 16 bits [17 R676]; reset 0 -/
  code : Nat := 0
  /-- a STOP reaction is under way: it becomes FAULTED when every cluster has stopped [18 R682]; reset 0 -/
  faultStop : Bool := false
  /-- the scrub of an ABORT is under way [17 R670]; reset 0 -/
  aborting : Bool := false
  /-- PART_CLUSTERS.MASK, 32 bits [17 R676]; reset 0 -/
  clusters : BitVec 32 := 0
  /-- the MCAST_GROUPS mask of the partition map, 64 bits [02 R47]; reset 0 -/
  mcast : BitVec 64 := 0
  /-- DEVMEM_BASE of the partition map [02 R47]; reset 0 -/
  dmBase : Nat := 0
  /-- DEVMEM_LIMIT of the partition map [02 R47]; reset 0 -/
  dmLimit : Nat := 0
  /-- the owner port, HP_OWNERS bit p [15 R606]; reset 0 -/
  owner : Nat := 0
  /-- the port that carries host-memory traffic since the last start [08 R314]; reset 0 -/
  hostPort : Nat := 0
  /-- PART_STOP_DEADLINE.US, 24 bits [17 R676]; reset 0x01_86A0 -/
  stopDeadline : Nat := 0x0186A0
  /-- PART_STARTS [17 R676]; reset 0 -/
  starts : Stat := {}
  /-- the PARTITION_RUN record [02 R53]; reset 0 -/
  run : RunDefaults := {}
  /-- the 16 seed slots, 128 bits each [02 R63]; reset 0 -/
  seeds : SMap (BitVec 128) := []
  /-- PART_IMG_* [02 R65]; reset 0 -/
  img : ImgRegs := {}
  /-- PART_STEP, 64 bits [11 R463]; reset 0 -/
  step : W64 := 0
  /-- the calm point being formed: index and STEP of its first report [03 R113]; reset none -/
  calm : Option (BitVec 16 × Bool) := none
  /-- the participants are held at a reached calm point [11 R447, 17 R666]; reset 0 -/
  calmHeld : Bool := false
  /-- PART_MSG_NONDET [09 R398]; reset 0 -/
  nondet : Stat := {}
  /-- PART_GATHER_DEADLINE.NS, 24 bits [10 R423]; reset 0 -/
  gatherDeadline : Nat := 0
  /-- PART_GATHER_FLUSHES [10 R423]; reset 0 -/
  gatherFlushes : Stat := {}
  /-- PART_COLL_ESC [13 R544]; reset 0 -/
  collEsc : Stat := {}
  /-- PART_COLL_POISON [13 R544]; reset 0 -/
  collPoison : Stat := {}
  /-- PART_FLT_REACT, 12 bits [18 R703]; reset 0x0A8 -/
  react : BitVec 12 := 0x0A8
  /-- HP_PART_VEC: LOAD_VEC, PF_VEC, 11 bits each [15 R608]; reset 0 -/
  loadVec : Nat := 0
  pfVec : Nat := 0
  /-- HP_PART_VEC2: DET_VEC, FAULT_VEC, 11 bits each [15 R608]; reset 0 -/
  detVec : Nat := 0
  faultVec : Nat := 0
  /-- HP_PART_MOD.NS, 20 bits [15 R608]; reset 0 -/
  msixMod : Nat := 0
  /-- pause, save, digests [11] -/
  det : Det := {}
  /-- frequency [14] -/
  freq : Freq := {}
  /-- page faults [08] -/
  pf : PageFaults := {}
  /-- twin comparator [13] -/
  twin : Twin := {}
  deriving DecidableEq, Repr

/-! ## Host ports -/

/-- STATE of HP_WR_STATUS (15 R609). -/
inductive RingState where
  | off | polling | waitChan | waitSpace | heldRing | error
  deriving DecidableEq, Repr

/-- One work ring (15 R609). -/
structure Ring where
  /-- HP_WR_BASE, 64 bits [15 R609]; reset 0 -/
  wrBase : W64 := 0
  /-- HP_WR_CTL.EN [15 R609]; reset 0 -/
  en : Bool := false
  /-- HP_WR_CTL.SIZE_LOG2, 5 bits [15 R609]; reset 0x06 -/
  sizeLog2 : Nat := 6
  /-- HP_WR_CTL.BURST, 7 bits [15 R609]; reset 0x40 -/
  burst : Nat := 0x40
  /-- HP_WR_PASID, 20 bits [15 R609]; reset 0 -/
  pasid : Nat := 0
  /-- HP_WR_SEQ.HEAD_SEQ, 64 bits [15 R609]; reset 0 -/
  headSeq : W64 := 0
  /-- HP_CR_BASE, 64 bits [15 R609]; reset 0 -/
  crBase : W64 := 0
  /-- HP_CR_CTL.SIZE_LOG2, 5 bits [15 R609]; reset 0x06 -/
  crSizeLog2 : Nat := 6
  /-- HP_CR_CTL.VECTOR, 11 bits [15 R609]; reset 0 -/
  vector : Nat := 0
  /-- HP_CR_CONS_ADDR, 64 bits [15 R609]; reset 0 -/
  consAddr : W64 := 0
  /-- HP_CR_SEQ.CSEQ, 64 bits [15 R609]; reset 0 -/
  cseq : W64 := 0
  /-- HP_RES_BASE, 64 bits [15 R609]; reset 0 -/
  resBase : W64 := 0
  /-- HP_WR_STATUS.STATE, 4 bits [15 R609]; reset 0 -/
  state : RingState := .off
  /-- CONS as last read [15 R595]; reset 0 -/
  cons : W64 := 0
  /-- rows that a poll has found ready, to be delivered: A of the poll [15 R588]; reset none -/
  polled : Option Nat := none
  /-- the reads of those rows have been sent [15 R574]; reset 0 -/
  sent : Bool := false
  /-- an ATS request outstanding for an access of the ring: the page, and whether the access is one of completion posting [15 R574, R590, R597]; reset none -/
  xlat : Option (Nat × Bool) := none
  /-- HP_WR_ACCEPTED [15 R609]; reset 0 -/
  accepted : Stat := {}
  /-- HP_CR_POSTED [15 R609]; reset 0 -/
  posted : Stat := {}
  deriving DecidableEq, Repr

/-- One MSI-X table entry state (15 R598 to R601). -/
structure Vec where
  /-- the vector is masked [15 R601]; reset masked -/
  masked : Bool := true
  /-- the PBA bit [15 R600]; reset 0 -/
  pba : Bool := false
  /-- an event waits for its moderation time: the time it is due [15 R599]; reset none -/
  due : Option Nat := none
  /-- the partitions whose events wait in the message, none for a device event [15 R579, R600]; reset none -/
  causes : List (Option Nat) := []
  /-- t0, the time of the vector's last message [15 R599]; reset none -/
  last : Option Nat := none
  /-- the message address of the table entry [15 R575]; reset 0 -/
  addr : W64 := 0
  /-- the message data of the table entry [15 R575]; reset 0 -/
  data : W32 := 0
  deriving DecidableEq, Repr

/-- HP_ERR_INFO and HP_ERR_ADDR (15 R607). -/
structure HpErr where
  code : Nat := 0
  addr : W64 := 0
  deriving DecidableEq, Repr

/-- FLT_WR_REJ_INFO and FLT_WR_REJ_DATA (18 R702). -/
structure RejInfo where
  reason : Nat := 0
  offset : Nat := 0
  data : W32 := 0
  deriving DecidableEq, Repr

/-- One host port (15 R607). -/
structure Port where
  /-- LINK_UP of HP_PORT_STATUS [15 R607]; reset 0 -/
  linkUp : Bool := false
  /-- FLIT of HP_PORT_STATUS [15 R607]; reset 0 -/
  flit : Bool := false
  /-- WIDTH of HP_PORT_STATUS, 4 bits [15 R607]; reset 0 -/
  width : Nat := 0
  /-- DSTATE of HP_PORT_STATUS: D3hot [15 R607]; reset D0 -/
  d3 : Bool := false
  /-- ATS_EN, PRI_EN, PASID_EN of HP_PORT_STATUS and bus mastering [15 R602, R607]; reset 0 -/
  ats : Bool := false
  pri : Bool := false
  pasid : Bool := false
  busMaster : Bool := false
  /-- IDE of HP_PORT_STATUS [15 R607]; reset 0 -/
  ide : Bool := false
  /-- the port answers BAR accesses: boot stage 8 has passed [16 R628]; reset 0 -/
  opened : Bool := false
  /-- HOLD of HP_PORT_STATUS [15 R607]; reset 0 -/
  hold : Bool := false
  /-- the features enabled before the hold: ATS, PRI, PASID, bus mastering [15 R602]; reset none -/
  before : Option (Bool × Bool × Bool × Bool) := none
  /-- time at which the hold began [15 R603]; reset 0 -/
  holdSince : Nat := 0
  /-- the hold in force has lasted longer than HP_HOLD_MS [15 R603]; reset 0 -/
  holdExpired : Bool := false
  /-- IDE keys have been programmed by KEY_PROG and not yet set going [15 R574]; reset 0 -/
  ideKeys : Bool := false
  /-- HP_WIN_BASE.POS, 4 bits [15 R607]; reset 0 -/
  win : Nat := 0
  /-- HP_HOLD_MS.MS, 10 bits [15 R607]; reset 100 -/
  holdMs : Nat := 100
  /-- HP_REPLAYS [15 R607]; reset 0 -/
  replays : Stat := {}
  /-- HP_H_RESETS [15 R607]; reset 0 -/
  hResets : Stat := {}
  /-- HP_BAR2_REFUSED [15 R607]; reset 0 -/
  bar2Refused : Stat := {}
  /-- HP_ERR_INFO and HP_ERR_ADDR [15 R607]; reset 0 -/
  err : Latch HpErr := { info := {} }
  /-- the latch of R9: high half and offset [00 R9]; reset empty -/
  latch : Option (W32 × Nat) := none
  /-- DEV_SCRATCH_p, 32 bits [20 R740]; reset 0 -/
  scratch : W32 := 0
  /-- the MSI-X table and PBA, 2,048 vectors [15 R575]; reset masked -/
  vecs : SMap Vec := []
  /-- FLT_WR_REJ_INFO_p and FLT_WR_REJ_DATA_p [18 R702]; reset 0 -/
  rej : Latch RejInfo := { info := {} }
  /-- FLT_WR_REJ_COUNT_p [18 R702]; reset 0 -/
  rejCount : Stat := {}
  /-- the address translation cache: PASID and page address to translated page [08 R322]; reset empty -/
  atc : List (Nat × Nat × Nat) := []
  /-- invalidations that wait for rows in flight: PASID and page [08 R324]; reset none -/
  invalidating : List (Nat × Nat) := []
  /-- the cluster whose host-memory row the port served last [08 R314]; reset none served (31) -/
  served : Nat := 31
  /-- the AER log: the first error's bit in the uncorrectable error status and its header [15 R574]; reset none -/
  aer : Latch (Nat × BitVec 128) := { info := (0, 0) }
  /-- the port's 100 MHz reference is lost, H0_LOST or H1_LOST [14 R570]; reset 0 -/
  refLost : Bool := false
  /-- PERSTh_N is held low [19 R727]; reset 0 -/
  perst : Bool := false
  deriving DecidableEq, Repr

/-- Host-port global registers (15 R606). -/
structure HostBlk where
  /-- HP_PRIMARY.PORT [15 R606]; reset from persistent settings -/
  primary : Nat := 0
  /-- HP_GLOBAL_VEC.DEV_LOAD_VEC, 11 bits [15 R606]; reset 0 -/
  devLoadVec : Nat := 0
  /-- HP_GLOBAL_VEC.DEV_FAULT_VEC, 11 bits [15 R606]; reset 0 -/
  devFaultVec : Nat := 0
  /-- port H0 [15 R607] -/
  p0 : Port := {}
  /-- port H1 [15 R607] -/
  p1 : Port := {}
  /-- work rings 0 to 127 [15 R609] -/
  rings : SMap Ring := []
  deriving DecidableEq, Repr

/-! ## Fabric -/

/-- A frame the sender keeps until it is acknowledged (12 R485). -/
structure TxFrame where
  seq : BitVec 24
  frame : Frame
  sent : Bool
  /-- the frame is due for retransmission [12 R486] -/
  due : Bool
  /-- times retransmitted [12 R487] -/
  retx : Nat
  /-- period boundaries since its latest transmission [12 R486] -/
  age : Nat
  /-- order of its latest transmission [12 R486] -/
  stamp : Nat
  deriving DecidableEq, Repr

/-- STATE of FAB_PEER_STATUS (12 R501). -/
inductive PeerState where
  | absent | syncing | open_ | fenced
  deriving DecidableEq, Repr

/-- One peer context of a port (12 R473, R501). -/
structure Peer where
  /-- STATE of FAB_PEER_STATUS [12 R501]; reset 0 -/
  state : PeerState := .absent
  /-- FLOW of FAB_PEER_STATUS, 6 bits [12 R501]; reset 0 -/
  flow : Nat := 0
  /-- CREDIT of the peer record, G of R481 [12 R489]; reset 0 -/
  grant : Nat := 0
  /-- MAC address of the peer record, 48 bits [12 R489]; reset 0 -/
  mac : Nat := 0
  /-- TX_NEXT, 24 bits [12 R501]; reset 0 -/
  txNext : BitVec 24 := 0
  /-- CREDIT of FAB_PEER_TXACK, 8 bits [12 R501]; reset 0 -/
  txCredit : Nat := 0
  /-- TX_ACKED, 24 bits [12 R501]; reset 0 -/
  txAcked : BitVec 24 := 0
  /-- an acknowledgement of the current session has come [12 R475]; reset 0 -/
  acked : Bool := false
  /-- FAB_PEER_TXSESS, 32 bits [12 R501]; reset 0 -/
  txSession : BitVec 32 := 0
  /-- the transmit direction waits to open a new session [12 R475, R479]; reset 1 -/
  wantSession : Bool := true
  /-- times the SYNC has been sent [12 R488]; reset 0 -/
  syncs : Nat := 0
  /-- frames kept, in order [12 R485]; reset empty -/
  kept : List TxFrame := []
  /-- RX_NEXT, 24 bits: e of R481 [12 R501]; reset 0 -/
  rxNext : BitVec 24 := 0
  /-- FAB_PEER_RXSESS, 32 bits; none before the first SYNC [12 R501]; reset 0 -/
  rxSession : Option (BitVec 32) := none
  /-- frames held out of order, HELD counts them [12 R481]; reset empty -/
  held : List Frame := []
  /-- frames in order that wait for their ingress lane [12 R482]; reset empty -/
  ready : List Frame := []
  /-- an acknowledgement is owed: e or the held set changed, or a SYNC or duplicate came [12 R484]; reset 0 -/
  ackOwed : Bool := false
  /-- an ACK with RESYNC is owed for this session [12 R478]; reset none -/
  resyncOwed : Option (BitVec 32) := none
  deriving DecidableEq, Repr

/-- One window of a port (12 R489). -/
structure Window where
  wkind : Nat
  flow : Nat
  start : Nat
  len : Nat
  pcp : Nat
  deriving DecidableEq, Repr

/-- FAB_ERR_INFO and FAB_ERR_TIME (12 R500). -/
structure FabErr where
  peer : Nat := 0
  code : Nat := 0
  time : W64 := 0
  deriving DecidableEq, Repr

/-- One MACsec association (12 R465, R498; 16 R652). -/
structure Assoc where
  /-- the SAK, SSCI and salt installed by MACSEC_KEY [16 R656]; reset none -/
  sak : BitVec 256 := 0
  ssci : BitVec 32 := 0
  salt : BitVec 96 := 0
  /-- the next packet number, 64 bits [12 R498]; reset 0 -/
  pn : W64 := 0
  deriving DecidableEq, Repr

/-- One fabric port (12 R500). -/
structure FabPort where
  /-- MODE of FAB_PORT_STATUS, 2 bits [12 R500]; reset 0 -/
  mode : Nat := 0
  /-- MACSEC of FAB_PORT_STATUS [12 R500]; reset 0 -/
  macsec : Bool := false
  /-- the PTP flag of the port record [12 R489]; reset 0 -/
  ptp : Bool := false
  /-- PTP_SLAVE of FAB_PORT_STATUS [12 R500]; reset 0 -/
  ptpSlave : Bool := false
  /-- LINK_UP of FAB_PORT_STATUS [12 R500]; reset 0 -/
  linkUp : Bool := false
  /-- LANE_LOCK of FAB_PORT_STATUS, 4 bits [12 R500]; reset 0 -/
  laneLock : BitVec 4 := 0
  /-- FAB_PORT_CTRL.ADMIN_DOWN [12 R500]; reset 0 -/
  adminDown : Bool := false
  /-- ETHERTYPE, VID, MAC, RETX_TIMEOUT, LINK_HOLD_MS of the port record [12 R489]; reset 0 -/
  etherType : Nat := 0
  vid : Nat := 0
  mac : Nat := 0
  retxTimeout : Nat := 1
  linkHoldMs : Nat := 1
  /-- time at which the link went down; none while up or already expired [12 R497]; reset none -/
  downSince : Option Nat := none
  /-- the link has been down beyond its hold, or the port is stopped by R498, and its contexts were fenced [18 R691]; reset 0 -/
  holdFenced : Bool := false
  macsecStopped : Bool := false
  /-- the 32-bit session counter and whether it is seeded [12 R476]; reset 0 -/
  session : BitVec 32 := 0
  seeded : Bool := false
  /-- the windows of the port [12 R489]; reset none -/
  windows : List Window := []
  /-- the window now open: its index in the list, the time at which the port's last frame ends in hundredths of a ns, the time of its close in ns [12 R491]; reset none -/
  open_ : Option (Nat × Nat × Nat) := none
  /-- peer contexts by device [12 R473]; reset absent -/
  peers : SMap Peer := []
  /-- messages complete at the port, in order of completion: device and frame [12 R492]; reset empty -/
  txQueue : List (Nat × Frame) := []
  /-- rows of messages not yet complete at the port: key of the sender [12 R474]; reset empty -/
  partial_ : List MsgRow := []
  /-- 802.1AS frames waiting for their window, a count [12 R492]; reset 0 -/
  ptpQueue : Nat := 0
  /-- stamp of the latest transmission [12 R486]; reset 0 -/
  stamp : Nat := 0
  /-- transmit associations AN 0 and AN 1, and the one in use [12 R465]; reset none -/
  an0 : Option Assoc := none
  an1 : Option Assoc := none
  anCur : Nat := 0
  /-- receive associations: key 2 * device + AN [12 R465]; reset none -/
  rxAssoc : SMap Assoc := []
  /-- FAB_TX_FRAMES [12 R500]; reset 0 -/
  txFrames : Stat := {}
  /-- FAB_RX_FRAMES [12 R500]; reset 0 -/
  rxFrames : Stat := {}
  /-- FAB_FEC_CORR [12 R500]; reset 0 -/
  fecCorr : Stat := {}
  /-- FAB_FEC_UNCORR [12 R500]; reset 0 -/
  fecUncorr : Stat := {}
  /-- FAB_RX_BAD [12 R500]; reset 0 -/
  rxBad : Stat := {}
  /-- FAB_RX_DISCARD [12 R500]; reset 0 -/
  rxDiscard : Stat := {}
  /-- FAB_RETX [12 R500]; reset 0 -/
  retxCount : Stat := {}
  /-- FAB_SLIPS [12 R500]; reset 0 -/
  slips : Stat := {}
  /-- FAB_TX_DROPS [12 R500]; reset 0 -/
  txDrops : Stat := {}
  /-- FAB_ERR_INFO and FAB_ERR_TIME [12 R500]; reset 0 -/
  err : Latch FabErr := { info := {} }
  deriving DecidableEq, Repr

/-- The fabric side of the device (12 R502). -/
structure FabBlk where
  /-- FAB_SCHED_PERIOD.NS, 20 bits [12 R502]; reset 0 -/
  period : Nat := 0
  /-- FAB_SCHED_SLACK.NS, 20 bits [12 R502]; reset 0 -/
  slack : Nat := 0
  /-- ACTIVE of FAB_SCHED_STATUS [12 R502]; reset 0 -/
  active : Bool := false
  /-- HOLDOVER of FAB_SCHED_STATUS [12 R502]; reset 0 -/
  holdover : Bool := false
  /-- SUSPENDED of FAB_SCHED_STATUS [12 R502]; reset 0 -/
  suspended : Bool := false
  /-- FAB_SUSPENSIONS [12 R502]; reset 0 -/
  suspensions : Stat := {}
  /-- FAB_SUSP_PERIODS [12 R502]; reset 0 -/
  suspPeriods : Stat := {}
  /-- the period boundary taken last, its k of R491 [12 R491]; reset none -/
  boundary : Option Nat := none
  /-- ports F0 to F3 [12 R500] -/
  ports : SMap FabPort := []
  deriving DecidableEq, Repr

/-! ## Device, time, power, management -/

/-- The command the loader runs (02 R65 to R75). -/
structure LoaderRun where
  /-- none: DEV_IMG_CMD; some p: PART_IMG_CMD of partition p -/
  part : Option Nat
  /-- a VERIFY: nothing is applied [02 R65] -/
  verify : Bool
  /-- SRC = 1 and the copy is still under way [02 R66] -/
  copying : Bool
  /-- Breeze itself has given the command at boot stage 9 [16 R627] -/
  autoload : Bool
  /-- the checks have passed and the apply is under way [02 R75] -/
  applying : Bool
  /-- the staging range: its address [02 R71] -/
  addr : Nat
  /-- the staging range: its length [02 R71] -/
  len : Nat
  /-- the image's bytes as read and checked, little-endian [02 R75] -/
  image : Nat
  deriving DecidableEq, Repr

/-- The image settings in force (02 R46, 11 R425). -/
structure Loaded where
  /-- L of the loaded full image, LOGICAL_SIZE of DEV_GRADE; 0 none [01 R31]; reset 0 -/
  lsize : Nat := 0
  /-- LATENCY_CLASS [02 R38]; reset 0 -/
  latClass : Nat := 0
  /-- PLAN_ID, 128 bits [02 R38]; reset 0 -/
  planId : Nat := 0
  /-- TOOLCHAIN_VERSION as recorded [02 R38]; reset 0 -/
  toolchain : Nat := 0
  /-- records in force by partition and section type: key 65536 * (partition + 1) + type; key type for device-wide [02 R46]; reset none -/
  records : SMap (List Rec) := []
  /-- programs in force: key 65536 * partition + number; header record and words [02 R56]; reset none -/
  programs : SMap (Rec × List IWord) := []
  /-- the digest of R42 of the full image, 512 bits [16 R645]; reset 0 -/
  fullDigest : Nat := 0
  /-- the digest of R42 of the image last applied, by partition [16 R645]; reset 0 -/
  partDigest : SMap Nat := []
  deriving DecidableEq, Repr

/-- One device page table entry (08 R317). -/
structure Pte where
  /-- STATE, 2 bits [08 R317]; reset 0 INVALID until a full load -/
  state : Nat := 0
  /-- FRAME, 19 bits [08 R317]; reset 0 -/
  frame : Nat := 0
  deriving DecidableEq, Repr

/-- A multicast group with its record and its registers (09 R385, R399). -/
structure Group where
  /-- STATE of MSG_MCAST_STATE, 2 bits [09 R399]; reset 0 -/
  state : Nat := 0
  /-- FENCED of MSG_MCAST_STATE, 8 bits [09 R399]; reset 0 -/
  fenced : Nat := 0
  /-- PARTITION of MSG_MCAST_STATE, 4 bits [09 R399]; reset 0 -/
  part : Nat := 0
  /-- MSG_MCAST_FIRST: CLUSTER and LCORE [09 R399]; reset 0 -/
  first : Option (Nat × Nat) := none
  /-- MSG_MCAST_CLUSTERS, 32 bits [09 R399]; reset 0 -/
  clusters : BitVec 32 := 0
  /-- KIND, ROUTE_ID, OP, ROOT_CLUSTER, SENDER_CLUSTER, SENDER_LCORE, DEADLINE_US of the record [09 R385]; reset 0 -/
  kind : Nat := 0
  routeId : Nat := 0
  op : Nat := 0
  root : Nat := 0
  senderCluster : Nat := 0
  senderLcore : Nat := 0
  deadlineUs : Nat := 0
  deriving DecidableEq, Repr

/-- The time base (14 R556, R570). -/
structure TimeBlk where
  /-- TIME_NOW: TIME, 64 bits [14 R570]; reset 0 -/
  now : W64 := 0
  /-- the 32-bit fraction below TIME [14 R556]; reset 0 -/
  frac : BitVec 32 := 0
  /-- TIME_ADJ, signed 32 bits [14 R570]; reset 0 -/
  adj : Int := 0
  /-- TIME_STATUS.TRUSTED [14 R570]; reset 0 -/
  trusted : Bool := false
  /-- TIME_STATUS.EVER_TRUSTED [14 R570]; reset 0 -/
  everTrusted : Bool := false
  /-- the port that holds the SlavePort role: SLAVE_VALID, SLAVE_PORT [14 R570]; reset none -/
  slave : Option Nat := none
  /-- TIME_OFFSET, signed 32 bits [14 R570]; reset 0 -/
  offset : Int := 0
  /-- consecutive Syncs within 100 ns [14 R561]; reset 0 -/
  goodSyncs : Nat := 0
  /-- time of the last Sync on the SlavePort [14 R562]; reset 0 -/
  lastSync : Nat := 0
  /-- time at which the counter became untrusted, for DRIFT [14 R563]; reset 0 -/
  untrustedSince : Nat := 0
  /-- DRIFT counts at HOLD_PPB_REF since the entry into Standby [19 R724]; reset 0 -/
  standby : Bool := false
  /-- TIME_CTL.PPS_EN [14 R570]; reset 0 -/
  ppsEn : Bool := false
  /-- TIME_CTL.FREE_RUN [14 R570]; reset 0 -/
  freeRun : Bool := false
  /-- TIME_SYNC_TIMEOUT.MS, 10 bits [14 R570]; reset 100 -/
  syncTimeout : Nat := 100
  /-- TIME_HOLD_PPB.REF, 16 bits [14 R570]; reset 5,000 -/
  ppbRef : Nat := 5000
  /-- TIME_HOLD_PPB.SYNC, 16 bits [14 R570]; reset 100 -/
  ppbSync : Nat := 100
  /-- TIME_CAPTURE, 64 bits [14 R570]; reset 0 -/
  capture : W64 := 0
  /-- TIME_CAPTURE_SEQ, 32 bits [14 R570]; reset 0 -/
  captureSeq : W32 := 0
  /-- time of the last latched capture edge [14 R569]; reset none -/
  lastEdge : Option Nat := none
  /-- TIME_UNTRUST_COUNT [14 R570]; reset 0 -/
  untrustCount : Stat := {}
  /-- TIME_STEPS [14 R570]; reset 0 -/
  steps : Stat := {}
  /-- TIME_LAST_STEP, signed 64 bits [14 R570]; reset 0 -/
  lastStep : Int := 0
  /-- TIME_REF_STATUS.REFCLK_LOST [14 R570]; reset 0 -/
  refclkLost : Bool := false
  /-- TIME_REF_STATUS.XTAL_LOST [14 R570]; reset 0 -/
  xtalLost : Bool := false
  deriving DecidableEq, Repr

/-- The power block (19 R730). -/
structure PwrBlk where
  /-- PWR_STATUS.THERMTRIP [19 R730]; reset 0 -/
  thermtrip : Bool := false
  /-- PWR_STATUS.STAGGER_BUSY is set while clusters wait for their turn: the clusters waiting [19 R710, R730]; reset none -/
  stagger : List Nat := []
  /-- PWR_STATUS.TJ_MAX, 12 bits [19 R730]; reset 0 -/
  tjMax : Nat := 0
  /-- PWR_TJ_n, signed 16 bits, unlisted not valid [19 R730]; reset not valid -/
  tj : SMap Int := []
  /-- PWR_LAST_RESET.CAUSE, 4 bits [19 R730]; reset 0 -/
  cause : Nat := 0
  /-- PWR_LAST_RESET.KIND, 4 bits [19 R730]; reset 0 -/
  kind : Nat := 0
  /-- the main rails are within tolerance [19 R722]; reset false -/
  railsGood : Bool := false
  deriving DecidableEq, Repr

/-- One copy of a flash record: the fields of its 128-byte header and its payload (16 R619). -/
structure FlashCopy where
  /-- MAGIC, 32 bits [16 R619] -/
  magic : W32
  /-- TYPE, 8 bits [16 R619] -/
  rtype : Byte
  /-- the reserved bytes 0x05 to 0x07, zero [16 R619] -/
  resv : BitVec 24
  /-- SEQ, 32 bits [16 R619] -/
  seq : BitVec 32
  /-- LENGTH, 32 bits [16 R619] -/
  length : W32
  /-- CHECK, 512 bits [16 R619] -/
  check : BitVec 512
  /-- COMMIT, 32 bits; erased until the copy is committed [16 R619, R622] -/
  commit : W32
  /-- the reserved bytes 0x54 to 0x7F, erased [16 R619] -/
  tail : BitVec 352
  /-- the payload at copy offset 0x80 -/
  payload : FlashPayload
  deriving DecidableEq, Repr

/-- A change of SETTINGS by a management command (16 R652, R657). -/
inductive SettingsChange where
  | primary (port : Nat)
  | setting (v : Setting)
  | enrol (slot key : Nat)
  | revoke (slot digest : Nat)
  | slotFloor (slot value : Nat)
  | fwFloor (component value : Nat)
  | ownerRoot (root : Nat)
  deriving DecidableEq, Repr

/-- What a flash record write programs (16 R622, R649, R657). -/
inductive WriteBody where
  /-- a payload as it stands -/
  | payload (v : FlashPayload)
  /-- SETTINGS in force with one change -/
  | change (v : SettingsChange)
  /-- the data of a firmware update, which ApplyComplete commits -/
  | update
  deriving DecidableEq, Repr

/-- A write of a flash record in progress or waiting (16 R622, R625). -/
structure FlashWrite where
  rtype : Nat
  body : WriteBody
  /-- read-back mismatches so far [16 R624] -/
  retries : Nat
  /-- the management command whose response waits for the commit [16 R657] -/
  reply : Option Nat
  deriving DecidableEq, Repr

/-- The state of a firmware update (16 R648, R649). -/
structure FwUpdate where
  /-- the component accepted by UpdateComponent: record type -/
  rtype : Nat
  /-- size announced -/
  size : Nat
  /-- bytes programmed -/
  bytes : Nat := 0
  /-- the bytes programmed, as a little-endian number -/
  data : Nat := 0
  /-- what VerifyComplete has found; none before it -/
  verified : Option Bool := none
  /-- the copy has been read back and compared [16 R622] -/
  readBack : Bool := false
  /-- ApplyComplete has come and waits for the read-back [16 R622, R649] -/
  applying : Bool := false
  deriving DecidableEq, Repr

/-- One SPDM connection (16 R643, R644): the management port and the two DOE mailboxes. -/
structure Spdm where
  /-- GET_VERSION, GET_CAPABILITIES, NEGOTIATE_ALGORITHMS done: 0 to 3 [16 R644]; reset 0 -/
  negotiated : Nat := 0
  /-- a session is being set up by KEY_EXCHANGE [16 R644]; reset 0 -/
  handshake : Bool := false
  /-- a session is established [16 R644]; reset 0 -/
  session : Bool := false
  /-- the root to which the certificate chain of the session's mutually authenticated requester leads [16 R652]; reset none -/
  root : Option Nat := none
  deriving DecidableEq, Repr

/-- One entry of the measurement log (16 R646). -/
structure LogEntry where
  seq : BitVec 32
  time : W64
  index : Nat
  digest : Nat
  ident : Nat
  deriving DecidableEq, Repr

/-- Breeze (16). -/
structure Breeze where
  /-- BSTATE of MGT_BOOT_STATUS, 4 bits [16 R658]; reset 0 -/
  bstate : Nat := 0
  /-- STAGE of MGT_BOOT_STATUS, 8 bits [16 R658]; reset 0 -/
  stage : Nat := 0
  /-- CODE of MGT_BOOT_STATUS, 16 bits [16 R658]; reset 0 -/
  code : Nat := 0
  /-- MAIN_UP of MGT_BOOT_STATUS [16 R658]; reset 0 -/
  mainUp : Bool := false
  /-- the main side runs, as Breeze finds it at an M reset [16 R635]; reset 0 -/
  mainRuns : Bool := false
  /-- the check of stage 5 passed by a waiver, for the main side that it lets start [16 R641]; reset 0 -/
  underWaiver : Bool := false
  /-- stages 7 to 9 wait for the power-up turns of stage 6; what the self-test will find [16 R627; 19 R710]; reset none -/
  booting : Option (List (BitVec 24)) := none
  /-- IDENTITY_OK of MGT_BOOT_STATUS [16 R658]; reset 0 -/
  identityOk : Bool := false
  /-- WAIVED of MGT_BOOT_STATUS [16 R658]; reset 0 -/
  waived : Bool := false
  /-- LOG_WRAPPED of MGT_BOOT_STATUS [16 R658]; reset 0 -/
  logWrapped : Bool := false
  /-- MGT_PAIR_COMP, MGT_PAIR_VER_A, MGT_PAIR_VER_B [16 R658]; reset 0 -/
  pair : Nat × Nat × Nat × Nat := (0, 0, 0, 0)
  /-- FLASH_ERR of MGT_FLASH_STATUS [16 R658]; reset 0 -/
  flashErr : Bool := false
  /-- the public identity key, 57 bytes as a number [16 R629]; reset 0 -/
  pubKey : Nat := 0
  /-- DEV_SERIAL, 128 bits [20 R740]; reset 0 -/
  serial : BitVec 128 := 0
  /-- DEV_IF_BREEZE, 32 bits [20 R740]; reset 0 -/
  ifBreeze : Nat := 0
  /-- DEV_IF_EDDY, 32 bits [20 R740]; reset 0 -/
  ifEddy : Nat := 0
  /-- the flash records: key 2 * type + bank [16 R618]; reset erased -/
  flash : SMap FlashCopy := []
  /-- flash record writes, the one in progress first [16 R625]; reset none -/
  writes : List FlashWrite := []
  /-- the firmware update under way [16 R649]; reset none -/
  update : Option FwUpdate := none
  /-- the components accepted at PassComponentTable: record types [16 R651]; reset none -/
  offered : List Nat := []
  /-- the static address at which Breeze listens, taken from SETTINGS at P and M resets, 7 bits [16 R611]; reset 0x5C -/
  listen : Nat := 0x5C
  /-- the transport on MGT_SCL and MGT_SDA: I3C rather than SMBus [16 R612]; reset SMBus -/
  i3c : Bool := false
  /-- the I3C dynamic address [16 R612]; reset none -/
  i3cAddr : Option Nat := none
  /-- the MCTP endpoint identifier [16 R613]; reset none -/
  eid : Option Nat := none
  /-- the registered event receiver [16 R616]; reset none -/
  receiver : Option Nat := none
  /-- SPDM connections: 0 management port, 1 and 2 the DOE mailboxes of H0 and H1 [16 R643]; reset none -/
  spdm : SMap Spdm := []
  /-- the measured values by index: digest and identity [16 R645]; reset none -/
  measured : SMap (Nat × Nat) := []
  /-- the measurement log, newest first, 512 entries [16 R646]; reset empty -/
  log : List LogEntry := []
  /-- MGT_LOG_SEQ, 32 bits [16 R658]; reset 0 -/
  logSeq : BitVec 32 := 0
  /-- the firmware summaries that run: BREEZE_FW and EDDY_FW payload digests [16 R645]; reset 0 -/
  breezeDigest : Nat := 0
  eddyDigest : Nat := 0
  /-- GRADE of DEV_GRADE, taken from the GRADE record at P and F resets; 0 before that [01 R31]; reset 0 -/
  gradeLetter : Nat := 0
  /-- CORES_PER_CLUSTER of DEV_GRADE, taken with it [01 R31]; reset 0 -/
  gradePer : Nat := 0
  /-- DISABLED_c of the grade record, by cluster [01 R25]; reset 0 -/
  gradeMasks : SMap (BitVec 24) := []
  deriving DecidableEq, Repr

/-- The TAP (21 R757 to R761). -/
structure Tap where
  /-- TRST_N is low, and the TAP is held in Test-Logic-Reset [21 R743, R761]; reset 1: the internal pull-down holds it -/
  held : Bool := true
  /-- the instruction in force [21 R757]; reset IDCODE after Test-Logic-Reset -/
  instr : TapInstr := .idcode
  /-- the captured instruction register, 6 bits [21 R758]; reset 0b000001 -/
  captured : BitVec 6 := 1
  /-- the challenge of the challenge state [21 R759]; reset 0 -/
  challenge : Nat := 0
  /-- the response to the challenge has verified [21 R759]; reset 0 -/
  unlocked : Bool := false
  /-- the boundary register [21 R757]; reset 0 -/
  boundary : Nat := 0
  /-- what the boundary register drives on the pins; none while it drives nothing [21 R757]; reset none -/
  driven : Option Nat := none
  /-- the outputs are in high impedance by HIGHZ [21 R757]; reset 0 -/
  highz : Bool := false
  deriving DecidableEq, Repr

/-- What a group of output pins does (21 R742, R754): `driven` stands for the signals of its unit, `scanned` for what the boundary register drives. -/
inductive PinLevel where
  | low | high | highZ | idle | driven | scanned
  deriving DecidableEq, Repr

/-- The groups of output pins of R754; a GDDR7 channel 0 to 31, a host port 0 to 1, a fabric port 0 to 3. -/
inductive OutPin where
  | gddrReset (channel : Fin 32)
  | hostTx (port : Fin 2)
  | fabricTx (port : Fin 4)
  | thermtrip | pps | uartTx | flash | flashReset | tdo
  deriving DecidableEq, Repr

/-- Output pins that a command can change (21 R742, R754). -/
structure Pins where
  /-- THERMTRIP_N is driven low [19 R720]; reset released -/
  thermtripLow : Bool := false
  /-- PPS_OUT is high [14 R568]; reset low -/
  ppsHigh : Bool := false
  /-- the counter value of the last rise of PPS_OUT [14 R568]; reset none -/
  pps : Option Nat := none
  deriving DecidableEq, Repr

/-- The way by which an answer of Breeze leaves: the management port as an SMBus or I3C target with its address and the transmission unit in bytes, or the DOE mailbox of a host port (16 R611 to R613, R643). -/
inductive Via where
  | smbus (addr unit : Nat)
  | i3c (addr unit : Nat)
  | doe (port : Nat)
  deriving DecidableEq, Repr

/-- What leaves the device, newest first. -/
inductive Out where
  /-- a completion of a BAR0 or BAR2 read: port, bytes, data (20 R731, 15 R581) -/
  | readData (port : Nat) (bytes : Nat) (data : Nat)
  /-- an MSI-X message: port, vector, and the address and data of its table entry (15 R575, R599) -/
  | msix (port vector : Nat) (addr : W64) (data : W32)
  /-- a write to host memory: port, PASID, address, row or record bytes (15 R593, 08 R303) -/
  | hostWrite (port pasid addr bytes data : Nat)
  /-- a read request to host memory: port, PASID, address, bytes (15 R588, 08 R322) -/
  | hostRead (port pasid addr bytes : Nat)
  /-- an ATS translation request, a PRI page request, an Invalidate Completion (08 R322 to R325) -/
  | atsRequest (port pasid page : Nat)
  | pageRequest (port pasid page : Nat) (write : Bool)
  | invalidateDone (port pasid page : Nat)
  /-- a frame on a fabric port, its bytes from DA to FCS (12 R468) -/
  | frame (port : Nat) (bytes : List Byte)
  /-- an 802.1AS frame on a fabric port (12 R492) -/
  | ptpFrame (port : Nat)
  /-- a management answer: its way, command, status, data (16 R798) -/
  | answer (via : Via) (command status : Nat) (data : List Nat)
  /-- a Request Retry Status completion of a configuration request (16 R628) -/
  | retryStatus (port : Nat)
  /-- a PLDM PlatformEventMessage: kind and data (16 R616) -/
  | platformEvent (receiver : Nat) (kind : Nat) (data : Nat)
  /-- a console line: clusters 0 to 31 and the device 32 with the code of the fault latched; 64 a code of the boot log, 65 a stage begun (16 R614) -/
  | console (record code : Nat)
  /-- an IDE_KM answer of a DOE mailbox (15 R574) -/
  | ideKm (port : Nat) (data : Nat)
  /-- what the TAP shifts out on TDO: bits and data, 0 bits where the length is not given (21 R757, R760) -/
  | tdo (bits data : Nat)
  /-- a pin event named in a chapter -/
  | pin (name : Nat) (level : Bool)
  deriving DecidableEq, Repr

/-- The whole device. -/
structure State where
  /-- the model's own: commands that wait, first in first out; reset empty -/
  pending : List Instr := []
  /-- the model's own: the counter to which free values are applied; reset 0 (DESIGN CHOICE) -/
  free : Nat := 0
  /-- STEPPING of DEV_STEPPING: false A0, true B0 [20 R740]; reset B0 (DESIGN CHOICE) -/
  b0 : Bool := true
  /-- DEV_IF_ROM, 32 bits [20 R740]; reset 0x0002_0000 (DESIGN CHOICE) -/
  ifRom : Nat := 0x00020000
  /-- the Dalard image key of slot 0, 57 bytes as a number [02 R43]; reset 0 (DESIGN CHOICE) -/
  dalardKey : Nat := 0
  /-- the Dalard firmware key in the boot ROM, 57 bytes as a number [16 R631]; reset 0 (DESIGN CHOICE) -/
  fwKey : Nat := 0
  /-- DEV_IMG_* [02 R65]; reset 0 -/
  img : ImgRegs := {}
  /-- the loader: LOADER_BUSY is set while it runs a command [02 R65]; reset idle -/
  loader : Option LoaderRun := none
  /-- the image in force [02 R46]; reset none -/
  loaded : Loaded := {}
  /-- MSG_SELF.DEVICE, 10 bits [09 R399]; reset 0 -/
  self : Nat := 0
  /-- multicast groups 0 to 63, MSG_MCAST_* [09 R399]; reset unused -/
  groups : SMap Group := []
  /-- partitions 0 to 15 -/
  parts : SMap Part := []
  /-- clusters 0 to 31 -/
  clus : SMap Cluster := []
  /-- physical cores 0 to 767 by device-wide number [01 R14] -/
  cores : SMap Core := []
  /-- scratchpads: byte address 16 MiB * core + byte [07 R242]; reset zero -/
  spMem : Mem := []
  /-- cluster memories: byte address 128 MiB * cluster + byte [07 R242]; reset zero -/
  cmMem : Mem := []
  /-- device memory by physical byte address, 768 GiB [08 R312]; contents at reset not given (DESIGN CHOICE zero) -/
  dmMem : Mem := []
  /-- rows of device memory that hold an uncorrectable codeword [08 R343]; reset none -/
  dmBad : SMap Bool := []
  /-- corrected GDDR7 errors counted by the channel [08 R343]; reset 0 -/
  dmCorr : SMap Stat := []
  /-- the device page table [08 R316]; reset INVALID until a full load -/
  ptes : SMap Pte := []
  /-- a full load has set every entry of the page table; entries not listed are PRESENT with FRAME equal to their number [08 R318]; reset 0 -/
  ptIdentity : Bool := false
  /-- closed ranges of SAVE, DUMP and RESTORE: partition, address, length [11 R451]; reset none -/
  closedRanges : List (Nat × Nat × Nat) := []
  /-- the time base [14] -/
  time : TimeBlk := {}
  /-- power [19] -/
  pwr : PwrBlk := {}
  /-- the device first-fault record FLT_FF_* [18 R701]; reset 0 -/
  ff : FfRecord := {}
  /-- FLT_STAGING_DROPS [18 R702]; reset 0 -/
  stagingDrops : Stat := {}
  /-- host ports and rings [15] -/
  hp : HostBlk := {}
  /-- fabric [12] -/
  fab : FabBlk := {}
  /-- Breeze and flash [16] -/
  brz : Breeze := {}
  /-- the TAP [21] -/
  tap : Tap := {}
  /-- pins [21] -/
  pins : Pins := {}
  /-- what has left the device, newest first (the model's own record of its outputs); reset empty -/
  out : List Out := []
  deriving DecidableEq, Repr

/-- The machine right after a power-on reset and before boot stage 1 (19 R726, R729): every field at its P value. -/
def State.reset : State := {}

end Sys2Proof.Machine
end

