-- ==== Sys2Proof/Machine/Maps.lean ====
section
/-! DEFINITION. Reading and writing the tables and the byte memories of the state. -/

namespace Sys2Proof.Machine

/-- The entry of a table under a key; `d` where the key is not listed. -/
def mget (d : α) : SMap α → Nat → α
  | [], _ => d
  | (i, v) :: r, k => if i = k then v else mget d r k

/-- A table with the entry of one key set. -/
def mset : SMap α → Nat → α → SMap α
  | [], k, v => [(k, v)]
  | (i, w) :: r, k, v =>
    if k < i then (k, v) :: (i, w) :: r
    else if i = k then (k, v) :: r
    else (i, w) :: mset r k v

/-- A table with one entry changed by a function of the entry it holds. -/
def mmod (d : α) (m : SMap α) (k : Nat) (f : α → α) : SMap α := mset m k (f (mget d m k))

/-- A table without the entry of one key. -/
def mdel (m : SMap α) (k : Nat) : SMap α := m.filter (fun e => e.1 != k)

/-- The form of a byte memory: addresses strictly rising and no byte 0 listed. -/
abbrev Mem.wf (m : Mem) : Prop := m.Pairwise (fun x y => x.1 < y.1) ∧ ∀ c ∈ m, c.2 ≠ 0

/-- What an address that is not listed reads as: 0 (07 R284, 19 R729 for SRAM; device memory by the log). -/
def unlisted : Byte := 0

/-- One byte of a memory. -/
def readByte (m : Mem) (a : Nat) : Byte := mget unlisted m a

/-- The cells of a run of bytes from address `a`, the bytes equal to `unlisted` left out. -/
def cellsFrom (a : Nat) : List Byte → Mem
  | [] => []
  | b :: r => if b = unlisted then cellsFrom (a + 1) r else (a, b) :: cellsFrom (a + 1) r

/-- A memory with a run of bytes written from address `a`. -/
def writeBytes (m : Mem) (a : Nat) (bs : List Byte) : Mem :=
  m.filter (fun c => c.1 < a) ++ cellsFrom a bs ++ m.filter (fun c => a + bs.length ≤ c.1)

/-- `n` bytes of a memory from address `a`, lowest first. -/
def readBytes (m : Mem) (a n : Nat) : List Byte := (List.range n).map (fun i => readByte m (a + i))

/-- Bytes, lowest first, as one little-endian number. -/
def bytesNat : List Byte → Nat
  | [] => 0
  | b :: r => b.toNat + 256 * bytesNat r

/-- The `n` low bytes of a number, lowest first. -/
def natBytes : Nat → Nat → List Byte
  | 0, _ => []
  | n + 1, v => BitVec.ofNat 8 v :: natBytes n (v / 256)

/-- The row at a byte address (07 R242). -/
def readRow (m : Mem) (a : Nat) : Row := BitVec.ofNat 4096 (bytesNat (readBytes m a 512))

/-- A memory with the row at a byte address written (07 R242). -/
def writeRow (m : Mem) (a : Nat) (r : Row) : Mem := writeBytes m a (natBytes 512 r.toNat)

/-- A memory with every byte of a range at `unlisted`. -/
def clearRange (m : Mem) (a n : Nat) : Mem := m.filter (fun c => c.1 < a || a + n ≤ c.1)

/-- The number of bits set below `n`. -/
def bitsSet (v n : Nat) : Nat := ((List.range n).filter (fun i => v.testBit i)).length

end Sys2Proof.Machine
end

