-- ==== Sys2Proof/Machine/Operands.lean ====
section
/-! DEFINITION. Operand forms: registers, lanes, packed elements, element groups, and the random draws of an operation. -/

namespace Sys2Proof.Machine

/-! ## Registers of a core (03 R82, R83) -/

/-- X register `r`. -/
def getX (c : Core) (r : Nat) : W64 := mget 0 c.x r
/-- A core with X register `r` set. -/
def setX (c : Core) (r : Nat) (v : W64) : Core := { c with x := mset c.x r v }
/-- V register `r`. -/
def getV (c : Core) (r : Nat) : VReg := mget 0 c.v r
/-- A core with V register `r` set. -/
def setV (c : Core) (r : Nat) (v : VReg) : Core := { c with v := mset c.v r v }
/-- M register `r`; M0 reads all ones (03 R83). -/
def getM (c : Core) (r : Nat) : BitVec 64 := if r = 0 then BitVec.allOnes 64 else mget 0 c.m r
/-- A core with M register `r` set; a write of M0 is discarded. -/
def setM (c : Core) (r : Nat) (v : BitVec 64) : Core := if r = 0 then c else { c with m := mset c.m r v }

/-- The row of the register pair V2n:V2n+1 (03 R84). -/
def pairRow (c : Core) (v : Nat) : Row := getV c (v + 1) ++ getV c v
/-- The half of a row that a register of its pair takes (03 R84). -/
def rowHalf (r : Row) (odd : Bool) : VReg := r.extractLsb' (if odd then 2048 else 0) 2048

/-! ## Lanes and elements (06 R213, R214; 04 R135) -/

/-- Element `i` of `w` bits of a register or a row, counted from bit 0. -/
def elemOf (v : BitVec n) (w i : Nat) : Nat := (v.extractLsb' (w * i) w).toNat

/-- A register of `n` elements of `w` bits each, element 0 lowest. -/
def packElems (w : Nat) (es : List Nat) : Nat := es.foldr (fun e acc => acc <<< w ||| e % 2 ^ w) 0

/-- The bits of the elements whose number satisfies a condition. -/
def elemMask (w n : Nat) (p : Nat → Bool) : Nat := packElems w ((List.range n).map (fun i => if p i then 2 ^ w - 1 else 0))

/-- The values and the events of the active elements of an operation; an inactive element gives 0 and no event (06 R223). -/
def mapElems (n : Nat) (active : Nat → Bool) (f : Nat → Nat × Ev) : List (Nat × Ev) :=
  (List.range n).map (fun i => if active i then f i else (0, 0))

/-- The events of an operation: the events of its elements together (06 R235). -/
def joinEvents (es : List (Nat × Ev)) : Ev := es.foldl (fun a e => a ||| e.2) 0

/-- The register that 64 lane results form, with the events. -/
def laneResult (m : BitVec 64) (f : Nat → Nat × Ev) : VReg × Ev :=
  let es := mapElems 64 (fun i => m.getLsbD i) f
  (BitVec.ofNat 2048 (packElems 32 (es.map (·.1))), joinEvents es)

/-- The register that 128 packed results form, with the events: bit `i` of the mask governs elements `2i` and `2i + 1` (06 R221). -/
def packedResult (m : BitVec 64) (f : Nat → Nat × Ev) : VReg × Ev :=
  let es := mapElems 128 (fun i => m.getLsbD (i / 2)) f
  (BitVec.ofNat 2048 (packElems 16 (es.map (·.1))), joinEvents es)

/-- The mask register that 64 lane conditions form. -/
def maskResult (p : Nat → Bool) : BitVec 64 :=
  BitVec.ofNat 64 (packElems 1 ((List.range 64).map (fun i => if p i then 1 else 0)))

/-- A destination register after a masked write: an inactive lane keeps its value or is cleared by ZM (06 R222). -/
def mergeLanes (old val : VReg) (m : BitVec 64) (zm : Bool) : VReg :=
  let full := BitVec.ofNat 2048 (elemMask 32 64 (fun i => m.getLsbD i))
  (val &&& full) ||| (if zm then 0 else old &&& ~~~full)

/-- A destination mask register after a masked write (06 R222). -/
def mergeMask (old val m : BitVec 64) (zm : Bool) : BitVec 64 := (val &&& m) ||| (if zm then 0 else old &&& ~~~m)

/-- The packed format in force (06 R795). -/
def packedFmt (fp16Set : Bool) : Fmt := if fp16Set then fp16 else bf16

/-! ## Draws (06 R231, R232; 11 R438) -/

/-- What the draws of an operation take from outside the core's registers. -/
structure DrawCtx where
  /-- the partition's seed slots -/
  seeds : SMap (BitVec 128)
  /-- the partition step counter at issue -/
  step : W64
  /-- the core identity of R438 -/
  ident : Nat
  deriving DecidableEq, Repr

/-- The stream of the SR draws (06 R231). -/
def srStream : W32 := 0xFFFFFF00

/-- The 24-bit draw of an SR operation for element `k` (06 R231). -/
def srDraw (d : DrawCtx) (gcount : W64) (k : Nat) : Nat :=
  (gust (mget 0 d.seeds 15) d.step d.ident srStream (128 * gcount + BitVec.ofNat 64 k)).toNat % 2 ^ 24

/-- The draw of element `k` under a rounding mode: used by SR only. -/
def drawFor (d : DrawCtx) (gcount : W64) (rm k : Nat) : Nat := if rm = 4 then srDraw d gcount k else 0

end Sys2Proof.Machine
end

