-- ==== Sys2Proof/Machine/ArrayOps.lean ====
section
/-! DEFINITION. The arithmetic of the matrix array: elements, dot units, accumulator lanes, drains (04 R134 to R168). -/

namespace Sys2Proof.Machine

/-- What the array needs to know of a format (04 R134, R137, R138). -/
structure ArrayFmt where
  /-- element width in bits -/
  width : Nat
  /-- elements per vector, K -/
  k : Nat
  /-- bytes per vector -/
  vbytes : Nat
  /-- vectors per input row -/
  vectors : Nat
  /-- rows of a weight block without its scale row -/
  rows : Nat
  /-- the block carries a scale row -/
  scaled : Bool
  /-- the format runs in FP32 mode; otherwise in INT32 mode (both run in long mode) -/
  fp : Bool
  /-- WLD bank cycles -/
  cycles : Nat
  deriving DecidableEq, Repr

/-- The row of R134 for a format code. -/
def arrayFmt (code : Nat) : ArrayFmt :=
  match code with
  | 0x0 => ⟨8, 64, 64, 8, 8, false, true, 1⟩
  | 0x1 => ⟨8, 64, 64, 8, 8, false, true, 1⟩
  | 0x2 => ⟨8, 64, 64, 8, 8, false, false, 1⟩
  | 0x3 => ⟨8, 64, 64, 7, 8, true, true, 2⟩
  | 0x4 => ⟨8, 64, 64, 7, 8, true, true, 2⟩
  | 0x5 => ⟨4, 128, 64, 8, 8, false, true, 1⟩
  | 0x6 => ⟨4, 128, 64, 8, 8, false, false, 1⟩
  | 0x7 => ⟨4, 128, 64, 7, 8, true, true, 2⟩
  | 0x8 => ⟨4, 128, 64, 7, 8, true, true, 2⟩
  | 0x9 => ⟨6, 128, 96, 5, 12, true, true, 2⟩
  | 0xA => ⟨6, 128, 96, 5, 12, true, true, 2⟩
  | 0xB => ⟨16, 32, 64, 8, 8, false, true, 1⟩
  | _ => ⟨16, 32, 64, 8, 8, false, true, 1⟩

/-- The value of an element code of a format (04 R134, 05 R181 to R186). -/
def elemValue (format code : Nat) : Num :=
  match format with
  | 0x0 => decodeFp e4m3 code
  | 0x1 => decodeFp e5m2 code
  | 0x2 => decodeInt 8 0 code
  | 0x3 => decodeFp e4m3 code
  | 0x4 => decodeFp e5m2 code
  | 0x5 => decodeFp e2m1 code
  | 0x6 => decodeInt 4 0 code
  | 0x7 => decodeFp e2m1 code
  | 0x8 => decodeInt 4 (-2) code
  | 0x9 => decodeFp e2m3 code
  | 0xA => decodeFp e3m2 code
  | 0xB => decodeFp bf16 code
  | _ => decodeFp fp16 code

/-- The whole rows of a block as one number, the first row lowest. -/
def rowsNat (rows : List Row) : Nat := rows.foldr (fun r acc => acc <<< 4096 ||| r.toNat) 0

/-- The element code `k` of the vector that begins at byte `off` of a block of bits. -/
def codeAt (bits off width k : Nat) : Nat := natBits bits (8 * off + width * k) width

/-- The first scale byte of an input row (04 R137). -/
def scaleBase (f : ArrayFmt) : Nat := if f.vbytes = 96 then 480 else 448

/-- A product scaled by two E8M0 codes; a scale 0xFF makes it NaN (04 R149, R152). -/
def scaleProduct (p : Num) (sx sw : Nat) : Num :=
  if sx = 0xFF ∨ sw = 0xFF then .nan
  else match p with
  | .fin s m e k => .fin s m (e + sx + sw - 254) k
  | q => q

/-- The products of dot unit `j` for vector `v` of a row (04 R135 to R138, R149). -/
def products (format : Nat) (weights : List Row) (row : Row) (v j : Nat) : List Num :=
  let f := arrayFmt format
  let block := rowsNat weights
  let x := row.toNat
  (List.range f.k).map (fun k =>
    let p := (mulNum (elemValue format (codeAt x (f.vbytes * v) f.width k)) (elemValue format (codeAt block (f.vbytes * j) f.width k))).1
    if f.scaled then
      scaleProduct p (codeAt x (scaleBase f + 4 * v + k / 32) 8 0) (codeAt block (512 * f.rows + 4 * j + k / 32) 8 0)
    else p)

/-- Flags of CORE_MAT_FLAGS: 0 INT_SAT, 1 FP_OVF, 2 NAN (04 R179). -/
abbrev MatFlags := BitVec 3

/-- The array flags of one rounded FP32 result (04 R152). -/
def fpFlags (v : Num) (code : Nat) (ev : Ev) : MatFlags :=
  (if v == .nan || decodeFp fp32 code == .nan then 4 else 0) ||| (if ev &&& evOverflow ≠ 0 then 2 else 0)

/-- A 32-bit FP32 lane plus an exact value, rounded once with RNE (04 R149). -/
def addRound (cur : Nat) (s : Num) : Nat × MatFlags :=
  let (t, _) := addNum 0 (decodeFp fp32 cur) s
  let (c, ev) := encodeFp fp32 0 false 0 t
  (c, fpFlags t c ev)

/-- The integer value of an integer product. -/
def intOf : Num → Int
  | .fin s m e _ => let n : Int := (shiftI m e : Nat); if s then -n else n
  | _ => 0

/-- A value clamped to the INT32 range, with INT_SAT (04 R153). -/
def clamp32 (v : Int) : Int × MatFlags :=
  if v > 2147483647 then (2147483647, 1) else if v < -2147483648 then (-2147483648, 1) else (v, 0)

/-- A 32-bit two's-complement code. -/
def code32 (v : Int) : Nat := (v % 2 ^ 32).toNat

/-- A 32-bit lane after a broadcast MMUL (04 R149, R153). -/
def broadcastLane (accmode cur : Nat) (ps : List Num) : Nat × MatFlags :=
  if accmode = 1 then
    let (v, f) := clamp32 (signedOf 32 cur + (ps.map intOf).foldl (· + ·) 0)
    (code32 v, f)
  else addRound cur (anchoredSum ps)

/-- A 32-bit lane after a systolic MMUL: one rounding or one saturation per step; a value that has saturated stays so in the later steps (04 R161). -/
def systolicLane (accmode cur : Nat) (ps : List Num) : Nat × MatFlags :=
  ps.foldl (fun (a : Nat × MatFlags) p =>
    if accmode = 1 then
      if a.2 ≠ 0 then a
      else
        let (v, f) := clamp32 (signedOf 32 a.1 + intOf p)
        (code32 v, f)
    else
      let (c, f) := addRound a.1 p
      (c, a.2 ||| f)) (cur, 0)

/-- Tag 00, 01, 10 or 11 and the integer of a long lane (04 R154). -/
structure LongLane where
  tag : Nat
  a : Int
  deriving DecidableEq, Repr

/-- The lane that 128 bits hold (04 R154). -/
def longOf (bits : Nat) : LongLane := { tag := natBits bits 126 2, a := signedOf 126 bits }
/-- The bits of a long lane; a special tag holds A at zero (04 R154). -/
def longBits (l : LongLane) : Nat := l.tag <<< 126 ||| (if l.tag = 0 then (l.a % 2 ^ 126).toNat else 0)

/-- The tag of a value: 00 finite, 01 +infinity, 10 -infinity, 11 NaN (04 R154, R157). -/
def tagOf : Num → Nat
  | .nan => 3
  | .inf s => if s then 2 else 1
  | .fin .. => 0

/-- The tag of a sum of two tagged values (04 R152, R157, R158): 01 and 10 together give 11. -/
def tagSum (a b : Nat) : Nat := a ||| b

/-- The units of `2^eLo` of a finite product; none where a nonzero bit lies outside E_LO to E_LO + 117 (04 R156). -/
def longUnits (eLo : Int) : Num → Option Int
  | .fin s m e _ =>
    if m = 0 then some 0
    else
      let n := shiftI m (e - eLo)
      let back := if 0 ≤ e - eLo then m <<< (e - eLo).toNat else n <<< (eLo - e).toNat
      if back ≠ (if 0 ≤ e - eLo then n else m) ∨ n = 0 ∨ ilog2 m e > eLo + 117 then none
      else some (if s then -(n : Int) else n)
  | _ => some 0

/-- A is within -2^125 to 2^125 - 1 (04 R156). -/
def longInRange (a : Int) : Bool := -(2 ^ 125) ≤ a && a < 2 ^ 125

/-- A long lane after the exact addition of products; none on a range fault (04 R155 to R157). -/
def longAdd (eLo : Int) (l : LongLane) (ps : List Num) : Option LongLane :=
  let tag := ps.foldl (fun t p => tagSum t (tagOf p)) l.tag
  let sum := ps.foldl (fun (acc : Option Int) p => match acc, longUnits eLo p with
    | some a, some u => some (a + u)
    | _, _ => none) (some l.a)
  match sum with
  | none => none
  | some a => if tag ≠ 0 then some ⟨tag, 0⟩ else if longInRange a then some ⟨0, a⟩ else none

/-- Bits `128 j` and up of an entry in long mode, `32 j` and up in the 32-bit modes (04 R132). -/
def accLane (accmode : Nat) (bits : AccBits) (j : Nat) : Nat :=
  if accmode = 2 then natBits bits.toNat (128 * j) 128 else natBits bits.toNat (32 * j) 32

/-- An entry from its 64 lanes. -/
def accPack (accmode : Nat) (ls : List Nat) : AccBits :=
  BitVec.ofNat 8192 (packElems (if accmode = 2 then 128 else 32) ls)

/-- The 64 lanes of an entry after a non-bubble MMUL, and its flags; none on fault 0x010B (04 R149 to R161). -/
def mmulLanes (mode : MatMode) (zero : Bool) (weights : List Row) (row : Row) (v : Nat) (cur : AccBits) : Option (AccBits × MatFlags) :=
  let ls := (List.range 64).map (fun j =>
    let c := if zero then 0 else accLane mode.accmode cur j
    let ps := products mode.format weights row v j
    if mode.accmode = 2 then (longAdd mode.eLo (longOf c) ps).map (fun l => (longBits l, (0 : MatFlags)))
    else some (if mode.systolic then systolicLane mode.accmode c ps else broadcastLane mode.accmode c ps))
  if ls.any Option.isNone then none
  else
    let vs := ls.map (fun o => o.getD (0, 0))
    some (accPack mode.accmode (vs.map (·.1)), vs.foldl (fun f x => f ||| x.2) 0)

/-- The entry after a bubble MMUL: unchanged lanes, or +0 with ZERO; VALID clear (04 R148). -/
def bubbleEntry (zero : Bool) (e : AccEntry) : AccEntry := { bits := if zero then 0 else e.bits, valid := false }

/-- The 64 lanes of an entry after an LACCADD; none on fault 0x010B (04 R158). -/
def laccLanes (cur addend : AccBits) : Option AccBits :=
  let ls := (List.range 64).map (fun j =>
    let l := longOf (accLane 2 cur j)
    let r := longOf (accLane 2 addend j)
    let tag := tagSum l.tag r.tag
    if tag ≠ 0 then some (longBits ⟨tag, 0⟩)
    else if longInRange (l.a + r.a) then some (longBits ⟨0, l.a + r.a⟩) else none)
  if ls.any Option.isNone then none else some (accPack 2 (ls.map (fun o => o.getD 0)))

/-- The addend of an LACCADD: lane `j` of V4n+q supplies bits [32q+31:32q] of dot unit `j` (04 R158). -/
def laccAddend (v0 v1 v2 v3 : VReg) : AccBits :=
  accPack 2 ((List.range 64).map (fun j => elemOf v0 32 j ||| elemOf v1 32 j <<< 32 ||| elemOf v2 32 j <<< 64 ||| elemOf v3 32 j <<< 96))

/-- The value of a long lane (04 R154). -/
def longValue (eLo : Int) (l : LongLane) : Num :=
  match l.tag with
  | 0 => .fin (l.a < 0) l.a.natAbs eLo false
  | 1 => .inf false
  | 2 => .inf true
  | _ => .nan

/-- The value of a lane of an entry in a floating-point or long mode. -/
def laneValue (mode : MatMode) (bits : AccBits) (j : Nat) : Num :=
  let c := accLane mode.accmode bits j
  if mode.accmode = 2 then longValue mode.eLo (longOf c) else decodeFp fp32 c

/-- What an ADRAIN copies: 2,048 bits as FP32 or INT32, 1,024 bits as BF16, with the array flags (04 R167, R168, 05 R194). -/
def drainBits (mode : MatMode) (bf : Bool) (e : AccEntry) : Nat × MatFlags :=
  if !e.valid then (0, 0)
  else if bf then
    let rs := (List.range 64).map (fun j => encodeFp bf16 0 false 0 (laneValue mode e.bits j))
    (packElems 16 (rs.map (·.1)), if rs.any (fun r => r.2 &&& evOverflow ≠ 0) then 2 else 0)
  else if mode.accmode = 2 then
    let rs := (List.range 64).map (fun j => encodeFp fp32 0 false 0 (laneValue mode e.bits j))
    (packElems 32 (rs.map (·.1)), if rs.any (fun r => r.2 &&& evOverflow ≠ 0) then 2 else 0)
  else (e.bits.toNat % 2 ^ 2048, 0)

end Sys2Proof.Machine
end

