-- ==== Sys2Proof/Machine/Funcs.lean ====
section
/-! DEFINITION. The correctly rounded functions of latency row 7 (06 R233, R234), by fixed-point enclosures wide enough to round. -/

namespace Sys2Proof.Machine

/-- The fraction bits of the enclosures. -/
def fxP : Nat := 512

/-- The floor of the square root, by bisection over `fuel` bits. -/
def isqrtAux : Nat → Nat → Nat → Nat
  | 0, _, r => r
  | k + 1, n, r => let c := r + 2 ^ k; if c * c ≤ n then isqrtAux k n c else isqrtAux k n r

/-- The floor of the square root. -/
def isqrt (n : Nat) : Nat := isqrtAux (n.log2 / 2 + 1) n 0

/-- `2^p * atan(1/k)` or, with `hyp`, `2^p * atanh(1/k)`, over `fuel` terms. -/
def atanInv : Nat → Bool → Nat → Int → Nat → Int
  | 0, _, _, _, _ => 0
  | fuel + 1, hyp, k, t, n => t / (2 * n + 1 : Nat) + atanInv fuel hyp k ((if hyp then t else -t) / (k * k : Nat)) (n + 1)

/-- `2^p * ln 2`. -/
def ln2Fx (p : Nat) : Int :=
  let t (k : Nat) : Int := atanInv (p / 8) true k ((2 ^ p : Nat) / (k : Int)) 0
  18 * t 26 - 2 * t 4801 + 8 * t 8749

/-- `2^p * pi`. -/
def piFx (p : Nat) : Int :=
  let t (k : Nat) : Int := atanInv (p / 4) false k ((2 ^ p : Nat) / (k : Int)) 0
  16 * t 5 - 4 * t 239

/-- The sum of `x^n / n!` in fixed point from term `n`, `t` being term `n`. -/
def expTaylor : Nat → Nat → Int → Nat → Int → Int
  | 0, _, _, _, _ => 0
  | fuel + 1, p, x, n, t => t + expTaylor fuel p x (n + 1) (t * x / (2 ^ p * (n + 1) : Nat))

/-- `k` squarings in fixed point. -/
def sqTimes : Nat → Nat → Int → Int
  | 0, _, x => x
  | k + 1, p, x => sqTimes k p (x * x / (2 ^ p : Nat))

/-- `2^p * e^x` of a fixed-point `x`. -/
def expFx (p : Nat) (x : Int) : Int :=
  let q := p + 256
  let y := x * 2 ^ 256
  let l := ln2Fx q
  let k := y / l
  let r := y - k * l
  let t := sqTimes 16 q (expTaylor 60 q (r / 2 ^ 16) 0 (2 ^ q : Nat))
  let v := if 0 ≤ k then t * 2 ^ k.toNat else t / 2 ^ (-k).toNat
  v / 2 ^ 256

/-- The sum of `z^(2n+1)/(2n+1)` in fixed point. -/
def atanhTaylor : Nat → Nat → Int → Nat → Int → Int
  | 0, _, _, _, _ => 0
  | fuel + 1, p, z2, n, t => t / (2 * n + 1 : Nat) + atanhTaylor fuel p z2 (n + 1) (t * z2 / (2 ^ p : Nat))

/-- `2^p * ln (m * 2^e)` of a positive magnitude. -/
def lnFx (p : Nat) (m : Nat) (e : Int) : Int :=
  let k := ilog2 m e
  let f : Int := (shiftI m (e - k + (p : Int)) : Nat)
  let one : Int := (2 ^ p : Nat)
  let (f, k) := if 3 * one < 2 * f then (f / 2, k + 1) else (f, k)
  let z := (f - one) * one / (f + one)
  2 * atanhTaylor (p / 4) p (z * z / one) 0 z + k * ln2Fx p

/-- The alternating sum of sine or cosine in fixed point, `t` being the term of degree `n`. -/
def sinTaylor : Nat → Nat → Int → Nat → Int → Int
  | 0, _, _, _, _ => 0
  | fuel + 1, p, x2, n, t => t + sinTaylor fuel p x2 (n + 2) (-(t * x2 / (2 ^ p * ((n + 1) * (n + 2)) : Nat)))

/-- `2^p * sin x` or, with `cosine`, `2^p * cos x`, of `x = m * 2^e` exactly reduced (06 R234). -/
def sinFx (p : Nat) (cosine : Bool) (m : Nat) (e : Int) : Int :=
  let q := p + 192
  let x : Int := (shiftI m (e + (q : Int)) : Nat)
  let pi2 : Int := piFx q / 2
  let k : Int := (2 * x + pi2) / (2 * pi2)
  let r : Int := (x - k * pi2) / 2 ^ 192
  let r2 : Int := r * r / (2 ^ p : Nat)
  let quad := (k + (if cosine then 1 else 0)) % 4
  let v := if quad % 2 = 0 then sinTaylor 100 p r2 1 r else sinTaylor 100 p r2 0 (2 ^ p : Nat)
  if quad < 2 then v else -v

/-- The alternating sum of `erf` in fixed point without its factor, `t` being `x^(2n+1)/n!`. -/
def erfTaylor : Nat → Nat → Int → Nat → Int → Int
  | 0, _, _, _, _ => 0
  | fuel + 1, p, x2, n, t => t / (2 * n + 1 : Nat) + erfTaylor fuel p x2 (n + 1) (-(t * x2 / (2 ^ p * (n + 1) : Nat)))

/-- `2^p * erf x` of a fixed-point `x` below 4 in magnitude. -/
def erfFx (p : Nat) (x : Int) : Int :=
  let one : Int := (2 ^ p : Nat)
  let rootPi : Int := (isqrt ((piFx p).toNat * 2 ^ p) : Nat)
  2 * erfTaylor 300 p (x * x / one) 0 x * one / rootPi

/-- The half-width of the enclosure of a value computed as the fixed-point number `v`. -/
def fxMargin (v : Int) : Nat := 2 ^ 32 + v.natAbs / 2 ^ 300

/-- A transcendental value within `fxMargin` of the fixed-point number `v`, rounded once to FP32 with RNE: the rounding of the
end nearer zero, which equals that of the other end wherever the enclosure decides. The value is never exact. -/
def roundFx (p : Nat) (v : Int) : Nat × Ev :=
  encodeFp fp32 0 false 0 (.fin (v < 0) (v.natAbs - fxMargin v) (-(p : Int)) true)

/-- Whether both ends of the enclosure of `v` round alike. -/
def decidedFx (p : Nat) (v : Int) : Bool :=
  let c (m : Nat) := encodeFp fp32 0 false 0 (.fin (v < 0) m (-(p : Int)) true)
  c (v.natAbs - fxMargin v) == c (v.natAbs + fxMargin v)

/-- A value just below one, with a sign. -/
def nearOne (neg : Bool) : Nat × Ev := encodeFp fp32 0 false 0 (.fin neg (2 ^ 100 - 1) (-100) true)
/-- A positive value below every FP32 value. -/
def tinyValue : Nat × Ev := encodeFp fp32 0 false 0 (.fin false 1 (-400) true)
/-- A positive value above every FP32 value. -/
def hugeValue : Nat × Ev := encodeFp fp32 0 false 0 (.fin false 1 400 true)

/-- The fixed-point number of a signed magnitude. -/
def toFx (p : Nat) (neg : Bool) (m : Nat) (e : Int) : Int :=
  let x : Int := (shiftI m (e + (p : Int)) : Nat)
  if neg then -x else x

/-- Whether a finite magnitude is at least `k`. -/
def atLeast (m : Nat) (e : Int) (k : Nat) : Bool := m != 0 && (if 0 ≤ e then m <<< e.toNat ≥ k else m ≥ k <<< (-e).toNat)

/-- An exact FP32 result. -/
def exactFp (v : Num) : Nat × Ev := encodeFp fp32 0 false 0 v
/-- +1. -/
def oneNum : Num := .fin false 1 0 false
/-- The canonical NaN with INVALID (06 R234). -/
def domainError : Nat × Ev := (fp32.nanCode, evInvalid)
/-- An infinity with DIV_ZERO (06 R234). -/
def poleError (neg : Bool) : Nat × Ev := ((exactFp (.inf neg)).1, evDivZero)

/-- e^x (06 R234). -/
def fnExp (neg : Bool) (m : Nat) (e : Int) : Nat × Ev :=
  if m = 0 then exactFp oneNum
  else if atLeast m e 128 then (if neg then tinyValue else hugeValue)
  else roundFx fxP (expFx fxP (toFx fxP neg m e))

/-- 2^x (06 R234). -/
def fnExp2 (neg : Bool) (m : Nat) (e : Int) : Nat × Ev :=
  if atLeast m e 256 then (if neg then tinyValue else hugeValue)
  else
    let whole := shiftI m e
    if m = whole * 2 ^ (-e).toNat ∨ 0 ≤ e then exactFp (.fin false 1 (if neg then -(whole : Int) else whole) false)
    else roundFx fxP (expFx fxP (toFx fxP neg m e * ln2Fx fxP / (2 ^ fxP : Nat)))

/-- tanh x (06 R234). -/
def fnTanh (neg : Bool) (m : Nat) (e : Int) : Nat × Ev :=
  if m = 0 then exactFp (.fin neg 0 0 false)
  else if atLeast m e 32 then nearOne neg
  else
    let one : Int := (2 ^ fxP : Nat)
    let t := expFx fxP (2 * toFx fxP neg m e)
    roundFx fxP ((t - one) * one / (t + one))

/-- 1/(1 + e^-x) (06 R234). -/
def fnSigm (neg : Bool) (m : Nat) (e : Int) : Nat × Ev :=
  if m = 0 then exactFp (.fin false 1 (-1) false)
  else if atLeast m e 128 then (if neg then tinyValue else nearOne false)
  else
    let one : Int := (2 ^ fxP : Nat)
    let t := expFx fxP (-(toFx fxP neg m e))
    roundFx fxP (one * one / (one + t))

/-- erf x (06 R234). -/
def fnErf (neg : Bool) (m : Nat) (e : Int) : Nat × Ev :=
  if m = 0 then exactFp (.fin neg 0 0 false)
  else if atLeast m e 4 then nearOne neg
  else roundFx fxP (erfFx fxP (toFx fxP neg m e))

/-- sin x (06 R234). -/
def fnSin (neg : Bool) (m : Nat) (e : Int) : Nat × Ev :=
  if m = 0 then exactFp (.fin neg 0 0 false)
  else let v := sinFx fxP false m e; roundFx fxP (if neg then -v else v)

/-- cos x (06 R234). -/
def fnCos (m : Nat) (e : Int) : Nat × Ev :=
  if m = 0 then exactFp oneNum else roundFx fxP (sinFx fxP true m e)

/-- ln x or log2 x of a positive value (06 R234). -/
def fnLog (base2 : Bool) (m : Nat) (e : Int) : Nat × Ev :=
  let k := ilog2 m e
  let power := m == 2 ^ m.log2
  if power && k == 0 then exactFp (.fin false 0 0 false)
  else if power && base2 then exactFp (.fin (k < 0) k.natAbs 0 false)
  else
    let l := lnFx fxP m e
    roundFx fxP (if base2 then l * (2 ^ fxP : Nat) / ln2Fx fxP else l)

/-- The square root of a positive value (06 R234). -/
def fnSqrt (m : Nat) (e : Int) : Nat × Ev :=
  let (m, e) := if e % 2 = 0 then (m, e) else (2 * m, e - 1)
  let n := m * 2 ^ 200
  let r := isqrt n
  encodeFp fp32 0 false 0 (.fin false r ((e - 200) / 2) (r * r != n))

/-- The reciprocal square root of a positive value (06 R234). -/
def fnRsqrt (m : Nat) (e : Int) : Nat × Ev :=
  let (m, e) := if e % 2 = 0 then (m, e) else (2 * m, e - 1)
  let n := 2 ^ 400 / m
  let r := isqrt n
  encodeFp fp32 0 false 0 (.fin false r (-(e / 2) - 200) (r * r * m != 2 ^ 400))

/-- The quotient of two finite non-zero values, rounded with RNE (06 R234). -/
def fnQuot (neg : Bool) (m : Nat) (e : Int) (n : Nat) (f : Int) : Nat × Ev :=
  encodeFp fp32 0 false 0 (.fin neg (m <<< 100 / n) (e - f - 100) (m <<< 100 % n != 0))

/-- a / b (06 R234). -/
def fnDiv (a b : Num) : Nat × Ev :=
  match a, b with
  | .nan, _ => domainError
  | _, .nan => domainError
  | .inf _, .inf _ => domainError
  | .inf s, .fin t _ _ _ => exactFp (.inf (s != t))
  | .fin s _ _ _, .inf t => exactFp (.fin (s != t) 0 0 false)
  | .fin s m e _, .fin t n f _ =>
    if n = 0 then (if m = 0 then domainError else poleError (s != t))
    else if m = 0 then exactFp (.fin (s != t) 0 0 false)
    else fnQuot (s != t) m e n f

/-- A function of one argument, by its name in the table of R234, on a value. -/
def fnUnary (f : VFn) (a : Num) : Nat × Ev :=
  match f, a with
  | _, .nan => domainError
  | .rcp, .inf s => exactFp (.fin s 0 0 false)
  | .rcp, .fin s m e _ => if m = 0 then poleError s else fnQuot s 1 0 m e
  | .sqrt, .inf s => if s then domainError else exactFp (.inf false)
  | .sqrt, .fin s m e _ => if m = 0 then exactFp (.fin s 0 0 false) else if s then domainError else fnSqrt m e
  | .rsqrt, .inf s => if s then domainError else exactFp (.fin false 0 0 false)
  | .rsqrt, .fin s m e _ => if m = 0 then poleError s else if s then domainError else fnRsqrt m e
  | .div, _ => domainError
  | .exp, .inf s => exactFp (if s then .fin false 0 0 false else .inf false)
  | .exp, .fin s m e _ => fnExp s m e
  | .exp2, .inf s => exactFp (if s then .fin false 0 0 false else .inf false)
  | .exp2, .fin s m e _ => fnExp2 s m e
  | .log, .inf s => if s then domainError else exactFp (.inf false)
  | .log, .fin s m e _ => if m = 0 then poleError true else if s then domainError else fnLog false m e
  | .log2, .inf s => if s then domainError else exactFp (.inf false)
  | .log2, .fin s m e _ => if m = 0 then poleError true else if s then domainError else fnLog true m e
  | .tanh, .inf s => exactFp (.fin s 1 0 false)
  | .tanh, .fin s m e _ => fnTanh s m e
  | .sigm, .inf s => exactFp (if s then .fin false 0 0 false else oneNum)
  | .sigm, .fin s m e _ => fnSigm s m e
  | .erf, .inf s => exactFp (.fin s 1 0 false)
  | .erf, .fin s m e _ => fnErf s m e
  | .sin, .inf _ => domainError
  | .sin, .fin s m e _ => fnSin s m e
  | .cos, .inf _ => domainError
  | .cos, .fin _ m e _ => fnCos m e

end Sys2Proof.Machine
end

