-- ==== Sys2Proof/Machine/VectorOps.lean ====
section
/-! DEFINITION. What the operations of the VEC and RED slots compute (06 R219 to R239, 13 R512 to R518). -/

namespace Sys2Proof.Machine

/-- Latency rows 3 to 9 and 11 of LT1 (03 R95). -/
def latAcc : Nat := 2
/-- Latency row 4. -/
def latAdd : Nat := 3
/-- Latency row 5. -/
def latFma : Nat := 4
/-- Latency row 6. -/
def latCvt : Nat := 3
/-- Latency row 7. -/
def latFn : Nat := 12
/-- Latency row 8. -/
def latRed : Nat := 9
/-- Latency row 9. -/
def latRow : Nat := 4
/-- Latency row 11. -/
def latCnt : Nat := 6
/-- Latency rows 0 and 1 (03 R95). -/
def latMat (systolic : Bool) : Nat := if systolic then 136 else 10

/-- What a VEC or RED operation reads: the core at issue, the draws' context, and the SR counter of this slot. -/
structure VecIn where
  c : Core
  d : DrawCtx
  gcount : W64
  deriving DecidableEq, Repr

/-- Results with the number of issue positions after which each is visible. -/
abbrev Effs := List (Nat × FlightEff)

/-- A V result with its events. -/
def vResult (lat : Nat) (vd : Nat) (m : BitVec 64) (zm : Bool) (r : VReg × Ev) : Effs :=
  [(lat, .writeV vd r.1 m zm), (lat, .vecEvents r.2)]

/-! ## Element functions -/

/-- VADD, VSUB, VMUL on one element of a format (06 R219, R224). -/
def arithElem (o : VArith) (f : Fmt) (rm r a b : Nat) : Nat × Ev :=
  let x := decodeFp f a
  let y := decodeFp f b
  let (v, e) := match o with
    | .add => addNum rm x y
    | .sub => addNum rm x (negNum y)
    | .mul => mulNum x y
  let (c, e2) := encodeFp f rm false r v
  (c, e ||| e2)

/-- VFMA, VFMS, VFNMA on one element (06 R219, R224). -/
def fusedElem (o : VFused) (f : Fmt) (rm r a b c : Nat) : Nat × Ev :=
  let x := decodeFp f a
  let y := decodeFp f b
  let z := decodeFp f c
  let (v, e) := match o with
    | .fma => fmaNum rm x y z
    | .fms => fmaNum rm x y (negNum z)
    | .fnma => fmaNum rm (negNum x) y z
  let (k, e2) := encodeFp f rm false r v
  (k, e ||| e2)

/-- VMIN (`big` clear) and VMAX on one element (06 R224). -/
def minmaxElem (big : Bool) (f : Fmt) (a b : Nat) : Nat × Ev :=
  let x := decodeFp f a
  let y := decodeFp f b
  if x = .nan ∨ y = .nan then (f.nanCode, evInvalid)
  else if ltNum x y then (if big then b else a, 0) else (if big then a else b, 0)

/-- A 32-bit result that wraps, or saturates under SATI; a clamp differs from the exact sum, which is INEXACT (05 R194; 06 R219). -/
def wrapOrSat (sat : Bool) (v : Int) : Nat × Ev :=
  if sat && v > 2147483647 then (0x7FFFFFFF, evSaturate ||| evInexact)
  else if sat && v < -2147483648 then (0x80000000, evSaturate ||| evInexact)
  else (code32 v, 0)

/-- The lane operations that are not a rounding: on lanes `a` and `b`, with the mask bit of VSEL in `sel` (06 R219). -/
def laneElem (o : VLane) (sati sel : Bool) (imm : Nat) (a b : Nat) : Nat × Ev :=
  match o with
  | .min => minmaxElem false fp32 a b
  | .max => minmaxElem true fp32 a b
  | .abs => (a % 2 ^ 31, 0)
  | .neg => (a ^^^ 2 ^ 31, 0)
  | .mov => (a, 0)
  | .bcast => (a, 0)
  | .sel => (if sel then a else b, 0)
  | .iadd => wrapOrSat sati (signedOf 32 a + signedOf 32 b)
  | .isub => wrapOrSat sati (signedOf 32 a - signedOf 32 b)
  | .imul => wrapOrSat sati (signedOf 32 a * signedOf 32 b)
  | .and => (a &&& b, 0)
  | .or => (a ||| b, 0)
  | .xor => (a ^^^ b, 0)
  | .shl => ((a <<< (b % 32)) % 2 ^ 32, 0)
  | .shr => (a >>> (b % 32), 0)
  | .sra => (code32 (signedOf 32 a >>> (b % 32)), 0)
  | .shli => ((a <<< imm) % 2 ^ 32, 0)
  | .shri => (a >>> imm, 0)
  | .srai => (code32 (signedOf 32 a >>> imm), 0)

/-- The packed forms of VMIN, VMAX, VABS and VNEG (06 R214). -/
def lanePacked (o : VLane) (f : Fmt) (a b : Nat) : Nat × Ev :=
  match o with
  | .min => minmaxElem false f a b
  | .max => minmaxElem true f a b
  | .abs => (a % 2 ^ 15, 0)
  | .neg => (a ^^^ 2 ^ 15, 0)
  | _ => (a, 0)

/-- Whether an operation has a packed form (06 R219). -/
def laneHasPacked (o : VLane) : Bool := o == .min || o == .max || o == .abs || o == .neg

/-- A condition of VCMP on two FP32 lanes (06 R224, 22 R784). -/
def cmpLane (cond a b : Nat) : Bool :=
  let x := decodeFp fp32 a
  let y := decodeFp fp32 b
  if x = .nan ∨ y = .nan then cond == 1 || cond == 7
  else
    let eq := eqNum x y
    let lt := ltNum x y && !eq
    match cond with
    | 0 => eq
    | 1 => !eq
    | 2 => lt
    | 3 => lt || eq
    | 4 => !lt && !eq
    | 5 => !lt
    | 6 => true
    | _ => false

/-! ## Operations of the VEC slots -/

/-- A row-7 function (06 R233, R234). -/
def evalFn (i : VecIn) (f : VFn) (a : V3) : Effs :=
  let m := getM i.c a.mm.toNat
  let va := getV i.c a.va.toNat
  let vb := getV i.c a.vb.toNat
  vResult latFn a.vd.toNat m a.zm (laneResult m (fun k =>
    if f = .div then fnDiv (decodeFp fp32 (elemOf va 32 k)) (decodeFp fp32 (elemOf vb 32 k))
    else fnUnary f (decodeFp fp32 (elemOf va 32 k))))

/-- VADD, VSUB, VMUL (06 R219). -/
def evalArith (i : VecIn) (o : VArith) (rm : Nat) (a : V3) : Effs :=
  let m := getM i.c a.mm.toNat
  let va := getV i.c a.va.toNat
  let vb := getV i.c a.vb.toNat
  let f := packedFmt i.c.packedFp16
  vResult latAdd a.vd.toNat m a.zm (if a.x0
    then packedResult m (fun k => arithElem o f rm (drawFor i.d i.gcount rm k) (elemOf va 16 k) (elemOf vb 16 k))
    else laneResult m (fun k => arithElem o fp32 rm (drawFor i.d i.gcount rm k) (elemOf va 32 k) (elemOf vb 32 k)))

/-- VFMA, VFMS, VFNMA (06 R219). -/
def evalFused (i : VecIn) (o : VFused) (a : VF) : Effs :=
  let m := getM i.c a.mm.toNat
  let va := getV i.c a.va.toNat
  let vb := getV i.c a.vb.toNat
  let vc := getV i.c a.vc.toNat
  let rm := a.rm.toNat
  let f := packedFmt i.c.packedFp16
  vResult latFma a.vd.toNat m a.zm (if a.p
    then packedResult m (fun k => fusedElem o f rm (drawFor i.d i.gcount rm k) (elemOf va 16 k) (elemOf vb 16 k) (elemOf vc 16 k))
    else laneResult m (fun k => fusedElem o fp32 rm (drawFor i.d i.gcount rm k) (elemOf va 32 k) (elemOf vb 32 k) (elemOf vc 32 k)))

/-- The lane operations (06 R219). VSEL reads its select mask in the mask field and acts on every lane (22 R784, R785). -/
def evalLane (i : VecIn) (o : VLane) (a : V3) : Effs :=
  let sel := getM i.c a.mm.toNat
  let m := if o = .sel then BitVec.allOnes 64 else sel
  let va := getV i.c a.va.toNat
  let vb := getV i.c a.vb.toNat
  let imm := a.vb.toNat % 32
  let xs := (getX i.c imm).toNat % 2 ^ 32
  let f := packedFmt i.c.packedFp16
  vResult latAdd a.vd.toNat m a.zm (if a.x0 && laneHasPacked o
    then packedResult m (fun k => lanePacked o f (elemOf va 16 k) (elemOf vb 16 k))
    else laneResult m (fun k => laneElem o a.x0 (sel.getLsbD k) imm (if o = .bcast then xs else elemOf va 32 k) (elemOf vb 32 k)))

/-- VCMP (06 R224). -/
def evalCmp (i : VecIn) (cond : Nat) (a : MD) : Effs :=
  let va := getV i.c a.va.toNat
  let vb := getV i.c a.vb.toNat
  [(latAdd, .writeM a.md.toNat (maskResult (fun k => cmpLane cond (elemOf va 32 k) (elemOf vb 32 k))) (getM i.c a.mm.toNat) a.zm)]

/-- VCLASS (06 R219, 22 R786). -/
def evalClass (i : VecIn) (a : CL) : Effs :=
  let va := getV i.c a.va.toNat
  [(latAdd, .writeM a.md.toNat (maskResult (fun k => a.cls.getLsbD (classOf (elemOf va 32 k)))) (getM i.c a.mm.toNat) a.zm)]

/-- MAND, MOR, MXOR, MANDN (06 R219). -/
def evalMask (i : VecIn) (o : MLogic) (a : ML) : Effs :=
  let x := getM i.c a.ma.toNat
  let y := getM i.c a.mb.toNat
  let v := match o with
    | .and => x &&& y
    | .or => x ||| y
    | .xor => x ^^^ y
    | .andn => x &&& ~~~y
  [(latAdd, .writeM a.md.toNat v (getM i.c a.mm.toNat) a.zm)]

/-- VACC: forms 0 to 5 (06 R225, R226; 04 R159). -/
def evalAcc (i : VecIn) (form : Nat) (a : AC) : Effs :=
  let e : AccEntry := mget {} i.c.mat.acc a.e.toNat
  let m := getM i.c a.mm.toNat
  let r := laneResult m (fun k =>
    if form = 0 then (accLane 0 e.bits k, 0)
    else if form = 1 then
      let l := longOf (accLane 2 e.bits k)
      let (c, ev) := encodeFp fp32 0 false 0 (longValue i.c.mat.mode.eLo l)
      (c, if l.tag = 0 then ev else 0)
    else (natBits (accLane 2 e.bits k) (32 * (form - 2)) 32, 0))
  vResult latAcc a.vd.toNat m a.zm r ++
    (if a.md = 0 then [] else [(latAcc, .writeM a.md.toNat (if e.valid then BitVec.allOnes 64 else 0) (BitVec.allOnes 64) false)])

/-- VCVT (06 R227). -/
def evalCvt (i : VecIn) (a : CV) : Effs :=
  let m := getM i.c a.mm.toNat
  let va := getV i.c a.va.toNat
  let rm := a.rm.toNat
  vResult latCvt a.vd.toNat m a.zm (laneResult m (fun k =>
    let r := drawFor i.d i.gcount rm k
    if a.dir then encodeFp fp32 rm a.sat r (decodeInt 32 0 (elemOf va 32 k))
    else encodeInt 32 0 rm r (decodeFp fp32 (elemOf va 32 k))))

/-- The width of an element of a narrow format (04 R134). -/
def narrowWidth (format : Nat) : Nat := (arrayFmt format).width

/-- One FP32 value narrowed to an element of a format (06 R228, 05 R195 to R197). -/
def narrowElem (format rm : Nat) (sat : Bool) (r : Nat) (v : Num) : Nat × Ev :=
  match format with
  | 0x0 => encodeFp e4m3 rm sat r v
  | 0x1 => encodeFp e5m2 rm sat r v
  | 0x2 => encodeInt 8 0 rm r v
  | 0x3 => encodeFp e4m3 rm sat r v
  | 0x4 => encodeFp e5m2 rm sat r v
  | 0x5 => encodeFp e2m1 rm sat r v
  | 0x6 => encodeInt 4 0 rm r v
  | 0x7 => encodeFp e2m1 rm sat r v
  | 0x8 => encodeInt 4 (-2) rm r v
  | 0x9 => encodeFp e2m3 rm sat r v
  | 0xA => encodeFp e3m2 rm sat r v
  | 0xB => encodeFp bf16 rm sat r v
  | _ => encodeFp fp16 rm sat r v

/-- emax of R199. -/
def mxEmax (format : Nat) : Int :=
  match format with
  | 0x3 => 8
  | 0x4 => 15
  | 0xA => 4
  | 0x9 => 2
  | 0x7 => 2
  | _ => 0

/-- The larger of two finite magnitudes, as `floor(log2)`; none for zero. -/
def maxLog (a : Option Int) (v : Num) : Option Int :=
  match v with
  | .fin _ m e _ => if m = 0 then a else some (match a with | none => ilog2 m e | some x => max x (ilog2 m e))
  | _ => a

/-- A value times a power of two. -/
def scaleNum (k : Int) : Num → Num
  | .fin s m e t => .fin s m (e + k) t
  | v => v

/-- The quantisation of 32 FP32 values to one MX block: its scale and its elements with their events (05 R199). -/
def mxBlock (format rm : Nat) (draw : Nat → Nat) (xs : List Num) : Nat × List (Nat × Ev) :=
  if xs.any (fun x => match x with | .fin .. => false | _ => true) then
    (0xFF, xs.map (fun _ => (0, evInvalid)))
  else match xs.foldl maxLog none with
  | none => (0x7F, xs.map (fun _ => (0, 0)))
  | some l =>
    let scale := (max 0 (min 0xFE (l - mxEmax format + 127))).toNat
    (scale, xs.zipIdx.map (fun (x, k) => narrowElem format rm true (draw k) (scaleNum (127 - (scale : Int)) x)))

/-- VCVTN in a format that is not MX (06 R228). -/
def evalNarrow (i : VecIn) (format vd va q rm : Nat) (sat : Bool) (mm : Nat) (zm : Bool) : Effs :=
  let m := getM i.c mm
  let w := narrowWidth format
  let src := getV i.c va
  let es := mapElems 64 (fun k => m.getLsbD k) (fun k => narrowElem format rm sat (drawFor i.d i.gcount rm k) (decodeFp fp32 (elemOf src 32 k)))
  let written := elemMask w 64 (fun k => m.getLsbD k || zm) <<< (64 * q * w)
  let val := packElems w (es.map (·.1)) <<< (64 * q * w)
  [(latCvt, .mergeV vd (BitVec.ofNat 2048 val) (~~~(BitVec.ofNat 2048 written))), (latCvt, .vecEvents (joinEvents es))]

/-- VCVTN in an MX format (06 R228, 05 R199, 22 R783). -/
def evalNarrowMx (i : VecIn) (format vd va q : Nat) (sr : Bool) (soff : Nat) : Effs :=
  let w := narrowWidth format
  let rm := if sr then 4 else 0
  let src := getV i.c va
  let xs := (List.range 64).map (fun k => decodeFp fp32 (elemOf src 32 k))
  let b0 := mxBlock format rm (fun k => drawFor i.d i.gcount rm k) (xs.take 32)
  let b1 := mxBlock format rm (fun k => drawFor i.d i.gcount rm (32 + k)) (xs.drop 32)
  let es := b0.2 ++ b1.2
  let group := BitVec.ofNat 2048 (elemMask w 64 (fun _ => true) <<< (64 * q * w))
  let val := BitVec.ofNat 2048 (packElems w (es.map (·.1)) <<< (64 * q * w))
  let scales := BitVec.ofNat 2048 ((b0.1 ||| b1.1 <<< 8) <<< (8 * soff))
  let smask := BitVec.ofNat 2048 (0xFFFF <<< (8 * soff))
  let ev := (latCvt, FlightEff.vecEvents (joinEvents es))
  if vd % 2 = 1 then [(latCvt, .mergeV vd ((val &&& ~~~smask) ||| scales) (~~~(group ||| smask))), ev]
  else [(latCvt, .mergeV vd val (~~~group)), (latCvt, .mergeV (vd + 1) scales (~~~smask)), ev]

/-- VCVTN (06 R228). -/
def evalCvtn (i : VecIn) (format : Nat) (a : NArgs) : Effs :=
  match a with
  | .nn vd va q rm sat mm zm => evalNarrow i format vd.toNat va.toNat q.toNat rm.toNat sat mm.toNat zm
  | .nx vd va q sr soff2 => evalNarrowMx i format vd.toNat va.toNat q.toNat sr (2 * soff2.toNat)

/-- VCVTW (06 R229). -/
def evalCvtw (i : VecIn) (format : Nat) (a : WArgs) : Effs :=
  let w := narrowWidth format
  match a with
  | .wn vd va q mm zm =>
    let m := getM i.c mm.toNat
    let src := getV i.c va.toNat
    vResult latCvt vd.toNat m zm (laneResult m (fun k => encodeFp fp32 0 false 0 (elemValue format (elemOf src w (64 * q.toNat + k)))))
  | .wx vd va q sat soff2 =>
    let m := BitVec.allOnes 64
    let src := getV i.c va.toNat
    let vs := getV i.c (va.toNat ||| 1)
    vResult latCvt vd.toNat m false (laneResult m (fun k =>
      let scale := elemOf vs 8 (2 * soff2.toNat + k / 32)
      let x := elemValue format (elemOf src w (64 * q.toNat + k))
      encodeFp fp32 0 sat 0 (if scale = 0xFF then .nan else scaleNum ((scale : Int) - 127) x)))

/-! ## Block-integer operations (05 R205 to R212, 13 R512 to R518) -/

/-- The fields of a block-integer header (05 R206). -/
structure BiHeader where
  exp : Nat
  h : Nat
  reserved : Nat
  esc : Bool
  poison : Bool
  deriving DecidableEq, Repr

/-- The header that 32 bits hold. -/
def biHeader (w : Nat) : BiHeader :=
  { exp := natBits w 16 16, h := natBits w 8 8, reserved := natBits w 2 6, esc := w.testBit 1, poison := w.testBit 0 }

/-- A header that raises 0x0120 where it is used (13 R516). -/
def BiHeader.bad (h : BiHeader) : Bool := h.reserved != 0 || h.h > 20

/-- The integer nearest a value under RNE or SR. -/
def roundInt (rm r : Nat) (v : Num) : Int × Bool :=
  match v with
  | .fin s m e t => let (n, x) := roundGrid rm s r m e t 0; (if s then -(n : Int) else n, x)
  | _ => (0, false)

/-- One lane of a quantisation: q, ESC, POISON, events (05 R209, 06 R230). -/
def quantLane (hd : BiHeader) (rm r : Nat) (v : Num) : Int × Bool × Bool × Ev :=
  match v with
  | .nan => (0, false, true, evInvalid)
  | .inf _ => (0, false, true, evInvalid)
  | .fin s m e t =>
    if hd.exp = 0x8000 then (0, m != 0, false, 0)
    else
      let (q, inexact) := roundInt rm r (.fin s m (e - signedOf 16 hd.exp) t)
      let lim : Int := 2 ^ (30 - hd.h)
      if (q.natAbs : Int) > lim then (if q < 0 then -lim else lim, true, false, 0)
      else (q, false, false, evIf inexact evInexact)

/-- The header that governs lane `k` of a data register, from Vh at lane HL (13 R512). -/
def headerFor (vh : VReg) (hl k : Nat) : Nat := elemOf vh 32 (hl + k / 32)

/-- A late fault in place of a result (13 R517). -/
def lateOnly (lat code : Nat) : Effs := [(lat, .lateFault code 0)]

/-- VBIQ form 0 (13 R514). -/
def evalBiq (i : VecIn) (sr : Bool) (a : BI) : Effs :=
  let vh := getV i.c a.vh.toNat
  let hl := 2 * a.hl2.toNat
  if (biHeader (elemOf vh 32 hl)).bad || (biHeader (elemOf vh 32 (hl + 1))).bad then lateOnly latCvt 0x0120
  else
    let rm := if sr then 4 else 0
    let va := getV i.c a.va.toNat
    let qs := (List.range 64).map (fun k => quantLane (biHeader (headerFor vh hl k)) rm (drawFor i.d i.gcount rm k) (decodeFp fp32 (elemOf va 32 k)))
    let esc := qs.any (fun q => q.2.1)
    let clamped := qs.zipIdx.any (fun (q, k) => q.2.1 && (biHeader (headerFor vh hl k)).exp != 0x8000)
    let poison := qs.any (fun q => q.2.2.1)
    [(latCvt, .writeV a.vd.toNat (BitVec.ofNat 2048 (packElems 32 (qs.map (fun q => code32 q.1)))) (BitVec.allOnes 64) false),
      (latCvt, .vecEvents (qs.foldl (fun e q => e ||| q.2.2.2) 0)), (latCvt, .collCount (esc && clamped) poison)]

/-- VBIQ form 1 (13 R514). -/
def evalBiqMark (i : VecIn) (a : BI) : Effs :=
  let vh := getV i.c a.vh.toNat
  let hl := 2 * a.hl2.toNat
  if (biHeader (elemOf vh 32 hl)).bad || (biHeader (elemOf vh 32 (hl + 1))).bad then lateOnly latCvt 0x0120
  else
    let va := getV i.c a.va.toNat
    let qs := (List.range 64).map (fun k => quantLane (biHeader (headerFor vh hl k)) 0 0 (decodeFp fp32 (elemOf va 32 k)))
    let bits (l : List (Int × Bool × Bool × Ev)) : Nat := (if l.any (fun q => q.2.1) then 2 else 0) ||| (if l.any (fun q => q.2.2.1) then 1 else 0)
    let extra := bits (qs.take 32) <<< (32 * hl) ||| bits (qs.drop 32) <<< (32 * (hl + 1))
    [(latCvt, .writeV a.vd.toNat (vh ||| BitVec.ofNat 2048 extra) (BitVec.allOnes 64) false)]

/-- The header that a magnitude bound gives (13 R515). -/
def scaleLane (h : Nat) (m : Nat) : Nat × Ev :=
  let nil := 0x8000 <<< 16 ||| h <<< 8
  match decodeFp fp32 m with
  | .fin s n e _ =>
    if n = 0 then (nil, 0)
    else if s then (nil ||| 1, evInvalid)
    else (((ilog2 n e + h - 29) % 2 ^ 16).toNat <<< 16 ||| h <<< 8, 0)
  | _ => (nil ||| 1, evInvalid)

/-- VBIQ form 2 (13 R515, R518). -/
def evalBiqScale (i : VecIn) (a : V3) : Effs :=
  let va := getV i.c a.va.toNat
  let h := a.vb.toNat % 32
  let r := laneResult (BitVec.allOnes 64) (fun k => scaleLane h (elemOf va 32 k))
  vResult latCvt a.vd.toNat (BitVec.allOnes 64) a.zm r ++ [(latCvt, .collCount false (r.2 != 0))]

/-- VBIADD form 0 (13 R514, R516). -/
def evalBiadd (i : VecIn) (a : V3) : Effs :=
  let va := getV i.c a.va.toNat
  let vb := getV i.c a.vb.toNat
  let qs := (List.range 64).map (fun k => signedOf 32 (elemOf va 32 k) + signedOf 32 (elemOf vb 32 k))
  if qs.any (fun q => q.natAbs > 2 ^ 30) then lateOnly latAdd 0x0121
  else [(latAdd, .writeV a.vd.toNat (BitVec.ofNat 2048 (packElems 32 (qs.map code32))) (BitVec.allOnes 64) a.zm)]

/-- One lane of a header sum; none on a mismatch (13 R516). -/
def headerSum (x y : Nat) : Option Nat :=
  let a := biHeader x
  let b := biHeader y
  if a.exp ≠ b.exp ∨ a.h ≠ b.h ∨ a.reserved ≠ 0 ∨ b.reserved ≠ 0 then none else some (x ||| (y &&& 3))

/-- VBIADD form 1 (13 R516). -/
def evalBiaddHeader (i : VecIn) (a : V3) : Effs :=
  let va := getV i.c a.va.toNat
  let vb := getV i.c a.vb.toNat
  let qs := (List.range 64).map (fun k => headerSum (elemOf va 32 k) (elemOf vb 32 k))
  if qs.any Option.isNone then lateOnly latAdd 0x0120
  else [(latAdd, .writeV a.vd.toNat (BitVec.ofNat 2048 (packElems 32 (qs.map (fun q => q.getD 0)))) (BitVec.allOnes 64) a.zm)]

/-- One lane of a block brought back to FP32 (05 R212, 06 R230). -/
def bidqLane (hd : BiHeader) (q : Nat) : Nat × Ev :=
  if hd.poison then (0x7FC00000, 0)
  else if hd.exp = 0x8000 then (0, 0)
  else encodeFp fp32 0 false 0 (decodeInt 32 (signedOf 16 hd.exp) q)

/-- VBIDQ (13 R514). -/
def evalBidq (i : VecIn) (a : BI) : Effs :=
  let vh := getV i.c a.vh.toNat
  let hl := 2 * a.hl2.toNat
  if (biHeader (elemOf vh 32 hl)).bad || (biHeader (elemOf vh 32 (hl + 1))).bad then lateOnly latCvt 0x0120
  else
    let va := getV i.c a.va.toNat
    vResult latCvt a.vd.toNat (BitVec.allOnes 64) false (laneResult (BitVec.allOnes 64) (fun k => bidqLane (biHeader (headerFor vh hl k)) (elemOf va 32 k)))

/-- VGUST (06 R232). -/
def evalGust (i : VecIn) (seed : Nat) (a : GU) : Effs :=
  let m := getM i.c a.mm.toNat
  let stream : W32 := (getX i.c a.xs.toNat).extractLsb' 0 32
  let base := getX i.c a.xe.toNat
  [(latAdd, .writeV a.vd.toNat (laneResult m (fun k => ((gust (mget 0 i.d.seeds seed) i.d.step i.d.ident stream (base + BitVec.ofNat 64 k)).toNat % 2 ^ 32, 0))).1 m a.zm)]

/-- The results of a VEC operation (06 R219). VPFMT has no result of a latency row. -/
def evalVec (i : VecIn) (o : VecOp) : Effs :=
  match o with
  | .nop => []
  | .fn f a => evalFn i f a
  | .arith o rm a => evalArith i o rm.toNat a
  | .fused o a => evalFused i o a
  | .lane o a => evalLane i o a
  | .pfmt _ => []
  | .cmp cond a => evalCmp i cond.toNat a
  | .cls a => evalClass i a
  | .mlogic o a => evalMask i o a
  | .acc form a => evalAcc i form.toNat a
  | .cvt a => evalCvt i a
  | .cvtn format a => evalCvtn i format.toNat a
  | .cvtw format a => evalCvtw i format.toNat a
  | .biq sr a => evalBiq i sr a
  | .biqMark a => evalBiqMark i a
  | .biqScale a => evalBiqScale i a
  | .biadd a => evalBiadd i a
  | .biaddHeader a => evalBiaddHeader i a
  | .bidq a => evalBidq i a
  | .gust seed a => evalGust i seed.toNat a

/-- Whether an operation is an SR operation, which advances GCOUNT (06 R231). -/
def usesSr (o : VecOp) : Bool :=
  match o with
  | .arith _ rm _ => rm == 4
  | .fused _ a => a.rm == 4
  | .cvt a => a.rm == 4
  | .cvtn _ (.nn _ _ _ rm _ _ _) => rm == 4
  | .cvtn _ (.nx _ _ _ sr _) => sr
  | .biq sr _ => sr
  | _ => false

/-! ## The reduction unit (06 R237 to R239) -/

/-- The extreme of a list of numbered codes and the lowest number that holds it; `big` for the largest. -/
def extreme (big : Bool) (f : Fmt) (es : List (Nat × Nat)) : Option (Nat × Nat) :=
  es.foldl (fun (best : Option (Nat × Nat)) e => match best with
    | none => some e
    | some b =>
      let better := if big then ltNum (decodeFp f b.2) (decodeFp f e.2) else ltNum (decodeFp f e.2) (decodeFp f b.2)
      some (if better then e else b)) none

/-- A value in every lane: a 32-bit value, or a 16-bit value in both halves (06 R237). -/
def everyLane (packed : Bool) (v : Nat) : VReg :=
  BitVec.ofNat 2048 (packElems 32 ((List.range 64).map (fun _ => if packed then v ||| v <<< 16 else v)))

/-- The results of a RED operation (06 R237 to R239). -/
def evalRed (i : VecIn) (o : RedName) (a : RD) : Effs :=
  let m := getM i.c a.mm.toNat
  let va := getV i.c a.va.toNat
  let f := if a.p then packedFmt i.c.packedFp16 else fp32
  let n := if a.p then 128 else 64
  let w := if a.p then 16 else 32
  let active := (List.range n).filter (fun k => m.getLsbD (if a.p then k / 2 else k))
  let es := active.map (fun k => (k, elemOf va w k))
  let nans := es.filter (fun e => decodeFp f e.2 == .nan)
  let out (packed : Bool) (v : Nat) (ev : Ev) : Effs :=
    [(latRed, .writeV a.vd.toNat (everyLane packed v) (BitVec.allOnes 64) false), (latRed, .vecEvents ev)]
  let index (r : Option (Nat × Nat)) (ev : Ev) : Effs :=
    let v := match r with | some e => e.1 | none => 0xFFFFFFFF
    let bit : BitVec 64 := match r with | some e => BitVec.ofNat 64 (2 ^ (if a.p then e.1 / 2 else e.1)) | none => 0
    out false v ev ++ (if a.md = 0 then [] else [(latRed, .writeM a.md.toNat bit (BitVec.allOnes 64) false)])
  match o with
  | .sum =>
    let (c, ev) := encodeFp f 0 false 0 (anchoredSum (es.map (fun e => decodeFp f e.2)))
    out a.p c ev
  | .sumi =>
    let v := (es.map (fun e => signedOf 32 e.2)).foldl (· + ·) 0
    let (c, ev) := wrapOrSat true v
    out false c ev
  | .max =>
    if nans ≠ [] then out a.p f.nanCode evInvalid
    else out a.p (match extreme true f es with | some e => e.2 | none => 2 ^ (f.ebits + f.mbits) + f.topE * 2 ^ f.mbits) 0
  | .min =>
    if nans ≠ [] then out a.p f.nanCode evInvalid
    else out a.p (match extreme false f es with | some e => e.2 | none => f.topE * 2 ^ f.mbits) 0
  | .argmax => if nans ≠ [] then index nans.head? evInvalid else index (extreme true f es) 0
  | .argmin => if nans ≠ [] then index nans.head? evInvalid else index (extreme false f es) 0
  | .cnt => out false ((List.range 64).filter (fun k => m.getLsbD k)).length 0

end Sys2Proof.Machine
end

