-- ==== Sys2Proof/Machine/Ops.lean ====
section
/-! DEFINITION. The named operations over the state: its units, its counters and latches, rows of its memories, interrupts and reports. -/

namespace Sys2Proof.Machine

/-- What a command answers. -/
abbrev Res := Host.Outcome State Fault Refusal

/-! ## Units -/

/-- Physical core `n`, device-wide (01 R14). -/
def getCore (s : State) (n : Nat) : Core := mget {} s.cores n
/-- The state with core `n` set. -/
def setCore (s : State) (n : Nat) (c : Core) : State := { s with cores := mset s.cores n c }
/-- The state with core `n` changed. -/
def modCore (s : State) (n : Nat) (f : Core → Core) : State := setCore s n (f (getCore s n))
/-- Cluster `c`. -/
def getClus (s : State) (c : Nat) : Cluster := mget {} s.clus c
/-- The state with cluster `c` set. -/
def setClus (s : State) (c : Nat) (x : Cluster) : State := { s with clus := mset s.clus c x }
/-- The state with cluster `c` changed. -/
def modClus (s : State) (c : Nat) (f : Cluster → Cluster) : State := setClus s c (f (getClus s c))
/-- Partition `p`. -/
def getPart (s : State) (p : Nat) : Part := mget {} s.parts p
/-- The state with partition `p` set. -/
def setPart (s : State) (p : Nat) (x : Part) : State := { s with parts := mset s.parts p x }
/-- The state with partition `p` changed. -/
def modPart (s : State) (p : Nat) (f : Part → Part) : State := setPart s p (f (getPart s p))
/-- Stream `i` of a cluster. -/
def getStream (s : State) (c i : Nat) : Stream := mget {} (getClus s c).str.streams i
/-- The state with stream `i` of a cluster set. -/
def setStream (s : State) (c i : Nat) (t : Stream) : State :=
  modClus s c (fun x => { x with str := { x.str with streams := mset x.str.streams i t } })
/-- Gatherer channel `i` of a cluster. -/
def getChan (s : State) (c i : Nat) : Channel := mget {} (getClus s c).chans i
/-- The state with a channel set. -/
def setChan (s : State) (c i : Nat) (h : Channel) : State := modClus s c (fun x => { x with chans := mset x.chans i h })
/-- Host port `h`. -/
def getPort (s : State) (h : Nat) : Port := if h = 0 then s.hp.p0 else s.hp.p1
/-- The state with a host port set. -/
def setPort (s : State) (h : Nat) (p : Port) : State :=
  if h = 0 then { s with hp := { s.hp with p0 := p } } else { s with hp := { s.hp with p1 := p } }
/-- The state with a host port changed. -/
def modPort (s : State) (h : Nat) (f : Port → Port) : State := setPort s h (f (getPort s h))
/-- Work ring `r`. -/
def getRing (s : State) (r : Nat) : Ring := mget {} s.hp.rings r
/-- The state with a ring set. -/
def setRing (s : State) (r : Nat) (x : Ring) : State := { s with hp := { s.hp with rings := mset s.hp.rings r x } }
/-- Fabric port `f`. -/
def getFab (s : State) (f : Nat) : FabPort := mget {} s.fab.ports f
/-- The state with a fabric port set. -/
def setFab (s : State) (f : Nat) (x : FabPort) : State := { s with fab := { s.fab with ports := mset s.fab.ports f x } }
/-- Tag queue `t` of a core. -/
def getTq (c : Core) (t : Nat) : TagQueue := mget {} c.tq t
/-- A core with tag queue `t` set. -/
def setTq (c : Core) (t : Nat) (q : TagQueue) : Core := { c with tq := mset c.tq t q }
/-- Port SPn of a core. -/
def getSp (c : Core) (i : Nat) : SpPort := mget {} c.sp i
/-- Port SWn of a core. -/
def getSw (c : Core) (i : Nat) : SwPort := mget {} c.sw i
/-- A core with port SPn set. -/
def setSp (c : Core) (i : Nat) (p : SpPort) : Core := { c with sp := mset c.sp i p }
/-- A core with port SWn set. -/
def setSw (c : Core) (i : Nat) (p : SwPort) : Core := { c with sw := mset c.sw i p }
/-- The array of a core changed. -/
def modMat (c : Core) (f : Mat → Mat) : Core := { c with mat := f c.mat }
/-- The memory side of a core changed. -/
def modMem (c : Core) (f : CoreMem → CoreMem) : Core := { c with mem := f c.mem }
/-- The memory side of a cluster changed. -/
def modCMem (x : Cluster) (f : ClusterMem → ClusterMem) : Cluster := { x with mem := f x.mem }
/-- The message side of a cluster changed. -/
def modMsg (x : Cluster) (f : ClusterMsg → ClusterMsg) : Cluster := { x with msg := f x.msg }

/-- The cluster of a device-wide core number (01 R14). -/
def clusOf (n : Nat) : Nat := n / 24
/-- The number of a core in its cluster. -/
def pcoreOf (n : Nat) : Nat := n % 24
/-- The partition that holds a cluster, lowest first (02 R47). -/
def partOfCluster (s : State) (c : Nat) : Option Nat := (List.range 16).find? (fun p => (getPart s p).clusters.getLsbD c)
/-- A cluster takes part in the switch of its partition: it is not throttled and is in no switch of its own (14 R552; 19 R718). -/
def switchesWith (x : Cluster) : Bool := !x.throttled && x.own.isNone
/-- A cluster's generator is stopped: gated by a trip, by a switch of its own, or by its partition's (14 R552; 19 R715, R720). -/
def clockStopped (s : State) (c : Nat) : Bool :=
  let x := getClus s c
  x.tripGated || x.gated.isSome || (switchesWith x && match partOfCluster s c with | some p => (getPart s p).freq.gated | none => false)
/-- The device-wide number of the core that carries a logical core; none where unmapped (01 R32). -/
def physOf (s : State) (c l : Nat) : Option Nat :=
  let p := mget 0x1F (getClus s c).lmap l
  if p < 24 then some (24 * c + p) else none
/-- The logical core that a core carries, 0x1F none (03 R126). -/
def lcoreNum (c : Core) : Nat := c.lcore.getD 0x1F
/-- The run defaults of the partition that holds a cluster. -/
def runOf (s : State) (c : Nat) : RunDefaults :=
  match partOfCluster s c with
  | some p => (getPart s p).run
  | none => {}
/-- The clusters of a partition, in ascending order. -/
def clustersOf (s : State) (p : Nat) : List Nat := (List.range 32).filter (fun c => (getPart s p).clusters.getLsbD c)
/-- The cores of a cluster, in ascending order. -/
def coresOf (c : Nat) : List Nat := (List.range 24).map (fun i => 24 * c + i)
/-- The cores of a partition, in ascending order. -/
def partCores (s : State) (p : Nat) : List Nat := (clustersOf s p).flatMap coresOf
/-- The step counter of the partition that holds a cluster, 0 where none does (18 R688). -/
def stepOf (s : State) (c : Nat) : W64 :=
  match partOfCluster s c with
  | some p => (getPart s p).step
  | none => 0
/-- The time counter in ns. -/
def nowNs (s : State) : Nat := s.time.now.toNat

/-! ## Counters and latches -/

/-- A statistic counter after one event (03 R127). -/
def Stat.bump (t : Stat) : Stat :=
  if t.count = BitVec.allOnes 48 then { t with pinned := true } else { t with count := t.count + 1 }
/-- A statistic counter after `n` events (03 R127). -/
def Stat.add (t : Stat) (n : Nat) : Stat :=
  if n = 0 then t
  else if t.count.toNat + n < 2 ^ 48 then { t with count := BitVec.ofNat 48 (t.count.toNat + n) }
  else { count := BitVec.allOnes 48, pinned := true }
/-- The 64 bits of a statistic: PINNED at 63, COUNT at 47 to 0 (03 R126). -/
def Stat.bits (t : Stat) : W64 := (if t.pinned then 0x8000000000000000 else 0) ||| t.count.setWidth 64

/-- A first-fault latch after a fault (03 R129, 18 R685). -/
def Latch.put (l : Latch α) (v : α) : Latch α :=
  if l.valid then { l with overflow := true } else { l with valid := true, info := v }
/-- A latch with VALID and OVERFLOW clear. -/
def Latch.clear (l : Latch α) : Latch α := { l with valid := false, overflow := false }

/-! ## Rows (07 R242; 01 R15, R16) -/

/-- The byte address of a scratchpad row. -/
def spAddr (n row : Nat) : Nat := 16777216 * n + 512 * row
/-- The byte address of a cluster-memory row. -/
def cmAddr (c row : Nat) : Nat := 134217728 * c + 512 * row
/-- A row of a scratchpad. -/
def spRow (s : State) (n row : Nat) : Row := readRow s.spMem (spAddr n row)
/-- The state with a row of a scratchpad written. -/
def setSpRow (s : State) (n row : Nat) (v : Row) : State := { s with spMem := writeRow s.spMem (spAddr n row) v }
/-- A row of a cluster memory. -/
def cmRow (s : State) (c row : Nat) : Row := readRow s.cmMem (cmAddr c row)
/-- The state with a row of a cluster memory written. -/
def setCmRow (s : State) (c row : Nat) (v : Row) : State := { s with cmMem := writeRow s.cmMem (cmAddr c row) v }
/-- The bank of a scratchpad row (01 R15). -/
def spBank (row : Nat) : Nat := row % 8
/-- The bank of a cluster-memory row (01 R16). -/
def cmBank (row : Nat) : Nat := row % 16

/-- The guarded buffer that holds a row of a logical core's scratchpad or of a cluster memory (07 R254). -/
def guardAt (s : State) (c : Nat) (cm : Bool) (lcore row : Nat) : Option (Guarded × Nat) :=
  (getClus s c).str.buffers.zipIdx.find? (fun (g, _) => g.cm == cm && (cm || g.lcore == lcore) && decide (g.base ≤ row ∧ row < g.base + g.length))

/-- A ring position one row on (08 R292). -/
def ringNext (g : Guarded) (pos : Nat) : Nat := if pos + 1 ≥ g.base + g.length then g.base else pos + 1
/-- The state after a producer write or a consumer read of guarded buffer `i` of a cluster (08 R292). -/
def stepRing (s : State) (c i : Nat) (produce : Bool) : State :=
  modClus s c (fun x => { x with str := { x.str with buffers := x.str.buffers.modify i (fun g =>
    if produce then { g with prodPos := ringNext g g.prodPos } else { g with consPos := ringNext g g.consPos }) } })

/-! ## Message headers and tag queues (09 R350, R366, R370) -/

/-- A field of a header (09 R350). -/
def hdrField (h : Header) (lo w : Nat) : Nat := natBits h.toNat lo w

/-- A row's header fields that say what it is and where it goes (09 R350). -/
def rowDev (h : Header) : Nat := hdrField h 116 12
def rowCluster (h : Header) : Nat := hdrField h 111 5
def rowLcore (h : Header) : Nat := hdrField h 106 5
def rowTag (h : Header) : Nat := hdrField h 100 6
def rowRoute (h : Header) : Nat := hdrField h 96 4
def rowGroup (h : Header) : Nat := hdrField h 90 6
def rowHdr (h : Header) : Bool := hdrField h 82 1 == 1
def rowSrcDev (h : Header) : Nat := hdrField h 52 12
def rowSrcCluster (h : Header) : Nat := hdrField h 47 5
def rowSrcLcore (h : Header) : Nat := hdrField h 42 5
def rowSrcPart (h : Header) : Nat := hdrField h 38 4
def rowLen (h : Header) : Nat := hdrField h 35 3
def rowIndex (h : Header) : Nat := hdrField h 32 3
def rowSeq (h : Header) : Nat := hdrField h 16 16

/-- The source of a row as a sender record codes it (09 R366). -/
def rowSource (h : Header) : Nat := rowSrcDev h ||| rowSrcCluster h <<< 12 ||| rowSrcLcore h <<< 17

/-- The message that a row belongs to, among those of its source: SEQ, which a combine steps with every row (09 R352, R390). -/
def rowMessage (h : Header) : Nat := if rowSrcLcore h = 31 then (rowSeq h + 2 ^ 16 - rowIndex h) % 2 ^ 16 else rowSeq h

/-- A queue refuses the first row of a message for its sender or for lack of entries (09 R370). -/
def queueWaits (q : TagQueue) (h : Header) : Bool :=
  (q.merge != 2 && q.senders[q.position]? != some (rowSource h)) || decide (q.depth < q.entries.length + rowLen h + 1)

/-- A queue after a change of its entries or its POSITION: it no longer refuses a row that it would take (09 R388). -/
def settleQueue (q : TagQueue) : TagQueue := { q with refusing := q.refusing.filter (fun e => queueWaits q e.2.2) }

/-! ## Outputs -/

/-- The state with one more output. -/
def emit (s : State) (o : Out) : State := { s with out := o :: s.out }

/-- An event of an MSI-X vector at a moderation of `m` ns, of partition `who` or of the device (15 R599). -/
def vecEvent (s : State) (h vector m : Nat) (who : Option Nat) : State :=
  modPort s h (fun p =>
    let v : Vec := mget {} p.vecs vector
    let due := match v.due with
      | some d => d
      | none => match v.last with
        | some t0 => max (nowNs s) (t0 + m)
        | none => nowNs s
    { p with vecs := mset p.vecs vector { v with due := some due, causes := who :: v.causes.erase who } })

/-- An event of a partition's vector on its owner port (15 R598, R599). -/
def partEvent (s : State) (p : Nat) (vector : Part → Nat) : State :=
  let x := getPart s p
  vecEvent s x.owner (vector x) x.msixMod (some p)

/-- A PlatformEventMessage to the registered receiver (16 R616). -/
def platformEvent (s : State) (kind data : Nat) : State :=
  match s.brz.receiver with
  | some r => emit s (.platformEvent r kind data)
  | none => s

/-- The time counter is at a multiple of a number of ns, or has passed one in its last tick (14 R556). -/
def atMultiple (s : State) (ns : Nat) : Bool := decide (nowNs s % ns ≤ 2)

/-- The free-value counter advanced (the model's own). -/
def useFree (s : State) : State := { s with free := s.free + 1 }

/-- A configuration request meets a port that has a link and is not yet open: it is answered with Request Retry Status (16 R628). -/
def retries (s : State) (h : Nat) : Bool := let p := getPort s h; p.linkUp && !p.opened

/-! ## First-fault records (18 R685, R695) -/

/-- A core fault ranks before another of the same cc: the lower physical core, then the lower slot, then the lower code (18 R686). -/
def faultBefore (a b : FfInfo) : Bool :=
  decide (a.pcore < b.pcore) || (a.pcore == b.pcore && (decide (a.index < b.index) || (a.index == b.index && decide (a.code < b.code))))

/-- A first-fault record after a fault; of core faults in one cc it keeps the first in order (18 R685, R686). -/
def recordFault (r : FfRecord) (tie : Option (Nat × Nat)) (i : FfInfo) : FfRecord :=
  let l := if r.latch.valid && tie.isSome && r.tie == tie && faultBefore i r.latch.info then { r.latch with overflow := true, info := i } else r.latch.put i
  { r with latch := l, faults := r.faults.bump, tie := if r.latch.valid then r.tie else tie }

/-- The device record after a fault, with the reports of its latching (18 R695, 16 R614, R616). -/
def recordDevice (s : State) (tie : Option (Nat × Nat)) (i : FfInfo) : State :=
  let fresh := !s.ff.latch.valid
  let s1 := { s with ff := recordFault s.ff tie i }
  if fresh then
    platformEvent (emit (vecEvent s1 s.hp.primary s.hp.devFaultVec 0 none) (.console 32 i.code)) 1 i.code
  else s1

/-- A cluster record after a fault, with the reports of its latching (18 R695, 16 R614). -/
def recordCluster (s : State) (c : Nat) (tie : Option (Nat × Nat)) (i : FfInfo) : State :=
  let fresh := !(getClus s c).ff.latch.valid
  let s1 := modClus s c (fun x => { x with ff := recordFault x.ff tie i })
  if fresh then
    let s2 := emit s1 (.console c i.code)
    match partOfCluster s c with
    | some p => partEvent s2 p (·.faultVec)
    | none => s2
  else s1

/-- The class of a fault code (18 R679). -/
def classOfCode (code : Nat) : Nat :=
  if code = 0x0120 ∨ code = 0x0121 then 2
  else if code = 0x0130 ∨ code = 0x0144 then 3
  else if code = 0x0131 ∨ code = 0x0132 then 4
  else if code = 0x0140 ∨ code = 0x0143 then 5
  else if 0x0150 ≤ code ∧ code ≤ 0x0152 then 6
  else if 0x0170 ≤ code ∧ code ≤ 0x0173 then 7
  else if 0x0180 ≤ code ∧ code ≤ 0x0182 then 8
  else if 0x0190 ≤ code ∧ code ≤ 0x0193 then 9
  else if 0x01A0 ≤ code ∧ code ≤ 0x01A2 then 10
  else if code = 0x01B0 then 11
  else if code = 0x01C0 then 12
  else 1

/-- The reaction of a fault: 0 RECORD, 1 DEGRADE, 2 STOP (18 R678, R679). `stream` tells a fault raised in a stream. -/
def reactionOf (s : State) (part : Option Nat) (code : Nat) (stream : Bool) : Nat :=
  let react : BitVec 12 := match part with
    | some p => (getPart s p).react
    | none => 0x0A8
  let field (lo : Nat) : Nat := (react.extractLsb' lo 2).toNat
  if code = 0x0112 then field 0
  else if code = 0x010C then field 2
  else if code = 0x0130 ∧ !stream then field 4
  else if code = 0x0131 ∧ !stream then field 6
  else if code = 0x0152 then field 8
  else if 0x0180 ≤ code ∧ code ≤ 0x0182 then field 10
  else if code = 0x0150 ∨ code = 0x01A0 ∨ code = 0x01A1 then 1
  else if 0x0170 ≤ code ∧ code ≤ 0x0173 then 0
  else if 0x0190 ≤ code ∧ code ≤ 0x0193 then 0
  else if code = 0x01A2 ∨ code = 0x01B0 then 0
  else 2

end Sys2Proof.Machine
end

