-- ==== Sys2Proof/Machine/Flags.lean ====
section
/-! DEFINITION. The flags and event counters of a core: CORE_VEC_FLAGS, CORE_MAT_FLAGS, CORE_MEM_FLAGS and their counters (06 R235, R236; 04 R179; 07 R285). -/

namespace Sys2Proof.Machine

/-- A statistic after an operation in which a condition held. -/
def Stat.bumpIf (b : Bool) (t : Stat) : Stat := if b then t.bump else t

/-- A core after the events of one vector or reduction operation: bit 0 INVALID, 1 DIV_ZERO, 2 OVERFLOW, 3 UNDERFLOW, 4 INEXACT, 5 SATURATE (06 R235, R236). -/
def vecFlagEvents (c : Core) (ev : BitVec 6) : Core :=
  { c with
    vecFlags := c.vecFlags ||| ev
    stats := { c.stats with
      vecInvalid := c.stats.vecInvalid.bumpIf (ev.getLsbD 0)
      vecDivzero := c.stats.vecDivzero.bumpIf (ev.getLsbD 1)
      vecOverflow := c.stats.vecOverflow.bumpIf (ev.getLsbD 2)
      vecUnderflow := c.stats.vecUnderflow.bumpIf (ev.getLsbD 3)
      vecSaturate := c.stats.vecSaturate.bumpIf (ev.getLsbD 5) } }

/-- A core after array flags: bit 0 INT_SAT, 1 FP_OVF, 2 NAN (04 R179). -/
def matFlagEvents (c : Core) (f : MatFlags) : Core := modMat c (fun m => { m with flags := m.flags ||| f })

/-- A core after a ROWCNT or CMCNT with EV that overflowed a lane (07 R270). -/
def rowcntEvent (c : Core) : Core :=
  { c with
    mem := { c.mem with flags := c.mem.flags ||| 1 }
    stats := { c.stats with rowcntEvents := c.stats.rowcntEvents.bump } }

/-- A core whose scratchpad gave an uncorrectable codeword (07 R285). -/
def eccUeFlag (c : Core) : Core := modMem c (fun m => { m with flags := m.flags ||| 2 })

end Sys2Proof.Machine
end

