-- ==== Sys2Proof/Machine/Faults.lean ====
section
/-! DEFINITION. Raising a fault: its records, its reaction, fences and the stop of a partition (03 R106, R125, R129; 18 R678 to R689). -/

namespace Sys2Proof.Machine

/-- The unit that a reaction fences (18 R679, R683). Streams and rings are faulted by their own commands. -/
inductive FUnit where
  | none_
  | core (n : Nat)
  | bank (c b : Nat)
  | queue (n t : Nat)
  deriving DecidableEq, Repr

/-- A core discards the entries of a tag queue and counts them (09 R377, R381). -/
def emptyQueue (s : State) (n t : Nat) (st : TqState) : State :=
  let q := getTq (getCore s n) t
  let s1 := modCore s n (fun c => setTq c t { q with state := st, entries := [], taken := 0, refusing := [] })
  modClus s1 (clusOf n) (fun x => modMsg x (fun m => { m with rxDrops := m.rxDrops.add q.entries.length }))

/-- The tag queues of a core that have a record. -/
def boundQueues (c : Core) : List Nat := (c.tq.filter (fun q => q.2.bound)).map (·.1)

/-- Every tag queue of a core goes to one state, its entries discarded (09 R377); a fenced queue stays fenced (09 R381). -/
def emptyQueues (s : State) (n : Nat) (st : TqState) : State :=
  (boundQueues (getCore s n)).foldl (fun a t => emptyQueue a n t (if (getTq (getCore s n) t).state = .fenced then .fenced else st)) s

/-- Every operation that a core has issued has completed (03 R106). -/
def drained (c : Core) : Bool := c.inflight.isEmpty && c.mat.elastic.isEmpty

/-- A core that no longer issues and whose issued operations have not all completed: its cc go on until they have (03 R94, R106). -/
def draining (c : Core) : Bool := !(c.state == .running || c.state == .frozen || c.state == .lull) && !drained c

/-- A core that still issues words. -/
def issuing (c : Core) : Bool := c.state == .running || c.state == .frozen || c.state == .lull

/-- A core stops issuing in a state; its operations complete in the cc that follow (03 R106, 18 R682). -/
def haltCore (s : State) (n : Nat) (st : RunState) : State :=
  let c := getCore s n
  if issuing c then setCore s n { c with state := st, cause := .none, frozenFor := 0, idleFor := 0, waking := false }
  else if c.release then setCore s n { c with state := st, release := false }
  else s

/-- A core held by a fault whose reaction is RECORD goes on from the word at which it stopped, once its operations have completed (03 R106; 18 R678). -/
def releaseHeld (s : State) (n : Nat) : State :=
  let c := getCore s n
  if c.release && drained c then setCore s n { c with state := .running, release := false } else s

/-- A core stops issuing because of a fault; with the reaction RECORD only until its operations have completed (03 R106, R125; 18 R678). -/
def holdCore (s : State) (n : Nat) (record : Bool) : State :=
  if record then
    if issuing (getCore s n) then releaseHeld (modCore (haltCore s n .faultHold) n (fun c => { c with release := true })) n else s
  else haltCore s n .faultHold

/-- A fence of a core: it stops, is marked failed, and its queues act as fenced (18 R683, 01 R28). -/
def fenceCore (s : State) (n : Nat) : State :=
  let s1 := haltCore s n .disabled
  let s2 := modCore s1 n (fun c => { c with state := .disabled, fenced := true })
  let s3 := modClus s2 (clusOf n) (fun x => { x with failed := x.failed ||| BitVec.ofNat 24 (2 ^ pcoreOf n) })
  emptyQueues s3 n .fenced

/-- The fence of a unit (18 R683). -/
def fenceUnit (s : State) : FUnit → State
  | .none_ => s
  | .core n => fenceCore s n
  | .bank c b => modClus s c (fun x => modCMem x (fun m => { m with fencedBanks := m.fencedBanks ||| BitVec.ofNat 16 (2 ^ b) }))
  | .queue n t => emptyQueue s n t .fenced

/-- The cores of a cluster stop issuing (18 R682). -/
def stopCluster (s : State) (c : Nat) : State := (coresOf c).foldl (fun a n => haltCore a n .stopped) s

/-- The cc of a cluster, by the count of the core that has spent most. -/
def latestCcs (s : State) (c : Nat) : Nat := (coresOf c).foldl (fun a n => max a (getCore s n).ccs) 0

/-- A core that has spent the last cc that a STOP reaction leaves its cluster stops issuing (18 R682). -/
def stopLate (s : State) (n : Nat) : State :=
  match (getClus s (clusOf n)).stopAt with
  | some m => if m ≤ (getCore s n).ccs then haltCore s n .stopped else s
  | none => s

/-- The cores of the raising cluster stop in the cc after the fault: one that has not yet spent the cc of the fault still does (18 R682). -/
def stopAfterCc (s : State) (c : Nat) : State :=
  let m := latestCcs s c
  (coresOf c).foldl stopLate (modClus s c (fun x => { x with stopAt := some m }))

/-- A STOP of a partition by a fault in cluster `c`: that cluster stops in the next cc, the others by FAULT_STOP_COMPLETE (18 R682, 17 R671). -/
def stopByFault (s : State) (p c : Nat) : State :=
  let x := getPart s p
  if x.state = .running ∨ x.state = .stopping then
    stopAfterCc (partEvent (modPart s p (fun x => { x with faultStop := true, stopPending := false })) p (·.faultVec)) c
  else s

/-- The reaction of a fault raised in cluster `c` (18 R678, R681, R682). -/
def applyReaction (s : State) (part : Option Nat) (c reaction : Nat) (u : FUnit) : State :=
  match part with
  | none => if reaction = 0 then s else fenceUnit s u
  | some p =>
    if reaction = 0 then s
    else if reaction = 1 then
      partEvent (modPart (fenceUnit s u) p (fun x => { x with degraded := true })) p (·.faultVec)
    else if (getPart s p).state = .faulted then s
    else stopByFault (fenceUnit s u) p c

/-- A fault raised in a cluster: its class and reaction, the cluster record, the device record, and the reaction (18 R679, R681, R685). -/
def raiseIn (s : State) (c : Nat) (i : FfInfo) (u : FUnit) (stream : Bool) : State :=
  let part := partOfCluster s c
  let r := reactionOf s part i.code stream
  let info := { i with reaction := r, cls := classOfCode i.code, part := part, cluster := some c, step := stepOf s c, time := s.time.now }
  let tie := if i.kind = 0 then some (c, (getCore s (24 * c + i.pcore)).ccs) else none
  applyReaction (recordDevice (recordCluster s c tie info) tie info) part c r u

/-- A fault raised outside every cluster: the device record only (18 R679). -/
def raiseDevice (s : State) (i : FfInfo) : State :=
  recordDevice s none { i with reaction := reactionOf s none i.code false, cls := classOfCode i.code, pcore := 0x1F, time := s.time.now }

/-- The record of a fault of a core (18 R689, R701). -/
def coreInfo (n code slot pc : Nat) (detail : W64) : FfInfo :=
  { code := code, kind := 0, pcore := pcoreOf n, index := slot, pc := some (slot, pc), detail := detail }

/-! ## Banks without power (07 R283 to R286) -/

/-- Bank `b` of a scratchpad. -/
def spPower (s : State) (n b : Nat) : BankPower := mget {} (getCore s n).mem.banks b
/-- Bank `b` of a cluster memory. -/
def cmPower (s : State) (c b : Nat) : BankPower := mget {} (getClus s c).mem.banks b

/-- The record of a fault at a bank: UNIT_KIND 1 or 2, the bank, and the bank row as detail (18 R689, R701). -/
def bankInfo (code : Nat) (cm : Bool) (n row : Nat) : FfInfo :=
  { code := code, kind := if cm then 2 else 1, pcore := if cm then 0x1F else pcoreOf n,
    index := if cm then cmBank row else spBank row, detail := BitVec.ofNat 64 (if cm then row / 16 else row / 8) }

/-- A write discarded at an unpowered bank: counted, its source latched (07 R283, R286). -/
def dropWrite (s : State) (c : Nat) (cm : Bool) (n row kind id : Nat) : State :=
  let info : UnpwrInfo := { kind := kind, cm := cm, pcore := if cm then 0 else pcoreOf n, bank := if cm then cmBank row else spBank row, id := id }
  modClus s c (fun x => modCMem x (fun m => { m with unpwrDrops := m.unpwrDrops.bump, unpwr := m.unpwr.put info }))

/-- A write discarded at an unpowered bank raises 0x0131 at the bank's cluster (07 R283). -/
def dropAndRaise (s : State) (c : Nat) (cm : Bool) (n row kind id : Nat) : State :=
  raiseIn (dropWrite s c cm n row kind id) c (bankInfo 0x0131 cm n row) .none_ false

/-- The latch of a core after a fault (03 R126, R129). -/
def latchCore (s : State) (n slot code pc : Nat) (issue detail : W64) : State :=
  modCore s n (fun c =>
    { c with
      fault := c.fault.put { slot := slot, code := code, pc := pc, issue := issue, step := stepOf s (clusOf n), detail := detail }
      stats := { c.stats with faults := c.stats.faults.bump } })

/-- A fault of a core: it is latched, the core stops issuing and holds while its operations complete, and the fault is raised; the reaction RECORD releases the core then (03 R106, R125; 18 R678, R681). -/
def faultCore (s : State) (n slot code pc : Nat) (issue detail : W64) (u : FUnit) : State :=
  let s1 := latchCore s n slot code pc issue detail
  let s2 := holdCore s1 n (reactionOf s (partOfCluster s (clusOf n)) code false == 0)
  raiseIn s2 (clusOf n) (coreInfo n code slot pc detail) u false

/-- The unit that a core fault's reaction fences: for 0x0130 the core that owns the scratchpad (18 R679). -/
def coreFence (n code : Nat) : FUnit := if code = 0x0130 then .core n else .none_

end Sys2Proof.Machine
end

