-- ==== Sys2Proof/Machine/Keccak.lean ====
section
/-! DEFINITION. SHAKE256, which the specification names and does not define (02 R42, 11 R459, 16 R619): the Keccak permutation and sponge of FIPS 202 (PRESUMED). -/

namespace Sys2Proof.Machine

/-- A Keccak state: the 64-bit lane of column x and row y stands at place x + 5 y. -/
abbrev KState := List W64

/-- The lane of a column and a row, both counted modulo 5. -/
def laneAt (a : KState) (x y : Nat) : W64 := a.getD (x % 5 + 5 * (y % 5)) 0

/-- The state whose lane of column x and row y is `f x y`. -/
def kgrid (f : Nat → Nat → W64) : KState := (List.range 5).flatMap (fun y => (List.range 5).map (fun x => f x y))

/-- The parity of a column (FIPS 202, step 1 of theta). -/
def columnParity (a : KState) (x : Nat) : W64 := (List.range 5).foldl (fun p y => p ^^^ laneAt a x y) 0

/-- Theta: every lane takes in the parities of the columns beside its own, the right one turned by 1. -/
def theta (a : KState) : KState :=
  let parities := (List.range 5).map (columnParity a)
  let mix := (List.range 5).map (fun x => parities.getD ((x + 4) % 5) 0 ^^^ (parities.getD ((x + 1) % 5) 0).rotateLeft 1)
  kgrid (fun x y => laneAt a x y ^^^ mix.getD x 0)

/-- The walk of rho from the lane (1, 0): `n` lanes from the `t`-th on, each with its turn (t + 1)(t + 2)/2. -/
def rhoWalk : Nat → Nat → Nat → Nat → List ((Nat × Nat) × Nat)
  | 0, _, _, _ => []
  | n + 1, t, x, y => ((x, y), (t + 1) * (t + 2) / 2 % 64) :: rhoWalk n (t + 1) y ((2 * x + 3 * y) % 5)

/-- The turn that rho gives a lane; the lane (0, 0) is not turned. -/
def rhoTurn (x y : Nat) : Nat := ((rhoWalk 24 0 1 0).find? (fun e => e.1 == (x, y))).elim 0 (·.2)

/-- Rho turns each lane, and pi brings the lane of column x + 3 y and row x to column x and row y. -/
def rhoPi (a : KState) : KState := kgrid (fun x y => (laneAt a (x + 3 * y) x).rotateLeft (rhoTurn ((x + 3 * y) % 5) x))

/-- Chi: a lane is inverted where the lane beside it is clear and the next one set. -/
def chi (a : KState) : KState := kgrid (fun x y => laneAt a x y ^^^ (laneAt a (x + 2) y &&& ~~~laneAt a (x + 1) y))

/-- The shift register of the round constants: x^8 + x^6 + x^5 + x^4 + 1 (FIPS 202, algorithm 5). -/
def rcShift (r : BitVec 8) : BitVec 8 := (r <<< 1) ^^^ (if r.getLsbD 7 then 0x71 else 0)

/-- `k` bits of a round constant from bit 2^j - 1 on, and the register behind them. -/
def rcBits : Nat → Nat → BitVec 8 → W64 × BitVec 8
  | 0, _, r => (0, r)
  | k + 1, j, r =>
    let rest := rcBits k (j + 1) (rcShift r)
    (rest.1 ||| (if r.getLsbD 0 then BitVec.ofNat 64 (2 ^ (2 ^ j - 1)) else 0), rest.2)

/-- `n` rounds, the register of the round constants given: theta, rho, pi, chi, and iota on the lane (0, 0). -/
def keccakRounds : Nat → BitVec 8 → KState → KState
  | 0, _, a => a
  | n + 1, r, a =>
    let rc := rcBits 7 0 r
    let b := chi (rhoPi (theta a))
    keccakRounds n rc.2 (kgrid (fun x y => laneAt b x y ^^^ (if x = 0 ∧ y = 0 then rc.1 else 0)))

/-- The permutation of 24 rounds. -/
def keccakF (a : KState) : KState := keccakRounds 24 1 a

/-- A block of 136 bytes enters the first 17 lanes, and the state is permuted. -/
def absorbBlock (a : KState) (b : List Byte) : KState :=
  keccakF (kgrid (fun x y => laneAt a x y ^^^ BitVec.ofNat 64 (bytesNat ((b.drop (8 * (x + 5 * y))).take 8))))

/-- The message with the padding of SHAKE, a whole number of 136-byte blocks. -/
def shakePad (m : List Byte) : List Byte :=
  let k := 136 - m.length % 136
  if k = 1 then m ++ [0x9F] else m ++ [0x1F] ++ List.replicate (k - 2) 0 ++ [0x80]

/-- The blocks of a message; `n` is their number. -/
def absorbAll : Nat → KState → List Byte → KState
  | 0, a, _ => a
  | n + 1, a, m => absorbAll n (absorbBlock a (m.take 136)) (m.drop 136)

/-- Output blocks of the sponge. -/
def squeeze : Nat → KState → List Byte
  | 0, _ => []
  | n + 1, a => ((a.take 17).flatMap (fun l => natBytes 8 l.toNat)) ++ squeeze n (keccakF a)

/-- SHAKE256 of a message, `n` bytes of output. -/
def shake256 (m : List Byte) (n : Nat) : List Byte :=
  let p := shakePad m
  (squeeze (n / 136 + 1) (absorbAll (p.length / 136) (List.replicate 25 0) p)).take n

/-- The 512-bit digest that the device uses, as a number (02 R42). -/
def shakeNat (m : List Byte) : Nat := bytesNat (shake256 m 64)

end Sys2Proof.Machine
end

