-- ==== Sys2Proof/Machine/Pipeline.lean ====
section
/-! DEFINITION. What operations in flight do as a core's stages advance: register writes, row writes, the array's execution, late faults (03 R85, R102, R103, R106, R797; 04 R146 to R176; 07 R243, R262). -/

namespace Sys2Proof.Machine

/-- A fault found after its word issued, to be taken in the next cc (03 R797). -/
def pushLate (c : Core) (slot code pc : Nat) (issue : W64) (detail : W64) : Core :=
  { c with late := c.late ++ [{ slot := slot, code := code, pc := pc, issue := issue, step := 0, detail := detail }] }

/-! ## Error correction (07 R276 to R278) -/

/-- The codewords of a scratchpad row. -/
def spWords (s : State) (n row : Nat) : Codewords := mget {} (getCore s n).mem.ecc row
/-- The codewords of a cluster-memory row. -/
def cmWords (s : State) (c row : Nat) : Codewords := mget {} (getClus s c).mem.ecc row

/-- A scratchpad row holds an uncorrectable codeword. -/
def spBad (s : State) (n row : Nat) : Bool := (spWords s n row).bad != 0
/-- A cluster-memory row holds an uncorrectable codeword. -/
def cmBad (s : State) (c row : Nat) : Bool := (cmWords s c row).bad != 0

/-- How many codewords an access that reads a row corrects (07 R277). -/
def corrections (w : Codewords) : Nat := ((List.range 17).filter (fun i => w.corr.getLsbD i)).length

/-- The codewords of a row after further errors have struck it: a codeword that cannot be corrected stays so. -/
def strikeWords (w e : Codewords) : Codewords := { corr := (w.corr ||| e.corr) &&& ~~~(w.bad ||| e.bad), bad := w.bad ||| e.bad }

/-- Bit errors strike a scratchpad row (07 R276, R278). -/
def strikeSp (s : State) (n row : Nat) (e : Ecc) : State :=
  if e = {} then s
  else
    let s1 := if e.flips = 0 then s else setSpRow s n row (spRow s n row ^^^ e.flips)
    modCore s1 n (fun c => modMem c (fun m => { m with ecc := mmod {} m.ecc row (fun w => strikeWords w e.words) }))
/-- Bit errors strike a cluster-memory row (07 R276, R278). -/
def strikeCm (s : State) (c row : Nat) (e : Ecc) : State :=
  if e = {} then s
  else
    let s1 := if e.flips = 0 then s else setCmRow s c row (cmRow s c row ^^^ e.flips)
    modClus s1 c (fun x => modCMem x (fun m => { m with ecc := mmod {} m.ecc row (fun w => strikeWords w e.words) }))

/-- Bit errors strike rows of a core's scratchpad. -/
def strikes (s : State) (n : Nat) (es : List (Fin 32768 × Ecc)) : State := es.foldl (fun a e => strikeSp a n e.1.val e.2) s

/-- The codewords of the rows after the codeword of a row's VALID and OVF bits has been written (07 R276). -/
def freshFlags (t : SMap Codewords) (row : Nat) : SMap Codewords :=
  if mget {} t row = {} then t else mmod {} t row (fun w => { corr := w.corr &&& 0xFFFF, bad := w.bad &&& 0xFFFF })

/-- CORE_ECC_CORR counts the codewords that a read of a scratchpad row corrects (07 R277). -/
def countCorrSp (s : State) (n row : Nat) : State :=
  let k := corrections (spWords s n row)
  if k = 0 then s else modCore s n (fun c => { c with stats := { c.stats with eccCorr := c.stats.eccCorr.add k } })
/-- CLU_ECC_CORR counts the codewords that a read of a cluster-memory row corrects (07 R277). -/
def countCorrCm (s : State) (c row : Nat) : State :=
  let k := corrections (cmWords s c row)
  if k = 0 then s else modClus s c (fun x => modCMem x (fun m => { m with eccCorr := m.eccCorr.add k }))

/-! ## Collisions (07 R262 to R265) -/

/-- Two accesses belong to one party: the stream engine is one and the gatherer is one; a program, a remote requester and a move queue are each their own (07 R262). -/
def sameParty (a b : Party) : Bool := a.kind == b.kind && (a.kind == 1 || a.kind == 4 || a.id == b.id)

/-- A write is that of the ROWCNT of a window itself (07 R262). -/
def ownWindow (writer : Party) (w : Nat × Nat × Nat × Nat) : Bool :=
  writer.kind == 0 && writer.slot == 6 && writer.pc == w.2.1 && writer.issue.toNat == w.2.2.1

/-- The reader whose read slot of the current cc meets a write of a row by another party, or the ROWCNT whose window it meets (07 R262). -/
def collider (uses : List SlotUse) (windows : List (Nat × Nat × Nat × Nat)) (row : Nat) (writer : Party) (lcore : Nat) : Option Party :=
  match uses.find? (fun u => !u.isWrite && u.row == row && !sameParty u.party writer) with
  | some u => some u.party
  | none => match windows.find? (fun w => w.1 == row && !ownWindow writer w) with
    | some (_, pc, issue, _) => some { kind := 0, id := lcore, pc := pc, slot := 6, issue := BitVec.ofNat 64 issue }
    | none => none

/-- A collision counted and, in strict mode, latched in the cluster and, for a program party, found late in its core (07 R263 to R265). -/
def noteCollision (s : State) (c : Nat) (cm : Bool) (n row : Nat) (rd wr : Party) : State :=
  let strict := !(runOf s c).rawLenient
  let s1 := modClus s c (fun x => modCMem x (fun m => { m with collCount := m.collCount.bump }))
  if strict then
    let info : CollInfo := { reader := rd, writer := wr, cm := cm, pcore := if cm then 0 else pcoreOf n, row := row }
    let s2 := modClus s1 c (fun x => modCMem x (fun m => { m with coll := m.coll.put info }))
    if cm then s2
    else if rd.kind = 0 then modCore s2 n (fun k => pushLate k rd.slot 0x010C rd.pc rd.issue 0)
    else if wr.kind = 0 then modCore s2 n (fun k => pushLate k wr.slot 0x010C wr.pc wr.issue 0)
    else s2
  else s1

/-- The row that a read in the current cc returns: the row as it stood before a write of the same cc (07 R243). -/
def rowBefore (uses : List SlotUse) (row : Nat) (cur : Row) : Row :=
  match uses.find? (fun u => u.isWrite && u.row == row) with
  | some u => u.old
  | none => cur

/-- The writer whose write slot of the current cc a read by another party meets (07 R262). -/
def writerMet (uses : List SlotUse) (row : Nat) (reader : Party) : Option Party :=
  match uses.find? (fun u => u.isWrite && u.row == row && !sameParty u.party reader) with
  | some u => some u.party
  | none => none

/-- A scratchpad's slots after a use in the current cc, which its bank remembers (07 R262, R279). -/
def useSlot (s : State) (n : Nat) (u : SlotUse) (m : CoreMem) : CoreMem :=
  { m with
    uses := m.uses ++ [u]
    lastUse := mset m.lastUse (spBank u.row) ((getCore s n).ccs, (getClus s (clusOf n)).mem.cc) }

/-- A read of a scratchpad row by a party in the current cc of the core: the row, and the state with the use, the codewords corrected and any collision on a raw row (07 R243, R262, R277). -/
def readSp (s : State) (n row : Nat) (by_ : Party) : Row × State :=
  let c := getCore s n
  let v := rowBefore c.mem.uses row (spRow s n row)
  let raw := (guardAt s (clusOf n) false (lcoreNum c) row).isNone
  let s1 := countCorrSp (setCore s n (modMem c (useSlot s n { isWrite := false, row := row, party := by_, old := 0 }))) n row
  match writerMet c.mem.uses row by_ with
  | some w => (v, if raw then noteCollision s1 (clusOf n) false n row by_ w else s1)
  | none => (v, s1)

/-- A whole-row write of a scratchpad row by a party, in the write slot of the current cc: OVF clears, VALID sets for a producer (07 R257, R262, R268). -/
def writeSp (s : State) (n row : Nat) (v : Row) (by_ : Party) (produce : Bool) : State :=
  let c := getCore s n
  let raw := (guardAt s (clusOf n) false (lcoreNum c) row).isNone
  let old := spRow s n row
  let s1 := setSpRow s n row v
  let s2 := setCore s1 n (modMem c (fun m =>
    { useSlot s n { isWrite := true, row := row, party := by_, old := old } m with
      ovf := mset m.ovf row false
      ecc := mdel m.ecc row
      valid := if produce then mset m.valid row true else m.valid }))
  match (if raw then collider c.mem.uses c.mem.cntWindows row by_ (lcoreNum c) else none) with
  | some r => noteCollision s2 (clusOf n) false n row r by_
  | none => s2

/-! ## Operand ports of the array (04 R145 to R147) -/

/-- A port of an MMUL holds a vector: ports 0 to 3 are SP0 to SP3, port `4 + t` is tag queue `t`. -/
def vecReady (c : Core) (port : Nat) : Bool :=
  if port < 4 then !(getSp c port).rows.isEmpty
  else match (getTq c (port - 4)).entries with
    | e :: _ => e.row.isSome && e.age == 0
    | [] => false

/-- The consumer position of the stream bound to a port after a row has left the port, which still holds `left` rows (08 R302). -/
def consumeStream (s : State) (cl : Nat) (st : Option Nat) (left : Nat) : State :=
  match st with
  | some i => let t := getStream s cl i; setStream s cl i { t with consumed := max t.consumed (t.delivered - left) }
  | none => s

/-- The next vector of a port and the state after it is taken; the row leaves with its last vector (04 R146). A source-marked bubble has no vector (R147). -/
def takeVec (s : State) (n format port : Nat) : Option (Row × Nat) × State :=
  let c := getCore s n
  let last (taken : Nat) : Bool := taken + 1 ≥ (arrayFmt format).vectors
  if port < 4 then
    let p := getSp c port
    match p.rows with
    | [] => (none, s)
    | (r, marks) :: rest =>
      let s1 := setCore s n (setSp c port (if last p.taken then { p with rows := rest, taken := 0 } else { p with taken := p.taken + 1 }))
      (if marks.getLsbD p.taken then none else some (r, p.taken), if last p.taken then consumeStream s1 (clusOf n) p.stream rest.length else s1)
  else
    let q := getTq c (port - 4)
    match q.entries with
    | [] => (none, s)
    | e :: rest =>
      (if e.marks.getLsbD q.taken then none else e.row.map (fun r => (r, q.taken)),
        setCore s n (setTq c (port - 4) (if last q.taken then settleQueue { q with entries := rest, taken := 0 } else { q with taken := q.taken + 1 })))

/-- A port has a vector that a debt can take (04 R170). -/
def debtReady (c : Core) (port : Nat) : Bool :=
  mget 0 c.mat.debts port != 0 &&
    (if port < 4 then !(getSp c port).rows.isEmpty
     else match (getTq c (port - 4)).entries with
      | e :: _ => e.row.isSome
      | [] => false)

/-- The vectors that have arrived at a port with debts are discarded, each taking one debt: `k` at most (04 R170). -/
def payDebts : Nat → State → Nat → Nat → State
  | 0, s, _, _ => s
  | k + 1, s, n, port =>
    let c := getCore s n
    if debtReady c port then
      let (_, s1) := takeVec s n c.mat.mode.format port
      payDebts k (modCore s1 n (fun c => modMat c (fun m => { m with debts := mmod 0 m.debts port (· - 1) }))) n port
    else s

/-! ## Execution in the array -/

/-- The entry that a MAT operation writes. -/
def matEntry : MatOp → Option Nat
  | .mmul e .. => some e
  | .laccadd e .. => some e
  | _ => none

/-- The latency of a MAT operation's result (03 R95 rows 0 and 1). -/
def matLat : MatOp → Nat
  | .mmul _ _ mode .. => latMat mode.systolic
  | _ => latMat false

/-- The architectural position at which a MAT operation's result is visible (04 R174, R175). -/
def archOf (f : Flight) : Nat :=
  match f.eff with
  | .mat op => f.issue.toNat + matLat op
  | _ => 0

/-- An operation in flight or delayed writes entry `e` and was architecturally visible at issue position `i`, and has not landed (04 R175). -/
def lateWrite (fs : List Flight) (e i : Nat) : Bool :=
  fs.any (fun f => match f.eff with
    | .mat op => matEntry op == some e && decide (f.issue.toNat + matLat op ≤ i)
    | _ => false)

/-- The drain of a port is blocked: a closed row waits and both buffer rows are full (04 R169). -/
def drainBlocked (c : Core) (port : Nat) : Bool :=
  let p := getSw c port
  !p.offered.isEmpty && decide (2 ≤ p.buffer.length)

/-- A core after an ADRAIN has executed (04 R167 to R169). -/
def execDrain (c : Core) (f : Flight) (e port : Nat) (bf : Bool) (part : Nat) (last : Bool) (mode : MatMode) : Core :=
  let (bits, flags) := drainBits mode bf (mget {} c.mat.acc e)
  let w := if bf then 1024 else 2048
  let p := getSw c port
  let hole := BitVec.ofNat 4096 ((2 ^ w - 1) <<< (1024 * part))
  let row : Row := (p.openRow &&& ~~~hole) ||| BitVec.ofNat 4096 (bits <<< (1024 * part))
  let c1 := matFlagEvents (setSw c port { p with openRow := if last then 0 else row }) flags
  if last then { c1 with inflight := c1.inflight ++ [{ f with left := latMat false, eff := .drainOffer port row }] } else c1

/-- A MAT operation executes: an ADRAIN at once, the others write after their latency (04 R167, R174). -/
def startMat (s : State) (n : Nat) (f : Flight) (op : MatOp) : State :=
  let go (o : MatOp) (st : State) : State :=
    modCore st n (fun c => modMat { c with inflight := c.inflight ++ [{ f with left := matLat o, eff := .mat o }] } (fun m => { m with ran := true }))
  match op with
  | .mmul e zf mode set ws _ (some port) =>
    let (v, s1) := takeVec s n mode.format port
    go (.mmul e zf mode set ws v none) s1
  | .adrain e port bf part last mode => modCore s n (fun c => modMat (execDrain c f e port bf part last mode) (fun m => { m with ran := true }))
  | .place => modCore s n (fun c => modMat c (fun m => { m with ran := true }))
  | o => go o s

/-- The head of the elastic buffer may execute: its vector has come and its drain is clear (04 R173). -/
def matReady (c : Core) : MatOp → Bool
  | .mmul _ _ _ _ _ _ (some port) => vecReady c port
  | .adrain _ port .. => !drainBlocked c port
  | _ => true

/-- The late fault of a delayed operation that executes now: 0x0111 by R175, 0x0103 where its result would meet another of its entry. -/
def delayedFault (c : Core) (f : Flight) (op : MatOp) : Option Nat :=
  let overrun (e : Nat) : Bool :=
    decide (f.issue.toNat < mget 0 c.mat.landed e) || lateWrite c.inflight e f.issue.toNat
  let clash := match matEntry op with
    | some e => c.inflight.any (fun g => match g.eff with
      | .mat o => matEntry o == some e && g.left == matLat op
      | _ => false)
    | none => false
  match op with
  | .adrain e .. => if overrun e then some 0x0111 else none
  | .laccadd e .. => if overrun e then some 0x0111 else if clash then some 0x0103 else none
  | _ => if clash then some 0x0103 else none

/-- The head of the elastic buffer executes where it may and the array is free in this cc (04 R173, R175). -/
def runElastic (s : State) (n : Nat) : State :=
  let c := getCore s n
  match c.mat.elastic with
  | [] => s
  | f :: rest =>
    match f.eff with
    | .mat op =>
      if c.mat.ran || !matReady c op then s
      else
        let c1 := modMat c (fun m => { m with elastic := rest })
        let c2 := match delayedFault c f op with
          | some code => pushLate c1 2 code f.pc f.issue (if code = 0x0103 then BitVec.ofNat 64 (((matEntry op).getD 0) + 0x300) else 0)
          | none => c1
        startMat (setCore s n c2) n f op
    | _ => setCore s n (modMat c (fun m => { m with elastic := rest }))

/-- An MMUL writes its entry (04 R148, R149, R156, R162). -/
def landMmul (c : Core) (f : Flight) (e : Nat) (zf : Bool) (mode : MatMode) (ws : List Row) (vec : Option (Row × Nat)) : Core :=
  let cur : AccEntry := mget {} c.mat.acc e
  match vec with
  | none => modMat c (fun m => { m with acc := mset m.acc e (bubbleEntry zf cur), bubbles := m.bubbles.bump })
  | some (row, v) =>
    match mmulLanes mode zf ws row v cur.bits with
    | none => pushLate c 2 0x010B f.pc f.issue 0
    | some (bits, flags) => matFlagEvents (modMat c (fun m => { m with acc := mset m.acc e { bits := bits, valid := zf || cur.valid } })) flags

/-- A MAT operation's result lands. -/
def landMat (c : Core) (f : Flight) (op : MatOp) : Core :=
  let mark (k : Core) (e : Nat) : Core := modMat k (fun m => { m with landed := mset m.landed e (max (mget 0 m.landed e) (f.issue.toNat + matLat op)) })
  match op with
  | .mmul e zf mode _ ws vec _ => mark (landMmul c f e zf mode ws vec) e
  | .laccadd e _ addend =>
    let cur : AccEntry := mget {} c.mat.acc e
    mark (match laccLanes cur.bits addend with
      | none => pushLate c 2 0x010B f.pc f.issue 0
      | some bits => modMat c (fun m => { m with acc := mset m.acc e { cur with bits := bits } })) e
  | _ => c

/-! ## Stages -/

/-- The weight set `i` of an array. -/
def setOf (m : Mat) (i : Nat) : WeightSet := if i = 0 then m.set0 else m.set1
/-- An array with weight set `i` changed. -/
def modSet (m : Mat) (i : Nat) (f : WeightSet → WeightSet) : Mat :=
  if i = 0 then { m with set0 := f m.set0 } else { m with set1 := f m.set1 }

/-- Counts of clamps and poisoned blocks for the core's partition (13 R518). -/
def collCounts (s : State) (n : Nat) (esc poison : Bool) : State :=
  match partOfCluster s (clusOf n) with
  | some p => modPart s p (fun x => { x with collEsc := x.collEsc.bumpIf esc, collPoison := x.collPoison.bumpIf poison })
  | none => s

/-- The party that a core's program is (07 R286). -/
def progParty (c : Core) (slot pc : Nat) (issue : W64) : Party := { kind := 0, id := lcoreNum c, pc := pc, slot := slot, issue := issue }

/-- A row that the core's own program writes reaches its bank: one without power discards it with 0x0131 (07 R283, R284). -/
def progWrite (s : State) (n row : Nat) (v : Row) (f : Flight) (produce : Bool) : State :=
  let c := getCore s n
  if (spPower s n (spBank row)).ready then writeSp s n row v (progParty c f.slot f.pc f.issue) produce
  else dropAndRaise s (clusOf n) false n row 0 (lcoreNum c)

/-- An operation in flight takes effect (03 R85). -/
def landFlight (s : State) (n : Nat) (f : Flight) : State :=
  match f.eff with
  | .writeV r val mask zm => modCore s n (fun c => setV c r (mergeLanes (getV c r) val mask zm))
  | .mergeV r val keep => modCore s n (fun c => setV c r ((getV c r &&& keep) ||| (val &&& ~~~keep)))
  | .writeM r val mask zm => modCore s n (fun c => setM c r (mergeMask (getM c r) val mask zm))
  | .writeX r val => modCore s n (fun c => setX c r val)
  | .vecEvents ev => modCore s n (fun c => vecFlagEvents c ev)
  | .collCount esc poison => collCounts s n esc poison
  | .rowWrite row val produce =>
    let s1 := progWrite s n row val f produce
    match (if produce && (spPower s n (spBank row)).ready then guardAt s1 (clusOf n) false (lcoreNum (getCore s1 n)) row else none) with
    | some (_, g) => stepRing s1 (clusOf n) g true
    | none => s1
  | .countWrite row val o ev md =>
    let was := mget false (getCore s n).mem.ovf row
    let s1 := progWrite s n row val f false
    modCore s1 n (fun c =>
      let c1 := if (spPower s n (spBank row)).ready then modMem c (fun m => { m with ovf := mset m.ovf row (was || o) }) else c
      let c2 := if o && ev then rowcntEvent c1 else c1
      match md with
      | some r => setM c2 r (if was || o then BitVec.allOnes 64 else 0)
      | none => c2)
  | .mat op => modCore s n (fun c => landMat c f op)
  | .accClear => modCore s n (fun c => modMat c (fun m => { m with acc := [] }))
  | .drainOffer port row => modCore s n (fun c => let p := getSw c port
      setSw c port { p with offered := p.offered ++ [{ row := row, pc := f.pc, issue := f.issue }] })
  | .weights set format _ rows => modCore s n (fun c => modMat c (fun m => modSet m set (fun w => { w with format := some format, rows := rows })))
  | .lateFault code detail => modCore s n (fun c => pushLate c f.slot code f.pc f.issue detail)

/-- The row of an uncorrectable codeword read by a program: the fault is found late (07 R278). -/
def badRead (s : State) (n row slot pc : Nat) (issue : W64) : State :=
  if spBad s n row then
    let info : EccInfo := { cm := false, pcore := pcoreOf n, reader := 0, bank := spBank row, bankRow := row / 8 }
    let s1 := modCore s n (fun c => pushLate (eccUeFlag c) slot 0x0130 pc issue 0)
    modClus s1 (clusOf n) (fun x => modCMem x (fun m => { m with eccUe := m.eccUe.put info }))
  else s

/-- A read of a row by the core's own program; a bank that has lost its power since the word issued delivers an open value, and the fault is found late (07 R282, R284; 04 R139). -/
def progRead (s : State) (n row slot pc : Nat) (issue : W64) : Row × State :=
  if (spPower s n (spBank row)).ready then
    let (v, s1) := readSp s n row (progParty (getCore s n) slot pc issue)
    (v, badRead s1 n row slot pc issue)
  else (Config.lostRow s.free, useFree (modCore s n (fun c => pushLate c slot 0x0132 pc issue 0)))

/-- Several rows read by the core's own program, in ascending order. -/
def progReads (s : State) (n slot pc : Nat) (issue : W64) : List Nat → List Row × State
  | [] => ([], s)
  | r :: rest =>
    let (v, s1) := progRead s n r slot pc issue
    let (vs, s2) := progReads s1 n slot pc issue rest
    (v :: vs, s2)

/-- The rows that the second cycle of a WLD reads (04 R138, R139). -/
def secondRows (format base : Nat) : List Nat :=
  if (arrayFmt format).cycles = 2 then (List.range ((arrayFmt format).rows + 1 - 8)).map (fun i => base + 8 + i) else []

/-- The second cycle of a WLD takes place in the cc after its issue (04 R139): a weight load with four positions left. -/
def secondCycle (s : State) (n : Nat) (f : Flight) : Flight × State :=
  match f.eff with
  | .weights set format base rows =>
    if f.left = 4 ∧ (arrayFmt format).cycles = 2 then
      let (more, s1) := progReads s n f.slot f.pc f.issue (secondRows format base)
      ({ f with eff := .weights set format base (rows ++ more) }, s1)
    else (f, s)
  | _ => (f, s)

/-- The flights of a core after the second cycles of their weight loads. -/
def secondCycles (s : State) (n : Nat) : List Flight → List Flight × State
  | [] => ([], s)
  | f :: rest =>
    let (f1, s1) := secondCycle s n f
    let (fs, s2) := secondCycles s1 n rest
    (f1 :: fs, s2)

/-- Every operation in flight of a core advances one stage, and those that reach their end take effect in the order of their issue (03 R102, R103). -/
def advance (s : State) (n : Nat) : State :=
  let (fs, s1) := secondCycles s n (getCore s n).inflight
  let ripe := fs.filter (fun f => f.left ≤ 1)
  let rest := (fs.filter (fun f => 1 < f.left)).map (fun f => { f with left := f.left - 1 })
  let s2 := modCore s1 n (fun c => modMat { c with inflight := rest } (fun m =>
    { m with set0 := { m.set0 with busy := m.set0.busy - 1 }, set1 := { m.set1 with busy := m.set1.busy - 1 } }))
  let s3 := ripe.foldl (fun st f => landFlight st n f) s2
  modCore s3 n (fun c => modMem c (fun m => { m with cntWindows := m.cntWindows.filterMap (fun w =>
    if w.2.2.2 ≤ 1 then none else some (w.1, w.2.1, w.2.2.1, w.2.2.2 - 1)) }))

/-- The end of one cc of a core: the bank slots and the array are free again, and entries of its queues age (04 R173; 07 R262; 09 R370). -/
def endCc (s : State) (n : Nat) : State :=
  modCore s n (fun c =>
    { c with
      mat := { c.mat with ran := false }
      mem := { c.mem with uses := [] }
      tq := c.tq.map (fun q => (q.1, { q.2 with entries := q.2.entries.map (fun e => { e with age := e.age - 1 }) })) })

/-- One stage of the operations of a core that no longer issues (03 R106; 07 R246). -/
def drainStage (s : State) (n : Nat) : State := endCc (advance (runElastic s n) n) n

/-- The operations that a core has issued complete before a T reset applies (17 R670): `k` stages at most. -/
def drainCore : Nat → State → Nat → State
  | 0, s, _ => s
  | k + 1, s, n => if drained (getCore s n) then s else drainCore k (drainStage s n) n

/-- Stages enough for every latency and the elastic buffer. -/
def drainStages : Nat := 160

end Sys2Proof.Machine
end

