-- ==== Sys2Proof/Machine/Twin.lean ====
section
/-! DEFINITION. The twin comparator and the digest export of a partition (13 R537 to R543). -/

namespace Sys2Proof.Machine

/-- EN of PART_TWIN_CFG (13 R544). -/
def twinOn (t : Twin) : Bool := t.cfg.getLsbD 31
/-- A field of PART_TWIN_CFG (13 R544). -/
def twinField (t : Twin) (lo w : Nat) : Nat := natBits t.cfg.toNat lo w

/-- A message header from its fields (09 R350). -/
def mkHeader (dev cluster lcore tag route group : Nat) (hdrRow : Bool) (srcDev srcCluster srcLcore srcPart len1 row seq : Nat) : Header :=
  BitVec.ofNat 128 (dev <<< 116 ||| cluster <<< 111 ||| lcore <<< 106 ||| tag <<< 100 ||| route <<< 96 ||| group <<< 90 |||
    (if hdrRow then 1 else 0) <<< 82 ||| srcDev <<< 52 ||| srcCluster <<< 47 ||| srcLcore <<< 42 ||| srcPart <<< 38 ||| len1 <<< 35 |||
    row <<< 32 ||| seq <<< 16)

/-- The lowest-numbered cluster of a partition (18 R679). -/
def lowestCluster (s : State) (p : Nat) : Nat := (clustersOf s p).headD 0

/-- A twin fault: latched in PART_TWIN_ERR and raised in the partition's lowest-numbered cluster (13 R541, R544; 18 R679). -/
def twinFault (s : State) (p code : Nat) (r : TwinRec) (localDig remoteDig : W64) : State :=
  let s1 := modPart s p (fun x => { x with twin := { x.twin with
    err := x.twin.err.put { code := code, step := r.step, ord := r.ord, calm := r.calm, localDig := localDig, remoteDig := remoteDig, time := s.time.now } } })
  raiseIn s1 (lowestCluster s p) { code := code, kind := 9, pcore := 0x1F, detail := localDig } .none_ false

/-- Two records with one key (13 R537). -/
def sameKey (a b : TwinRec) : Bool := a.step == b.step && a.ord == b.ord

/-- A record reaches one side of the comparator (13 R541). -/
def twinArrive (s : State) (p : Nat) (isLocal : Bool) (r : TwinRec) : State :=
  let t := (getPart s p).twin
  let mine := if isLocal then t.localRecs else t.remoteRecs
  let other := if isLocal then t.remoteRecs else t.localRecs
  let put (x : Twin) (own oth : List TwinRec) : Twin :=
    if isLocal then { x with localRecs := own, remoteRecs := oth } else { x with localRecs := oth, remoteRecs := own }
  match other.find? (sameKey r) with
  | some o =>
    let s1 := modPart s p (fun x => { x with twin := put x.twin mine (other.erase o) })
    if o.digest = r.digest then modPart s1 p (fun x => { x with twin := { x.twin with matched := x.twin.matched.bump } })
    else
      twinFault (modPart s1 p (fun x => { x with twin := { x.twin with diverged := true } })) p 0x0180 r
        (if isLocal then r.digest else o.digest) (if isLocal then o.digest else r.digest)
  | none =>
    if mine.length < 16 then modPart s p (fun x => { x with twin := put x.twin (mine ++ [r]) other })
    else twinFault s p 0x0182 r 0 0

/-- The export row of a digest (13 R539). -/
def exportRow (p : Nat) (e : DigEntry) (ord : BitVec 16) : Row :=
  BitVec.ofNat 4096 (p ||| e.calm.toNat <<< 16 ||| ord.toNat <<< 32 ||| e.step.toNat <<< 64 ||| e.digest.toNat <<< 128 ||| e.seq.toNat <<< 192)

/-- The record that an export row carries (13 R539). -/
def exportRec (r : Row) (time : Nat) : TwinRec :=
  { step := r.extractLsb' 64 64, ord := r.extractLsb' 32 16, calm := r.extractLsb' 16 16, digest := r.extractLsb' 128 64, time := time }

/-- A layer digest of a partition with the comparator enabled: its export and its local record (13 R537, R538, R541). -/
def twinDigest (s : State) (p : Nat) (e : DigEntry) : State :=
  let t := (getPart s p).twin
  if !twinOn t then s
  else
    let r : TwinRec := { step := e.step, ord := t.ord, calm := e.calm, digest := e.digest, time := nowNs s }
    let s1 := if t.exports.length < 16 then modPart s p (fun x => { x with twin := { x.twin with exports := x.twin.exports ++ [exportRow p e t.ord] } })
      else twinFault s p 0x0182 r 0 0
    twinArrive s1 p true r

/-- The comparator and the export queue emptied (13 R542). -/
def emptyTwin (t : Twin) : Twin := { t with localRecs := [], remoteRecs := [], exports := [], diverged := false }

end Sys2Proof.Machine
end

