-- ==== Sys2Proof/Machine/Walk.lean ====
section
/-! DEFINITION. The walk of a stream, its near end, and whether it has a row to send (07 R254; 08 R290, R291, R303, R339). -/

namespace Sys2Proof.Machine

/-- VALID of a guarded row of the core's scratchpad. -/
def spValid (c : Core) (row : Nat) : Bool := mget false c.mem.valid row

/-- VALID of a cluster-memory row. -/
def cmValid (s : State) (c row : Nat) : Bool := mget false (getClus s c).mem.valid row
/-- A stream is the declared producer (07 R254). -/
def streamProduces (st : Nat) (g : Guarded) : Bool := g.producer == 0 && g.producerId == st
/-- A stream is the declared consumer. -/
def streamConsumes (st : Nat) (g : Guarded) : Bool := g.consumer == 1 && g.consumerId == st
/-! ## The walk (08 R290, R291) -/

/-- N, the rows of a stream. -/
def streamRows (d : StreamDesc) : Nat := d.counts.foldl (· * ·) 1
/-- R, the rows of a tile. -/
def tileRows (d : StreamDesc) : Nat := (d.counts.take d.tileDims).foldl (· * ·) 1
/-- The index vector of row j over the counts left. -/
def indexOf : List Nat → Nat → List Nat
  | [], _ => []
  | c :: rest, j => j % c :: indexOf rest (j / c)
/-- The index vector of row j. -/
def indexVector (d : StreamDesc) (j : Nat) : List Nat := indexOf d.counts j
/-- far(j) from a base. -/
def farOf (d : StreamDesc) (base : Int) (j : Nat) : Int :=
  ((indexVector d j).zip d.strides).foldl (fun a (i, st) => a + (i : Int) * st) base
/-- far(j) of a stream as an address. -/
def farAddr (t : Stream) (j : Nat) : Nat := match t.desc with | some d => (farOf d t.base j).toNat | none => 0

/-- The buffer of a stream with NEAR_KIND 2 (08 R291). -/
def streamBuffer (s : State) (c st : Nat) (d : StreamDesc) : Option (Guarded × Nat) :=
  (getClus s c).str.buffers.zipIdx.find? (fun (g, _) =>
    g.buffer == d.nearIndex && g.lcore == d.nearLcore && (if d.dirOut then streamConsumes st g else streamProduces st g))

/-- A ring position `k` rows on from `pos`. -/
def ringAt (g : Guarded) (pos k : Nat) : Nat := g.base + (pos - g.base + k) % g.length

/-- Where a row of a stream lies at the near end: a port, or a row of a memory. -/
inductive Near where
  | port (n p : Nat)
  | sp (n row : Nat)
  | cm (row : Nat)
  | absent
  deriving DecidableEq, Repr

/-- The near-end position of row j (08 R291). A DIR 0 row takes the ring position after those of the rows before it; a DIR 1 row not yet read takes the consumer position. -/
def nearOf (s : State) (c st j : Nat) (t : Stream) (d : StreamDesc) : Near :=
  let core := physOf s c d.nearLcore
  let spAt (row : Nat) : Near := match core with | some n => .sp n row | none => .absent
  match d.nearKind with
  | 0 => spAt (d.nearBase + j % d.nearLen)
  | 1 => .cm (d.nearBase + j % d.nearLen)
  | 2 => match streamBuffer s c st d with
    | some (g, _) =>
      let row := if d.dirOut then (if t.next ≤ j then ringAt g g.consPos (j - t.next) else ringAt g g.consPos (g.length - (t.next - j) % g.length))
        else ringAt g g.prodPos (j - t.delivered)
      if g.cm then .cm row else spAt row
    | none => .absent
  | _ => match core with | some n => .port n d.nearIndex | none => .absent

/-- The source of row j of a DIR 1 stream holds its row, or will once a closed row has moved into its port's buffer (08 R303, R339). -/
def sourceHeld (s : State) (c st j : Nat) (t : Stream) (d : StreamDesc) : Bool :=
  match nearOf s c st j t d with
  | .port n p => !(getSw (getCore s n) p).buffer.isEmpty || !(getSw (getCore s n) p).offered.isEmpty
  | .sp n row => d.nearKind != 2 || spValid (getCore s n) row
  | .cm row => d.nearKind != 2 || cmValid s c row
  | .absent => false

/-- A DIR 1 stream has a row to issue whose source is available: a calm point waits for it (08 R339). -/
def rowAvailable (s : State) (c st : Nat) : Bool :=
  let t := getStream s c st
  match t.desc with
  | some d => d.dirOut && t.state == .running && decide (t.next < streamRows d) && sourceHeld s c st t.next t d
  | none => false

end Sys2Proof.Machine
end

