-- ==== Sys2Proof/Machine/Calm.lean ====
section
/-! DEFINITION. Calm points: participants, reports, the layer digest, pauses, stops, frequency switches and the release (03 R110 to R117; 09 R372 to R376; 11 R435, R436, R442 to R447; 14 R550 to R554; 17 R666, R667). -/

namespace Sys2Proof.Machine

/-- A core takes part in the calm points of its partition (03 R110). -/
def isParticipant (s : State) (p n : Nat) : Bool :=
  let c := getCore s n
  c.task.isSome && !c.fenced && !c.mcastStopped && !(c.state == .faultHold && !c.release && !(getPart s p).faultStop) &&
    !(c.state == .noTask || (c.state == .ended && !c.ending) || c.state == .disabled)

/-- The participants of a partition (03 R110). -/
def participants (s : State) (p : Nat) : List Nat := (partCores s p).filter (fun n => isParticipant s p n)

/-- A core has reported at its calm point (03 R111). -/
def hasReported (c : Core) : Bool :=
  match c.calm with
  | some w => w.reported
  | none => false

/-- The streams of a cluster that have records. -/
def boundStreams (s : State) (c : Nat) : List Nat := ((getClus s c).str.streams.filter (fun e => e.2.desc.isSome)).map (·.1)

/-- The streams that the core `n` owns (08 R289). -/
def ownedStreams (s : State) (n : Nat) : List Nat :=
  (boundStreams s (clusOf n)).filter (fun i => match (getStream s (clusOf n) i).desc with
    | some d => d.owner == lcoreNum (getCore s n)
    | none => false)

/-- A digest stream that a participant owns is halted and resolving (11 R443). -/
def digestHalted (s : State) (p : Nat) : Bool :=
  (participants s p).any (fun n => (ownedStreams s n).any (fun i =>
    let t := getStream s (clusOf n) i
    t.state == .halted && (match t.desc with | some d => d.digest | none => false)))

/-- The streams that a core owns hold no tag and have no row available to send (03 R111; 08 R339). -/
def streamsDrained (s : State) (n : Nat) : Bool :=
  (ownedStreams s n).all (fun i => (getStream s (clusOf n) i).tags.isEmpty && !rowAvailable s (clusOf n) i)

/-- Every tag queue of a participant that holds an entry: core and tag; `carry` selects the carry queues (09 R374, R376). -/
def heldQueues (s : State) (p : Nat) (carry : Bool) : List (Nat × Nat) :=
  (participants s p).flatMap (fun n => ((getCore s n).tq.filter (fun q => q.2.carry == carry && !q.2.entries.isEmpty)).map (fun q => (n, q.1)))

/-- A generator of the partition holds over (14 R567). -/
def holdsOver (s : State) (p : Nat) : Bool := (clustersOf s p).any (fun c => (getClus s c).holdover)

/-! ## The layer digest (11 R442 to R445) -/

/-- The digest that a digest stream contributes: D_s rotated by its logical stream number (11 R442, R444). -/
def streamDigest (t : Stream) : W64 :=
  match t.desc, t.crc with
  | some d, some c => if d.digest then (crcFinal c).rotateLeft (d.digestNum % 64) else 0
  | _, _ => 0

/-- The layer digest of a partition (11 R444). -/
def layerDigest (s : State) (p : Nat) : W64 :=
  (clustersOf s p).foldl (fun a c => (boundStreams s c).foldl (fun b i => b ^^^ streamDigest (getStream s c i)) a) 0

/-- Every D_s of a partition starts afresh (11 R444). -/
def clearDigests (s : State) (p : Nat) : State :=
  (clustersOf s p).foldl (fun a c => modClus a c (fun x => { x with str := { x.str with
    streams := x.str.streams.map (fun e => (e.1, { e.2 with crc := none })) } })) s

/-- The layer digest is formed, written to the digest ring and given to the comparator (11 R444, R445; 13 R537). -/
def formDigest (s : State) (p : Nat) (index : BitVec 16) : State :=
  let x := getPart s p
  let e : DigEntry := { digest := layerDigest s p, step := x.step, calm := index, seq := x.det.digSeq }
  let at_ := if x.det.digCount = 0 then 0 else (x.det.digNewest + 1) % 16
  let s1 := modPart s p (fun x => { x with det := { x.det with
    ring := mset x.det.ring at_ e, digNewest := at_, digCount := min 16 (x.det.digCount + 1), digSeq := x.det.digSeq + 1 } })
  let s2 := twinDigest (clearDigests s1 p) p e
  modPart s2 p (fun x => { x with twin := { x.twin with ord := x.twin.ord + 1 } })

/-! ## Release, pause, stop, frequency -/

/-- A participant is released: it may evaluate the word after its CALM (03 R115). A core in Lull wakes first (03 R108). -/
def releaseCore (s : State) (n : Nat) : State :=
  modCore s n (fun c =>
    if c.calm.isSome then
      { c with calm := none, state := if c.state == .frozen then .running else c.state,
               cause := if c.state == .frozen then .none else c.cause, frozenFor := if c.state == .frozen then 0 else c.frozenFor, idleFor := if c.state == .frozen then 0 else c.idleFor }
    else c)

/-- The calm logic releases every participant (03 R114, fourth item). -/
def releaseAll (s : State) (p : Nat) : State :=
  let s1 := modPart s p (fun x => { x with calmHeld := false })
  (partCores s p).foldl releaseCore s1

/-- A frequency change takes effect: the switch begins (14 R552). -/
def beginSwitch (s : State) (p target : Nat) (calmMode stopAfter : Bool) : State :=
  modPart s p (fun x => { x with
    calmHeld := if calmMode then true else x.calmHeld
    freq := { x.freq with pending := none, switching := true, gated := false, target := target, calmMode := calmMode, stopAfter := stopAfter,
                          waitRelock := false, byReset := false, current := target } })

/-- The STOP command ends with code 0x0000 where it has not ended before (17 R663, R668). -/
def endStop (x : Part) : Part :=
  match x.stopTime with
  | some _ => { x with stopTime := none, resultValid := true, code := 0 }
  | none => x

/-- The partition becomes STOPPED with start point KEPT (17 R661, R666). -/
def becomeStopped (s : State) (p : Nat) : State :=
  modPart s p (fun x => endStop { x with state := .stopped, kept := true, restored := false, stopPending := false, det := { x.det with phase := 0 } })

/-- The third and fourth items of R114: a pending frequency change, then the release. -/
def finishCalm (s : State) (p : Nat) : State :=
  match (getPart s p).freq.pending with
  | some t => if holdsOver s p then releaseAll s p else beginSwitch s p t true false
  | none => releaseAll s p

/-- A pending stop takes effect: counted once, after a pending frequency change (17 R666 to R668). -/
def takeStop (s : State) (p : Nat) : State :=
  let s1 := modPart s p (fun x => { x with calmHeld := true, det := { x.det with excPause := x.det.excPause.bump } })
  match (getPart s1 p).freq.pending with
  | some t => if holdsOver s1 p then becomeStopped s1 p else beginSwitch s1 p t true true
  | none => becomeStopped s1 p

/-- A pending pause takes effect (11 R447). -/
def takePause (s : State) (p : Nat) : State :=
  modPart s p (fun x => { x with calmHeld := true, det := { x.det with phase := 2, excPause := x.det.excPause.bump } })

/-! ## Reaching a calm point -/

/-- What a calm point does to a participant: its weight sets count as unfilled, its results are visible to every word that follows, its queues return to POSITION 0, and with the STEP flag its SR counter starts again (03 R103; 04 R143; 06 R231; 09 R372, R375). -/
def calmCore (step : Bool) (c : Core) : Core :=
  { c with
    gcount := if step then 0 else c.gcount
    mat := { c.mat with set0 := { c.mat.set0 with format := none }, set1 := { c.mat.set1 with format := none }, landed := [] }
    tq := c.tq.map (fun q => (q.1, if q.2.carry then q.2 else settleQueue { q.2 with position := 0 })) }

/-- The calm point is reached (03 R114; 11 R444; 09 R376). -/
def reachCalm (s : State) (p : Nat) (index : BitVec 16) (step : Bool) : State :=
  let s1 := formDigest s p index
  let s2 := modPart s1 p (fun x => { x with
    calm := none
    step := if step then x.step + 1 else x.step
    twin := if step then { x.twin with ord := 0 } else x.twin
    det := { x.det with calmLast := some index } })
  let s3 := (participants s2 p).foldl (fun a n => modCore a n (calmCore step)) s2
  let x := getPart s3 p
  if (heldQueues s3 p true).isEmpty then
    if x.stopPending then takeStop s3 p
    else if x.det.phase = 1 then takePause s3 p
    else finishCalm s3 p
  else finishCalm s3 p

/-- Every participant latches 0x010D, its PC naming its CALM (11 R436). -/
def exhaustStep (s : State) (p : Nat) : State :=
  (participants s p).foldl (fun a n => match (getCore a n).calm with
    | some w => faultCore a n 0 0x010D w.pc (getCore a n).issued 0 .none_
    | none => a) (modPart s p (fun x => { x with calm := none }))

/-- A queue that is not empty at a calm point: 0x0153 at its cluster, naming the core and the tag (09 R374). -/
def queueFault (s : State) (n t : Nat) : State :=
  let detail : W64 := match (getTq (getCore s n) t).entries with
    | e :: _ => e.header.setWidth 64
    | [] => 0
  raiseIn s (clusOf n) { code := 0x0153, kind := 3, pcore := pcoreOf n, index := t, detail := detail } .none_ false

/-- The state of a partition's calm point after a participant has reported or left (03 R110, R114; 17 R666). -/
def calmCheck (s : State) (p : Nat) : State :=
  let x := getPart s p
  let ps := participants s p
  if x.calmHeld || x.faultStop || !(x.state == .running || x.state == .stopping) || x.det.phase == 3 || x.det.phase == 6 then s
  else if ps.isEmpty then (if x.stopPending then takeStop s p else s)
  else match x.calm with
  | none => s
  | some (index, step) =>
    if !ps.all (fun n => hasReported (getCore s n) && streamsDrained s n) || digestHalted s p then s
    else match heldQueues s p false with
    | q :: rest => (q :: rest).foldl (fun a e => queueFault a e.1 e.2) s
    | [] => if step && x.step == BitVec.allOnes 64 then exhaustStep s p else reachCalm s p index step

/-- `calmCheck` for the partition of a cluster. -/
def calmCheckAt (s : State) (c : Nat) : State :=
  match partOfCluster s c with
  | some p => calmCheck s p
  | none => s

end Sys2Proof.Machine
end

