-- ==== Sys2Proof/Machine/CoreChecks.lean ====
section
/-! DEFINITION. The checks a word meets when it comes to issue, and what can hold it (03 R86, R91, R99, R105, R118 to R121; 22 R767 to R793). -/

namespace Sys2Proof.Machine

/-- One failed check. `rank`: 1 encoding, 2 loop nesting, 3 bounds, 4 bank use, 5 write conflicts, 6 the others (03 R105). -/
structure Fail where
  rank : Nat
  slot : Nat
  code : Nat
  detail : W64 := 0
  deriving DecidableEq, Repr

/-- What holds a slot: the freeze cause and the index waited for (03 R99, R107). -/
structure Hold where
  cause : FreezeCause
  ix : Nat
  deriving DecidableEq, Repr

/-- The order of R105: the kind, among the other checks the code, then the slot. -/
def failBefore (a b : Fail) : Bool :=
  let ka := (a.rank, if a.rank = 6 then a.code else 0, a.slot, a.code)
  let kb := (b.rank, if b.rank = 6 then b.code else 0, b.slot, b.code)
  decide (ka.1 < kb.1) || (ka.1 == kb.1 && (decide (ka.2.1 < kb.2.1) || (ka.2.1 == kb.2.1 &&
    (decide (ka.2.2.1 < kb.2.2.1) || (ka.2.2.1 == kb.2.2.1 && decide (ka.2.2.2 < kb.2.2.2))))))

/-- The failing check that decides the cc (03 R105). -/
def firstFail (fs : List Fail) : Option Fail :=
  fs.foldl (fun (b : Option Fail) f => match b with
    | none => some f
    | some g => some (if failBefore f g then f else g)) none

/-- A check that fails under a condition. -/
def failIf (b : Bool) (f : Fail) : List Fail := if b then [f] else []

/-- An encoding check of a slot. -/
def encFail (slot : Nat) (b : Bool) : List Fail := failIf b { rank := 1, slot := slot, code := 0x0101 }

/-! ## Windows (03 R118) -/

/-- The bound fault of an access from `first` to `last` in a window. -/
def boundFail (slot space : Nat) (lo hi first last : Int) : List Fail :=
  if lo ≤ first ∧ last < hi then []
  else
    let bad := if first < lo ∨ hi ≤ first then first else hi
    [{ rank := 3, slot := slot, code := 0x0105, detail := BitVec.ofNat 64 (space * 2 ^ 60 + (bad % 2 ^ 60).toNat) }]

/-- The task of a core; all windows empty where it holds none. -/
def taskOf (c : Core) : Task := c.task.getD {}

/-- The window of a space in a task: 0 scratchpad, 1 cluster memory, 2 device memory, 3 host memory (02 R54). -/
def windowOf (t : Task) : Nat → Nat × Nat
  | 0 => (t.spBase, t.spBound)
  | 1 => (t.cmBase, t.cmBound)
  | 2 => (t.dmBase, t.dmBound)
  | _ => (t.hmBase, t.hmBound)

/-- The bound check of rows `first` to `last` of a task's window. -/
def rowsFail (slot space : Nat) (t : Task) (first last : Nat) : List Fail :=
  let w := windowOf t space
  boundFail slot space w.1 w.2 first last

/-! ## Registers written by a word (03 R86) -/

/-- A register or entry that a result reaches: file (0 X, 1 V, 2 M, 3 accumulator), number, and the latency of the result. -/
abbrev Dest := Nat × Nat × Nat

/-- The destinations of a VEC operation (06 R219, R228; 03 R95). -/
def vecDests : VecOp → List Dest
  | .nop => []
  | .fn _ a => [(1, a.vd.toNat, latFn)]
  | .arith _ _ a => [(1, a.vd.toNat, latAdd)]
  | .fused _ a => [(1, a.vd.toNat, latFma)]
  | .lane _ a => [(1, a.vd.toNat, latAdd)]
  | .pfmt _ => []
  | .cmp _ a => [(2, a.md.toNat, latAdd)]
  | .cls a => [(2, a.md.toNat, latAdd)]
  | .mlogic _ a => [(2, a.md.toNat, latAdd)]
  | .acc _ a => (1, a.vd.toNat, latAcc) :: if a.md = 0 then [] else [(2, a.md.toNat, latAcc)]
  | .cvt a => [(1, a.vd.toNat, latCvt)]
  | .cvtn _ (.nn vd ..) => [(1, vd.toNat, latCvt)]
  | .cvtn _ (.nx vd ..) => (1, vd.toNat, latCvt) :: if vd.toNat % 2 = 1 then [] else [(1, vd.toNat + 1, latCvt)]
  | .cvtw _ (.wn vd ..) => [(1, vd.toNat, latCvt)]
  | .cvtw _ (.wx vd ..) => [(1, vd.toNat, latCvt)]
  | .biq _ a => [(1, a.vd.toNat, latCvt)]
  | .biqMark a => [(1, a.vd.toNat, latCvt)]
  | .biqScale a => [(1, a.vd.toNat, latCvt)]
  | .biadd a => [(1, a.vd.toNat, latAdd)]
  | .biaddHeader a => [(1, a.vd.toNat, latAdd)]
  | .bidq a => [(1, a.vd.toNat, latCvt)]
  | .gust _ a => [(1, a.vd.toNat, latAdd)]

/-- The destinations of a RED operation (06 R237, R239). -/
def redDests : RedOp → List Dest
  | .nop => []
  | .red _ a => (1, a.vd.toNat, latRed) :: if a.md = 0 then [] else [(2, a.md.toNat, latRed)]

/-- The destinations of a CTL operation (03 R87). -/
def ctlDests : CtlOp → List Dest
  | .x _ xd .. => [(0, xd.toNat, 1)]
  | .xaddi xd .. => [(0, xd.toNat, 1)]
  | .xli xd .. => [(0, xd.toNat, 1)]
  | _ => []

/-- An address register that an INC writes (22 R769). -/
def incDest (xr : BitVec 5) (inc : BitVec 8) : List Dest := if inc = 0 then [] else [(0, xr.toNat, 1)]

/-- A register pair that a row reaches (03 R84). -/
def pairDests (vd : BitVec 6) : List Dest := [(1, vd.toNat, latRow), (1, vd.toNat + 1, latRow)]

/-- The destinations of a SIN operation. -/
def sinDests : SinOp → List Dest
  | .trecv vd _ h xh => pairDests vd ++ if h then [(0, xh.toNat, latRow)] else []
  | .trecvs xr _ inc => incDest xr inc
  | .srecv vd _ => pairDests vd
  | .gtake _ xd md => [(0, xd.toNat, latRow), (2, md.toNat, latRow)]
  | _ => []

/-- The destinations of a MAT operation. -/
def matDests (mode : MatMode) : MatIns → List Dest
  | .wld xr inc => incDest xr inc
  | .mmul e .. => [(3, e.toNat, latMat mode.systolic)]
  | .laccadd e _ => [(3, e.toNat, latMat false)]
  | _ => []

/-- The M registers of a ROWCMP's match bits (07 R266). -/
def cmpRegs (w : BitVec 2) (md : BitVec 4) : List Nat := (List.range (4 / 2 ^ w.toNat)).map (fun i => md.toNat + i)

/-- The destinations of a MEM operation. -/
def memDests : MemOp → List Dest
  | .sprd vd xr _ inc => pairDests vd ++ incDest xr inc
  | .spwr _ xr inc => incDest xr inc
  | .rowcmp w _ md vc _ => (cmpRegs w md).map (fun r => (2, r, latCnt)) ++ [(1, vc.toNat, latCnt)]
  | .rowcnt _ _ _ _ rf md _ => if rf then [(2, md.toNat, latCnt)] else []
  | .rrd vd _ => pairDests vd
  | _ => []

/-- The destinations of a word by slot. -/
def wordDests (mode : MatMode) (w : WordOps) : List (Nat × Dest) :=
  (ctlDests w.ctl).map (fun d => (0, d)) ++ (sinDests w.sin).map (fun d => (1, d)) ++ (matDests mode w.mat).map (fun d => (2, d)) ++
  (vecDests w.vec0).map (fun d => (3, d)) ++ (vecDests w.vec1).map (fun d => (4, d)) ++ (redDests w.red).map (fun d => (5, d)) ++
  (memDests w.mem).map (fun d => (6, d))

/-- The register or entry that an operation in flight reaches. -/
def flightDest : FlightEff → Option (Nat × Nat)
  | .writeV r .. => some (1, r)
  | .mergeV r .. => some (1, r)
  | .writeM r .. => some (2, r)
  | .writeX r _ => some (0, r)
  | .countWrite _ _ _ _ (some r) => some (2, r)
  | .mat op => (matEntry op).map (fun e => (3, e))
  | _ => none

/-- Two results would be visible in one register in one cc (03 R86): against the operations in flight, and against the lower slots of the word. -/
def conflictFails (fs : List Flight) : List (Nat × Dest) → List Dest → List Fail
  | [], _ => []
  | (slot, d) :: rest, seen =>
    failIf (seen.contains d || fs.any (fun f => flightDest f.eff == some (d.1, d.2.1) && f.left == d.2.2))
      { rank := 5, slot := slot, code := 0x0103, detail := BitVec.ofNat 64 (d.2.1 % 256 + 256 * d.1) } ++
    conflictFails fs rest (d :: seen)

/-! ## Encoding checks that need more than the slot's bits (22 R768) -/

/-- An odd V field marked "pair". -/
def oddPair (v : BitVec 6) : Bool := v.getLsbD 0

/-- CTL (22 R773). -/
def ctlBad : CtlOp → Bool
  | .b cond xs _ => cond == 7 || (cond == 0 && xs != 0)
  | _ => false

/-- SIN (22 R768, R775). -/
def sinBad : SinOp → Bool
  | .trecv vd .. => oddPair vd
  | .srecv vd _ => oddPair vd
  | .gtake _ _ md => md == 0
  | _ => false

/-- MATCFG (04 R134, R160). -/
def matcfgBad (format : Nat) (accmode : Nat) (systolic : Bool) : Bool :=
  decide (12 < format) || accmode == 3 ||
  (accmode == 0 && !(arrayFmt format).fp) || (accmode == 1 && (arrayFmt format).fp) ||
  (systolic && (accmode == 2 || !(format == 0 || format == 1 || format == 2 || format == 11 || format == 12)))

/-- The rows that a WLD reads in its first cycle (04 R138). -/
def firstRows (base : Nat) : List Nat := (List.range 8).map (fun i => base + i)

/-- MAT (04 R144; 22 R777, R778). -/
def matBad (s : State) (n : Nat) (c : Core) : MatIns → Bool
  | .matcfg format accmode systolic _ => matcfgBad format.toNat accmode.toNat systolic
  | .wld xr _ =>
    let r := (getX c xr.toNat).toNat
    r % 8 != 0 || (firstRows r ++ secondRows c.mat.mode.format r).any (fun i => (guardAt s (clusOf n) false (lcoreNum c) i).isSome)
  | .mmul _ _ _ src source => src == 0 && decide ((arrayFmt c.mat.mode.format).vectors ≤ (source.extractLsb' 4 3).toNat)
  | .adrain _ _ bf part _ => (!bf && part.getLsbD 0) || (bf && c.mat.mode.accmode == 1)
  | _ => false

/-- The largest element group of a narrow format (06 R228). -/
def qMax (format : Nat) : Nat :=
  match (arrayFmt format).width with
  | 16 => 1
  | 8 => 3
  | 6 => 4
  | _ => 7

/-- VEC (06 R216, R218, R230, R232; 22 R782, R785, R787). -/
def vecBad (c : Core) : VecOp → Bool
  | .fused _ a => decide (4 < a.rm.toNat)
  | .lane o a => o == .sel && a.zm
  | .cmp _ a => a.md == 0
  | .cls a => a.md == 0
  | .mlogic _ a => a.md == 0
  | .cvt a => decide (4 < a.rm.toNat)
  | .cvtn f (.nn _ _ q rm ..) => decide (qMax f.toNat < q.toNat) || decide (4 < rm.toNat)
  | .cvtn f (.nx _ _ q ..) => decide (qMax f.toNat < q.toNat)
  | .cvtw f (.wn _ _ q ..) => decide (qMax f.toNat < q.toNat)
  | .cvtw f (.wx _ _ q ..) => decide (qMax f.toNat < q.toNat)
  | .biq _ a => a.mm != 0
  | .biqMark a => a.mm != 0
  | .biqScale a => a.mm != 0 || decide (20 < a.vb.toNat)
  | .biadd a => a.mm != 0
  | .biaddHeader a => a.mm != 0
  | .bidq a => a.mm != 0
  | .gust _ a => decide (0xFFFFFF00 ≤ ((getX c a.xs.toNat).toNat % 2 ^ 32))
  | _ => false

/-- The operations of which a word carries one at most (06 R216, R795). -/
def vecClass : VecOp → Nat
  | .fused .. => 1
  | .fn .. => 2
  | .pfmt _ => 3
  | _ => 0

/-- The pair of VEC slots breaks R216 or R795. -/
def vecPairBad (w : WordOps) : Bool :=
  (match w.vec1 with | .acc .. => true | _ => false) || (vecClass w.vec0 != 0 && vecClass w.vec0 == vecClass w.vec1)

/-- RED (22 R788). -/
def redBad : RedOp → Bool
  | .nop => false
  | .red o a => a.zm || (a.md != 0 && !(o == .argmax || o == .argmin)) || (a.p && (o == .sumi || o == .cnt)) || (o == .cnt && a.va != 0)

/-- The remote address word (22 R792). -/
structure RemoteAddr where
  row : Nat
  lcore : Nat
  cluster : Nat
  cm : Bool
  bad : Bool
  deriving DecidableEq, Repr

/-- The fields of a remote address word; `bad` where it sets a bit that must be zero. -/
def remoteAddr (x : W64) : RemoteAddr :=
  let l := (x.extractLsb' 18 5).toNat
  { row := (x.extractLsb' 0 18).toNat, lcore := l, cluster := (x.extractLsb' 23 5).toNat, cm := x.getLsbD 28,
    bad := x.extractLsb' 29 35 != 0 || (x.getLsbD 28 && l != 0) }

/-- A remote address that names the core's own scratchpad or its own cluster's memory (07 R272), or breaks R792. -/
def remoteBad (n : Nat) (c : Core) (a : RemoteAddr) : Bool :=
  a.bad || (a.cluster == clusOf n && (a.cm || a.lcore == lcoreNum c))

/-- A guarded row refuses a program's read (07 R260, R271). -/
def readRefused (g : Option (Guarded × Nat)) : Bool :=
  match g with
  | some (b, _) => b.consumer != 0
  | none => false

/-- A guarded row refuses a program's write (07 R260). -/
def writeRefused (g : Option (Guarded × Nat)) : Bool :=
  match g with
  | some (b, _) => b.producer != 1
  | none => false

/-- The guarded buffer of a row of the core's own scratchpad. -/
def ownGuard (s : State) (n : Nat) (c : Core) (row : Nat) : Option (Guarded × Nat) := guardAt s (clusOf n) false (lcoreNum c) row
/-- The guarded buffer of a row of the core's cluster memory. -/
def cmGuard (s : State) (n : Nat) (row : Nat) : Option (Guarded × Nat) := guardAt s (clusOf n) true 0 row

/-- A guarded cluster-memory row refuses a move of a core as its consumer (07 R253, R260). -/
def moveReadRefused (c : Core) (g : Option (Guarded × Nat)) : Bool :=
  match g with
  | some (b, _) => !(b.consumer == 0 && b.lcore == lcoreNum c)
  | none => false

/-- A guarded row refuses a move of a core as its producer (07 R253, R260). -/
def moveWriteRefused (c : Core) (g : Option (Guarded × Nat)) : Bool :=
  match g with
  | some (b, _) => !(b.producer == 2 && b.lcore == lcoreNum c)
  | none => false

/-- MEM (07 R251, R253, R260, R266, R272; 22 R768, R790 to R792). -/
def memBad (s : State) (n : Nat) (c : Core) : MemOp → Bool
  | .nop => false
  | .sprd vd xr _ _ => oddPair vd || readRefused (ownGuard s n c (getX c xr.toNat).toNat)
  | .spwr vs xr _ => oddPair vs || writeRefused (ownGuard s n c (getX c xr.toNat).toNat)
  | .rowcmp w xr md _ _ =>
    w == 3 || (w == 0 && !(md == 4 || md == 8 || md == 12)) || (w == 1 && (md.getLsbD 0 || md == 0)) || (w == 2 && md == 0) ||
    readRefused (ownGuard s n c (getX c xr.toNat).toNat)
  | .rowcnt xr _ _ _ rf md _ => (rf == (md == 0)) || (ownGuard s n c (getX c xr.toNat).toNat).isSome
  | .cmrd xc xr => moveReadRefused c (cmGuard s n (getX c xc.toNat).toNat) || moveWriteRefused c (ownGuard s n c (getX c xr.toNat).toNat)
  | .cmwr xc xr => moveWriteRefused c (cmGuard s n (getX c xc.toNat).toNat) || readRefused (ownGuard s n c (getX c xr.toNat).toNat)
  | .cmcnt xc .. => (cmGuard s n (getX c xc.toNat).toNat).isSome
  | .rrd vd xa => oddPair vd || remoteBad n c (remoteAddr (getX c xa.toNat))
  | .rwr vs xa => oddPair vs || remoteBad n c (remoteAddr (getX c xa.toNat))

/-- MSG (09 R354, R356). -/
def msgBad (c : Core) : MsgOp → Bool
  | .nop => false
  | .msend k xd len1 route _ =>
    let d := getX c xd.toNat
    decide (32 < k.toNat + len1.toNat + 1) || decide (5 < route.toNat) || d.extractLsb' 31 33 != 0 || d.extractLsb' 10 2 != 0 || d.getLsbD 27

/-- The receives of the SIN slot that write a scratchpad row (09 R369, 07 R260). -/
def sinGuardBad (s : State) (n : Nat) (c : Core) : SinOp → Bool
  | .trecvs xr _ _ => writeRefused (ownGuard s n c (getX c xr.toNat).toNat)
  | _ => false

/-- The encoding checks of a word (03 R80, R105). -/
def encFails (s : State) (n : Nat) (c : Core) (raw : IWord) (w : WordOps) : List Fail :=
  ((List.finRange 8).flatMap (fun i => encFail i.val (Decode.slot raw i).isNone)) ++
  encFail 0 (ctlBad w.ctl) ++ encFail 1 (sinBad w.sin || sinGuardBad s n c w.sin) ++ encFail 2 (matBad s n c w.mat) ++
  encFail 3 (vecBad c w.vec0) ++ encFail 4 (vecBad c w.vec1 || vecPairBad w) ++ encFail 5 (redBad w.red) ++
  encFail 6 (memBad s n c w.mem) ++ encFail 7 (msgBad c w.msg)

/-! ## Loop nesting (03 R91, 22 R774) -/

/-- The end word of a LOOP or LOOPI. -/
def loopEnd (c : Core) : CtlOp → Option Nat
  | .loop _ stop => some stop.toNat
  | .loopi _ offset => some (c.pc + offset.toNat)
  | _ => none

/-- The loop-nesting check. -/
def loopFails (c : Core) (o : CtlOp) : List Fail :=
  match loopEnd c o with
  | none => []
  | some e =>
    failIf (decide (e ≤ c.pc) || decide (4 ≤ c.loops.length) || (match c.loops with | l :: _ => decide (l.stop < e) | [] => false))
      { rank := 2, slot := 0, code := 0x0106 }

/-! ## Bounds (03 R118 to R121) -/

/-- The first and last row of a WLD. -/
def wldLast (c : Core) (r : Nat) : Nat := if (arrayFmt c.mat.mode.format).scaled then r + (arrayFmt c.mat.mode.format).rows else r + 7

/-- The lowest and highest far offsets of a stream from its base (08 R290, R298). -/
def farSpan (d : StreamDesc) : Int × Int :=
  (d.counts.zip d.strides).foldl (fun (a : Int × Int) (cs : Nat × Int) =>
    let r : Int := ((cs.1 - 1 : Nat) : Int) * cs.2
    (a.1 + min 0 r, a.2 + max 0 r)) (0, 0)

/-- The space of a stream's far end as CORE_FAULT_DETAIL codes it. -/
def farSpaceCode (d : StreamDesc) : Nat := if d.farSpace = 0 then 2 else if d.farSpace = 1 then 3 else 1

/-- The far base of an SGO (08 R297). -/
def sgoBase (d : StreamDesc) (x : W64) : Int := (d.farBase : Int) + signedOf 64 x.toNat

/-- The bound check of an SGO: against the window of the stream's owner (08 R298). -/
def sgoFails (s : State) (n : Nat) (c : Core) (st : Nat) (x : W64) : List Fail :=
  match (getStream s (clusOf n) st).desc with
  | none => []
  | some d =>
    let owner := if d.owner = lcoreNum c then taskOf c else match physOf s (clusOf n) d.owner with
      | some k => taskOf (getCore s k)
      | none => {}
    let w := windowOf owner (farSpaceCode d)
    let sp := farSpan d
    let b := sgoBase d x
    boundFail 1 (farSpaceCode d) w.1 w.2 (b + sp.1) (b + sp.2 + (if d.farSpace = 2 then 0 else 511))

/-- The bound check of a remote access (03 R120, R121). -/
def remoteFails (s : State) (n : Nat) (c : Core) (x : W64) : List Fail :=
  let a := remoteAddr x
  let here := partOfCluster s (clusOf n)
  if partOfCluster s a.cluster ≠ here ∨ here = none then
    [{ rank := 3, slot := 6, code := 0x0105, detail := BitVec.ofNat 64 ((if a.cm then 1 else 0) * 2 ^ 60 + a.row) }]
  else if a.cm then rowsFail 6 1 (taskOf c) a.row a.row
  else rowsFail 6 0 (match physOf s a.cluster a.lcore with | some t => taskOf (getCore s t) | none => {}) a.row a.row

/-- The bound check of an MSEND (09 R356). -/
def msendFails (s : State) (n : Nat) (c : Core) : MsgOp → List Fail
  | .nop => []
  | .msend _ xd _ route group =>
    let d := getX c xd.toNat
    let part := partOfCluster s (clusOf n)
    let mask : BitVec 64 := match part with | some p => (getPart s p).mcast | none => 0
    failIf (((d.extractLsb' 0 12).toNat == s.self && partOfCluster s (d.extractLsb' 12 5).toNat != part) ||
        ((route == 2 || route == 3) && !mask.getLsbD group.toNat))
      { rank := 3, slot := 7, code := 0x0105 }

/-- The bound checks of a word. -/
def boundFails (s : State) (n : Nat) (c : Core) (w : WordOps) : List Fail :=
  let t := taskOf c
  let x (r : BitVec 5) : Nat := (getX c r.toNat).toNat
  (match w.sin with
    | .trecvs xr _ _ => rowsFail 1 0 t (x xr) (x xr)
    | .sgo st xa => sgoFails s n c st.toNat (getX c xa.toNat)
    | _ => []) ++
  (match w.mat with
    | .wld xr _ => rowsFail 2 0 t (x xr) (wldLast c (x xr))
    | _ => []) ++
  (match w.mem with
    | .sprd _ xr _ _ => rowsFail 6 0 t (x xr) (x xr)
    | .spwr _ xr _ => rowsFail 6 0 t (x xr) (x xr)
    | .rowcmp _ xr .. => rowsFail 6 0 t (x xr) (x xr)
    | .rowcnt xr .. => rowsFail 6 0 t (x xr) (x xr)
    | .cmrd xc xr => rowsFail 6 1 t (x xc) (x xc) ++ rowsFail 6 0 t (x xr) (x xr)
    | .cmwr xc xr => rowsFail 6 1 t (x xc) (x xc) ++ rowsFail 6 0 t (x xr) (x xr)
    | .cmcnt xc .. => rowsFail 6 1 t (x xc) (x xc)
    | .rrd _ xa => remoteFails s n c (getX c xa.toNat)
    | .rwr _ xa => remoteFails s n c (getX c xa.toNat)
    | .nop => []) ++
  msendFails s n c w.msg

/-! ## Bank use (07 R244, R245, R249, R281) -/

/-- A use of a program slot: write, positions from the issue, bank. -/
abbrev BankUse := Bool × Nat × Nat

/-- The program slots that a word's slot needs (07 R244). -/
def sinUses (c : Core) : SinOp → List BankUse
  | .trecvs xr _ _ => [(true, 2, spBank (getX c xr.toNat).toNat)]
  | _ => []
/-- As `sinUses`, of the MAT slot. -/
def matUses (c : Core) : MatIns → List BankUse
  | .wld xr _ =>
    let r := (getX c xr.toNat).toNat
    (firstRows r).map (fun i => (false, 0, spBank i)) ++ (secondRows c.mat.mode.format r).map (fun i => (false, 1, spBank i))
  | _ => []
/-- As `sinUses`, of the MEM slot. -/
def memUses (c : Core) : MemOp → List BankUse
  | .sprd _ xr _ _ => [(false, 0, spBank (getX c xr.toNat).toNat)]
  | .spwr _ xr _ => [(true, 2, spBank (getX c xr.toNat).toNat)]
  | .rowcmp _ xr .. => [(false, 0, spBank (getX c xr.toNat).toNat)]
  | .rowcnt xr .. => [(false, 0, spBank (getX c xr.toNat).toNat), (true, 5, spBank (getX c xr.toNat).toNat)]
  | .cmwr _ xr => [(false, 0, spBank (getX c xr.toNat).toNat)]
  | _ => []

/-- The program owns the read or write slots of an issue position under CORE_SP_SPLIT (07 R245). -/
def programOwns (split : W32) (write : Bool) (i : Nat) : Bool := split.getLsbD ((if write then 16 else 0) + i % 8)
/-- The stream engine owns the slots of an issue position under CORE_SP_SPLIT (07 R245). -/
def streamOwns (split : W32) (write : Bool) (i : Nat) : Bool := split.getLsbD ((if write then 24 else 8) + i % 8)

/-- The slots that accesses in flight have claimed (07 R249, 04 R139). -/
def flightUses (f : Flight) : List BankUse :=
  match f.eff with
  | .rowWrite row .. => [(true, f.left - 1, spBank row)]
  | .countWrite row .. => [(true, f.left - 1, spBank row)]
  | .weights _ format base _ => if f.left = 4 then (secondRows format base).map (fun i => (false, 0, spBank i)) else []
  | _ => []

/-- A bank of the core's own scratchpad is off or not ready (07 R281, R284). -/
def bankDown (c : Core) (b : Nat) : Bool :=
  let p : BankPower := mget {} c.mem.banks b
  p.off || !p.ready

/-- The bank checks of one slot after the claims of lower slots. -/
def bankFailsOf (c : Core) (slot : Nat) (claims mine : List BankUse) : List Fail :=
  failIf (mine.any (fun u => !programOwns c.mem.split u.1 (c.issued.toNat + u.2.1) || claims.contains u))
    { rank := 4, slot := slot, code := 0x0104 } ++
  failIf (mine.any (fun u => bankDown c u.2.2)) { rank := 4, slot := slot, code := 0x0132 }

/-- The bank checks of a word. -/
def bankFails (c : Core) (w : WordOps) : List Fail :=
  let c0 := c.inflight.flatMap flightUses
  let a := sinUses c w.sin
  let b := matUses c w.mat
  let d := memUses c w.mem
  bankFailsOf c 1 c0 a ++ bankFailsOf c 2 (c0 ++ a) b ++ bankFailsOf c 6 (c0 ++ a ++ b) d

/-! ## The other checks (03 R105; 04 R143, R164, R165, R175; 08 R295, R299, R300; 09 R368; 10 R415, R416) -/

/-- A check of the last kind. -/
def otherIf (slot code : Nat) (b : Bool) (detail : W64 := 0) : List Fail := failIf b { rank := 6, slot := slot, code := code, detail := detail }

/-- A queue that a receive (`mat` clear) or an MMUL (`mat` set) may not name (09 R368). -/
def unbound (c : Core) (t : Nat) (mat : Bool) : Bool := let q := getTq c t; !q.bound || q.bindMat != mat

/-- The queue is the one whose rows the twin comparator of its partition takes (13 R540). -/
def comparatorQueue (s : State) (cl lcore t : Nat) : Bool :=
  match partOfCluster s cl with
  | some p =>
    let f := (getPart s p).twin.cfg.toNat
    natBits f 31 1 == 1 && natBits f 15 5 == cl && natBits f 10 5 == lcore && natBits f 5 5 == t
  | none => false

/-- A core holds a batch of a channel: taken and no GRET issued for it (10 R412, R413). -/
def holdsBuf (b : BatchBuf) (lc : Nat) : Bool :=
  b.state == .held && b.taken.getLsbD lc && !b.returned.getLsbD lc && !(b.gret.any (fun e => e.1 == lc))
/-- The buffer of a channel that a core holds. -/
def heldBuf (h : Channel) (lc : Nat) : Option Nat := if holdsBuf h.buf0 lc then some 0 else if holdsBuf h.buf1 lc then some 1 else none

/-- A channel refuses a core (10 R415). -/
def chanRefuses (h : Channel) (lc : Nat) : Bool := !h.en || !h.cons.getLsbD lc

/-- The other checks of the SIN slot. -/
def sinFails (s : State) (n : Nat) (c : Core) (o : SinOp) : List Fail :=
  let lc := lcoreNum c
  match o with
  | .nop => []
  | .trecv _ tag _ _ => otherIf 1 0x0109 (unbound c tag.toNat false || comparatorQueue s (clusOf n) lc tag.toNat) (tag.setWidth 64)
  | .trecvs _ tag _ => otherIf 1 0x0109 (unbound c tag.toNat false) (tag.setWidth 64)
  | .srecv _ port => otherIf 1 0x0142 (getSp c port.toNat).stream.isNone
  | .sgo st _ =>
    let t := getStream s (clusOf n) st.toNat
    otherIf 1 0x0142 (match t.desc with | some d => d.owner != lc | none => true) ++
    otherIf 1 0x0141 (t.state == .running || t.state == .halted || t.state == .faulted)
  | .gtake ch _ _ => let h := getChan s (clusOf n) ch.toNat; otherIf 1 0x0160 (chanRefuses h lc || (heldBuf h lc).isSome)
  | .gret ch => let h := getChan s (clusOf n) ch.toNat; otherIf 1 0x0160 (chanRefuses h lc || (heldBuf h lc).isNone)

/-- A MAT operation is in flight or delayed (04 R164). -/
def matBusy (c : Core) : Bool :=
  !c.mat.elastic.isEmpty || c.inflight.any (fun f => match f.eff with
    | .mat _ => true
    | .weights .. => true
    | .drainOffer .. => true
    | .accClear => true
    | _ => false)

/-- An entry outside the file of long mode (04 R165). -/
def entryBad (m : MatMode) (e : BitVec 8) : Bool := m.accmode == 2 && decide (64 ≤ e.toNat)

/-- The current weight set of an array. -/
def curSet (m : Mat) : WeightSet := setOf m m.cur
/-- The inactive weight set of an array. -/
def idleSet (m : Mat) : WeightSet := setOf m (1 - m.cur)

/-- A read of an accumulator entry meets a delayed write (04 R175). -/
def readOverrun (c : Core) (e : Nat) : Bool := lateWrite (c.mat.elastic ++ c.inflight) e c.issued.toNat

/-- A MAT operation would wait where 16 wait already (04 R175). -/
def lagFull (c : Core) : Bool := decide (16 ≤ c.mat.elastic.length)

/-- The port of an MMUL's source: 0 to 3 an SP port, 4 + tag a tag queue, none a register pair (22 R777). -/
def mmulPort (src : BitVec 2) (source : BitVec 12) : Option Nat :=
  if src = 1 then some (4 + (source.extractLsb' 7 5).toNat) else if src = 2 then some (source.extractLsb' 7 2).toNat else none

/-- The other checks of the MAT slot. -/
def matFails (c : Core) (o : MatIns) : List Fail :=
  let m := c.mat
  match o with
  | .nop => []
  | .matcfg _ accmode _ _ => otherIf 2 0x010A (accmode.toNat != m.mode.accmode && matBusy c) ++ otherIf 2 0x0111 (lagFull c)
  | .wld .. =>
    otherIf 2 0x0110 (m.elastic.any (fun f => match f.eff with | .mat (.mmul _ _ _ set ..) => set == 1 - m.cur | _ => false)) ++
    otherIf 2 0x0111 (lagFull c)
  | .wswap => otherIf 2 0x0110 ((idleSet m).busy != 0) ++ otherIf 2 0x0111 (lagFull c)
  | .mmul e _ swap src source =>
    otherIf 2 0x0109 (src == 1 && unbound c (source.extractLsb' 7 5).toNat true) ((source.extractLsb' 7 5).setWidth 64) ++
    otherIf 2 0x010A (entryBad m.mode e) ++
    otherIf 2 0x0110 ((curSet m).format != some m.mode.format || (swap && (idleSet m).busy != 0)) ++
    otherIf 2 0x0111 (lagFull c) ++
    otherIf 2 0x0142 (src == 2 && (getSp c (source.extractLsb' 7 2).toNat).stream.isNone)
  | .laccadd e _ =>
    otherIf 2 0x010A (m.mode.accmode != 2 || entryBad m.mode e) ++ otherIf 2 0x0111 (readOverrun c e.toNat || lagFull c)
  | .adrain e .. => otherIf 2 0x010A (entryBad m.mode e) ++ otherIf 2 0x0111 (readOverrun c e.toNat || lagFull c)

/-- The other checks of a VEC slot: VACC (04 R165, R175). -/
def vecFails (c : Core) (slot : Nat) : VecOp → List Fail
  | .acc form a =>
    otherIf slot 0x010A ((form == 0) == (c.mat.mode.accmode == 2) || entryBad c.mat.mode a.e) ++ otherIf slot 0x0111 (readOverrun c a.e.toNat)
  | _ => []

/-- A core still holds a batch of some channel of its cluster (10 R416). -/
def holdsAny (s : State) (n : Nat) (lc : Nat) : Bool := [0, 1, 2, 3].any (fun i => (heldBuf (getChan s (clusOf n) i) lc).isSome)

/-- The other checks of the MEM slot: the move queue (07 R251). -/
def moveFails (c : Core) : MemOp → List Fail
  | .cmrd .. => otherIf 6 0x0133 (decide (16 ≤ c.mem.moves.length))
  | .cmwr .. => otherIf 6 0x0133 (decide (16 ≤ c.mem.moves.length))
  | .cmcnt .. => otherIf 6 0x0133 (decide (16 ≤ c.mem.moves.length))
  | _ => []

/-- The array waits: row-stall mode, and operations wait or the array has executed one in this cc (04 R173). -/
def arrayWaits (s : State) (n : Nat) (c : Core) : Bool := (runOf s (clusOf n)).rowStall && (!c.mat.elastic.isEmpty || c.mat.ran)

/-- The MAT operation of a word goes into the elastic buffer: the array waits, its vector has not come or its drain is blocked (04 R173). -/
def matWaits (s : State) (n : Nat) (c : Core) (o : MatIns) : Bool :=
  arrayWaits s n c || ((runOf s (clusOf n)).rowStall && match o with
    | .mmul _ _ _ src source => (match mmulPort src source with | some port => !vecReady c port | none => false)
    | .adrain _ port .. => drainBlocked c port.toNat
    | _ => false)

/-- The results that a word makes visible at their latencies; one that waits for the array lands later, where the array checks it (03 R86; 04 R174). -/
def visibleDests (s : State) (n : Nat) (c : Core) (w : WordOps) : List (Nat × Dest) :=
  let ds := wordDests c.mat.mode w
  if matWaits s n c w.mat then ds.filter (fun d => d.2.1 != 3) else ds

/-- Every check of a word but the program range (03 R105). -/
def wordFails (s : State) (n : Nat) (c : Core) (raw : IWord) (w : WordOps) : List Fail :=
  encFails s n c raw w ++ loopFails c w.ctl ++ boundFails s n c w ++ bankFails c w ++
  conflictFails c.inflight (visibleDests s n c w) [] ++
  otherIf 0 0x0160 (w.ctl == .end_ && holdsAny s n (lcoreNum c)) ++ sinFails s n c w.sin ++ matFails c w.mat ++
  vecFails c 3 w.vec0 ++ vecFails c 4 w.vec1 ++ moveFails c w.mem

/-! ## What holds a word (03 R99, R100) -/

/-- A bank of the core's own scratchpad is in Lull or waking (07 R280). -/
def bankAsleep (c : Core) (b : Nat) : Bool := (mget {} c.mem.banks b : BankPower).lull

/-- A producer write of the core to a row is on its way (07 R257). -/
def produceDue (c : Core) (row : Nat) : Bool :=
  c.inflight.any (fun f => match f.eff with | .rowWrite r _ p => p && r == row | _ => false)

/-- The banks that a word's accesses name and that sleep (07 R280; 03 R100). -/
def asleepBanks (c : Core) (w : WordOps) (slot : Nat) : List Nat :=
  let uses := match slot with
    | 1 => sinUses c w.sin
    | 2 => matUses c w.mat
    | _ => memUses c w.mem ++ (match w.mem with | .cmrd _ xr => [(true, 0, spBank (getX c xr.toNat).toNat)] | _ => [])
  (uses.map (fun u => u.2.2)).filter (fun b => bankAsleep c b)

/-- A wait for a sleeping bank. -/
def bankHold (c : Core) (w : WordOps) (slot : Nat) : Option Hold :=
  match asleepBanks c w slot with
  | [] => none
  | _ => some { cause := .external, ix := 0 }

/-- The head of a tag queue can be taken by a receive (09 R369, R370). -/
def headReady (c : Core) (t : Nat) : Bool :=
  match (getTq c t).entries with
  | e :: _ => e.row.isSome && e.age == 0
  | [] => false

/-- A program's write of a guarded row must wait (07 R257). -/
def writeWaits (s : State) (n : Nat) (c : Core) (row : Nat) : Bool :=
  (ownGuard s n c row).isSome && (spValid c row || produceDue c row)
/-- A program's read of a guarded row must wait: VALID is clear, or a write of this cc has only now set it (07 R258). -/
def readWaits (s : State) (n : Nat) (c : Core) (row : Nat) : Bool :=
  (ownGuard s n c row).isSome && (!spValid c row || c.mem.uses.any (fun u => u.isWrite && u.row == row))

/-- A batch that a core may take now: released two cc before at least, and not taken by it (10 R412). -/
def takeable (b : BatchBuf) (lc cc : Nat) : Bool :=
  (b.state == .released || b.state == .held) && !b.taken.getLsbD lc && decide (b.relCc + 2 ≤ cc)
/-- The buffer that a GTAKE takes: in release order (10 R412). -/
def takeBuf (h : Channel) (lc cc : Nat) : Option Nat :=
  let a := takeable h.buf0 lc cc
  let b := takeable h.buf1 lc cc
  if a && b then (if h.buf0.batchSeq.toNat ≤ h.buf1.batchSeq.toNat then some 0 else some 1)
  else if a then some 0 else if b then some 1 else none

/-- The index of the core that a wait names as its peer: the numbering is a free value (03 R107). -/
def peerOf (cluster lcore : Nat) : Nat := (Config.peerIndex cluster lcore).toNat

/-- The index that a wait for the producer of a guarded row names: its stream, or the core that writes it (03 R107; 08 R292). -/
def producerIx (s : State) (n : Nat) (c : Core) (row : Nat) : Nat :=
  match ownGuard s n c row with
  | some (b, _) =>
    if b.producer = 0 then b.producerId
    else if b.producer = 3 then peerOf b.producerCluster b.producerId
    else peerOf (clusOf n) (lcoreNum c)
  | none => 0

/-- The index that a wait for the consumer of a guarded row names: its stream, or the owner (03 R107; 08 R292). -/
def consumerIx (s : State) (n : Nat) (c : Core) (row : Nat) : Nat :=
  match ownGuard s n c row with
  | some (b, _) => if b.consumer = 1 then b.consumerId else peerOf (clusOf n) (lcoreNum c)
  | none => 0

/-- What holds the SIN slot. -/
def sinHold (s : State) (n : Nat) (c : Core) (w : WordOps) : Option Hold :=
  match w.sin with
  | .trecv _ tag _ _ => if headReady c tag.toNat then none else some ⟨.input, tag.toNat⟩
  | .trecvs xr tag _ =>
    match bankHold c w 1 with
    | some h => some h
    | none =>
      if writeWaits s n c (getX c xr.toNat).toNat then some ⟨.output, consumerIx s n c (getX c xr.toNat).toNat⟩
      else if headReady c tag.toNat then none else some ⟨.input, tag.toNat⟩
  | .srecv _ port => let p := getSp c port.toNat; if p.rows.isEmpty then some ⟨.input, p.stream.getD 0⟩ else none
  | .gtake ch _ _ =>
    let x := getClus s (clusOf n)
    if (takeBuf (getChan s (clusOf n) ch.toNat) (lcoreNum c) x.mem.cc).isSome then none else some ⟨.input, ch.toNat⟩
  | _ => none

/-- What holds the MEM slot. -/
def memHold (s : State) (n : Nat) (c : Core) (w : WordOps) : Option Hold :=
  match bankHold c w 6 with
  | some h => some h
  | none =>
    let x (r : BitVec 5) : Nat := (getX c r.toNat).toNat
    let peer (r : BitVec 5) : Nat := let a := remoteAddr (getX c r.toNat); peerOf a.cluster a.lcore
    match w.mem with
    | .sprd _ xr _ _ => if readWaits s n c (x xr) then some ⟨.input, producerIx s n c (x xr)⟩ else none
    | .rowcmp _ xr .. => if readWaits s n c (x xr) then some ⟨.input, producerIx s n c (x xr)⟩ else none
    | .cmwr _ xr => if readWaits s n c (x xr) then some ⟨.input, producerIx s n c (x xr)⟩ else none
    | .spwr _ xr _ => if writeWaits s n c (x xr) then some ⟨.output, consumerIx s n c (x xr)⟩ else none
    | .rrd _ xa => if c.mem.reply.isSome then none else some ⟨.input, peer xa⟩
    | .rwr _ xa => if c.mem.remote.length < 4 then none else some ⟨.output, peer xa⟩
    | _ => none

/-- What holds the MSG slot (09 R355). -/
def msgHold (c : Core) (w : WordOps) : Option Hold :=
  match w.msg with
  | .nop => none
  | .msend _ xd len1 _ _ =>
    let d := getX c xd.toNat
    if c.outq.length + len1.toNat + 1 ≤ 8 then none
    else some ⟨.output, peerOf (d.extractLsb' 12 5).toNat (d.extractLsb' 17 5).toNat⟩

/-- The lowest slot that is not ready (03 R105). -/
def firstHold (s : State) (n : Nat) (c : Core) (w : WordOps) : Option (Nat × Hold) :=
  match sinHold s n c w with
  | some h => some (1, h)
  | none => match bankHold c w 2 with
    | some h => some (2, h)
    | none => match memHold s n c w with
      | some h => some (6, h)
      | none => (msgHold c w).map (fun h => (7, h))

end Sys2Proof.Machine
end

