-- ==== Sys2Proof/Machine/CoreIssue.lean ====
section
/-! DEFINITION. One cc of a core: the evaluation of the word at its PC, the freeze, the issue of the eight slots, and the next PC (03 R78 to R111; 04 R139 to R175; 06 R216 to R239; 07 R244 to R273; 08 R294 to R297; 09 R354, R369; 10 R412, R413). -/

namespace Sys2Proof.Machine

/-- What the slots of an issuing word share: the core as it stands before the issue, its number, its word's PC and issue position. -/
structure Issue where
  n : Nat
  c : Core
  pc : Nat
  at_ : W64
  deriving DecidableEq, Repr

/-- An X register as the word reads it. -/
def Issue.x (i : Issue) (r : BitVec 5) : W64 := getX i.c r.toNat
/-- A row number that an X register holds. -/
def Issue.row (i : Issue) (r : BitVec 5) : Nat := (getX i.c r.toNat).toNat

/-- An operation issued by a slot begins its flight (03 R85). -/
def launch (s : State) (i : Issue) (slot lat : Nat) (e : FlightEff) : State :=
  modCore s i.n (fun c => { c with inflight := c.inflight ++ [{ left := lat, slot := slot, pc := i.pc, issue := i.at_, eff := e }] })

/-- Several operations of a slot begin their flights. -/
def launches (s : State) (i : Issue) (slot : Nat) (es : Effs) : State := es.foldl (fun a e => launch a i slot e.1 e.2) s

/-- A register pair takes a row at a latency (03 R84). -/
def launchPair (s : State) (i : Issue) (slot lat : Nat) (vd : BitVec 6) (r : Row) : State :=
  launches s i slot [(lat, .writeV vd.toNat (rowHalf r false) (BitVec.allOnes 64) false), (lat, .writeV (vd.toNat + 1) (rowHalf r true) (BitVec.allOnes 64) false)]

/-- The post-increment of an address register (22 R769). -/
def postInc (s : State) (i : Issue) (xr : BitVec 5) (inc : BitVec 8) : State :=
  if inc = 0 then s else modCore s i.n (fun c => setX c xr.toNat (i.x xr + inc.signExtend 64))

/-! ## CTL (22 R772, R773) -/

/-- A three-register operation of the CTL slot (22 R772). -/
def xResult (o : XOp) (a b : W64) : W64 :=
  match o with
  | .add => a + b
  | .sub => a - b
  | .mul => a * b
  | .and => a &&& b
  | .or => a ||| b
  | .xor => a ^^^ b
  | .shl => a <<< (b.toNat % 64)
  | .shr => a >>> (b.toNat % 64)
  | .sra => a.sshiftRight (b.toNat % 64)

/-- The value of XLI (22 R772). -/
def xliResult (old : W64) (kf : BitVec 2) (imm : BitVec 16) : W64 :=
  if kf = 0 then imm.setWidth 64
  else (old &&& ~~~((0xFFFF : W64) <<< (16 * kf.toNat))) ||| (imm.setWidth 64 <<< (16 * kf.toNat))

/-- A branch condition on an X register (22 R773). -/
def branchTaken (cond : BitVec 3) (x : W64) : Bool :=
  let v := x.toInt
  match cond.toNat with
  | 0 => true
  | 1 => v == 0
  | 2 => v != 0
  | 3 => decide (v < 0)
  | 4 => decide (0 ≤ v)
  | 5 => decide (0 < v)
  | 6 => decide (v ≤ 0)
  | _ => false

/-- A target lies in the body of a loop level. -/
def inBody (l : LoopLevel) (t : Nat) : Bool := decide (l.start ≤ t ∧ t ≤ l.stop)

/-- The levels that stay open, innermost first, when a branch goes to a target: each level whose body, and the body of every level around it, holds the target (03 R92). -/
def keepLoops (t : Nat) : List LoopLevel → List LoopLevel
  | [] => []
  | l :: rest =>
    let r := keepLoops t rest
    if r.length = rest.length && inBody l t then l :: r else r

/-- The next PC and the loop levels after an end word (03 R89): the innermost level that ends at this word counts down, or closes and lets the next one count. -/
def endOfBody (pc : Nat) : List LoopLevel → Nat × List LoopLevel
  | [] => (pc + 1, [])
  | l :: rest =>
    if l.stop = pc then
      if 1 < l.count.toNat then (l.start, { l with count := l.count - 1 } :: rest) else endOfBody pc rest
    else (pc + 1, l :: rest)

/-- The next PC and the loop levels after a word (03 R88 to R92). -/
def nextPc (i : Issue) (o : CtlOp) : Nat × List LoopLevel :=
  let openLoop (count : BitVec 32) (stop : Nat) : Nat × List LoopLevel :=
    if count = 0 then (stop + 1, i.c.loops) else (i.pc + 1, { count := count, start := i.pc + 1, stop := stop } :: i.c.loops)
  match o with
  | .b cond xs target => if branchTaken cond (i.x xs) then (target.toNat, keepLoops target.toNat i.c.loops) else endOfBody i.pc i.c.loops
  | .loop xs stop => openLoop ((i.x xs).setWidth 32) stop.toNat
  | .loopi count offset => openLoop (count.setWidth 32) (i.pc + offset.toNat)
  | _ => endOfBody i.pc i.c.loops

/-- The register results of the CTL slot: they take effect for the next word (03 R87). -/
def goCtl (s : State) (i : Issue) (o : CtlOp) : State :=
  match o with
  | .x o xd xa xb => modCore s i.n (fun c => setX c xd.toNat (xResult o (i.x xa) (i.x xb)))
  | .xaddi xd xa imm => modCore s i.n (fun c => setX c xd.toNat (i.x xa + imm.signExtend 64))
  | .xli xd kf imm => modCore s i.n (fun c => setX c xd.toNat (xliResult (i.x xd) kf imm))
  | _ => s

/-! ## SIN -/

/-- The row at the head of a tag queue is taken (09 R369). -/
def takeEntry (s : State) (n t : Nat) : State :=
  modCore s n (fun c => let q := getTq c t; setTq c t (settleQueue { q with entries := q.entries.tail, taken := 0 }))

/-- The head entry of a tag queue. -/
def headEntry (c : Core) (t : Nat) : TqEntry :=
  match (getTq c t).entries with
  | e :: _ => e
  | [] => { header := 0, row := none, age := 0 }

/-- A row write of the core's own program: it lands in the write slot two positions later, and a guarded row becomes VALID then (07 R244, R257). -/
def launchWrite (s : State) (i : Issue) (slot row : Nat) (v : Row) : State :=
  launch s i slot 3 (.rowWrite row v (ownGuard s i.n i.c row).isSome)

/-- The header word that TRECV writes: bits [63:0] with SRC_DEVICE zero (09 R369). -/
def headerWord (h : Header) : W64 := h.extractLsb' 0 64 &&& 0x000FFFFFFFFFFFFF

/-- MASK of a batch: bit s set where slot s holds a request (10 R404). -/
def batchMask (b : BatchBuf) : W64 := BitVec.ofNat 64 (2 ^ b.refs.length - 1)

/-- The header row number of buffer `k` of a channel (10 R403). -/
def batchBase (h : Channel) (k : Nat) : Nat := h.base + 144 * k

/-- The descriptor that GTAKE writes to Xd (10 R412). -/
def batchDescriptor (h : Channel) (k : Nat) (b : BatchBuf) : W64 :=
  BitVec.ofNat 64 (batchBase h k % 2 ^ 18 ||| b.refs.length <<< 18 ||| (if b.flush then 1 else 0) <<< 25 ||| k <<< 26)

/-- Buffer `k` of a channel. -/
def getBuf (h : Channel) (k : Nat) : BatchBuf := if k = 0 then h.buf0 else h.buf1
/-- A channel with buffer `k` changed. -/
def modBuf (h : Channel) (k : Nat) (f : BatchBuf → BatchBuf) : Channel := if k = 0 then { h with buf0 := f h.buf0 } else { h with buf1 := f h.buf1 }

/-- The SIN slot issues. -/
def goSin (s : State) (i : Issue) (o : SinOp) : State :=
  let cl := clusOf i.n
  let lc := lcoreNum i.c
  match o with
  | .nop => s
  | .trecv vd tag h xh =>
    let e := headEntry i.c tag.toNat
    let s1 := launchPair (takeEntry s i.n tag.toNat) i 1 latRow vd (e.row.getD 0)
    if h then launch s1 i 1 latRow (.writeX xh.toNat (headerWord e.header)) else s1
  | .trecvs xr tag inc =>
    let e := headEntry i.c tag.toNat
    postInc (launchWrite (takeEntry s i.n tag.toNat) i 1 (i.row xr) (e.row.getD 0)) i xr inc
  | .srecv vd port =>
    let p := getSp i.c port.toNat
    match p.rows with
    | [] => s
    | (r, _) :: rest =>
      let s1 := modCore s i.n (fun c => setSp c port.toNat { p with rows := rest, taken := 0 })
      consumeStream (launchPair s1 i 1 latRow vd r) cl p.stream rest.length
  | .sgo st xa =>
    let t := getStream s cl st.toNat
    match t.desc with
    | some d => setStream s cl st.toNat { t with state := .running, reason := 0, next := 0, base := sgoBase d (i.x xa), delivered := 0, consumed := 0, tags := [], resumed := false, xlat := none }
    | none => s
  | .gtake ch xd md =>
    let h := getChan s cl ch.toNat
    match takeBuf h lc (getClus s cl).mem.cc with
    | none => s
    | some k =>
      let b := getBuf h k
      let s1 := setChan s cl ch.toNat (modBuf h k (fun b => { b with state := .held, taken := b.taken ||| BitVec.ofNat 24 (2 ^ lc) }))
      launches s1 i 1 [(latRow, .writeX xd.toNat (batchDescriptor h k b)), (latRow, .writeM md.toNat (batchMask b) (BitVec.allOnes 64) false)]
  | .gret ch =>
    let h := getChan s cl ch.toNat
    match heldBuf h lc with
    | some k => setChan s cl ch.toNat (modBuf h k (fun b => { b with gret := mset b.gret lc i.c.mem.moveSeq }))
    | none => s

/-! ## MAT -/

/-- A MAT operation waits in the elastic buffer (04 R173). -/
def waitMat (s : State) (i : Issue) (op : MatOp) : State :=
  modCore s i.n (fun c => modMat c (fun m =>
    let e := m.elastic ++ [{ left := 0, slot := 2, pc := i.pc, issue := i.at_, eff := .mat op }]
    { m with elastic := e, lagMax := max m.lagMax e.length }))

/-- MATCFG, WLD and WSWAP take a place in the elastic buffer while operations wait (04 R173). -/
def takePlace (s : State) (i : Issue) : State := if i.c.mat.elastic.isEmpty then s else waitMat s i .place

/-- The array waits (04 R173). -/
def mustWait (s : State) (i : Issue) : Bool := arrayWaits s i.n i.c

/-- The operation of an issuing slot in the elastic buffer or in flight. -/
def matFlight (i : Issue) (op : MatOp) : Flight := { left := 0, slot := 2, pc := i.pc, issue := i.at_, eff := .mat op }

/-- The starved MMUL of bubble mode: a bubble, a debt, a slip and its late fault; a vector that the port has accepted and that no MMUL could take yet arrives at a port with that debt (04 R170, R172). -/
def starvedMmul (s : State) (i : Issue) (e : Nat) (zf : Bool) (port : Nat) : State :=
  let m := i.c.mat
  let s1 := launch s i 2 (latMat m.mode.systolic) (.mat (.mmul e zf m.mode m.cur (curSet m).rows none none))
  payDebts 64 (modCore s1 i.n (fun c => pushLate (modMat c (fun m => { m with debts := mmod 0 m.debts port (· + 1), slips := m.slips.bump })) 2 0x0112 i.pc i.at_ 0)) i.n port

/-- MMUL (04 R141, R142, R145, R146, R149, R170, R173). -/
def goMmul (s : State) (i : Issue) (e : Nat) (zf swap : Bool) (src : BitVec 2) (source : BitVec 12) : State :=
  let m := i.c.mat
  let op (vec : Option (Row × Nat)) (port : Option Nat) : MatOp := .mmul e zf m.mode m.cur (curSet m).rows vec port
  let s1 := match mmulPort src source with
    | none =>
      let v := (source.extractLsb' 4 3).toNat
      let o := op (some (pairRow i.c (2 * (source.extractLsb' 7 5).toNat), v)) none
      if mustWait s i then waitMat s i o else startMat s i.n (matFlight i o) o
    | some port =>
      let o := op none (some port)
      if (runOf s (clusOf i.n)).rowStall then
        if mustWait s i || !vecReady i.c port then waitMat s i o else startMat s i.n (matFlight i o) o
      else if vecReady i.c port then startMat s i.n (matFlight i o) o
      else starvedMmul s i e zf port
  if swap then modCore s1 i.n (fun c => modMat c (fun m => { m with cur := 1 - m.cur })) else s1

/-- WLD (04 R138 to R144). -/
def goWld (s : State) (i : Issue) (xr : BitVec 5) (inc : BitVec 8) : State :=
  let m := i.c.mat
  let r := i.row xr
  let lat := 3 + (arrayFmt m.mode.format).cycles
  let (rows, s1) := progReads s i.n 2 i.pc i.at_ (firstRows r)
  let s2 := launch s1 i 2 lat (.weights (1 - m.cur) m.mode.format r rows)
  let s3 := modCore s2 i.n (fun c => modMat c (fun m => modSet m (1 - m.cur) (fun w => { w with busy := lat })))
  takePlace (postInc s3 i xr inc) i

/-- MATCFG (04 R163, R164). -/
def goMatcfg (s : State) (i : Issue) (format : BitVec 4) (accmode : BitVec 2) (systolic : Bool) (xe : BitVec 5) : State :=
  let mode : MatMode := { format := format.toNat, accmode := accmode.toNat, systolic := systolic, eLo := signedOf 10 (i.x xe).toNat }
  let s1 := modCore s i.n (fun c => modMat c (fun m => { m with mode := mode }))
  let s2 := if accmode.toNat ≠ i.c.mat.mode.accmode then launch s1 i 2 1 .accClear else s1
  takePlace s2 i

/-- The MAT slot issues. -/
def goMat (s : State) (i : Issue) (o : MatIns) : State :=
  match o with
  | .nop => s
  | .matcfg format accmode systolic xe => goMatcfg s i format accmode systolic xe
  | .wld xr inc => goWld s i xr inc
  | .wswap => takePlace (modCore s i.n (fun c => modMat c (fun m => { m with cur := 1 - m.cur }))) i
  | .mmul e zf swap src source => goMmul s i e.toNat zf swap src source
  | .laccadd e n =>
    let v (q : Nat) : VReg := getV i.c (4 * n.toNat + q)
    let op : MatOp := .laccadd e.toNat i.c.mat.mode (laccAddend (v 0) (v 1) (v 2) (v 3))
    if mustWait s i then waitMat s i op else startMat s i.n (matFlight i op) op
  | .adrain e port bf part last =>
    let op : MatOp := .adrain e.toNat port.toNat bf part.toNat last i.c.mat.mode
    if mustWait s i || ((runOf s (clusOf i.n)).rowStall && drainBlocked i.c port.toNat) then waitMat s i op else startMat s i.n (matFlight i op) op

/-! ## VEC and RED -/

/-- The core identity of the Gust generator (11 R438). -/
def gustIdent (n : Nat) (c : Core) : Nat := 32 * clusOf n + lcoreNum c

/-- What a VEC or RED operation reads; `skip` counts the SR operations of lower slots of the word (06 R231). -/
def vecIn (s : State) (i : Issue) (skip : Nat) : VecIn :=
  { c := i.c, d := { seeds := match partOfCluster s (clusOf i.n) with | some p => (getPart s p).seeds | none => [],
                     step := stepOf s (clusOf i.n), ident := gustIdent i.n i.c },
    gcount := i.c.gcount + BitVec.ofNat 64 skip }

/-- A VEC slot issues (06 R216 to R232, R795). -/
def goVec (s : State) (i : Issue) (slot skip : Nat) (o : VecOp) : State :=
  let s1 := launches s i slot (evalVec (vecIn s i skip) o)
  match o with
  | .pfmt f => modCore s1 i.n (fun c => { c with packedFp16 := f })
  | _ => if usesSr o then modCore s1 i.n (fun c => { c with gcount := c.gcount + 1 }) else s1

/-- The RED slot issues (06 R237 to R239). -/
def goRed (s : State) (i : Issue) (o : RedOp) : State :=
  match o with
  | .nop => s
  | .red o a => launches s i 5 (evalRed (vecIn s i 0) o a)

/-! ## MEM -/

/-- The element numbers of a row that match a key under a mask (07 R266). -/
def cmpMatches (r : Row) (w : BitVec 2) (key mask : W64) : List Nat :=
  let bits := 16 * 2 ^ w.toNat
  (List.range (4096 / bits)).filter (fun k => (elemOf r bits k &&& mask.toNat) % 2 ^ bits == (key.toNat &&& mask.toNat) % 2 ^ bits)

/-- ROWCMP (07 R266). -/
def goRowcmp (s : State) (i : Issue) (w : BitVec 2) (xr : BitVec 5) (md : BitVec 4) (vc : BitVec 6) (xk2 : BitVec 4) : State :=
  let (r, s1) := progRead s i.n (i.row xr) 6 i.pc i.at_
  let ms := cmpMatches r w (getX i.c (2 * xk2.toNat)) (getX i.c (2 * xk2.toNat + 1))
  let reg (j : Nat) : BitVec 64 := BitVec.ofNat 64 ((ms.filter (fun k => k / 64 == j)).foldl (fun a k => a ||| 2 ^ (k % 64)) 0)
  let s2 := launches s1 i 6 ((List.range (4 / 2 ^ w.toNat)).map (fun j => (latCnt, .writeM (md.toNat + j) (reg j) (BitVec.allOnes 64) false)))
  launch s2 i 6 latCnt (.writeV vc.toNat (everyLane false ms.length) (BitVec.allOnes 64) false)

/-- The 128 lane bits that MM2 names (07 R267, 22 R791). -/
def countMask (c : Core) (mm2 : BitVec 3) : BitVec 128 :=
  if mm2 = 0 then BitVec.allOnes 128 else getM c (2 * mm2.toNat + 1) ++ getM c (2 * mm2.toNat)

/-- A row of counters after an increment of the selected lanes, and whether any lane overflowed (07 R267). -/
def countRow (r : Row) (mask : BitVec 128) (inc : BitVec 32) (wrap : Bool) : Row × Bool :=
  let lane (j : Nat) : Nat × Bool :=
    let v := elemOf r 32 j
    if mask.getLsbD j then
      let t := v + inc.toNat
      if 2 ^ 32 ≤ t then (if wrap then t % 2 ^ 32 else 2 ^ 32 - 1, true) else (t, false)
    else (v, false)
  let ls := (List.range 128).map lane
  (BitVec.ofNat 4096 (packElems 32 (ls.map (·.1))), ls.any (·.2))

/-- ROWCNT (07 R267 to R270). -/
def goRowcnt (s : State) (i : Issue) (xr : BitVec 5) (mm2 : BitVec 3) (xs : BitVec 5) (wrap rf : Bool) (md : BitVec 4) (ev : Bool) : State :=
  let row := i.row xr
  let (r, s1) := progRead s i.n row 6 i.pc i.at_
  let (v, o) := countRow r (countMask i.c mm2) ((i.x xs).setWidth 32) wrap
  let s2 := launch s1 i 6 latCnt (.countWrite row v o ev (if rf then some md.toNat else none))
  modCore s2 i.n (fun c => modMem c (fun m => { m with cntWindows := m.cntWindows ++ [(row, i.pc, i.at_.toNat, latCnt)] }))

/-- A move enters the move queue (07 R251). -/
def queueMove (s : State) (i : Issue) (m : Move) : State :=
  modCore s i.n (fun c => modMem c (fun x => { x with moves := x.moves ++ [(x.moveSeq, m)], moveSeq := x.moveSeq + 1 }))

/-- A CMWR whose source row holds an uncorrectable codeword: 0x0130 at the cluster with KIND move (08 R344; 18 R679, R689). -/
def sourceUe (s : State) (n row : Nat) : State :=
  let info : EccInfo := { cm := false, pcore := pcoreOf n, reader := 3, bank := spBank row, bankRow := row / 8 }
  let s1 := modClus (modCore s n eccUeFlag) (clusOf n) (fun x => modCMem x (fun m => { m with eccUe := m.eccUe.put info }))
  calmCheckAt (raiseIn s1 (clusOf n) { code := 0x0130, kind := 1, pcore := pcoreOf n, index := spBank row, detail := BitVec.ofNat 64 (row / 8) } (.core n) false) (clusOf n)

/-- A row of a guarded buffer of the core's scratchpad is consumed: VALID clears and the ring steps (07 R259, 08 R292). -/
def consumeRow (s : State) (n row : Nat) : State :=
  let c := getCore s n
  match guardAt s (clusOf n) false (lcoreNum c) row with
  | some (_, g) => stepRing (modCore s n (fun c => modMem c (fun m => { m with valid := mset m.valid row false, ecc := freshFlags m.ecc row }))) (clusOf n) g false
  | none => s

/-- A remote request leaves its core: to the target's cluster where it is the core's own, otherwise to the mesh (07 R272 to R274). -/
def sendRemote (s : State) (q : RemoteReq) : State :=
  let cl := clusOf q.core
  if q.cluster = cl then modClus s cl (fun x => { x with remoteIn := x.remoteIn ++ [q] })
  else
    let h := mkHeader s.self q.cluster q.lcore 0 0 0 false s.self cl 0 0 0 0 0
    modClus s cl (fun x => modMsg x (fun m => { m with inject := m.inject ++ [{ msg := { header := h, row := 0, fabPort := 0 }, kind := 2, reason := 0, remote := some q }] }))

/-- The remote request of an address word. -/
def remoteReq (i : Issue) (x : W64) (v : Option Row) : RemoteReq :=
  let a := remoteAddr x
  { core := i.n, space := if a.cm then 1 else 0, cluster := a.cluster, lcore := a.lcore, row := a.row, val := v, pc := i.pc, issue := i.at_, strm := none }

/-- The MEM slot issues. -/
def goMem (s : State) (i : Issue) (o : MemOp) : State :=
  match o with
  | .nop => s
  | .sprd vd xr consume inc =>
    let row := i.row xr
    let (r, s1) := progRead s i.n row 6 i.pc i.at_
    let s2 := if consume then consumeRow s1 i.n row else s1
    postInc (launchPair s2 i 6 latRow vd r) i xr inc
  | .spwr vs xr inc => postInc (launchWrite s i 6 (i.row xr) (pairRow i.c vs.toNat)) i xr inc
  | .rowcmp w xr md vc xk2 => goRowcmp s i w xr md vc xk2
  | .rowcnt xr mm2 xs wrap rf md ev => goRowcnt s i xr mm2 xs wrap rf md ev
  | .cmrd xc xr => queueMove s i (.cmrd (i.row xc) (i.row xr))
  | .cmwr xc xr =>
    let (r, s1) := readSp s i.n (i.row xr) (progParty i.c 6 i.pc i.at_)
    let s2 := queueMove s1 i (.cmwr (i.row xc) r)
    if spBad s i.n (i.row xr) then sourceUe s2 i.n (i.row xr) else s2
  | .cmcnt xc mm2 xs wrap ev => queueMove s i (.cmcnt (i.row xc) (countMask i.c mm2) ((i.x xs).setWidth 32) wrap ev)
  | .rrd vd _ =>
    match i.c.mem.reply with
    | some r => launchPair (modCore s i.n (fun c => modMem c (fun m => { m with reply := none, rrdSent := false }))) i 6 latRow vd r.val
    | none => s
  | .rwr vs xa =>
    let q := remoteReq i (i.x xa) (some (pairRow i.c vs.toNat))
    sendRemote (modCore s i.n (fun c => modMem c (fun m => { m with remote := m.remote ++ [q] }))) q

/-! ## MSG (09 R350 to R355) -/

/-- The rows of an MSEND with their headers (09 R350, R352, R354). -/
def sendRows (s : State) (i : Issue) (k xd : BitVec 5) (len1 : BitVec 3) (route : BitVec 4) (group : BitVec 6) : List MsgRow :=
  let d := (i.x xd).toNat
  (List.range (len1.toNat + 1)).map (fun j =>
    { header := mkHeader (natBits d 0 12) (natBits d 12 5) (natBits d 17 5) (natBits d 22 6) route.toNat (if route = 0 then 0 else group.toNat)
        (natBits d 30 1 == 1) s.self (clusOf i.n) (lcoreNum i.c) ((partOfCluster s (clusOf i.n)).getD 0) len1.toNat j i.c.seq.toNat,
      row := pairRow i.c (2 * (k.toNat + j)), fabPort := natBits d 28 2, came := i.c.ccs })

/-- The MSG slot issues. -/
def goMsg (s : State) (i : Issue) (o : MsgOp) : State :=
  match o with
  | .nop => s
  | .msend k xd len1 route group =>
    let s1 := modCore s i.n (fun c => { c with outq := c.outq ++ sendRows s i k xd len1 route group, seq := c.seq + 1 })
    modClus s1 (clusOf i.n) (fun x => modMsg x (fun m => { m with rowsTx := m.rowsTx.add (len1.toNat + 1) }))

/-! ## The issue of a word -/

/-- The statistic and the length of a freeze, by its cause (03 R99, R107, R126). -/
def countFreeze (c : Core) (cause : FreezeCause) : Core :=
  let t := c.stats
  { c with
    frozenFor := c.frozenFor + 1
    idleFor := c.idleFor + 1
    stats := match cause with
      | .none => t
      | .input => { t with freezeIn := t.freezeIn.bump }
      | .output => { t with freezeOut := t.freezeOut.bump }
      | .calm => { t with freezeCalm := t.freezeCalm.bump }
      | .external => { t with freezeExt := t.freezeExt.bump } }

/-- The sleeping banks that a word's slots name begin their wake (07 R280). -/
def beginWakes (c : Core) (w : WordOps) : Core :=
  let bs := asleepBanks c w 1 ++ asleepBanks c w 2 ++ asleepBanks c w 6
  modMem c (fun m => { m with banks := bs.foldl (fun a b => mmod {} a b (fun (p : BankPower) => { p with wake := 1 })) m.banks })

/-- An RRD sends its request when its word first comes to issue (07 R273). -/
def beginRrd (s : State) (i : Issue) (o : MemOp) : State :=
  match o with
  | .rrd _ xa =>
    if i.c.mem.rrdSent || decide (4 ≤ i.c.mem.remote.length) then s
    else
      let q := remoteReq i (i.x xa) none
      sendRemote (modCore s i.n (fun c => modMem c (fun m => { m with rrdSent := true, remote := m.remote ++ [q] }))) q
  | _ => s

/-- A frozen cc of a word: nothing issues and nothing advances (03 R102). -/
def freezeWord (s : State) (i : Issue) (w : WordOps) (slot : Nat) (h : Hold) : State :=
  let s1 := beginRrd s i w.mem
  let s2 := modCore s1 i.n (fun c => countFreeze (beginWakes { c with state := .frozen, cause := h.cause, slot := slot, waitIx := h.ix } w) h.cause)
  endCc s2 i.n

/-- A frozen cc that no word decides: external freezes and Lull (03 R99, R109). In a debug freeze the stall deadline does not count (11 R450). -/
def freezeCc (s : State) (n : Nat) (cause : FreezeCause) (counts : Bool) : State :=
  endCc (modCore s n (fun c => { countFreeze c cause with frozenFor := if counts then c.frozenFor + 1 else c.frozenFor })) n

/-- The eight slots of a word issue (03 R81). -/
def issueSlots (s : State) (i : Issue) (w : WordOps) : State :=
  let skip := if usesSr w.vec0 then 1 else 0
  let s1 := goSin (goCtl s i w.ctl) i w.sin
  let s2 := goVec (goVec (goMat s1 i w.mat) i 3 0 w.vec0) i 4 skip w.vec1
  goMsg (goMem (goRed s2 i w.red) i w.mem) i w.msg

/-- The operations of an ended core have completed: its queues close, it enters Lull, and it no longer takes part in calm points (03 R94, R109, R110; 09 R377). -/
def finishEnd (s : State) (n : Nat) : State :=
  let s1 := modCore s n (fun c => { c with ending := false, stats := { c.stats with lullEntries := c.stats.lullEntries.bump } })
  calmCheckAt (emptyQueues s1 n .closed) (clusOf n)

/-- A core whose operations have completed ends its task or is released from its hold, where it waits for that (03 R94, R106). -/
def settleCore (s : State) (n : Nat) : State :=
  if (getCore s n).ending && drained (getCore s n) then finishEnd s n else releaseHeld s n

/-- END: the core issues no more, and ends when its operations in flight have completed (03 R94). -/
def endTask (s : State) (n : Nat) : State :=
  settleCore (modCore s n (fun c => { c with state := .ended, ending := true, cause := .none, slot := 0, frozenFor := 0, idleFor := 0 })) n

/-- CALM and END as their word has issued (03 R94, R111). -/
def afterCtl (s : State) (i : Issue) (o : CtlOp) : State :=
  match o with
  | .calm step index =>
    modCore s i.n (fun c => { c with calm := some { index := index, step := step, pc := i.pc, reported := false, issue := i.at_ },
                                     state := .frozen, cause := .calm, slot := 0, waitIx := index.toNat, frozenFor := 0, idleFor := 0 })
  | .end_ => endTask s i.n
  | _ => s

/-- A word issues: its slots, one stage of every operation in flight, the issue count and the next PC (03 R81, R105). -/
def issueWord (s : State) (i : Issue) (w : WordOps) : State :=
  let s1 := modCore s i.n (fun c => { c with state := .running, cause := .none, slot := 0, waitIx := 0, frozenFor := 0, idleFor := 0 })
  let s2 := endCc (advance (issueSlots s1 i w) i.n) i.n
  let (pc, loops) := nextPc i w.ctl
  afterCtl (modCore s2 i.n (fun c => { c with issued := c.issued + 1, pc := pc, loops := loops })) i w.ctl

/-- The gatherer latch of a fault 0x0160 (10 R416, R422). -/
def gathErr (s : State) (n : Nat) (w : WordOps) (f : Fail) : State :=
  let cl := clusOf n
  let lc := lcoreNum (getCore s n)
  let put (st : State) (ch cause : Nat) : State :=
    let h := getChan st cl ch
    setChan st cl ch { h with err := h.err.put { cause := cause, lcore := lc } }
  if f.code ≠ 0x0160 then s
  else if f.slot = 0 then ([0, 1, 2, 3].filter (fun ch => (heldBuf (getChan s cl ch) lc).isSome)).foldl (fun a ch => put a ch 2) s
  else match w.sin with
    | .gtake ch _ _ => put s ch.toNat 0
    | .gret ch => put s ch.toNat 1
    | _ => s

/-- A word that fails a check does not issue (03 R105, R106). -/
def failWord (s : State) (i : Issue) (w : WordOps) (f : Fail) : State :=
  calmCheckAt (faultCore (endCc (gathErr s i.n w f) i.n) i.n f.slot f.code i.pc i.at_ f.detail .none_) (clusOf i.n)

/-- The word at the PC is evaluated (03 R105). -/
def evaluate (s : State) (n : Nat) : State :=
  let c := getCore s n
  let i : Issue := { n := n, c := c, pc := c.pc, at_ := c.issued }
  if c.wordCount ≤ c.pc then failWord s i {} { rank := 0, slot := 0, code := 0x0102 }
  else
    let raw : IWord := mget 0 c.imem c.pc
    let w := Decode.word raw
    match firstFail (wordFails s n c raw w) with
    | some f => failWord s i w f
    | none => match firstHold s n c w with
      | some (slot, h) => freezeWord s i w slot h
      | none => issueWord s i w

/-- The cluster is Becalmed, or its generator is stopped (19 R705; 14 R554). -/
def clusterStopped (s : State) (cl : Nat) : Bool := (getClus s cl).becalmed || clockStopped s cl

/-- The core is held by an external freeze: a debug freeze, an immediate frequency change, or its cluster's own switch (03 R99; 11 R449; 14 R550; 19 R715). -/
def extFrozen (s : State) (n : Nat) : Bool :=
  (getClus s (clusOf n)).own.isSome || match partOfCluster s (clusOf n) with
  | some p => let x := getPart s p; x.det.phase == 3 || x.det.phase == 6 || (x.freq.switching && !x.freq.calmMode)
  | none => false

/-- The partition of a core is in a debug freeze: PHASE 3, or 6 while a DUMP runs (11 R449, R452). -/
def debugFrozen (s : State) (n : Nat) : Bool :=
  match partOfCluster s (clusOf n) with
  | some p => let x := getPart s p; x.det.phase == 3 || x.det.phase == 6
  | none => false

/-- One cc of a core in calm wait, in Lull or not: no slot issues, and every operation in flight advances (03 R102, R109, R111). -/
def calmCc (s : State) (n : Nat) (w : CalmWait) : State :=
  endCc (advance (runElastic (modCore s n (fun c =>
    { countFreeze c .calm with state := if c.state == .lull then .lull else .frozen, cause := .calm, slot := 0, waitIx := w.index.toNat })) n) n) n

/-- One cc of a core that no longer issues: one stage of its operations, unless an external freeze holds them (03 R94, R102, R106). -/
def drainCc (s : State) (n : Nat) : State := settleCore (if extFrozen s n then endCc s n else drainStage s n) n

/-- One cc of a core in Lull (03 R102, R109). -/
def lullCc (s : State) (n : Nat) : State :=
  let c := getCore s n
  match c.calm with
  | some w => if extFrozen s n then freezeCc s n c.cause (!debugFrozen s n) else calmCc s n w
  | none => freezeCc s n c.cause (!debugFrozen s n)

/-- What a core does in one cc: its remaining operations, Lull, an external freeze, its calm wait, or its word (03 R102, R105, R106, R108, R109). -/
def spendCc (s : State) (n : Nat) : State :=
  let c := getCore s n
  if draining c then drainCc s n
  else if c.state == .lull then lullCc s n
  else if extFrozen s n then
    freezeCc (modCore s n (fun c => { c with state := .frozen, cause := .external, slot := 0, waitIx := 0 })) n .external (!debugFrozen s n)
  else match c.calm with
    | some w => calmCc s n w
    | none => evaluate s n

/-- The count of the cc that a core spends goes up. -/
def startCc (s : State) (n : Nat) : State := modCore s n (fun c => { c with ccs := c.ccs + 1 })

/-- One cc of a core that holds a running task; a cluster that a STOP reaction stops lets it spend no cc after that of the fault (18 R682). -/
def coreCc (s : State) (n : Nat) : State :=
  stopLate (spendCc (startCc s n) n) n

/-- The word at the PC of a core holds an operation in a slot: exactly this operation, or NOP in a slot whose word does not decode at all. -/
def slotHolds (c : Core) (slot : Fin 8) (o : SlotOp) (isNop : Bool) : Bool :=
  let raw : IWord := mget 0 c.imem c.pc
  decide (c.wordCount ≤ c.pc) || Decode.slot raw slot == some o ||
    (isNop && (List.finRange 8).all (fun j => (Decode.slot raw j).isNone))

/-- A core can spend a cc: its clock runs, it holds a task that has neither ended nor stopped in a running partition, or operations that have not completed, and no late fault waits to be taken (03 R106, R797). -/
def canSpend (s : State) (n : Nat) : Bool :=
  let c := getCore s n
  !clusterStopped s (clusOf n) && c.late.isEmpty && (draining c || (issuing c &&
    (match partOfCluster s (clusOf n) with | some p => let x := getPart s p; x.state == .running || x.state == .stopping | none => false)))

/-- The next cc of a core is not frozen, so that its array may execute: the word at the PC would issue or fault, the core waits at a calm point, or it drains (03 R102; 04 R173). -/
def arrayRuns (s : State) (n : Nat) : Bool :=
  let c := getCore s n
  !clusterStopped s (clusOf n) && !extFrozen s n && (draining c || (issuing c && match c.calm with
    | some _ => true
    | none =>
      let raw : IWord := mget 0 c.imem c.pc
      let w := Decode.word raw
      c.state != .lull && (decide (c.wordCount ≤ c.pc) || (firstFail (wordFails s n c raw w)).isSome || (firstHold s n c w).isNone)))

/-- One cc of core `n`, commanded by the operation that a slot of its word holds; of a core that only completes what it has issued, by any operation. The command has no effect where the word at the PC does not hold the operation. -/
def issueNamed (n : Nat) (slot : Fin 8) (o : SlotOp) (isNop : Bool) (s : State) : Res :=
  if canSpend s n && (draining (getCore s n) || slotHolds (getCore s n) slot o isNop) then .next (coreCc s n) else .next s

end Sys2Proof.Machine
end

