-- ==== Sys2Proof/Machine/Reject.lean ====
section
/-! DEFINITION. Host commands and BAR0 writes: who may write what, and what a rejected write leaves (18 R698; 15 R577, R578, R605; 20 R736). -/

namespace Sys2Proof.Machine

/-- A port answers BAR accesses: boot has opened it, its link is up and it is not in D3hot (15 R605; 16 R628). -/
def portAnswers (s : State) (h : Nat) : Bool :=
  let p := getPort s h
  p.opened && p.linkUp && !p.d3

/-- A rejected BAR0 write: the port latches the first and counts every one (18 R698, R702). -/
def reject (s : State) (h reason offset : Nat) (data : W32) : State :=
  modPort s h (fun p => { p with
    rej := p.rej.put { reason := reason, offset := natBits offset 2 23, data := data }
    rejCount := p.rejCount.bump })

/-- The reason for which a port may not write a field of partition `p`; none where it may (15 R578). -/
def partDenied (s : State) (h p : Nat) : Option Nat :=
  let x := getPart s p
  if x.state = .none then (if h = s.hp.primary then none else some 3)
  else if h = x.owner then none else some 4

/-- The reason for which a port may not write a field of cluster `c`; none where it may (15 R578). -/
def clusDenied (s : State) (h c : Nat) : Option Nat :=
  match partOfCluster s c with
  | some p => partDenied s h p
  | none => if h = s.hp.primary then none else some 3

/-- The reason for which a port may not write a primary-only field (15 R577). -/
def primaryDenied (s : State) (h : Nat) : Option Nat := if h = s.hp.primary then none else some 3

/-- A host command: it has no effect where the port does not answer, is rejected where the port may not give it, and otherwise acts. -/
def hostCmd (s : State) (h offset : Nat) (data : W32) (denied : Option Nat) (act : State → State) : Res :=
  if !portAnswers s h then .next s
  else match denied with
    | some r => .next (reject s h r offset data)
    | none => .next (act s)

/-- The BAR0 offset of a register of partition `p` (20 R737). -/
def partOff (p off : Nat) : Nat := 0x00010000 + 0x1000 * p + off
/-- The BAR0 offset of a register of cluster `c` (20 R737). -/
def clusOff (c off : Nat) : Nat := 0x01000000 + 0x10000 * c + off
/-- The BAR0 offset of a register of core `n` (20 R738). -/
def coreOff (n off : Nat) : Nat := clusOff (clusOf n) (0x1000 + 0x100 * pcoreOf n + off)

/-- A cluster is Becalmed, and its core blocks are closed (20 R736). -/
def becalmedDenied (s : State) (c : Nat) : Option Nat := if (getClus s c).becalmed then some 7 else none
/-- The block of a disabled core takes no write (18 R698, reason 0x8). -/
def disabledDenied (s : State) (n : Nat) : Option Nat := if (getClus s (clusOf n)).disabled.getLsbD (pcoreOf n) then some 8 else none

/-- The first reason among several. -/
def firstDenied : List (Option Nat) → Option Nat
  | [] => none
  | some r :: _ => some r
  | none :: rest => firstDenied rest

end Sys2Proof.Machine
end

