-- ==== Sys2Proof/Machine/Banks.lean ====
section
/-! DEFINITION. Banks as the elastic parties meet them: slots, power, Lull, guarded rows, collisions, errors; the bank commands, the moves and the remote accesses (07 R245 to R247, R250 to R265, R272 to R284; 08 R344). -/

namespace Sys2Proof.Machine

/-! ## The cc of a cluster (07 R250) -/

/-- The state as a cluster event of cc `cc` meets it: a later cc begins with free slots; none where that cc has passed or the cluster's clock stands. -/
def enterCc (s : State) (c cc : Nat) : Option State :=
  let m := (getClus s c).mem
  if clusterStopped s c || decide (cc < m.cc) then none
  else if cc = m.cc then some s
  else
    let s1 := modClus s c (fun x => modCMem x (fun m => { m with cc := cc, uses := [] }))
    some ((coresOf c).foldl (fun a n => if (getCore a n).mem.uses.isEmpty then a else modCore a n (fun k => modMem k (fun m => { m with uses := [] }))) s1)

/-- The owner of a cluster-memory bank in a cc (07 R250). -/
def slotOwner (s : State) (c bank cc : Nat) : Nat := mget 0x1F (getClus s c).mem.slots (16 * (cc % 16) + bank)

/-! ## Power and Lull (07 R279 to R284) -/

/-- What an access meets at a bank. -/
inductive BankAnswer where
  | ready | asleep | unpowered
  deriving DecidableEq, Repr

/-- The state with a scratchpad bank changed. -/
def modSpPower (s : State) (n b : Nat) (f : BankPower → BankPower) : State :=
  modCore s n (fun c => modMem c (fun m => { m with banks := mmod {} m.banks b f }))
/-- The state with a cluster-memory bank changed. -/
def modCmPower (s : State) (c b : Nat) (f : BankPower → BankPower) : State :=
  modClus s c (fun x => modCMem x (fun m => { m with banks := mmod {} m.banks b f }))

/-- The answer of a bank: unpowered until READY, asleep in Lull and while it wakes (07 R280, R284). -/
def answerOf (p : BankPower) : BankAnswer := if !p.ready then .unpowered else if p.lull then .asleep else .ready
/-- The answer of a scratchpad bank to an elastic access. -/
def spAnswer (s : State) (n b : Nat) : BankAnswer := answerOf (spPower s n b)
/-- The answer of a cluster-memory bank; a fenced bank acts as unpowered (18 R683). -/
def cmAnswer (s : State) (c b : Nat) : BankAnswer :=
  if (getClus s c).mem.fencedBanks.getLsbD b then .unpowered else answerOf (cmPower s c b)

/-- A wake begins where none is under way (07 R280). -/
def beginWake (p : BankPower) : BankPower := if p.lull then { p with wake := 1 } else p

/-! ## Slots of a scratchpad bank (07 R245 to R247) -/

/-- The core issues the word at its PC in this cc, as far as its state tells (07 R245, R246). -/
def coreIssues (c : Core) : Bool := c.state == .running && c.calm.isNone

/-- The program uses the slot of a bank in this cc: a write in flight lands, or the word at the PC reads (07 R244). -/
def programUses (c : Core) (write : Bool) (b : Nat) : Bool :=
  coreIssues c &&
    ((c.inflight.flatMap flightUses).contains (write, 0, b) ||
      (!write && decide (c.pc < c.wordCount) &&
        (let w := Decode.word (mget 0 c.imem c.pc)
         (sinUses c w.sin ++ matUses c w.mat ++ memUses c w.mem).contains (false, 0, b))))

/-- A slot of a bank has been used in this cc. -/
def spUsed (c : Core) (write : Bool) (b : Nat) : Bool := c.mem.uses.any (fun u => u.isWrite == write && spBank u.row == b)

/-- The stream engine may use a slot of a scratchpad bank in this cc (07 R245, R246). -/
def streamSlot (c : Core) (write : Bool) (b : Nat) : Bool :=
  (!coreIssues c || streamOwns c.mem.split write c.issued.toNat) && !spUsed c write b

/-- The remote class may use a slot of a scratchpad bank in this cc: its own, or one its owner leaves unused (07 R245 to R247). -/
def remoteSlot (c : Core) (write : Bool) (b : Nat) : Bool := !spUsed c write b && !programUses c write b

/-- The read slot or the write slot of a cluster-memory bank has been used in this cc (07 R243). -/
def cmUsed (s : State) (c : Nat) (write : Bool) (bank : Nat) : Bool := (getClus s c).mem.uses.any (fun u => u.isWrite == write && cmBank u.row == bank)

/-! ## Guarded rows (07 R257 to R260) -/

/-- What a guarded or raw row answers an elastic access: `go` with the buffer's place in its cluster's list. -/
inductive Gate where
  | raw | refuse | wait | go (i : Nat)
  deriving DecidableEq, Repr

/-- The gate of a row: `mine` tells the declared party, `valid` the row's VALID bit as this access sees it. -/
def gateOf (g : Option (Guarded × Nat)) (mine : Guarded → Bool) (write valid : Bool) : Gate :=
  match g with
  | none => .raw
  | some (b, i) => if !mine b then .refuse else if valid == write then .wait else .go i

/-- VALID of a scratchpad row as a read sees it: a bit set in this cc counts from the next cc on (07 R258). -/
def spSeen (c : Core) (row : Nat) : Bool := spValid c row && !c.mem.uses.any (fun u => u.isWrite && u.row == row)
/-- VALID of a cluster-memory row as a read sees it (07 R258). -/
def cmSeen (s : State) (c row : Nat) : Bool := cmValid s c row && !(getClus s c).mem.uses.any (fun u => u.isWrite && u.row == row)

/-- A core's moves are the declared producer (07 R253). -/
def moveProduces (lc : Nat) (g : Guarded) : Bool := g.producer == 2 && g.lcore == lc
/-- A core's CMRDs are the declared consumer of a cluster-memory buffer (07 R253). -/
def moveConsumes (lc : Nat) (g : Guarded) : Bool := g.consumer == 0 && g.lcore == lc
/-- The remote writes of a logical core are the declared producer (07 R254). -/
def remoteProduces (cl lc : Nat) (g : Guarded) : Bool := g.producer == 3 && g.producerId == lc && g.producerCluster == cl

/-! ## Faults at a bank -/

/-- The unit that an uncorrectable codeword fences: the core that owns the scratchpad, or the cluster-memory bank (18 R679). -/
def ueUnit (c : Nat) (cm : Bool) (n row : Nat) : FUnit := if cm then .bank c (cmBank row) else .core n

/-- A refused access to a guarded row: 0x0134 at the owning cluster (07 R260). -/
def refuseRow (s : State) (c : Nat) (cm : Bool) (n row : Nat) : State := raiseIn s c (bankInfo 0x0134 cm n row) .none_ false

/-- The first uncorrectable codeword of a cluster is latched (07 R278, R286). -/
def latchUe (s : State) (c : Nat) (cm : Bool) (n row kind : Nat) : State :=
  let info : EccInfo := { cm := cm, pcore := if cm then 0 else pcoreOf n, reader := kind, bank := if cm then cmBank row else spBank row,
                          bankRow := if cm then row / 16 else row / 8 }
  let s1 := if cm then s else modCore s n eccUeFlag
  modClus s1 c (fun x => modCMem x (fun m => { m with eccUe := m.eccUe.put info }))

/-- A collision in which no party is a program raises 0x010C at the cluster (07 R263, R264). -/
def raiseCollision (s : State) (c : Nat) (cm : Bool) (n row : Nat) (rd wr : Party) : State :=
  if (runOf s c).rawLenient || rd.kind == 0 || wr.kind == 0 then s
  else
    let i := bankInfo 0x010C cm n row
    raiseIn s c { i with detail := if wr.kind = 1 then BitVec.ofNat 64 wr.addr else BitVec.ofNat 64 row } .none_ false

/-! ## Reads and writes of the elastic parties -/

/-- A read of a scratchpad row by an elastic party (07 R243, R262). -/
def elasticReadSp (s : State) (n row : Nat) (p : Party) : Row × State :=
  let c := getCore s n
  let raw := (guardAt s (clusOf n) false (lcoreNum c) row).isNone
  let (v, s1) := readSp s n row p
  match (if raw then writerMet c.mem.uses row p else none) with
  | some w => (v, raiseCollision s1 (clusOf n) false n row p w)
  | none => (v, s1)

/-- A write of a scratchpad row by an elastic party; a producer sets VALID and steps its ring (07 R257, R262; 08 R292). -/
def elasticWriteSp (s : State) (n row : Nat) (v : Row) (p : Party) (produce : Option Nat) : State :=
  let c := getCore s n
  let raw := (guardAt s (clusOf n) false (lcoreNum c) row).isNone
  let s1 := writeSp s n row v p produce.isSome
  let s2 := match produce with
    | some i => stepRing s1 (clusOf n) i true
    | none => s1
  match (if raw then collider c.mem.uses c.mem.cntWindows row p (lcoreNum c) else none) with
  | some r => raiseCollision s2 (clusOf n) false n row r p
  | none => s2

/-- A cluster memory's slots after a use in the current cc, which its bank remembers (07 R262, R279). -/
def useCm (u : SlotUse) (m : ClusterMem) : ClusterMem := { m with uses := m.uses ++ [u], lastUse := mset m.lastUse (cmBank u.row) m.cc }

/-- A read of a cluster-memory row in the current cc (07 R243, R262, R277). -/
def readCm (s : State) (c row : Nat) (p : Party) : Row × State :=
  let uses := (getClus s c).mem.uses
  let v := rowBefore uses row (cmRow s c row)
  let s1 := countCorrCm (modClus s c (fun x => modCMem x (useCm { isWrite := false, row := row, party := p, old := 0 }))) c row
  match (if (guardAt s c true 0 row).isNone then writerMet uses row p else none) with
  | some w => (v, raiseCollision (noteCollision s1 c true 0 row p w) c true 0 row p w)
  | none => (v, s1)

/-- A whole-row write of a cluster-memory row in the current cc (07 R257, R262, R268). -/
def writeCm (s : State) (c row : Nat) (v : Row) (p : Party) (produce : Option Nat) : State :=
  let uses := (getClus s c).mem.uses
  let old := cmRow s c row
  let s1 := modClus (setCmRow s c row v) c (fun x => modCMem x (fun m =>
    { useCm { isWrite := true, row := row, party := p, old := old } m with
      ovf := mset m.ovf row false
      ecc := mdel m.ecc row
      valid := if produce.isSome then mset m.valid row true else m.valid }))
  let s2 := match produce with
    | some i => stepRing s1 c i true
    | none => s1
  match (if (guardAt s c true 0 row).isNone then collider uses [] row p 0 else none) with
  | some r => raiseCollision (noteCollision s2 c true 0 row r p) c true 0 row r p
  | none => s2

/-- A consumer's read of a guarded scratchpad row clears VALID and steps the ring (07 R259, 08 R292). -/
def consumeSp (s : State) (n row i : Nat) : State :=
  stepRing (modCore s n (fun c => modMem c (fun m => { m with valid := mset m.valid row false, ecc := freshFlags m.ecc row }))) (clusOf n) i false
/-- As `consumeSp`, of a cluster-memory row. -/
def consumeCm (s : State) (c row i : Nat) : State :=
  stepRing (modClus s c (fun x => modCMem x (fun m => { m with valid := mset m.valid row false, ecc := freshFlags m.ecc row }))) c i false

/-! ## Moves (07 R251 to R253, R283; 08 R344) -/

/-- The cluster-memory row that a move names. -/
def moveRow : Move → Nat
  | .cmrd src _ => src
  | .cmwr dst _ => dst
  | .cmcnt row .. => row

/-- The first queued move for a bank: entries for one bank execute in issue order (07 R252). -/
def firstMove (ms : List (Nat × Move)) (bank : Nat) : Option (Nat × Move) := ms.find? (fun m => cmBank (moveRow m.2) == bank)

/-- The party that a core's moves are (07 R286). -/
def moveParty (c : Core) : Party := { kind := 3, id := lcoreNum c }

/-- A move leaves its queue. -/
def moveDone (s : State) (n num : Nat) : State :=
  modCore s n (fun c => modMem c (fun m => { m with moves := m.moves.filter (fun e => e.1 != num) }))

/-- A move that reads an uncorrectable codeword raises 0x0130 at the cluster with KIND move (08 R344). -/
def moveUe (s : State) (c : Nat) (cm : Bool) (n row : Nat) : State :=
  raiseIn (latchUe s c cm n row 3) c (bankInfo 0x0130 cm n row) (ueUnit c cm n row) false

/-- A queued CMWR executes (07 R252, R253). -/
def runCmwr (s : State) (n num dst : Nat) (v : Row) : State :=
  let c := clusOf n
  let k := getCore s n
  match gateOf (guardAt s c true 0 dst) (moveProduces (lcoreNum k)) true (cmValid s c dst) with
  | .wait => s
  | .refuse => moveDone (refuseRow s c true n dst) n num
  | .raw => moveDone (writeCm s c dst v (moveParty k) none) n num
  | .go i => moveDone (writeCm s c dst v (moveParty k) (some i)) n num

/-- The destination of a CMRD admits it: raw, or guarded with VALID clear and no row already on its way (07 R253, R257). -/
def cmrdGate (s : State) (n dst : Nat) : Gate :=
  let k := getCore s n
  gateOf (guardAt s (clusOf n) false (lcoreNum k) dst) (moveProduces (lcoreNum k)) true
    (spValid k dst || k.mem.landing.any (fun l => l.dst == dst))

/-- A queued CMRD executes: it reads its row and waits for its write slot (07 R252, R253). -/
def runCmrd (s : State) (n num src dst : Nat) (ecc : Ecc) : State :=
  let c := clusOf n
  let k := getCore s n
  match gateOf (guardAt s c true 0 src) (moveConsumes (lcoreNum k)) false (cmSeen s c src), cmrdGate s n dst with
  | .refuse, _ => moveDone (refuseRow s c true n src) n num
  | _, .refuse => moveDone (refuseRow s c false n dst) n num
  | .wait, _ => s
  | _, .wait => s
  | g, _ =>
    let (v, s1) := readCm (strikeCm s c src ecc) c src (moveParty k)
    let s2 := match g with
      | .go i => consumeCm s1 c src i
      | _ => s1
    let s3 := modCore (moveDone s2 n num) n (fun k => modMem k (fun m => { m with landing := m.landing ++ [{ dst := dst, val := v }] }))
    if cmBad s3 c src then moveUe s3 c true n src else s3

/-- A queued CMCNT executes: it reads and writes its row in one cc (07 R252, R267, R268, R270). -/
def runCmcnt (s : State) (n num row : Nat) (mask : BitVec 128) (inc : BitVec 32) (wrap ev : Bool) (ecc : Ecc) : State :=
  let c := clusOf n
  let k := getCore s n
  let s0 := strikeCm s c row ecc
  let was := mget false (getClus s0 c).mem.ovf row
  let bad := cmBad s0 c row
  let (v, s1) := readCm s0 c row (moveParty k)
  let (w, o) := countRow v mask inc wrap
  let s2 := modClus (writeCm s1 c row w (moveParty k) none) c (fun x => modCMem x (fun m => { m with ovf := mset m.ovf row (was || o) }))
  let s3 := if o && ev then modCore s2 n rowcntEvent else s2
  let s4 := moveDone s3 n num
  if bad then moveUe s4 c true n row else s4

/-- A move that meets an unpowered bank: a write is discarded with 0x0131, a CMRD raises 0x0132 at its cluster (07 R283, R284). -/
def moveUnpowered (s : State) (n num : Nat) (m : Move) : State :=
  let c := clusOf n
  let s1 := moveDone s n num
  match m with
  | .cmrd src _ => raiseIn s1 c (bankInfo 0x0132 true n src) .none_ false
  | _ => dropAndRaise s1 c true n (moveRow m) 3 (lcoreNum (getCore s n))

/-- The slots that a move needs are free in this cc; a move that reads does not execute in the cc of an earlier one that wrote, whose write slot comes after the read slot (07 R243, R252). -/
def moveSlots (s : State) (c bank : Nat) : Move → Bool
  | .cmwr .. => !cmUsed s c true bank
  | _ => !cmUsed s c false bank && !cmUsed s c true bank

/-- MOVE_EXECUTE: in a cc whose table entry names the core for a bank, the core's first queued move for that bank executes (07 R252). -/
def execMoveExecute (k : CoreId) (bank : Fin 16) (cc : Nat) (ecc : Ecc) (s : State) : Res :=
  let n := k.num
  let c := k.cluster.val
  match enterCc s c cc with
  | none => .next s
  | some s1 =>
    if slotOwner s1 c bank.val cc ≠ lcoreNum (getCore s1 n) then .next s1
    else match firstMove (getCore s1 n).mem.moves bank.val with
      | none => .next s1
      | some (num, m) =>
        if !moveSlots s1 c bank.val m then .next s1
        else match cmAnswer s1 c bank.val with
        | .asleep => .next (modCmPower s1 c bank.val beginWake)
        | .unpowered => .next (moveUnpowered s1 n num m)
        | .ready => match m with
          | .cmrd src dst => .next (runCmrd s1 n num src dst ecc)
          | .cmwr dst v => .next (runCmwr s1 n num dst v)
          | .cmcnt row mask inc wrap ev => .next (runCmcnt s1 n num row mask inc wrap ev ecc)

/-- The landing of the first CMRD row for a scratchpad bank. -/
def landCmrd (s : State) (n : Nat) (l : CmrdLanding) : State :=
  let k := getCore s n
  let done (st : State) : State := modCore st n (fun c => modMem c (fun m => { m with landing := m.landing.erase l }))
  match guardAt s (clusOf n) false (lcoreNum k) l.dst with
  | none => done (elasticWriteSp s n l.dst l.val (moveParty k) none)
  | some (_, i) => if spValid k l.dst then s else done (elasticWriteSp s n l.dst l.val (moveParty k) (some i))

/-- CMRD_DESTINATION_WRITE: a CMRD's row takes the next remote-class write slot of its destination's bank (07 R252). -/
def execCmrdDestinationWrite (k : CoreId) (bank : Fin 8) (s : State) : Res :=
  let n := k.num
  let c := getCore s n
  match c.mem.landing.find? (fun l => spBank l.dst == bank.val) with
  | none => .next s
  | some l =>
    if clusterStopped s k.cluster.val || !remoteSlot c true bank.val then .next s
    else match spAnswer s n bank.val with
      | .asleep => .next (modSpPower s n bank.val beginWake)
      | .unpowered =>
        .next (dropAndRaise (modCore s n (fun c => modMem c (fun m => { m with landing := m.landing.erase l }))) k.cluster.val false n l.dst 3 (lcoreNum c))
      | .ready => .next (landCmrd s n l)

/-! ## Remote accesses (07 R272 to R275, R283) -/

/-- The ID of a remote requester: its cluster and its logical core (07 R286). -/
def remoteId (s : State) (q : RemoteReq) : Nat := 32 * clusOf q.core + lcoreNum (getCore s q.core)
/-- The party of a remote access (07 R286). -/
def remoteParty (s : State) (q : RemoteReq) : Party := { kind := 2, id := remoteId s q }

/-- A row of a stream has been served at the far end: its tag holds the data or the reason of its failure (08 R301, R304, R326). -/
def tagServed (s : State) (c st j : Nat) (data : Option Row) (err : Nat) : State :=
  let t := getStream s c st
  setStream s c st { t with tags := t.tags.map (fun g => if g.j = j then { g with data := if data.isSome then data else g.data, err := err, served := true } else g) }

/-- A running stream is done once every row has issued and no tag is held: each row was delivered, acknowledged or discarded (08 R305; 07 R260). -/
def endStream (t : Stream) : Stream :=
  match t.desc with
  | some d => if t.state == .running && t.next == streamRows d && t.tags.isEmpty then { t with state := .done } else t
  | none => t

/-- The reason that the error of a remote access gives its stream's row: 0x08 or 0x09 (08 R326). -/
def remoteReason (err : Nat) : Nat := if err = 0 then 0 else if err = 0x0130 then 8 else 9

/-- The answer to a remote access reaches its requester: a write frees its place, a read leaves its row and any error; the read of a stream that was refused frees its tag (07 R260, R273, R278, R283). -/
def remoteAnswer (s : State) (q : RemoteReq) (a : RemoteReply) : State :=
  match q.strm with
  | some (st, j) =>
    if q.val.isSome then tagServed s (clusOf q.core) st j none (remoteReason a.err)
    else if a.err = 1 then let t := getStream s (clusOf q.core) st; setStream s (clusOf q.core) st (endStream { t with tags := t.tags.filter (fun g => g.j != j) })
    else tagServed s (clusOf q.core) st j (some a.val) (remoteReason a.err)
  | none =>
    if q.val.isSome then modCore s q.core (fun c => modMem c (fun m => { m with remote := m.remote.erase q }))
    else modCore s q.core (fun c => modMem c (fun m => { m with arriving := some a }))

/-- The answer to a remote access leaves the cluster that carried it out: to another cluster over the mesh, in the requester's lane (07 R274; 09 R362). -/
def sendAnswer (s : State) (c : Nat) (q : RemoteReq) (a : RemoteReply) : State :=
  let back := clusOf q.core
  if back = c then remoteAnswer s q a
  else
    let h := mkHeader s.self back (lcoreNum (getCore s q.core)) 0 0 0 false s.self c 0 0 0 0 0
    modClus s c (fun x => modMsg x (fun m =>
      { m with inject := m.inject ++ [{ msg := { header := h, row := a.val, fabPort := 0 }, kind := 3, reason := 0, remote := some q, reply := some a }] }))

/-- A refused remote access is discarded (07 R260): a write frees its place at the requester, a stream's read frees its tag, and a core's read gets no reply. -/
def remoteRefused (s : State) (c : Nat) (q : RemoteReq) : State :=
  if q.val.isSome then sendAnswer s c q { val := 0, err := 0, cm := false, target := 0 }
  else if q.strm.isSome then sendAnswer s c q { val := 0, err := 1, cm := false, target := 0 }
  else s

/-- A remote write that meets a bank without power is discarded with 0x0131, its source latched: the requesting core, or the stream, which its answer halts (07 R283; 08 R326). -/
def remoteLost (s : State) (c : Nat) (cm : Bool) (n : Nat) (q : RemoteReq) (unit : Nat) : State :=
  match q.strm with
  | some (st, _) => sendAnswer (dropAndRaise s c cm n q.row 1 st) c q { val := 0, err := 0x0131, cm := cm, target := unit }
  | none => sendAnswer (dropAndRaise s c cm n q.row 2 (remoteId s q)) c q { val := 0, err := 0, cm := cm, target := unit }

/-- A remote access to a row of the core `n`'s scratchpad; none while it waits. -/
def serveSp (s : State) (q : RemoteReq) (n : Nat) (ecc : Ecc) : Option State :=
  let k := getCore s n
  let c := clusOf n
  let b := spBank q.row
  let write := q.val.isSome
  match spAnswer s n b with
  | .asleep => none
  | .unpowered => some (if write then remoteLost s c false n q n else sendAnswer s c q { val := 0, err := 0x0132, cm := false, target := n })
  | .ready =>
    match gateOf (guardAt s c false (lcoreNum k) q.row) (fun g => write && remoteProduces (clusOf q.core) (lcoreNum (getCore s q.core)) g) write (spValid k q.row) with
    | .wait => none
    | .refuse => some (remoteRefused (refuseRow s c false n q.row) c q)
    | g =>
      if !remoteSlot k write b then none
      else match q.val with
        | some v =>
          some (sendAnswer (elasticWriteSp s n q.row v (remoteParty s q) (match g with | .go i => some i | _ => none)) c q { val := 0, err := 0, cm := false, target := n })
        | none =>
          let (v, s1) := elasticReadSp (strikeSp s n q.row ecc) n q.row (remoteParty s q)
          let bad := spBad s1 n q.row
          let s2 := if bad then latchUe s1 c false n q.row 2 else s1
          some (sendAnswer s2 c q { val := v, err := if bad then 0x0130 else 0, cm := false, target := n })

/-- A remote access to a row of cluster memory, in a cc whose entry belongs to the mesh; none while it waits (07 R274). -/
def serveCm (s : State) (q : RemoteReq) (c cc : Nat) (ecc : Ecc) : Option State :=
  let b := cmBank q.row
  let write := q.val.isSome
  let unit := 16 * c + b
  if slotOwner s c b cc ≠ 0x19 || cmUsed s c write b then none
  else match cmAnswer s c b with
    | .asleep => none
    | .unpowered => some (if write then remoteLost s c true 0 q unit else sendAnswer s c q { val := 0, err := 0x0132, cm := true, target := unit })
    | .ready =>
      match gateOf (guardAt s c true 0 q.row) (fun g => write && remoteProduces (clusOf q.core) (lcoreNum (getCore s q.core)) g) write (cmValid s c q.row) with
      | .wait => none
      | .refuse => some (remoteRefused (refuseRow s c true 0 q.row) c q)
      | g => match q.val with
        | some v =>
          some (sendAnswer (writeCm s c q.row v (remoteParty s q) (match g with | .go i => some i | _ => none)) c q { val := 0, err := 0, cm := true, target := unit })
        | none =>
          let (v, s1) := readCm (strikeCm s c q.row ecc) c q.row (remoteParty s q)
          let bad := cmBad s1 c q.row
          let s2 := if bad then latchUe s1 c true 0 q.row 2 else s1
          some (sendAnswer s2 c q { val := v, err := if bad then 0x0130 else 0, cm := true, target := unit })

/-- The bank that a remote request names: space, core and bank. -/
def remoteBank (q : RemoteReq) : Nat × Nat × Nat := if q.space = 0 then (0, q.lcore, spBank q.row) else (1, 0, cmBank q.row)

/-- The first waiting request of a cluster that can be served: requests to one bank keep their order, and moves come before them (07 R247, R275). -/
def serveFirst (s : State) (c cc : Nat) (ecc : Ecc) (blocked : List (Nat × Nat × Nat)) : List RemoteReq → State
  | [] => s
  | q :: rest =>
    let b := remoteBank q
    if blocked.contains b then serveFirst s c cc ecc blocked rest
    else
      let served := if q.space = 0 then
          match physOf s c q.lcore with
          | some n => if q.val.isSome && (getCore s n).mem.landing.any (fun l => spBank l.dst == b.2.2) then none else serveSp s q n ecc
          | none => none
        else serveCm s q c cc ecc
      match served with
      | some s1 => modClus s1 c (fun x => { x with remoteIn := x.remoteIn.erase q })
      | none => serveFirst s c cc ecc (b :: blocked) rest

/-- The sleeping banks that the first request of each bank names begin their wake (07 R280). -/
def wakeForRemote (s : State) (c : Nat) : List RemoteReq → State
  | [] => s
  | q :: rest =>
    let s1 := if q.space = 0 then
        match physOf s c q.lcore with
        | some n => if spAnswer s n (spBank q.row) = .asleep then modSpPower s n (spBank q.row) beginWake else s
        | none => s
      else if cmAnswer s c (cmBank q.row) = .asleep then modCmPower s c (cmBank q.row) beginWake else s
    wakeForRemote s1 c rest

/-- REMOTE_REQUEST_SERVE: the target cluster serves a remote access in a remote-class or mesh-owned slot (07 R274). -/
def execRemoteRequestServe (cl : ClusterId) (cc : Nat) (ecc : Ecc) (s : State) : Res :=
  let c := cl.val
  match enterCc s c cc with
  | none => .next s
  | some s1 =>
    let qs := (getClus s1 c).remoteIn
    .next (calmCheckAt (serveFirst (wakeForRemote s1 c qs) c cc ecc [] qs) c)

/-- REMOTE_REPLY: a reply reaches the requester's landing buffer; an error it carries is raised at the requester (07 R273, R278, R283). -/
def execRemoteReply (k : CoreId) (s : State) : Res :=
  let n := k.num
  let c := getCore s n
  match c.mem.arriving with
  | none => .next s
  | some r =>
    if clusterStopped s k.cluster.val then .next s
    else
      let q := c.mem.remote.find? (fun q => q.val.isNone)
      let s1 := setCore s n (modMem c (fun m => { m with arriving := none, reply := some r, remote := match q with | some q => m.remote.erase q | none => m.remote }))
      if r.err = 0 then .next s1
      else
        let u : FUnit := if r.err ≠ 0x0130 then .none_ else if r.cm then .bank (r.target / 16) (r.target % 16) else .core r.target
        .next (calmCheckAt (faultCore s1 n 6 r.err ((q.map (·.pc)).getD c.pc) ((q.map (·.issue)).getD c.issued) 0 u) (clusOf n))

/-! ## Bank commands (07 R279 to R284) -/

/-- A core's accesses or moves wait for a scratchpad bank (07 R279). -/
def spBankBusy (c : Core) (b : Nat) : Bool :=
  (c.inflight.flatMap flightUses).any (fun u => u.2.2 == b) || c.mem.landing.any (fun l => spBank l.dst == b) ||
    c.mem.moves.any (fun m => match m.2 with | .cmrd _ dst => spBank dst == b | _ => false)
/-- A queued move targets a cluster-memory bank (07 R279). -/
def cmBankBusy (s : State) (c b : Nat) : Bool := (coresOf c).any (fun n => (firstMove (getCore s n).mem.moves b).isSome)

/-- The cc for which no party has used a scratchpad bank: by the core's count or by the cluster's, whichever has gone further since (07 R279). -/
def spIdle (s : State) (n b : Nat) : Nat :=
  let c := getCore s n
  let u := mget (0, 0) c.mem.lastUse b
  max (c.ccs - u.1) ((getClus s (clusOf n)).mem.cc - u.2)
/-- The cc for which no party has used a cluster-memory bank (07 R279). -/
def cmIdle (s : State) (c b : Nat) : Nat := let m := (getClus s c).mem; m.cc - mget 0 m.lastUse b

/-- A powered bank that is awake enters Lull. -/
def enterLull (p : BankPower) : BankPower := if p.ready && !p.lull then { p with lull := true, wake := 0 } else p

/-- BANK_LULL: in a cc of the cluster, a powered bank that no party has used for BANK_LULL_IDLE cc, and that nothing waits for, enters Lull (07 R279; 02 R50). -/
def execBankLull (b : BankId) (cc : Nat) (s : State) : Res :=
  match b with
  | .sp k b => match enterCc s k.cluster.val cc with
    | none => .next s
    | some s1 =>
      let idle := (getClus s1 k.cluster.val).bankLullIdle
      if idle = 0 || decide (spIdle s1 k.num b.val < idle) || spBankBusy (getCore s1 k.num) b.val then .next s1 else .next (modSpPower s1 k.num b.val enterLull)
  | .cm c b => match enterCc s c.val cc with
    | none => .next s
    | some s1 =>
      let idle := (getClus s1 c.val).bankLullIdle
      if idle = 0 || decide (cmIdle s1 c.val b.val < idle) || cmBankBusy s1 c.val b.val then .next s1 else .next (modCmPower s1 c.val b.val enterLull)

/-- The end of a wake (07 R280). -/
def endWake (p : BankPower) : BankPower := if p.lull && p.wake == 1 then { p with lull := false, wake := 0 } else p

/-- BANK_WAKE: the 8 cc of a bank's wake have passed and it leaves Lull (07 R280). -/
def execBankWake (b : BankId) (s : State) : Res :=
  match b with
  | .sp k b => .next (modSpPower s k.num b.val endWake)
  | .cm c b => .next (modCmPower s c.val b.val endWake)

/-- The effect of a bank's OFF bit set or cleared: PEND sets with OFF; clearing OFF powers the bank on, and READY stays clear until its scrub ends (07 R281, R284). -/
def setOff (off : Bool) (p : BankPower) : BankPower :=
  if off == p.off then p
  else if off then { p with off := true, pend := true }
  else { p with off := false, pend := false, ready := false, lull := false, wake := 0 }

/-- The OFF bits of a scratchpad's banks written (07 R285). -/
def writeSpOff (s : State) (n mask : Nat) : State := (List.range 8).foldl (fun a b => modSpPower a n b (setOff (mask.testBit b))) s
/-- The OFF bits of a cluster memory's banks written (07 R286). -/
def writeCmOff (s : State) (c mask : Nat) : State := (List.range 16).foldl (fun a b => modCmPower a c b (setOff (mask.testBit b))) s

/-- The OFF bits of a scratchpad. -/
def spOffMask (s : State) (n : Nat) : Nat := ((List.range 8).filter (fun b => (spPower s n b).off)).foldl (fun a b => a ||| 2 ^ b) 0
/-- The OFF bits of a cluster memory. -/
def cmOffMask (s : State) (c : Nat) : Nat := ((List.range 16).filter (fun b => (cmPower s c b).off)).foldl (fun a b => a ||| 2 ^ b) 0

/-- Who may not write CORE_SP_PWR of a core (07 R285; 18 R698; 20 R736). -/
def spPwrDenied (s : State) (h n : Nat) : Option Nat := firstDenied [becalmedDenied s (clusOf n), disabledDenied s n, clusDenied s h (clusOf n)]

/-- A write of one OFF bit of a bank by a port. -/
def hostBank (h : Nat) (b : BankId) (off : Bool) (s : State) : Res :=
  match b with
  | .sp k b =>
    let mask := if off then spOffMask s k.num ||| 2 ^ b.val else spOffMask s k.num &&& (0xFF - 2 ^ b.val)
    hostCmd s h (coreOff k.num 0xB4) (BitVec.ofNat 32 mask) (spPwrDenied s h k.num) (fun t => writeSpOff t k.num mask)
  | .cm c b =>
    let mask := if off then cmOffMask s c.val ||| 2 ^ b.val else cmOffMask s c.val &&& (0xFFFF - 2 ^ b.val)
    hostCmd s h (clusOff c.val 0x0220) (BitVec.ofNat 32 mask) (clusDenied s h c.val) (fun t => writeCmOff t c.val mask)

/-- BANK_OFF: a port sets a bank's OFF bit (07 R281). -/
def execBankOff (h : Fin 2) (b : BankId) (s : State) : Res := hostBank h.val b true s
/-- BANK_ON: a port clears a bank's OFF bit (07 R284). -/
def execBankOn (h : Fin 2) (b : BankId) (s : State) : Res := hostBank h.val b false s

/-- The rows of one bank of a memory at zero. -/
def clearBank (m : Mem) (base size banks b : Nat) : Mem :=
  m.filter (fun c => c.1 < base || base + size ≤ c.1 || (c.1 - base) / 512 % banks != b)

/-- Table entries of the rows of one bank removed. -/
def dropRows (t : SMap α) (banks b : Nat) : SMap α := t.filter (fun e => e.1 % banks != b)

/-- The rows of a scratchpad bank at zero, their VALID and OVF clear and their codewords whole (07 R256, R268, R284). -/
def wipeSp (s : State) (n b : Nat) : State :=
  modCore { s with spMem := clearBank s.spMem (spAddr n 0) 16777216 8 b } n (fun c => modMem c (fun m =>
    { m with valid := dropRows m.valid 8 b, ovf := dropRows m.ovf 8 b, ecc := dropRows m.ecc 8 b }))
/-- The rows of a cluster-memory bank at zero, their VALID and OVF clear and their codewords whole (07 R256, R268, R284). -/
def wipeCm (s : State) (c b : Nat) : State :=
  modClus { s with cmMem := clearBank s.cmMem (cmAddr c 0) 134217728 16 b } c (fun x => modCMem x (fun m =>
    { m with valid := dropRows m.valid 16 b, ovf := dropRows m.ovf 16 b, ecc := dropRows m.ecc 16 b }))

/-- BANK_READY: the scrub of a bank that has powered on ends, and READY sets (07 R284, R256, R268). -/
def execBankReady (b : BankId) (s : State) : Res :=
  match b with
  | .sp k b =>
    let n := k.num
    let p := spPower s n b.val
    if p.off || p.ready then .next s
    else .next (modSpPower (wipeSp s n b.val) n b.val (fun p => { p with ready := true }))
  | .cm c b =>
    let p := cmPower s c.val b.val
    if p.off || p.ready then .next s
    else .next (modCmPower (wipeCm s c.val b.val) c.val b.val (fun p => { p with ready := true }))

end Sys2Proof.Machine
end

