-- ==== Sys2Proof/Machine/Streams.lean ====
section
/-! DEFINITION. The stream engine: the walk, the near end, readiness, translation, issue, halts and faults, delivery, acknowledgement, the GDDR7 channels (08 R290 to R343). -/

namespace Sys2Proof.Machine

/-! ## Classes (08 R306 to R309) -/

/-- The bandwidth class of a stream: 0 read, 1 write, 2 remote (08 R306). -/
def streamClass (d : StreamDesc) : Nat := if d.farSpace ≠ 0 then 2 else if d.dirOut then 1 else 0

/-- The class pattern of a cluster's shares (08 R308). -/
def patternFrom : Nat → Int × Int × Int → Int × Int × Int → List Nat
  | 0, _, _ => []
  | k + 1, sh, cr =>
    let a := cr.1 + sh.1
    let b := cr.2.1 + sh.2.1
    let e := cr.2.2 + sh.2.2
    if b ≤ a ∧ e ≤ a then 0 :: patternFrom k sh (a - 8, b, e)
    else if e ≤ b then 1 :: patternFrom k sh (a, b - 8, e)
    else 2 :: patternFrom k sh (a, b, e - 8)
/-- The class of an issue position of a cluster (08 R307, R308). -/
def classPattern (x : StrEng) : List Nat := patternFrom 8 (x.shareRd, x.shareWr, x.shareRem) (0, 0, 0)

/-! ## Who may issue (08 R302 to R304, R448 of 11, R682 of 18) -/

/-- A partition lets its streams issue and its gatherers and rings work: it runs, is not held at a calm point, paused, frozen or stopped by a fault (11 R448, R449; 17 R666; 18 R682). -/
def partIssues (x : Part) : Bool :=
  (x.state == .running || x.state == .stopping) && !x.faultStop && !x.calmHeld &&
    !(x.det.phase == 2 || x.det.phase == 3 || x.det.phase == 4 || x.det.phase == 6)

/-- The core that owns a stream. -/
def streamOwner (s : State) (c : Nat) (d : StreamDesc) : Option Nat := physOf s c d.owner

/-- The owner's PASID (03 R122). -/
def streamPasid (s : State) (c : Nat) (d : StreamDesc) : Nat :=
  match streamOwner s c d with
  | some n => (taskOf (getCore s n)).pasid
  | none => 0

/-- The owner is in a calm wait (03 R112). -/
def ownerCalm (s : State) (c : Nat) (d : StreamDesc) : Bool :=
  match streamOwner s c d with
  | some n => (getCore s n).calm.isSome
  | none => false

/-- VALID rows of a buffer. -/
def bufferHeld (s : State) (c : Nat) (g : Guarded) : Nat :=
  let inside (e : Nat × Bool) : Bool := e.2 && decide (g.base ≤ e.1 ∧ e.1 < g.base + g.length)
  if g.cm then ((getClus s c).mem.valid.filter inside).length
  else match physOf s c g.lcore with
    | some n => ((getCore s n).mem.valid.filter inside).length
    | none => 0

/-- The consumer position of a DIR 0 stream (08 R302). -/
def consumerPos (s : State) (c st : Nat) (t : Stream) (d : StreamDesc) : Nat :=
  match d.nearKind with
  | 2 => match streamBuffer s c st d with
    | some (g, _) => t.delivered - bufferHeld s c g
    | none => t.delivered
  | 3 => t.consumed
  | _ => t.delivered

/-- The power of the bank under a near end. -/
def nearPower (s : State) (c : Nat) : Near → BankPower
  | .sp n row => spPower s n (spBank row)
  | .cm row => let b := cmBank row; let p := cmPower s c b; if (getClus s c).mem.fencedBanks.getLsbD b then { p with ready := false } else p
  | _ => {}

/-- The near end of a DIR 0 row has room for one more tag: a free row of the port, a target row with VALID clear (08 R294, R257). -/
def nearRoom (s : State) (c st j : Nat) (t : Stream) (d : StreamDesc) : Bool :=
  match d.nearKind with
  | 2 => match streamBuffer s c st d, nearOf s c st j t d with
    | some (g, _), .cm row => decide (t.tags.length < g.length) && !cmValid s c row
    | some (g, _), .sp n row => decide (t.tags.length < g.length) && !spValid (getCore s n) row
    | _, _ => false
  | 3 => match nearOf s c st j t d with
    | .port n p => decide ((getSp (getCore s n) p).rows.length + t.tags.length < 4)
    | _ => false
  | _ => true

/-- The source row of a DIR 1 stream is available (08 R303). -/
def sourceReady (s : State) (c st j : Nat) (t : Stream) (d : StreamDesc) : Bool :=
  match nearOf s c st j t d with
  | .port n p => !(getSw (getCore s n) p).buffer.isEmpty
  | .sp n row => d.nearKind != 2 || spSeen (getCore s n) row
  | .cm row => d.nearKind != 2 || cmSeen s c row
  | .absent => false

/-- The slot that a near-end access of the stream engine needs is its own in this cc and unused, and its bank is awake (07 R245, R246, R250, R280). -/
def nearSlot (s : State) (c cc : Nat) (write : Bool) (nr : Near) : Bool :=
  match nr with
  | .sp n row => streamSlot (getCore s n) write (spBank row) && !(spPower s n (spBank row)).lull
  | .cm row => slotOwner s c (cmBank row) cc == 0x18 && !cmUsed s c write (cmBank row) && !(cmPower s c (cmBank row)).lull
  | .port .. => true
  | .absent => false

/-- A stream might issue its row j but for its translation (08 R302 to R304; 03 R112; 07 R281). -/
def mightIssue (s : State) (c st cc : Nat) : Bool :=
  let t := getStream s c st
  match t.desc with
  | none => false
  | some d =>
    let j := t.next
    t.state == .running && decide (j < streamRows d) && decide (t.tags.length < d.tags) &&
      (if d.dirOut then
        sourceReady s c st j t d && nearSlot s c cc false (nearOf s c st j t d) &&
          !((nearPower s c (nearOf s c st j t d)).pend)
       else
        !ownerCalm s c d && decide (j / tileRows d < consumerPos s c st t d / tileRows d + d.prefetch) && nearRoom s c st j t d &&
          !((nearPower s c (nearOf s c st j t d)).pend))

/-! ## Translation (08 R316 to R325) -/

/-- A device page table entry (08 R316, R318). -/
def getPte (s : State) (page : Nat) : Pte :=
  mget (if s.ptIdentity && decide (page < 393216) then { state := 1, frame := page } else {}) s.ptes page

/-- A page is under resolution in a partition (08 R330). -/
def resolving (x : Part) (page : Nat) : Bool := x.pf.resolving.any (fun r => r.1 == page)

/-- A port may issue host-memory requests: link up, bus mastering on, no hold, not in D3hot (15 R602, R605). -/
def hostOpen (p : Port) : Bool := p.linkUp && p.busMaster && !p.hold && !p.d3

/-- The 4 KiB page of a host address. -/
def hostPage (a : Nat) : Nat := a / 4096

/-- What the translation of row j answers. -/
inductive Xlat where
  | ok (addr : Nat)
  | halt (reason page : Nat)
  | ask (page : Nat)
  | wait
  deriving DecidableEq, Repr

/-- The translation of row j of a stream (08 R317, R321 to R324). -/
def translate (s : State) (c st : Nat) : Xlat :=
  let t := getStream s c st
  match t.desc with
  | none => .wait
  | some d =>
    let a := farAddr t t.next
    match d.farSpace with
    | 0 =>
      let page := a / 2097152
      let e := getPte s page
      let busy := match partOfCluster s c with | some p => resolving (getPart s p) page | none => false
      if e.state = 1 ∧ !busy then .ok (e.frame * 2097152 + a % 2097152)
      else if e.state = 2 then .halt 1 page else if e.state = 3 then .halt 2 page else if e.state = 0 then .halt 3 page else .wait
    | 1 => match partOfCluster s c with
      | none => .wait
      | some p =>
        let port := getPort s (getPart s p).hostPort
        let pasid := streamPasid s c d
        if !hostOpen port then .wait
        else if !port.ats then .ok a
        else if port.invalidating.contains (pasid, hostPage a) then .wait
        else match port.atc.find? (fun e => e.1 == pasid && e.2.1 == hostPage a) with
          | some e => .ok (e.2.2 * 4096 + a % 4096)
          | none => if t.xlat.isSome then .wait else .ask (hostPage a)
    | _ => .ok a

/-! ## Halts and faults (08 R326 to R335) -/

/-- The fault code of a reason (08 R326). -/
def reasonCode (r : Nat) : Nat := if r = 6 then 0x0143 else if r = 7 then 0x0144 else if r = 8 then 0x0130 else if r = 9 then 0x0131 else 0x0140

/-- An unresolvable halt: the stream is faulted, the position is latched and the fault raised at the cluster (08 R334, R345; 18 R689). -/
def faultStream (s : State) (c st reason code : Nat) : State :=
  let t := getStream s c st
  let addr := farAddr t t.next
  let idx := match t.desc with | some d => indexVector d t.next | none => [0, 0, 0, 0, 0]
  let info : StrErr := { reason := reason, stream := st, idx := idx, addr := addr, step := stepOf s c, time := s.time.now }
  let s1 := setStream s c st { t with state := .faulted, reason := reason, xlat := none, resumed := false }
  let s2 := modClus s1 c (fun x => { x with str := { x.str with err := x.str.err.put info } })
  raiseIn s2 c { code := code, kind := 5, pcore := 0x1F, index := st, detail := BitVec.ofNat 64 addr } .none_ true

/-- A page enters the request queue once, or waits for room; an event of the page-request vector where the queue was empty (08 R331, R348). -/
def enqueuePage (s : State) (p page : Nat) : State :=
  let q := (getPart s p).pf.queue
  if q.contains page then s
  else if 64 ≤ q.length then modPart s p (fun x => { x with pf := { x.pf with overflow := x.pf.overflow ++ [page] } })
  else
    let s1 := modPart s p (fun x => { x with pf := { x.pf with queue := x.pf.queue ++ [page] } })
    if q.isEmpty then partEvent s1 p (·.pfVec) else s1

/-- A halt of reason 0x01, 0x02 or 0x04 is counted, whether or not it is resolved (08 R335). -/
def countHalt (s : State) (c : Nat) : State := modClus s c (fun x => { x with str := { x.str with pfCount := x.str.pfCount.bump } })

/-- A page request of a partition in a state, by PASID and page (08 R331). -/
def priFor (x : Part) (pasid page : Nat) : Option PriReq := x.pf.pri.find? (fun r => r.pasid == pasid && r.page == page)

/-- The page requests of a port that are outstanding (08 R325). -/
def priSent (s : State) (h : Nat) : Nat :=
  ((List.range 16).map (fun p => if (getPart s p).hostPort = h then ((getPart s p).pf.pri.filter (fun r => r.st == .sent)).length else 0)).sum

/-- The first page request of a port that waits: its partition and itself. -/
def priNext (s : State) (h : Nat) : Option (Nat × PriReq) :=
  (List.range 16).findSome? (fun p => if (getPart s p).hostPort = h then ((getPart s p).pf.pri.find? (fun r => r.st == .waiting)).map (fun r => (p, r)) else none)

/-- The page requests that wait leave a port that may issue, 512 outstanding at most: `k` of them at most (08 R325, R336). -/
def pumpPri : Nat → State → Nat → State
  | 0, s, _ => s
  | k + 1, s, h =>
    if !hostOpen (getPort s h) || decide (512 ≤ priSent s h) then s
    else match priNext s h with
      | none => s
      | some (p, r) =>
        pumpPri k (emit (modPart s p (fun x => { x with pf := { x.pf with pri := x.pf.pri.map (fun q => if q = r then { r with st := .sent } else q) } }))
          (.pageRequest h r.pasid r.page r.write)) h

/-- A halt that can be resolved: it is counted, and the Eddy controller begins the resolution of its page once (08 R326, R330, R331, R335). -/
def haltStream (s : State) (c st reason page : Nat) : State :=
  let t := getStream s c st
  let s1 := setStream s c st { t with state := .halted, reason := reason, haltTime := nowNs s }
  let s2 := countHalt s1 c
  match partOfCluster s c with
  | none => s2
  | some p =>
    if reason = 4 then
      let d := t.desc.getD {}
      let pasid := streamPasid s c d
      if (priFor (getPart s p) pasid page).isSome then s2
      else pumpPri 512 (modPart s2 p (fun x => { x with pf := { x.pf with pri := x.pf.pri ++ [{ pasid := pasid, page := page, write := d.dirOut, st := .waiting }] } }))
        (getPart s p).hostPort
    else if resolving (getPart s p) page then s2
    else
      let s3 := modPart s2 p (fun x => { x with pf := { x.pf with resolving := x.pf.resolving ++ [(page, reason, nowNs s)] } })
      if reason = 2 then enqueuePage s3 p page else s3

/-- A row that was issued fails: the stream is faulted at that row, whose tag is freed (08 R327, R334). -/
def failRow (s : State) (c st j reason code : Nat) : State :=
  let t := getStream s c st
  let gone : Stream := { t with tags := t.tags.filter (fun g => g.j != j) }
  let s1 := if (getClus s c).str.host.contains (st, j) then modClus s c (fun x => { x with str := { x.str with host := x.str.host.erase (st, j) } }) else s
  if t.state = .faulted ∧ t.next ≤ j then setStream s1 c st gone
  else faultStream (setStream s1 c st { gone with next := j }) c st reason code

/-! ## Issue (08 R303, R307, R309) -/

/-- The row enters a stream's digest (11 R442). -/
def digestRow (t : Stream) (r : Row) : Stream :=
  match t.desc with
  | some d => if d.digest then { t with crc := some (crcBytes (t.crc.getD crcInit) (natBytes 512 r.toNat)) } else t
  | none => t

/-- The party that a stream is; a writer names its row's external address (07 R286). -/
def streamParty (st addr : Nat) : Party := { kind := 1, id := st, addr := addr }

/-- What reading the source row of a DIR 1 stream gives: the row, a refusal, or an uncorrectable row. -/
inductive Source where
  | row (r : Row) (s : State)
  | refused (s : State)
  | bad (s : State)

/-- The source row j of a DIR 1 stream is read in its stream slot (08 R296, R303; 07 R259, R260, R278). -/
def readSource (s : State) (c st : Nat) (nr : Near) (ecc : Ecc) : Source :=
  match nr with
  | .port n p =>
    match (getSw (getCore s n) p).buffer with
    | r :: rest => .row r (modCore s n (fun k => setSw k p { getSw k p with buffer := rest }))
    | [] => .refused s
  | .sp n row =>
    match gateOf (guardAt s c false (lcoreNum (getCore s n)) row) (streamConsumes st) false true with
    | .refuse => .refused (refuseRow s c false n row)
    | g =>
      let (v, s1) := elasticReadSp (strikeSp s n row ecc) n row (streamParty st 0)
      if spBad s1 n row then .bad (latchUe s1 c false n row 1)
      else .row v (match g with | .go i => consumeSp s1 n row i | _ => s1)
  | .cm row =>
    match gateOf (guardAt s c true 0 row) (streamConsumes st) false true with
    | .refuse => .refused (refuseRow s c true 0 row)
    | g =>
      let (v, s1) := readCm (strikeCm s c row ecc) c row (streamParty st 0)
      if cmBad s1 c row then .bad (latchUe s1 c true 0 row 1)
      else .row v (match g with | .go i => consumeCm s1 c row i | _ => s1)
  | .absent => .refused s

/-! ### The host port (08 R314; 15 R574) -/

/-- The tag of a row. -/
def tagOfRow (t : Stream) (j : Nat) : Option StrTag := t.tags.find? (fun g => g.j == j)

/-- The clusters whose host-memory traffic passes through a port (08 R314). -/
def hostClusters (s : State) (h : Nat) : List Nat :=
  (List.range 32).filter (fun c => match partOfCluster s c with | some p => (getPart s p).hostPort == h | none => false)

/-- The host-memory reads of a stream that have left its port and have not come back. -/
def readsOut (s : State) (c st : Nat) : Nat :=
  let t := getStream s c st
  match t.desc with
  | some d =>
    if d.farSpace = 1 ∧ !d.dirOut then (t.tags.filter (fun g => g.data.isNone && g.err == 0 && !(getClus s c).str.host.contains (st, g.j))).length else 0
  | none => 0

/-- The ring of a channel (15 R583). -/
def ringOf (c ch : Nat) : Nat := 4 * c + ch

/-- A ring fails: STATE 5, and the fault at its cluster (15 R590, R597; 18 R679). -/
def ringFault (s : State) (r code : Nat) : State :=
  raiseIn (setRing s r { getRing s r with state := .error, polled := none, sent := false, xlat := none }) (r / 4)
    { code := code, kind := 8, pcore := 0x1F, index := r } .none_ false

/-- The address of an entry of a work ring (15 R584). -/
def entryAddr (x : Ring) (seq : W64) : Nat := x.wrBase.toNat + 512 * (seq.toNat % 2 ^ x.sizeLog2)

/-- The translation that a port keeps of a host address, itself where ATS is not enabled; none where it keeps none, or rows may not use it (08 R322 to R324). -/
def hostXlat (s : State) (h pasid addr : Nat) : Option Nat :=
  let p := getPort s h
  if !p.ats then some addr
  else if p.invalidating.contains (pasid, hostPage addr) then none
  else (p.atc.find? (fun e => e.1 == pasid && e.2.1 == hostPage addr)).map (fun e => e.2.2 * 4096 + addr % 4096)

/-- The address with which an access of a ring goes out (15 R574, R590). -/
def ringAddr (s : State) (h : Nat) (x : Ring) (addr : Nat) : Nat := (hostXlat s h x.pasid addr).getD addr

/-- The host reads of the ready entries (15 R588). -/
def rowReads (s : State) (h : Nat) (x : Ring) (n : Nat) : State :=
  (List.range n).foldl (fun t i => emit t (.hostRead h x.pasid (ringAddr s h x (entryAddr x (x.headSeq + BitVec.ofNat 64 i))) 512)) s

/-- The non-posted requests of a port that wait for their completions (15 R574). -/
def nonPosted (s : State) (h : Nat) : Nat :=
  ((hostClusters s h).map (fun c =>
    ((boundStreams s c).map (fun st => readsOut s c st + (if (getStream s c st).xlat.isSome then 1 else 0))).sum +
    ([0, 1, 2, 3].map (fun ch => let x := getRing s (ringOf c ch); (if x.sent then x.polled.getD 0 else 0) + (if x.xlat.isSome then 1 else 0))).sum)).sum

/-- A port takes one more non-posted request (15 R574). -/
def tagFree (s : State) (h : Nat) : Bool := decide (nonPosted s h < 1024)

/-- The first host-memory row of a cluster that waits at its port. -/
def hostHead (s : State) (c : Nat) : Option (Nat × Nat × StrTag) :=
  (getClus s c).str.host.findSome? (fun (st, j) => (tagOfRow (getStream s c st) j).map (fun g => (st, j, g)))

/-- The cluster that a port serves next, in ascending order from the one it served last (08 R314). -/
def hostTurn (s : State) (h : Nat) : Option Nat :=
  let cs := hostClusters s h
  ((List.range 32).map (fun i => ((getPort s h).served + 1 + i) % 32)).find? (fun c => cs.contains c && (match hostHead s c with
    | some (_, _, g) => g.data.isSome || tagFree s h
    | none => false))

/-- The request of a host-memory row. -/
def hostReq (s : State) (h c st : Nat) (g : StrTag) : Out :=
  let pasid := match (getStream s c st).desc with | some d => streamPasid s c d | none => 0
  match g.data with
  | some r => .hostWrite h pasid g.addr 512 r.toNat
  | none => .hostRead h pasid g.addr 512

/-- A port that may issue sends the rows that wait, one of each cluster in turn: `k` at most (08 R314; 15 R574, R602). -/
def pumpHost : Nat → State → Nat → State
  | 0, s, _ => s
  | k + 1, s, h =>
    if !hostOpen (getPort s h) then s
    else match hostTurn s h with
      | none => s
      | some c => match hostHead s c with
        | none => s
        | some (st, j, g) =>
          let s1 := modClus s c (fun x => { x with str := { x.str with host := x.str.host.erase (st, j) } })
          pumpHost k (emit (modPort s1 h (fun p => { p with served := c })) (hostReq s h c st g)) h

/-- How many rows wait at the host ports. -/
def hostWaitingRows (s : State) : Nat := ((List.range 32).map (fun c => (getClus s c).str.host.length)).sum

/-- The reads of the entries that a poll found ready are sent where the port has room for them (15 R574, R588). -/
def sendRowReads (s : State) (h r : Nat) : State :=
  let x := getRing s r
  match x.polled with
  | some n => if !x.sent && hostOpen (getPort s h) && decide (nonPosted s h + n ≤ 1024) then rowReads (setRing s r { x with sent := true }) h x n else s
  | none => s

/-- A port sends what it may: the rows that wait, then the reads of its rings. -/
def pumpPort (s : State) (h : Nat) : State :=
  let s1 := pumpHost (hostWaitingRows s) s h
  (hostClusters s1 h).foldl (fun a c => [0, 1, 2, 3].foldl (fun b ch => sendRowReads b h (ringOf c ch)) a) s1

/-- The host port of a cluster's partition sends what it may. -/
def pumpFor (s : State) (c : Nat) : State :=
  match partOfCluster s c with
  | some p => pumpPort s (getPart s p).hostPort
  | none => s

/-! ### Remote-class positions of rings and completions (15 R589, R597) -/

/-- The remote-class positions of a cluster after cc `a` and before cc `b` (08 R307, R308). -/
def remotePositions (x : StrEng) (a b : Nat) : Nat :=
  let pat := classPattern x
  let n := b - a - 1
  n / 8 * (pat.filter (fun k => k == 2)).length + ((List.range (n % 8)).filter (fun i => pat.getD ((a + 1 + i) % 8) 3 == 2)).length

/-- The requests of a cluster's rings and completions that have not taken their remote-class position before cc `cc` (15 R589, R597). -/
def ringLeft (s : State) (c cc : Nat) : Nat := let x := (getClus s c).str; x.ringOwed - remotePositions x x.ringCc cc

/-- `n` more requests of a cluster's rings or completions wait for remote-class positions (15 R589, R597). -/
def oweRing (s : State) (c n : Nat) : State :=
  let now := (getClus s c).mem.cc
  let left := ringLeft s c now
  modClus s c (fun x => { x with str := { x.str with ringOwed := left + n, ringCc := if x.str.issueCc = some now then now else now - 1 } })

/-! ### Issue -/

/-- A row leaves for the far end: its request waits for its channel, its host port or its target cluster (08 R313 to R315). -/
def sendRow (s : State) (c st j addr : Nat) (d : StreamDesc) (data : Option Row) : State :=
  match d.farSpace with
  | 0 => modClus s c (fun x => { x with str := { x.str with gddr := x.str.gddr ++ [(st, j)] } })
  | 1 => modClus s c (fun x => { x with str := { x.str with host := x.str.host ++ [(st, j)] } })
  | _ => sendRemote s { core := (streamOwner s c d).getD (24 * c), space := 1, cluster := d.farCluster, lcore := 0, row := addr, val := data, pc := 0, issue := 0,
                        strm := some (st, j) }

/-- The stream last served of a class (08 R309). -/
def lastServed (x : StrEng) (cls : Nat) : Nat := if cls = 0 then x.lastRd else if cls = 1 then x.lastWr else x.lastRem

/-- The engine has served a stream in this cc (08 R307, R309). -/
def markServed (s : State) (c cls st cc : Nat) : State :=
  modClus s c (fun x => { x with str :=
    let y := { x.str with issueCc := some cc }
    if cls = 0 then { y with lastRd := st } else if cls = 1 then { y with lastWr := st } else { y with lastRem := st } })

/-- The row j of a stream issues (08 R303, R304, R307). -/
def issueRow (s : State) (c st cc addr : Nat) (d : StreamDesc) (ecc : Ecc) : State :=
  let t := getStream s c st
  let j := t.next
  let hold (st0 : State) (data : Option Row) : State :=
    let u := getStream st0 c st
    let u1 := { u with next := j + 1, tags := u.tags ++ [{ j := j, data := data, addr := addr, err := 0, served := false }] }
    let u2 := match data with | some r => digestRow u1 r | none => u1
    markServed (pumpFor (sendRow (setStream st0 c st u2) c st j addr d data) c) c (streamClass d) st cc
  if d.dirOut then
    match readSource s c st (nearOf s c st j t d) ecc with
    | .row r s1 => hold s1 (some r)
    | .refused s1 => modClus s1 c (fun x => { x with str := { x.str with streams := mmod {} x.str.streams st (fun (u : Stream) => endStream { u with next := j + 1 }) } })
    | .bad s1 => faultStream s1 c st 8 0x0130
  else hold s none

/-- The write of a stream's next row meets a bank without power: it is discarded, counted and its source latched (07 R283). -/
def lostWrite (s : State) (c st : Nat) (nr : Near) : State :=
  match nr with
  | .sp n row => dropWrite s c false n row 1 st
  | .cm row => dropWrite s c true 0 row 1 st
  | _ => s

/-- The near end of row j lies in a bank without power: a write is discarded, and the stream halts with reason 0x09 (07 R283; 08 R326). -/
def unpoweredHalt (s : State) (c st : Nat) (nr : Near) : State :=
  let out := match (getStream s c st).desc with | some d => d.dirOut | none => false
  faultStream (if out then s else lostWrite s c st nr) c st 9 0x0131

/-- The streams of a class that might issue before stream `st` in the rotation (08 R309). -/
def aheadOf (s : State) (c cls st cc : Nat) : List Nat :=
  let last := lastServed (getClus s c).str cls
  let dist (i : Nat) : Nat := (i + 256 - (last + 1) % 256) % 256
  (boundStreams s c).filter (fun i => decide (dist i < dist st) && mightIssue s c i cc &&
    (match (getStream s c i).desc with | some d => streamClass d == cls | none => false) &&
    (match translate s c i with | .ok _ => true | _ => false))

/-- STREAM_ROW_ISSUE: in a class position of the cc, a ready stream issues its row j, or a row that cannot be issued halts its stream (08 R307, R309, R326, R338). -/
def execStreamRowIssue (cl : ClusterId) (stream : Fin 256) (cc : Nat) (ecc : Ecc) (s : State) : Res :=
  let c := cl.val
  let st := stream.val
  match enterCc s c cc, partOfCluster s c with
  | some s1, some p =>
    let t := getStream s1 c st
    match t.desc with
    | none => .next s1
    | some d =>
      let nr := nearOf s1 c st t.next t d
      if !partIssues (getPart s1 p) || t.state ≠ .running || streamRows d ≤ t.next then .next s1
      else match translate s1 c st with
        | .halt reason page => if mightIssue s1 c st cc then .next (calmCheckAt (if reason = 3 then faultStream s1 c st 3 0x0140 else haltStream s1 c st reason page) c) else .next s1
        | .ask page => if mightIssue s1 c st cc && tagFree s1 (getPart s1 p).hostPort then
            .next (emit (setStream s1 c st { t with xlat := some page }) (.atsRequest (getPart s1 p).hostPort (streamPasid s1 c d) page)) else .next s1
        | .wait => .next s1
        | .ok addr =>
          if !(nearPower s1 c nr).ready then (if mightIssue s1 c st cc then .next (calmCheckAt (unpoweredHalt s1 c st nr) c) else .next s1)
          else if d.dirOut && (nearPower s1 c nr).lull then .next (match nr with
            | .sp n row => modSpPower s1 n (spBank row) beginWake
            | .cm row => modCmPower s1 c (cmBank row) beginWake
            | _ => s1)
          else if (getClus s1 c).str.issueCc = some cc || !mightIssue s1 c st cc ||
              (classPattern (getClus s1 c).str).getD (cc % 8) 3 ≠ streamClass d || (streamClass d == 2 && decide (0 < ringLeft s1 c cc)) || !(aheadOf s1 c (streamClass d) st cc).isEmpty then .next s1
          else .next (calmCheckAt (issueRow s1 c st cc addr d ecc) c)
  | _, _ => .next s

/-! ## Delivery and acknowledgement (08 R301, R304, R305, R327, R328) -/

/-- A statistic of a row that a stream has moved (08 R345). -/
def countMoved (s : State) (c : Nat) (d : StreamDesc) : State :=
  modClus s c (fun x => { x with str :=
    if d.farSpace ≠ 0 then { x.str with rowsRem := x.str.rowsRem.bump }
    else if d.dirOut then { x.str with rowsWr := x.str.rowsWr.bump } else { x.str with rowsRd := x.str.rowsRd.bump } })

/-- A core in Lull begins its wake (03 R108). -/
def wakeCore (s : State) (n : Nat) : State := if (getCore s n).state == .lull then modCore s n (fun c => { c with waking := true }) else s

/-- The tags of a stream without that of row j. -/
def freeTag (t : Stream) (j : Nat) : List StrTag := t.tags.filter (fun g => g.j != j)

/-- The tag of row j is freed after the row was delivered or acknowledged (08 R304, R305). -/
def rowMoved (s : State) (c st j : Nat) (d : StreamDesc) : State :=
  let t := getStream s c st
  countMoved (setStream s c st (endStream { t with tags := freeTag t j, delivered := t.delivered + 1 })) c d

/-- The tag of row j is freed and the row goes nowhere (08 R327; 07 R260). -/
def dropTag (s : State) (c st j : Nat) : State := let t := getStream s c st; setStream s c st (endStream { t with tags := freeTag t j })

/-- What the near end does with the next row of a DIR 0 stream. -/
inductive Landing where
  | wait (s : State)
  | landed (s : State)
  | refused (s : State)
  | unpowered

/-- The near-end write of a row (08 R301; 07 R257, R260, R280, R283; 04 R170). -/
def landRow (s : State) (c st cc : Nat) (t : Stream) (d : StreamDesc) (j : Nat) (r : Row) (marks : BitVec 8) : Landing :=
  let party := streamParty st (farAddr t j)
  match nearOf s c st j t d with
  | .port n p =>
    let q := getSp (getCore s n) p
    if 4 ≤ q.rows.length then .wait s else .landed (payDebts 64 (modCore s n (fun k => setSp k p { q with rows := q.rows ++ [(r, marks)] })) n p)
  | .sp n row =>
    match gateOf (guardAt s c false (lcoreNum (getCore s n)) row) (streamProduces st) true (spValid (getCore s n) row), spAnswer s n (spBank row) with
    | .refuse, _ => .refused (refuseRow s c false n row)
    | .wait, _ => .wait s
    | _, .unpowered => .unpowered
    | _, .asleep => .wait (modSpPower s n (spBank row) beginWake)
    | g, .ready => if streamSlot (getCore s n) true (spBank row) then .landed (elasticWriteSp s n row r party (match g with | .go i => some i | _ => none)) else .wait s
  | .cm row =>
    match gateOf (guardAt s c true 0 row) (streamProduces st) true (cmValid s c row), cmAnswer s c (cmBank row) with
    | .refuse, _ => .refused (refuseRow s c true 0 row)
    | .wait, _ => .wait s
    | _, .unpowered => .unpowered
    | _, .asleep => .wait (modCmPower s c (cmBank row) beginWake)
    | g, .ready =>
      if slotOwner s c (cmBank row) cc = 0x18 ∧ !cmUsed s c true (cmBank row) then .landed (writeCm s c row r party (match g with | .go i => some i | _ => none)) else .wait s
  | .absent => .wait s

/-- The next row of a DIR 0 stream is written at its near end, in order of j (08 R301, R327). -/
def deliverRow (s : State) (c st cc : Nat) (d : StreamDesc) (j : Nat) (r : Row) (marks : BitVec 8) : State :=
  let t := getStream s c st
  if t.state == .faulted && decide (t.next ≤ j) then dropTag s c st j
  else match landRow s c st cc t d j r marks with
    | .wait s1 => s1
    | .refused s1 => dropTag s1 c st j
    | .unpowered => failRow (lostWrite s c st (nearOf s c st j t d)) c st j 9 0x0131
    | .landed s1 =>
      let u := getStream s1 c st
      let s2 := rowMoved (setStream s1 c st (digestRow u r)) c st j d
      match physOf s c d.nearLcore with
      | some n => wakeCore s2 n
      | none => s2

/-- STREAM_ROW_DELIVER: the next row of a DIR 0 stream that has come back from the far end is delivered; a host row comes with the command, and so do the vectors that the row's source marks as bubbles (08 R301, R326; 04 R147). -/
def execStreamRowDeliver (cl : ClusterId) (stream : Fin 256) (cc : Nat) (host : HostReply) (marks : BitVec 8) (s : State) : Res :=
  let c := cl.val
  let st := stream.val
  match enterCc s c cc with
  | none => .next s
  | some s1 =>
    let t := getStream s1 c st
    match t.desc, t.tags with
    | some d, g :: _ =>
      if d.dirOut then .next s1
      else if d.farSpace = 1 then
        if (getClus s1 c).str.host.contains (st, g.j) then .next s1
        else match host with
        | .data r => .next (pumpFor (deliverRow s1 c st cc d g.j r marks) c)
        | .error => .next (pumpFor (failRow s1 c st g.j 6 0x0143) c)
      else if !g.served then .next s1
      else if g.err ≠ 0 then .next (failRow s1 c st g.j g.err (if g.err = 9 then 0x0132 else reasonCode g.err))
      else .next (deliverRow s1 c st cc d g.j (g.data.getD 0) marks)
    | _, _ => .next s1

/-- The tag that an acknowledgement frees: of host memory that of the row it names, once the row has left the port; of device or cluster memory that of a row served there (08 R304). -/
def ackedTag (s : State) (c st : Nat) (d : StreamDesc) (t : Stream) (far : FarAck) : Option StrTag :=
  let ofHost (j : Nat) : Option StrTag := if d.farSpace = 1 ∧ !(getClus s c).str.host.contains (st, j) then tagOfRow t j else none
  match far with
  | .inner => if d.farSpace = 1 then none else t.tags.find? (fun g => g.served)
  | .hostDone j => ofHost j
  | .hostError j => ofHost j

/-- The reason for which a written row failed at its far end (07 R283; 08 R326). -/
def ackFailure (far : FarAck) (g : StrTag) : Nat :=
  match far with
  | .hostError _ => 6
  | _ => g.err

/-- STREAM_ROW_ACK: the far end acknowledges a written row of a DIR 1 stream and its tag is freed; an error of host memory, or a far bank without power, halts the stream at that row (08 R304, R305, R326, R327; 07 R283). -/
def execStreamRowAck (cl : ClusterId) (stream : Fin 256) (far : FarAck) (s : State) : Res :=
  let c := cl.val
  let st := stream.val
  let t := getStream s c st
  match t.desc with
  | none => .next s
  | some d =>
    match (if d.dirOut then ackedTag s c st d t far else none) with
    | none => .next s
    | some g =>
      if ackFailure far g ≠ 0 then .next (calmCheckAt (failRow s c st g.j (ackFailure far g) (reasonCode (ackFailure far g))) c)
      else if t.state == .faulted && decide (t.next ≤ g.j) then .next (calmCheckAt (countMoved (dropTag s c st g.j) c d) c)
      else .next (calmCheckAt (rowMoved s c st g.j d) c)

/-! ## GDDR7 channels (08 R312, R313, R341 to R343) -/

/-- The channel of a physical address (08 R312). -/
def channelOf (addr : Nat) : Nat := addr / 512 % 32

/-- The oldest request of a cluster that waits for a channel (08 R313). -/
def oldestFor (s : State) (c chan : Nat) : Option (Nat × Nat) :=
  (getClus s c).str.gddr.find? (fun (st, j) => match tagOfRow (getStream s c st) j with
    | some g => channelOf g.addr == chan
    | none => false)

/-- A row of device memory holds an uncorrectable codeword. -/
def dmIsBad (s : State) (addr : Nat) : Bool := mget false s.dmBad (addr / 512)

/-- A row of device memory written: its codewords are whole again. -/
def setDmRow (s : State) (addr : Nat) (r : Row) : State := { s with dmMem := writeRow s.dmMem addr r, dmBad := mdel s.dmBad (addr / 512) }

/-- What the error code shows of a device-memory row that is read: its channel counts the corrected errors, and an error that it cannot correct stays in the row (08 R343). -/
def dmRead (s : State) (addr : Nat) (e : DramEcc) : State :=
  let s1 := if e.corrected = 0 then s else { s with dmCorr := mmod {} s.dmCorr (channelOf addr) (fun t => t.add e.corrected) }
  if e.uncorrectable then { s1 with dmBad := mset s1.dmBad (addr / 512) true } else s1

/-- GDDR7_SLOT: a channel serves the cluster's oldest waiting request in the cluster's rotation slot (08 R313, R343). -/
def execGddr7Slot (cl : ClusterId) (chan : Fin 32) (ecc : DramEcc) (s : State) : Res :=
  let c := cl.val
  match oldestFor s c chan.val with
  | none => .next s
  | some (st, j) =>
    let s1 := modClus s c (fun x => { x with str := { x.str with gddr := x.str.gddr.erase (st, j) } })
    match tagOfRow (getStream s c st) j with
    | none => .next s1
    | some g => match g.data with
      | some r => .next (tagServed (setDmRow s1 g.addr r) c st j none 0)
      | none =>
        let s2 := dmRead s1 g.addr ecc
        if dmIsBad s2 g.addr then .next (failRow s2 c st j 7 0x0144)
        else .next (tagServed s2 c st j (some (readRow s2.dmMem g.addr)) 0)

/-- GDDR7_REFRESH: a rotation slot falls inside a refresh and is lost to a cluster with a request waiting (08 R341, R342). -/
def execGddr7Refresh (cl : ClusterId) (chan : Fin 32) (s : State) : Res :=
  match oldestFor s cl.val chan.val with
  | none => .next s
  | some _ => .next (modClus s cl.val (fun x => { x with str := { x.str with refreshLost := x.str.refreshLost.bump } }))

/-! ## The power-down of a bank (07 R282) -/

/-- A near row lies in a bank. -/
def nearInBank (c : Nat) (nr : Near) : BankId → Bool
  | .sp k b => match nr with | .sp n row => n == k.num && spBank row == b.val | _ => false
  | .cm cl b => match nr with | .cm row => c == cl.val && cmBank row == b.val | _ => false

/-- An outstanding tag of a cluster's streams targets a bank (07 R282). -/
def tagTargets (s : State) (c : Nat) (b : BankId) : Bool :=
  (boundStreams s c).any (fun st =>
    let t := getStream s c st
    match t.desc with
    | some d => t.tags.any (fun g => nearInBank c (nearOf s c st g.j t d) b)
    | none => false)

/-- PEND and READY clear as a bank powers off. -/
def powerDown (p : BankPower) : BankPower := { p with pend := false, ready := false, lull := false, wake := 0 }

/-- BANK_POWER_DOWN: a bank with PEND set that no outstanding tag targets powers off, and its contents are lost (07 R282). -/
def execBankPowerDown (b : BankId) (s : State) : Res :=
  match b with
  | .sp k i =>
    if (spPower s k.num i.val).pend && !tagTargets s k.cluster.val b then .next (modSpPower (wipeSp s k.num i.val) k.num i.val powerDown) else .next s
  | .cm c i =>
    if (cmPower s c.val i.val).pend && !tagTargets s c.val b then .next (modCmPower (wipeCm s c.val i.val) c.val i.val powerDown) else .next s

end Sys2Proof.Machine
end

