-- ==== Sys2Proof/Machine/Pages.lean ====
section
/-! DEFINITION. Page resolution: scrubs, the host driver's writes, PRI and ATS, deadlines (08 R319 to R337, R347, R348). -/

namespace Sys2Proof.Machine

/-- The page on which a stream waits (08 R331). -/
def waitsOn (t : Stream) (page : Nat) : Bool :=
  t.state == .halted && (t.reason == 1 || t.reason == 2) && farAddr t t.next / 2097152 == page

/-- The streams of a partition that wait on a page: cluster and stream. -/
def waiters (s : State) (p page : Nat) : List (Nat × Nat) :=
  (clustersOf s p).flatMap (fun c => ((boundStreams s c).filter (fun i => waitsOn (getStream s c i) page)).map (fun i => (c, i)))

/-- A stream resumes: it translates its row j again (08 R332). -/
def resumeStream (s : State) (c st : Nat) : State :=
  let t := getStream s c st
  setStream s c st { t with state := .running, reason := 0, xlat := none }

/-- The resolution of a page ends: with reason 0 its streams resume and the excursion is counted, otherwise each is faulted (08 R332, R333; 11 R434). -/
def endResolution (s : State) (p page reason : Nat) : State :=
  let ws := waiters s p page
  let s1 := modPart s p (fun x => { x with
    pf := { x.pf with resolving := x.pf.resolving.filter (fun r => r.1 != page), overflow := x.pf.overflow.filter (fun r => r != page) }
    det := { x.det with excPf := if reason = 0 then x.det.excPf.bump else x.det.excPf } })
  calmCheck (ws.foldl (fun a w => if reason = 0 then resumeStream a w.1 w.2 else faultStream a w.1 w.2 reason (reasonCode reason)) s1) p

/-- A page table entry written. -/
def setPte (s : State) (page : Nat) (e : Pte) : State := { s with ptes := mset s.ptes page e }

/-- The reason with which a page is under resolution in a partition; none where it is not. -/
def resolvingFor (x : Part) (page : Nat) : Option Nat := (x.pf.resolving.find? (fun r => r.1 == page)).map (·.2.1)

/-- PAGE_ZERO_FILL: the Eddy controller has scrubbed the frame of a ZERO_ON_TOUCH page and sets PRESENT (08 R330, R332). -/
def execPageZeroFill (p : PartId) (page : Fin 393216) (s : State) : Res :=
  let x := getPart s p.val
  if resolvingFor x page.val ≠ some 1 then .next s
  else
    let e := getPte s page.val
    let s1 := { s with dmMem := clearRange s.dmMem (e.frame * 2097152) 2097152, dmBad := s.dmBad.filter (fun b => b.1 / 4096 != e.frame) }
    .next (endResolution (setPte s1 page.val { e with state := 1 }) p.val page.val 0)

/-- A page number lies in a partition's device-memory range (08 R316, R319). -/
def pageInside (x : Part) (page : Nat) : Bool := decide (x.dmBase ≤ page * 2097152 ∧ (page + 1) * 2097152 ≤ x.dmLimit)

/-- The reason for which a page table write is rejected (08 R319, R320; 18 R698). -/
def pteDenied (s : State) (p page state frame : Nat) : Option Nat :=
  let x := getPart s p
  let inside := pageInside x page && pageInside x frame
  match resolvingFor x page with
  | some r => if r = 2 ∧ (state = 0 ∨ state = 1) then (if inside then none else if state = 0 then some 2 else some 7) else some 7
  | none => if !inside then some 2 else if (getPte s page).state = 1 ∧ x.state ≠ .stopped then some 7 else none

/-- A write of PART_PT_DATA: an entry takes its value; under a HOST_FILL resolution PRESENT completes it and INVALID ends it with reason 0x03 (08 R319, R320, R330, R333). -/
def writePte (s : State) (p page state frame : Nat) : State :=
  let r := resolvingFor (getPart s p) page
  let s1 := setPte s page { state := state, frame := frame }
  match r with
  | some _ => endResolution s1 p page (if state = 1 then 0 else 3)
  | none => s1

/-- PAGE_TABLE_WRITE: the owner port writes PART_PT_DATA for the page of PART_PT_INDEX (08 R319, R320). -/
def execPageTableWrite (h : Fin 2) (p : PartId) (data : W32) (s : State) : Res :=
  let page := (getPart s p.val).pf.ptIndex
  let state := natBits data.toNat 30 2
  let frame := natBits data.toNat 0 19
  hostCmd s h.val (partOff p.val 0x0204) data
    (firstDenied [if natBits data.toNat 19 10 ≠ 0 then some 1 else none, partDenied s h.val p.val, pteDenied s p.val page state frame])
    (fun t => writePte t p.val page state frame)

/-- Pages that wait for room enter the request queue: `k` at most (08 R348). -/
def refillQueue : Nat → State → Nat → State
  | 0, s, _ => s
  | k + 1, s, p =>
    match (getPart s p).pf.overflow with
    | page :: rest =>
      if (getPart s p).pf.queue.length < 64 then
        refillQueue k (enqueuePage (modPart s p (fun x => { x with pf := { x.pf with overflow := rest } })) p page) p
      else s
    | [] => s

/-- A write of PART_PF_ACK with bit 0 set removes the head request (08 R347, R348). -/
def ackPage (s : State) (p : Nat) : State :=
  refillQueue 64 (modPart s p (fun x => { x with pf := { x.pf with queue := x.pf.queue.tail } })) p

/-- PF_ACK: the owner port writes PART_PF_ACK (08 R347). -/
def execPfAck (h : Fin 2) (p : PartId) (data : W32) (s : State) : Res :=
  hostCmd s h.val (partOff p.val 0x0214) data
    (firstDenied [if natBits data.toNat 1 31 ≠ 0 then some 1 else none, partDenied s h.val p.val])
    (fun t => if data.getLsbD 0 then ackPage t p.val else t)

/-- A stream waits for a host page (08 R331). -/
def waitsOnHost (s : State) (c st pasid page : Nat) : Bool :=
  let t := getStream s c st
  match t.desc with
  | some d => t.state == .halted && t.reason == 4 && streamPasid s c d == pasid && hostPage (farAddr t t.next) == page
  | none => false

/-- The streams of a partition that wait for a host page: cluster and stream. -/
def hostWaiters (s : State) (p pasid page : Nat) : List (Nat × Nat) :=
  (clustersOf s p).flatMap (fun c => ((boundStreams s c).filter (fun i => waitsOnHost s c i pasid page)).map (fun i => (c, i)))

/-- The resolution of a host page is over; requests that waited for its place go out (08 R325, R331). -/
def priOver (s : State) (p pasid page : Nat) : State :=
  pumpPri 512 (modPart s p (fun x => { x with pf := { x.pf with pri := x.pf.pri.filter (fun r => !(r.pasid == pasid && r.page == page)) } })) (getPart s p).hostPort

/-- The resolution of a host page ends in a fault of every stream that waits for it (08 R326, R331, R333). -/
def failHostPage (s : State) (p pasid page reason : Nat) : State :=
  (hostWaiters s p pasid page).foldl (fun a w => faultStream a w.1 w.2 reason 0x0140) (priOver s p pasid page)

/-- PRI_RESPONSE: a PRG response comes for the page of a stream, whose request is outstanding: on Success the translation is requested again, otherwise every stream that waits for the page is faulted with reason 0x05 (08 R326, R330, R331). A port that holds, or without a link, takes none. -/
def execPriResponse (h : Fin 2) (cl : ClusterId) (stream : Fin 256) (success : Bool) (s : State) : Res :=
  let c := cl.val
  let st := stream.val
  let t := getStream s c st
  match partOfCluster s c, t.desc with
  | some p, some d =>
    let x := getPart s p
    let page := hostPage (farAddr t t.next)
    let pasid := streamPasid s c d
    if x.hostPort ≠ h.val || !hostOpen (getPort s h.val) || !waitsOnHost s c st pasid page then .next s
    else match priFor x pasid page with
      | some r =>
        if r.st ≠ .sent then .next s
        else if success then
          let s1 := modPart s p (fun x => { x with pf := { x.pf with pri := x.pf.pri.map (fun q => if q = r then { r with st := .granted } else q) } })
          .next (emit (setStream (pumpPri 512 s1 h.val) c st { t with resumed := true, xlat := some page }) (.atsRequest h.val pasid page))
        else .next (calmCheck (failHostPage s p pasid page 5) p)
      | none => .next s
  | _, _ => .next s

/-- A translation enters a port's cache (08 R322). -/
def keepXlat (s : State) (h pasid page frame : Nat) : State :=
  modPort s h (fun q => { q with atc := (pasid, page, frame) :: q.atc.filter (fun e => !(e.1 == pasid && e.2.1 == page)) })

/-- A granted host page: every stream that waits for it resumes, and the excursion is counted once (08 R332; 11 R434). -/
def grantHostPage (s : State) (p pasid page : Nat) : State :=
  modPart ((hostWaiters s p pasid page).foldl (fun a w => resumeStream a w.1 w.2) (priOver s p pasid page)) p
    (fun x => { x with det := { x.det with excPf := x.det.excPf.bump } })

/-- The translation that a stream asked for is granted or denied (08 R322, R326, R330, R332). -/
def streamXlat (s : State) (h c st p page : Nat) (d : StreamDesc) (result : Option Nat) : State :=
  let t := getStream s c st
  let pasid := streamPasid s c d
  let s1 := setStream s c st { t with xlat := none, resumed := false }
  match result with
  | some frame =>
    let s2 := keepXlat s1 h pasid page frame
    pumpFor (if t.state = .halted then calmCheck (grantHostPage s2 p pasid page) p else s2) c
  | none =>
    if t.resumed then calmCheck (failHostPage s1 p pasid page 5) p
    else if (getPort s h).pri then calmCheck (haltStream s1 c st 4 page) p
    else calmCheck (faultStream (countHalt s1 c) c st 4 0x0140) p

/-- ATS_TRANSLATION_COMPLETION: the host grants a translation, which the port keeps and on which the stream or the ring goes on, or denies it; a denied access puts a ring into STATE 5 (08 R322, R326, R330, R332; 15 R590, R597). -/
def execAtsTranslationCompletion (h : Fin 2) (who : HostRequester) (result : Option Nat) (s : State) : Res :=
  if !hostOpen (getPort s h.val) then .next s
  else match who with
  | .stream cl stream =>
    let t := getStream s cl.val stream.val
    match partOfCluster s cl.val, t.desc, t.xlat with
    | some p, some d, some page =>
      if (getPart s p).hostPort ≠ h.val then .next s else .next (streamXlat s h.val cl.val stream.val p page d result)
    | _, _, _ => .next s
  | .ring r =>
    let x := getRing s r.val
    match partOfCluster s (r.val / 4), x.xlat with
    | some p, some (page, post) =>
      if (getPart s p).hostPort ≠ h.val then .next s
      else match result with
        | some frame => .next (pumpFor (keepXlat (setRing s r.val { x with xlat := none }) h.val x.pasid page frame) (r.val / 4))
        | none => .next (ringFault s r.val (if post then 0x01A1 else 0x01A0))
    | _, _ => .next s

/-- Rows of a port that were issued under a translation and have not completed, those of rings among them (08 R324; 15 R588). -/
def rowsUnder (s : State) (h pasid page : Nat) : Bool :=
  (hostClusters s h).any (fun c =>
    (boundStreams s c).any (fun st =>
      let t := getStream s c st
      match t.desc with
      | some d => d.farSpace == 1 && streamPasid s c d == pasid && t.tags.any (fun g => hostPage (farAddr t g.j) == page)
      | none => false) ||
    [0, 1, 2, 3].any (fun ch =>
      let x := getRing s (4 * c + ch)
      x.pasid == pasid && (List.range (x.polled.getD 0)).any (fun i => hostPage (entryAddr x (x.headSeq + BitVec.ofNat 64 i)) == page)))

/-- ATS_INVALIDATE: an Invalidate Request: the translation leaves the cache, and no new row is issued under it (08 R324). -/
def execAtsInvalidate (h : Fin 2) (pasid : BitVec 20) (page : Nat) (s : State) : Res :=
  if !(getPort s h.val).ats then .next s
  else
    let key := (pasid.toNat, page)
    .next (modPort s h.val (fun q => { q with
      atc := q.atc.filter (fun e => !(e.1 == pasid.toNat && e.2.1 == page))
      invalidating := if q.invalidating.contains key then q.invalidating else q.invalidating ++ [key] }))

/-- INVALIDATE_COMPLETION: every row issued under the translation has completed, and the port sends the Invalidate Completion (08 R324). -/
def execInvalidateCompletion (h : Fin 2) (pasid : BitVec 20) (page : Nat) (s : State) : Res :=
  let key := (pasid.toNat, page)
  if !(getPort s h.val).invalidating.contains key || rowsUnder s h.val pasid.toNat page then .next s
  else .next (emit (modPort s h.val (fun q => { q with invalidating := q.invalidating.erase key })) (.invalidateDone h.val pasid.toNat page))

/-- PF_DEADLINE: a resolution that has not ended within PART_PF_DEADLINE of the halt ends with reason 0x0A (08 R333; 11 R450). -/
def execPfDeadline (cl : ClusterId) (stream : Fin 256) (s : State) : Res :=
  let c := cl.val
  let st := stream.val
  let t := getStream s c st
  match partOfCluster s c with
  | none => .next s
  | some p =>
    let x := getPart s p
    if t.state ≠ .halted || x.det.phase == 3 || x.det.phase == 6 || decide (nowNs s < t.haltTime + 1000 * x.pf.deadline) then .next s
    else if t.reason = 4 then .next (calmCheck (failHostPage s p (match t.desc with | some d => streamPasid s c d | none => 0) (hostPage (farAddr t t.next)) 0x0A) p)
    else .next (endResolution s p (farAddr t t.next / 2097152) 0x0A)

end Sys2Proof.Machine
end

