-- ==== Sys2Proof/Machine/Messages.lean ====
section
/-! DEFINITION. Messages on their way: the mesh, the ejection ports and tag queues, discards and drop reports, static routes, multicast and combine (09). -/

namespace Sys2Proof.Machine

/-! ## The mesh (09 R359 to R363) -/

/-- Row of a cluster in the mesh (09 R359). -/
def meshRow (c : Nat) : Nat := c % 16 / 4
/-- Column of a cluster in the mesh (09 R359). -/
def meshCol (c : Nat) : Nat := 4 * (c / 16) + c % 4
/-- The cluster at a row and column of the mesh (09 R359). -/
def meshAt (row col : Nat) : Nat := 16 * (col / 4) + 4 * row + col % 4

/-- The device and cluster to which a row of the mesh goes: a drop report to its message's sender, a remote request to its target, its reply to the requester (09 R360, R379; 07 R274). -/
def rowTarget (s : State) (r : MeshRow) : Nat × Nat :=
  if r.kind = 1 then (rowSrcDev r.msg.header, rowSrcCluster r.msg.header)
  else match r.remote with
    | some q => (s.self, if r.reply.isSome then clusOf q.core else q.cluster)
    | none => (rowDev r.msg.header, rowCluster r.msg.header)

/-- The output by which a row leaves a router: 0 north, 1 east, 2 south, 3 west; none where it has arrived (09 R360). Ports F0 and F1 lie in the west, F2 and F3 in the east. -/
def nextLink (s : State) (c : Nat) (r : MeshRow) : Option Nat :=
  let (dev, tc) := rowTarget s r
  if dev ≠ s.self then some (if r.msg.fabPort < 2 then 3 else 1)
  else if meshCol tc > meshCol c then some 1
  else if meshCol tc < meshCol c then some 3
  else if meshRow tc > meshRow c then some 2
  else if meshRow tc < meshRow c then some 0
  else none

/-- A link leads from a router to its I/O die (09 R359). -/
def leavesMesh (c link : Nat) : Bool := (link == 3 && meshCol c == 0) || (link == 1 && meshCol c == 7)

/-- The router at the end of a link; none where there is none. -/
def neighbour (c link : Nat) : Option Nat :=
  let r := meshRow c
  let k := meshCol c
  match link with
  | 0 => if r = 0 then none else some (meshAt (r - 1) k)
  | 1 => if k = 7 then none else some (meshAt r (k + 1))
  | 2 => if r = 3 then none else some (meshAt (r + 1) k)
  | _ => if k = 0 then none else some (meshAt r (k - 1))

/-- The input at which a row that leaves by a link arrives. -/
def inputOf (link : Nat) : Nat := (link + 2) % 4

/-- The router of a cluster does not run: its clock is stopped (14 R554; 19 R705, R720). -/
def routerStopped (s : State) (c : Nat) : Bool := clockStopped s c

/-- The rows that a router input holds for a lane (09 R363). -/
def laneBuf (s : State) (c inp lane : Nat) : List MeshRow := mget [] (getClus s c).msg.bufs (256 * inp + lane)

/-- A cluster's router with the buffer of an input and a lane set. -/
def setLaneBuf (s : State) (c inp lane : Nat) (rs : List MeshRow) : State :=
  modClus s c (fun x => modMsg x (fun m => { m with bufs := mset m.bufs (256 * inp + lane) rs }))

/-- The static lane of a cluster: that of its partition (09 R362, R383). -/
def staticLane (s : State) (c : Nat) : Nat := 0x20 + (partOfCluster s c).getD 0

/-- The messages whose first row waits at a router for a port's link (09 R362, R383). -/
def portWaits (s : State) (f c : Nat) : Nat :=
  ((getClus s c).msg.pendingOut.filter (fun r => leavesMesh c r.1 && r.2.fabPort == f && rowIndex r.2.header == 0)).length

/-- The messages that a fabric port holds: kept for their acknowledgement, complete, with their first row there, or with it on the way to the port's link (09 R358; 12 R485). -/
def portHolds (s : State) (f : Nat) : Nat :=
  let x := getFab s f
  x.txQueue.length + (x.peers.map (fun p => p.2.kept.length)).sum + (x.partial_.filter (fun r => rowIndex r.header == 0)).length +
    ((List.range 32).map (portWaits s f)).sum

/-- A fabric port takes one more message (09 R358; 12 R485). -/
def portFree (s : State) (f : Nat) : Bool := decide (portHolds s f < 512)

/-- A fabric port takes a row: the first row of a message only while the port holds fewer than 512 messages (09 R358; 12 R485). -/
def portRoom (s : State) (f : Nat) (h : Header) : Bool := rowIndex h != 0 || portFree s f

/-- A link can take a row of a lane: the next router has room for it, the rows that wait for the link counted (09 R362, R363). -/
def linkRoom (s : State) (c link lane : Nat) (port : Nat) (h : Header) : Bool :=
  if leavesMesh c link then portRoom s port h
  else match neighbour c link with
    | some d =>
      let waiting := ((getClus s c).msg.pendingOut.filter (fun r => r.1 == link)).length
      decide ((laneBuf s d (inputOf link) lane).length + (if 0x20 ≤ lane ∧ lane < 0x30 then waiting else 0) < 4)
    | none => false

/-- A DROP frame for a peer device waits at a port; a port without an open context for the device loses it (12 R472, R474). -/
def queueDrop (s : State) (f dev reason : Nat) (h : Header) : State :=
  let x := getFab s f
  let p : Peer := mget {} x.peers dev
  if p.state = .absent ∨ p.state = .fenced then s
  else setFab s f { x with txQueue := x.txQueue ++ [(dev, { ftype := 4, src := s.self, srcPort := f, dst := dev, reason := reason, header := h })] }

/-- A row as it comes to a router of cluster `c` in the present cc (09 R373). -/
def cameNow (s : State) (c : Nat) (r : MeshRow) : MeshRow := { r with msg := { r.msg with came := latestCcs s c } }

/-- A row reaches a router input: a remote request at its target joins the requests there, a reply reaches its requester, any other row its lane's buffer (07 R274; 09 R363). -/
def arriveRow (s : State) (c inp lane : Nat) (r : MeshRow) : State :=
  let on := setLaneBuf s c inp lane (laneBuf s c inp lane ++ [cameNow s c r])
  match r.remote, r.reply with
  | some q, some a => if nextLink s c r = none then remoteAnswer s q a else on
  | some q, none => if nextLink s c r = none then modClus s c (fun x => { x with remoteIn := x.remoteIn ++ [q] }) else on
  | none, _ => on

/-- A row leaves a router by a link: to the next router's input, or to a fabric port (09 R357, R362). -/
def sendOnLink (s : State) (c link lane : Nat) (r : MeshRow) : State :=
  if leavesMesh c link then
    let f := r.msg.fabPort
    if r.kind = 1 then queueDrop s f (rowSrcDev r.msg.header) r.reason r.msg.header
    else let x := getFab s f; setFab s f { x with partial_ := x.partial_ ++ [r.msg] }
  else match neighbour c link with
    | some d => arriveRow s d (inputOf link) lane r
    | none => s

/-- Where a row waits at a router: an input's lane buffer, the cluster's own rows, a core's outbound queue, or the export queue of a partition. -/
inductive Waiting where
  | buf (inp lane : Nat)
  | own (i : Nat)
  | outq (n : Nat)
  | exports (p : Nat)
  deriving DecidableEq, Repr

/-- A row has left where it waited. -/
def leaveWaiting (s : State) (c : Nat) : Waiting → State
  | .buf inp lane => setLaneBuf s c inp lane (laneBuf s c inp lane).tail
  | .own i => modClus s c (fun x => modMsg x (fun m => { m with inject := m.inject.eraseIdx i }))
  | .outq n => modCore s n (fun k => { k with outq := k.outq.tail })
  | .exports p => useFree (modPart s p (fun x => { x with twin := { x.twin with exports := x.twin.exports.tail } }))

/-- The message row at the head of a core's outbound queue, as a row of the mesh. -/
def outqHead (s : State) (n : Nat) : Option MeshRow := (getCore s n).outq.head?.map (fun r => { msg := r, kind := 0, reason := 0, remote := none })

/-- The cores of a cluster that carry a logical core, in the order of their logical numbers (09 R373). -/
def coresByLcore (s : State) (c : Nat) : List Nat := (List.range 24).filterMap (fun l => physOf s c l)

/-- The lane of a row that enters the mesh at its own cluster: that of the cluster, or of the requester for the reply to a remote access (07 R274; 09 R362). -/
def ownLane (c : Nat) (r : MeshRow) : Nat :=
  match r.remote, r.reply with
  | some q, some _ => clusOf q.core
  | _, _ => c

/-- The head rows of a lane at a router, with where each waits: inputs north, east, south, west, I/O die, then the cluster's own rows of that lane and, in its own lane, its cores' (09 R362, R363). -/
def laneHeads (s : State) (c lane : Nat) : List (Waiting × MeshRow) :=
  (List.range 5).filterMap (fun i => (laneBuf s c i lane).head?.map (fun r => (Waiting.buf i lane, r))) ++
  ((getClus s c).msg.inject.zipIdx.filter (fun e => ownLane c e.1 == lane)).map (fun (r, i) => (Waiting.own i, r)) ++
  (if lane = c then
    (coresByLcore s c).filterMap (fun n => match outqHead s n with
      | some r => if rowRoute r.msg.header = 0 then some (Waiting.outq n, r) else none
      | none => none)
  else [])

/-- The lane that owns a link cc (09 R362). -/
def slotLane (s : State) (c link cc : Nat) : Nat := (mget [] (getClus s c).msg.links link).getD (cc % 64) 0xFF

/-- The first static row that waits for a link leaves by it. -/
def forwardStatic (s : State) (c link : Nat) : State :=
  let m := (getClus s c).msg
  match m.pendingOut.find? (fun r => r.1 == link) with
  | none => s
  | some e =>
    sendOnLink (modClus s c (fun x => modMsg x (fun m => { m with pendingOut := m.pendingOut.erase e }))) c link (staticLane s c)
      { msg := e.2, kind := 0, reason := 0, remote := none }

/-- The first row of a lane for a link leaves by it where there is room (09 R360 to R363). -/
def forwardLane (s : State) (c link lane : Nat) : State :=
  match (laneHeads s c lane).find? (fun e => nextLink s c e.2 == some link) with
  | none => s
  | some (w, r) => if linkRoom s c link lane r.msg.fabPort r.msg.header then sendOnLink (leaveWaiting s c w) c link lane r else s

/-- The first row of an ingress lane enters the mesh from the I/O die where there is room (09 R360, R362). -/
def forwardIngress (s : State) (c lane : Nat) : State :=
  match (getClus s c).msg.ioIn.find? (fun r => r.1 == lane) with
  | none => s
  | some e =>
    if (laneBuf s c 4 lane).length < 4 then
      arriveRow (modClus s c (fun x => modMsg x (fun m => { m with ioIn := m.ioIn.erase e }))) c 4 lane e.2
    else s

/-- The row of the lane that owns a link's cc, where it has one and the next router has room, moves on; link 4 comes from the I/O die (09 R360 to R363). -/
def forwardRow (s : State) (c link lane : Nat) : State :=
  if link = 4 then forwardIngress s c lane
  else if 0x20 ≤ lane ∧ lane < 0x30 then (if lane = staticLane s c then forwardStatic s c link else s)
  else forwardLane s c link lane

/-! ## Discards and drop reports (09 R377 to R381) -/

/-- A message discarded at a cluster: counted, and a drop report returned to its sender's cluster; later rows of the message go with it (09 R379). -/
def discardRow (s : State) (c reason : Nat) (r : MsgRow) : State :=
  if rowIndex r.header ≠ 0 then s
  else modClus s c (fun x => modMsg x (fun m =>
    { m with rxDrops := m.rxDrops.bump, inject := m.inject ++ [{ msg := r, kind := 1, reason := reason, remote := none }] }))

/-- Bits [27:0] of the destination word of a message, from its header (09 R354, R396). -/
def destBits (h : Header) : BitVec 28 := BitVec.ofNat 28 (rowTag h <<< 22 ||| rowLcore h <<< 17 ||| rowCluster h <<< 12 ||| rowDev h)

/-- A drop report reaches the sender's cluster: counted, and the first latched (09 R379, R396). -/
def takeReport (s : State) (c reason : Nat) (h : Header) : State :=
  modClus s c (fun x => modMsg x (fun m =>
    { m with
      txDropEvents := m.txDropEvents.bump
      txDrop := m.txDrop.put { reason := reason, lcore := rowSrcLcore h, seq := BitVec.ofNat 16 (rowSeq h), dest := destBits h } }))

/-- The partition of a cluster has stopped by a fault, or is stopping by one (18 R682). -/
def partHalted (s : State) (c : Nat) : Bool :=
  match partOfCluster s c with
  | some p => let x := getPart s p; x.faultStop || x.state == .faulted
  | none => false

/-! ## The ejection port (09 R370 to R373, R378) -/

/-- What a queue does with a row. -/
inductive Offer where
  | taken (s : State)
  | wait
  | discard (reason : Nat)
  | gone
  deriving DecidableEq, Repr

/-- A row in a queue's entries: it fills the first entry reserved for its message (09 R370). -/
def fillEntry (r : MsgRow) : List TqEntry → List TqEntry
  | [] => []
  | e :: rest =>
    if e.row.isNone && rowSource e.header == rowSource r.header && rowMessage e.header == rowMessage r.header then
      { header := r.header, row := some r.row, age := 2, marks := r.marks } :: rest
    else e :: fillEntry r rest

/-- An entry is reserved for a row. -/
def hasPlace (r : MsgRow) (es : List TqEntry) : Bool :=
  es.any (fun e => e.row.isNone && rowSource e.header == rowSource r.header && rowMessage e.header == rowMessage r.header)

/-- The queue at a core after a row has come: the row is counted, debts take vectors that have come, and a core in Lull wakes (09 R396; 04 R170; 03 R108). -/
def afterRow (s : State) (n t : Nat) : State :=
  let s1 := modClus s (clusOf n) (fun x => modMsg x (fun m => { m with rowsRx := m.rowsRx.bump }))
  wakeCore (if (getTq (getCore s1 n) t).bindMat then payDebts 64 s1 n (4 + t) else s1) n

/-- The first row of a message enters a queue: entries for the whole message, POSITION, and the departure from the fixed order counted (09 R370, R372, R373). A row of the comparator's queue goes to the comparator (13 R540). -/
def acceptMessage (s : State) (c n lcore t : Nat) (r : MsgRow) : State :=
  let q := getTq (getCore s n) t
  let q1 := { q with
    position := if q.position + 1 ≥ q.senders.length then 0 else q.position + 1
    accepted := q.accepted.bump }
  let s1 := match partOfCluster s c with
    | some p => if q.merge = 2 ∧ q.senders[q.position]? ≠ some (rowSource r.header) then modPart s p (fun x => { x with nondet := x.nondet.bump }) else s
    | none => s
  if comparatorQueue s c lcore t then
    let s2 := modClus (modCore s1 n (fun k => setTq k t (settleQueue q1))) c (fun x => modMsg x (fun m => { m with rowsRx := m.rowsRx.bump }))
    match partOfCluster s c with
    | some p => twinArrive s2 p false (exportRec r.row (nowNs s))
    | none => s2
  else
    let held : List TqEntry := { header := r.header, row := some r.row, age := 2, marks := r.marks } :: List.replicate (rowLen r.header) { header := r.header, row := none, age := 0 }
    afterRow (modCore s1 n (fun k => setTq k t (settleQueue { q1 with entries := q.entries ++ held }))) n t

/-- What tag queue `t` of a logical core does with a row (09 R370, R378; 18 R682). -/
def queueOffer (s : State) (c lcore t : Nat) (r : MsgRow) : Offer :=
  match physOf s c lcore with
  | none => .discard 2
  | some n =>
    let k := getCore s n
    let q := getTq k t
    let need := rowLen r.header + 1
    if rowIndex r.header ≠ 0 then
      if hasPlace r q.entries then .taken (afterRow (modCore s n (fun k => setTq k t { q with entries := fillEntry r q.entries })) n t) else .gone
    else if q.state = .fenced ∨ k.fenced ∨ k.mcastStopped ∨ partHalted s c then .discard 5
    else if !q.bound ∨ q.state = .closed then .discard 1
    else if q.depth < need then .discard 3
    else if !q.senders.contains (rowSource r.header) then .discard 4
    else if queueWaits q r.header then .wait
    else .taken (acceptMessage s c n lcore t r)

/-- A row that a queue discards: reason 0x4 raises the unexpected-sender fault, which names the queue (09 R379, R380; 18 R679, R689). -/
def discardAt (s : State) (c lcore t reason : Nat) (r : MsgRow) : State :=
  let s1 := discardRow s c reason r
  match physOf s c lcore with
  | some n =>
    if reason = 4 then
      raiseIn s1 c { code := 0x0152, kind := 3, pcore := pcoreOf n, index := t, detail := r.header.setWidth 64 } (.queue n t) false
    else s1
  | none => s1

/-- DROP_REPORT: a drop report reaches the cluster of the message's sender: from a lane buffer, or, at inputs 5 and up, from the cluster itself (09 R379). -/
def execDropReport (cl : ClusterId) (input : Fin 29) (lane : Fin 64) (s : State) : Res :=
  let c := cl.val
  if routerStopped s c then .next s
  else if input.val < 5 then
    match laneBuf s c input.val lane.val with
    | r :: rest =>
      if r.kind = 1 ∧ nextLink s c r = none then .next (takeReport (setLaneBuf s c input.val lane.val rest) c r.reason r.msg.header) else .next s
    | [] => .next s
  else
    match (getClus s c).msg.inject.zipIdx.find? (fun e => e.1.kind == 1 && (nextLink s c e.1).isNone) with
    | some (r, i) => .next (takeReport (leaveWaiting s c (.own i)) c r.reason r.msg.header)
    | none => .next s

/-! ## Static routes (09 R382 to R394) -/

/-- The group record of a multicast or combine row. -/
def getGroup (s : State) (g : Nat) : Group := mget {} s.groups g

/-- The route identity of a row: GROUP, and for ROUTE 2 and 3 the ROUTE_ID of the group that GROUP names (09 R350, R383, R385). -/
def routeOf (s : State) (h : Header) : Nat := if rowRoute h = 2 ∨ rowRoute h = 3 then (getGroup s (rowGroup h)).routeId else rowGroup h

/-- The route entry of a cluster (09 R382). -/
def getRoute (s : State) (c i : Nat) : Option RouteEntry := mget none ((getClus s c).msg.routes.map (fun e => (e.1, some e.2))) i

/-- The combine work of a route entry. -/
def getCombine (s : State) (c i : Nat) : CombineState := mget {} (getClus s c).msg.combine i

/-- A cluster with the combine work of a route entry set. -/
def setCombine (s : State) (c i : Nat) (w : CombineState) : State := modClus s c (fun x => modMsg x (fun m => { m with combine := mset m.combine i w }))

/-- A static row waiting at the head of an input: where it waits, and whether it comes from the fabric. -/
structure StaticHead where
  place : Waiting
  row : MsgRow
  fromFabric : Bool
  deriving DecidableEq, Repr

/-- The digest-export row at the head of an export queue (13 R538). -/
def exportMsg (s : State) (p : Nat) (r : Row) : MsgRow :=
  let t := (getPart s p).twin
  { header := mkHeader (s.self ^^^ 512) (twinField t 15 5) (twinField t 10 5) (twinField t 5 5) 5 (twinField t 25 6) false s.self (twinField t 20 5) 30 p 0 0
      (Config.exportSeq s.free).toNat,
    row := r, fabPort := 0 }

/-- The static row at the head of an input's lane: a row of a static lane, or of an ingress lane at its entry cluster (09 R383). -/
def staticInLane (s : State) (c inp lane : Nat) : Option StaticHead :=
  match (laneBuf s c inp lane).head? with
  | some r =>
    if r.kind = 0 ∧ rowRoute r.msg.header ≠ 0 ∧ (lane < 0x30 ∨ rowCluster r.msg.header = c) then
      some { place := .buf inp lane, row := r.msg, fromFabric := decide (0x30 ≤ lane) }
    else none
  | none => none

/-- The static row at the head of a core's outbound queue (09 R383). -/
def staticInQueue (s : State) (n : Nat) : Option StaticHead :=
  match outqHead s n with
  | some r => if rowRoute r.msg.header ≠ 0 then some { place := .outq n, row := r.msg, fromFabric := false } else none
  | none => none

/-- The static rows that wait at an input of a router, one of each lane: static lanes and ingress lanes at inputs 0 to 4, a core's outbound queue at input 5 + its logical number, the export queue of the partition at input 29 (09 R371, R383; 13 R538). -/
def staticHeads (s : State) (c input : Nat) : List StaticHead :=
  if input < 5 then (List.range 32).filterMap (fun i => staticInLane s c input (0x20 + i))
  else if input < 29 then ((physOf s c (input - 5)).bind (staticInQueue s)).toList
  else
    match partOfCluster s c with
    | some p =>
      let t := (getPart s p).twin
      if twinOn t && twinField t 20 5 == c then (t.exports.head?.map (fun r => { place := .exports p, row := exportMsg s p r, fromFabric := false : StaticHead })).toList
      else []
    | none => []

/-- The output links of an entry. -/
def outLinks (e : RouteEntry) : List Nat := (List.range 4).filter (fun l => e.out.getLsbD l)

/-- Every output link of an entry has room for a row (09 R387). -/
def linksReady (s : State) (c : Nat) (e : RouteEntry) (h : Header) : Bool := (outLinks e).all (fun l => linkRoom s c l (staticLane s c) e.fabPort h)

/-- A row is copied to every output link of an entry, where it waits for its slot (09 R362, R383). -/
def copyToLinks (s : State) (c : Nat) (e : RouteEntry) (r : MsgRow) : State :=
  (outLinks e).foldl (fun a l => modClus a c (fun x => modMsg x (fun m =>
    { m with pendingOut := m.pendingOut ++ [(l, if leavesMesh c l then { r with fabPort := e.fabPort } else r)] }))) s

/-- The local receivers of an entry. -/
def localCores (e : RouteEntry) : List Nat := if e.out.getLsbD 4 then (List.range 24).filter (fun l => e.lcores.getLsbD l) else []

/-- A receiver's answer does not hold a row back. -/
def offerOpen : Offer → Bool
  | .wait => false
  | _ => true

/-- A row delivered to a local receiver that does not hold it back (09 R378, R387). -/
def deliverLocal (s : State) (c lcore t : Nat) (r : MsgRow) : State :=
  match queueOffer s c lcore t r with
  | .taken s1 => s1
  | .discard reason => discardAt s c lcore t reason r
  | _ => s

/-- The refusals of a queue changed. -/
def modRefusing (s : State) (c lcore t : Nat) (f : SMap (Nat × Header) → SMap (Nat × Header)) : State :=
  match physOf s c lcore with
  | some n => modCore s n (fun k => let q := getTq k t; setTq k t { q with refusing := f q.refusing })
  | none => s

/-- A broadcast row that waits: the time since which each local member refuses it is noted (09 R388). -/
def noteRefusals (s : State) (c group : Nat) (e : RouteEntry) (r : MsgRow) : State :=
  (localCores e).foldl (fun a l =>
    if offerOpen (queueOffer a c l e.tag r) then a
    else modRefusing a c l e.tag (fun m => if m.any (fun q => q.1 == group) then m else mset m group (nowNs s, r.header))) s

/-- A broadcast row goes on: no member refuses it. -/
def dropRefusals (s : State) (c group : Nat) (e : RouteEntry) : State :=
  (localCores e).foldl (fun a l => modRefusing a c l e.tag (fun m => mdel m group)) s

/-- Every output of an entry that is no combine can take a row (09 R383, R387). -/
def outputsOpen (s : State) (c : Nat) (e : RouteEntry) (r : MsgRow) : Bool :=
  linksReady s c e r.header && (localCores e).all (fun l => offerOpen (queueOffer s c l e.tag r))

/-! ## What waits for an ejection port (09 R371, R373) -/

/-- A row that waits for an ejection port: where, the row, and the entry that it follows where it is a static row. -/
structure EjectHead where
  place : Waiting
  row : MsgRow
  entry : Option RouteEntry
  deriving DecidableEq, Repr

/-- A static row as it waits for the ejection port of a logical core: its entry, which is no combine, names the core (09 R383). -/
def staticWaits (s : State) (c lcore : Nat) (h : StaticHead) : Option EjectHead :=
  match getRoute s c (routeOf s h.row.header) with
  | some e => if e.kind ≠ 3 ∧ (localCores e).contains lcore then some { place := h.place, row := h.row, entry := some e } else none
  | none => none

/-- The row at the head of a place, where it waits for the ejection port of a logical core. -/
def waitsHere (s : State) (c lcore : Nat) (place : Waiting) (r : Option MeshRow) (h : Option StaticHead) : Option EjectHead :=
  match r with
  | some r =>
    if r.kind == 0 && rowRoute r.msg.header == 0 && rowLcore r.msg.header == lcore && (nextLink s c r).isNone then some { place := place, row := r.msg, entry := none }
    else h.bind (staticWaits s c lcore)
  | none => none

/-- A row put before the first of those that came in a later cc, or in the same. -/
def insertHead (e : EjectHead) : List EjectHead → List EjectHead
  | [] => [e]
  | x :: rest => if e.row.came ≤ x.row.came then e :: x :: rest else x :: insertHead e rest

/-- The rows that wait for an ejection port, in its order: by the cc in which they came, and within one cc local cores by logical number, then north, east, south and west, each in ascending lane (09 R373). -/
def ejectHeads (s : State) (c lcore : Nat) : List EjectHead :=
  ((coresByLcore s c).filterMap (fun n => waitsHere s c lcore (.outq n) (outqHead s n) (staticInQueue s n)) ++
    (List.range 5).flatMap (fun i => (List.range 64).filterMap (fun lane =>
      waitsHere s c lcore (.buf i lane) (laneBuf s c i lane).head? (staticInLane s c i lane)))).foldr insertHead []

/-- A row that waits for an ejection port is one that it can take now. -/
def headOpen (s : State) (c lcore : Nat) (e : EjectHead) : Bool :=
  match e.entry with
  | none => offerOpen (queueOffer s c lcore (rowTag e.row.header) e.row)
  | some r => outputsOpen s c r e.row

/-- It is a static row's turn at the ejection port of each of its local receivers: no row before it can be taken (09 R373). -/
def turnOf (s : State) (c : Nat) (e : RouteEntry) (place : Waiting) : Bool :=
  (localCores e).all (fun l => match (ejectHeads s c l).find? (fun h => h.place == place || headOpen s c l h) with
    | some h => h.place == place
    | none => true)

/-! ## The steps of a static row (09 R378, R383, R386, R387, R390, R394) -/

/-- A row follows an entry that is no combine: it is copied once every output can take it and its turn has come; none while it waits (09 R373, R383, R387). -/
def followEntry (s : State) (c : Nat) (e : RouteEntry) (h : StaticHead) : Option State :=
  let r := h.row
  if outputsOpen s c e r && turnOf s c e h.place then
    let s1 := leaveWaiting s c h.place
    some ((localCores e).foldl (fun a l => deliverLocal a c l e.tag r) (copyToLinks (dropRefusals s1 c (rowGroup r.header) e) c e r))
  else none

/-- A row enters the combine work of an entry: one row of each input at a time; none while it waits (09 R378, R390, R393). -/
def enterCombine (s : State) (c i input : Nat) (e : RouteEntry) (h : StaticHead) : Option State :=
  let w := getCombine s c i
  let s1 := leaveWaiting s c h.place
  let isInput := if input < 4 then e.inp.getLsbD input else 5 ≤ input && e.lcores.getLsbD (input - 5)
  let key := if input < 4 then input else input - 1
  if 5 ≤ input ∧ !isInput then some (discardRow s1 c 6 h.row)
  else if !isInput || !(mget [] w.inputs key).isEmpty then none
  else some (setCombine s1 c i { w with inputs := mset w.inputs key [h.row], firstTime := match w.firstTime with | some t => some t | none => some (nowNs s) })

/-- A broadcast row comes from another source than its group's sender (09 R386). -/
def wrongSender (s : State) (g : Group) (h : StaticHead) : Bool :=
  if g.senderCluster = 0xFF then !h.fromFabric
  else rowSrcDev h.row.header != s.self || rowSrcCluster h.row.header != g.senderCluster || rowSrcLcore h.row.header != g.senderLcore

/-- A static row at the head of an input takes its next step: discarded, combined or copied; none while it waits (09 R378, R383, R386, R394). -/
def staticStep (s : State) (c input : Nat) (h : StaticHead) : Option State :=
  let r := h.row
  let i := routeOf s r.header
  let grouped := rowRoute r.header = 2 ∨ rowRoute r.header = 3
  let g := getGroup s (rowGroup r.header)
  match getRoute s c i with
  | none => some (discardRow (leaveWaiting s c h.place) c 7 r)
  | some e =>
    if (grouped ∧ g.state = 3) ∨ (getCombine s c i).stopped then some (discardRow (leaveWaiting s c h.place) c 5 r)
    else if rowRoute r.header = 2 ∧ g.root = c ∧ wrongSender s g h then
      some (raiseIn (discardRow (leaveWaiting s c h.place) c 4 r) c { code := 0x0152, kind := 6, pcore := 0x1F, index := i, detail := r.header.setWidth 64 } .none_ false)
    else if e.kind = 3 then enterCombine s c i input e h
    else followEntry s c e h

/-- A static row waits: a broadcast row notes the members that refuse it (09 R388). -/
def noteWaiting (s : State) (c : Nat) (h : StaticHead) : State :=
  if rowRoute h.row.header ≠ 2 then s
  else match getRoute s c (routeOf s h.row.header) with
    | some e => if e.kind = 3 then s else noteRefusals s c (rowGroup h.row.header) e h.row
    | none => s

/-- The first static row of an input that can takes its step; a row that waits holds its own lane only (09 R371). -/
def forwardFirst (s : State) (c input : Nat) : List StaticHead → State
  | [] => s
  | h :: rest => match staticStep s c input h with
    | some t => t
    | none => forwardFirst (noteWaiting s c h) c input rest

/-- STATIC_ROUTE_FORWARD: a static row at the head of a router input follows its entry (09 R371, R383 to R387, R394). -/
def execStaticRouteForward (cl : ClusterId) (input : Fin 30) (s : State) : Res :=
  let c := cl.val
  if routerStopped s c then .next s else .next (calmCheckAt (forwardFirst s c input.val (staticHeads s c input.val)) c)

/-! ## The ejection port at work (09 R370 to R373, R378) -/

/-- The router input at which a row waits. -/
def inputAt (s : State) : Waiting → Nat
  | .buf inp _ => inp
  | .outq n => 5 + lcoreNum (getCore s n)
  | .exports _ => 29
  | .own _ => 30

/-- A row that waits for an ejection port takes its turn: taken or discarded, or, a static row, copied; none while it is refused (09 R371, R378, R387). -/
def ejectOne (s : State) (c lcore : Nat) (e : EjectHead) : Option State :=
  match e.entry with
  | some _ => staticStep s c (inputAt s e.place) { place := e.place, row := e.row, fromFabric := match e.place with | .buf _ lane => decide (0x30 ≤ lane) | _ => false }
  | none =>
    let s1 := leaveWaiting s c e.place
    match queueOffer s1 c lcore (rowTag e.row.header) e.row with
    | .taken s2 => some s2
    | .discard reason => some (discardAt s1 c lcore (rowTag e.row.header) reason e.row)
    | .gone => some s1
    | .wait => none

/-- The first row that the ejection port takes or discards; a refused row waits (09 R371, R373). -/
def ejectFirst (s : State) (c lcore : Nat) : List EjectHead → State
  | [] => s
  | e :: rest => match ejectOne s c lcore e with
    | some t => t
    | none => ejectFirst s c lcore rest

/-- Rows with the vectors that their source marks as bubbles (04 R147). -/
def markRows (marks : BitVec 8) (rs : List EjectHead) : List EjectHead := rs.map (fun e => { e with row := { e.row with marks := marks } })

/-- MESSAGE_EJECT: the ejection port of a core takes at most one row; the vectors that its source marks as bubbles come with the command (09 R370, R373, R378; 04 R147). -/
def execMessageEject (cl : ClusterId) (lcore : Fin 32) (marks : BitVec 8) (s : State) : Res :=
  if routerStopped s cl.val then .next s else .next (calmCheckAt (ejectFirst s cl.val lcore.val (markRows marks (ejectHeads s cl.val lcore.val))) cl.val)

/-! ## Combine (09 R390 to R394) -/

/-- A header with its ROW field set (09 R350). -/
def withRow (h : Header) (i : Nat) : Header := (h &&& ~~~(7 <<< 32 : Header)) ||| BitVec.ofNat 128 (i % 8) <<< 32

/-- The input numbers of a combine entry: links, and local cores from 4. -/
def combineInputs (e : RouteEntry) : List Nat :=
  (List.range 4).filter (fun l => e.inp.getLsbD l) ++ ((List.range 24).filter (fun l => e.lcores.getLsbD l)).map (· + 4)

/-- The rows of a combine entry, one of each input; none while one is missing (09 R390). -/
def combineRows (w : CombineState) (e : RouteEntry) : Option (List MsgRow) := (combineInputs e).mapM (fun k => (mget [] w.inputs k).head?)

/-- The lanes of a row, 128 of 32 bits. -/
def rowLanes (r : Row) : List Nat := (List.range 128).map (fun i => elemOf r 32 i)

/-- A row from its 128 lanes. -/
def lanesRow (ls : List Nat) : Row := BitVec.ofNat 4096 (packElems 32 ls)

/-- The lanes of several rows combined one with the next. -/
def foldLanes (f : Nat → Nat → Nat) : List (List Nat) → List Nat
  | [] => []
  | a :: rest => rest.foldl (fun x y => List.zipWith f x y) a

/-- The block-integer header rows agree: EXP and H of every header (09 R391, R392). -/
def headersAgree (rows : List (List Nat)) : Bool :=
  match rows with
  | [] => true
  | a :: rest => rest.all (fun b => (List.zipWith (fun x y => x >>> 8 == y >>> 8) a b).all id)

/-- OP 0: the combined row, or the fault code (09 R391, R392). -/
def combineBlocks (hdr : List Bool) (rows : List (List Nat)) : Except Nat Row :=
  if hdr.any (fun b => b != hdr.headD false) then .error 0x0120
  else if hdr.headD false then
    if headersAgree rows then .ok (lanesRow (foldLanes (fun x y => x ||| (y &&& 3)) rows)) else .error 0x0120
  else
    let sums : List Int := (List.range 128).map (fun i => (rows.map (fun r => signedOf 32 (r.getD i 0))).sum)
    if sums.any (fun q => decide (q.natAbs > 2 ^ 30)) then .error 0x0121 else .ok (lanesRow (sums.map code32))

/-- The combined row of an operation (09 R391). -/
def combineOp (op : Nat) (hdr : List Bool) (rows : List (List Nat)) : Except Nat Row :=
  match op with
  | 0 => combineBlocks hdr rows
  | 1 => .ok (lanesRow (foldLanes (fun x y => (x + y) % 2 ^ 32) rows))
  | 2 => .ok (lanesRow (foldLanes (fun x y => (minmaxElem true fp32 x y).1) (rows.map (fun r => r.map (fun x => (minmaxElem true fp32 x x).1)))))
  | _ => .ok (lanesRow (foldLanes (fun x y => x ||| y) rows))

/-- The rows that a combine entry holds are discarded, each counted as a message (09 R379, R394). -/
def discardHeld (s : State) (c i : Nat) : State :=
  let w := getCombine s c i
  (w.inputs.flatMap (·.2)).foldl (fun a r => discardRow a c 5 { r with header := withRow r.header 0 })
    (setCombine s c i { w with inputs := [], firstTime := none, stopped := true })

/-- The group of a combine stops at every router, and the fault is raised at the cluster of the router that found it (09 R392 to R394). -/
def stopCombine (s : State) (c i code group : Nat) : State :=
  let cs := (clustersOf s (getGroup s group).part).filter (fun d => match getRoute s d i with | some e => e.kind == 3 | none => false)
  let s1 := (if cs.contains c then cs else c :: cs).foldl (fun a d => discardHeld a d i) s
  raiseIn { s1 with groups := mmod {} s1.groups group (fun g => { g with state := 3 }) } c { code := code, kind := 6, pcore := 0x1F, index := i } .none_ false

/-- The combined row leaves: to the output links, or to the queue of LOCAL_OUT; none while one of them cannot take it (09 R390). -/
def sendCombined (s : State) (c : Nat) (e : RouteEntry) (r : MsgRow) : Option State :=
  if !linksReady s c e r.header then none
  else
    let s1 := copyToLinks s c e r
    if e.out.getLsbD 4 then
      match queueOffer s1 c e.localOut e.tag r with
      | .taken s2 => some s2
      | .discard reason => some (discardAt s1 c e.localOut e.tag reason r)
      | .gone => some s1
      | .wait => none
    else some s1

/-- The header of a combined row: the router's device and cluster, SRC_LCORE 31, SEQ counting the combined rows, the rest from its inputs (09 R390). -/
def combinedHeader (s : State) (c : Nat) (h : Header) (seq : BitVec 16) : Header :=
  mkHeader (rowDev h) (rowCluster h) (rowLcore h) (rowTag h) (rowRoute h) (rowGroup h) (rowHdr h) s.self c 31 ((partOfCluster s c).getD 0) (rowLen h) (rowIndex h) seq.toNat

/-- COMBINE: a router combines one row of every input (09 R390 to R392, R394). -/
def execCombine (cl : ClusterId) (route : Fin 64) (s : State) : Res :=
  let c := cl.val
  let w := getCombine s c route.val
  match getRoute s c route.val with
  | none => .next s
  | some e =>
    if routerStopped s c || e.kind != 3 || w.stopped then .next s
    else match combineRows w e with
      | none => .next s
      | some [] => .next s
      | some (r :: rest) =>
        let rows := (r :: rest).map (fun x => rowLanes x.row)
        let group := rowGroup r.header
        match combineOp (getGroup s group).op ((r :: rest).map (fun x => rowHdr x.header)) rows with
        | .error code => .next (calmCheckAt (stopCombine s c route.val code group) c)
        | .ok v =>
          let s1 := setCombine s c route.val { w with inputs := [], firstTime := none, seq := w.seq + 1 }
          match sendCombined s1 c e { header := combinedHeader s c r.header w.seq, row := v, fabPort := e.fabPort } with
          | some s2 => .next (calmCheckAt s2 c)
          | none => .next s

/-- The group of a combine entry whose first row has come. -/
def combineGroup (w : CombineState) : Nat :=
  match w.inputs.findSome? (fun e => e.2.head?) with
  | some r => rowGroup r.header
  | none => 0

/-- The deadlines of a cluster do not count: its clock is stopped, or its partition is in a debug freeze (11 R450; 14 R554). -/
def deadlinesHeld (s : State) (c : Nat) : Bool :=
  routerStopped s c || match partOfCluster s c with
  | some p => let x := getPart s p; x.det.phase == 3 || x.det.phase == 6
  | none => false

/-- COMBINE_TIMEOUT: an input has not delivered its row within DEADLINE_US of the first (09 R393, R394; 11 R450). -/
def execCombineTimeout (cl : ClusterId) (route : Fin 64) (s : State) : Res :=
  let c := cl.val
  let w := getCombine s c route.val
  match getRoute s c route.val, w.firstTime with
  | some e, some t =>
    let g := getGroup s (combineGroup w)
    if w.stopped || deadlinesHeld s c || (combineRows w e).isSome || decide (nowNs s < t + 1000 * g.deadlineUs) then .next s
    else .next (calmCheckAt (stopCombine s c route.val 0x0151 (combineGroup w)) c)
  | _, _ => .next s

/-! ## Multicast members (09 R388, R389) -/

/-- The number of members fenced, the first of them, and the clusters that hold one (09 R399). -/
def noteFenced (g : Group) (c lcore : Nat) : Group :=
  { g with
    state := if g.state = 3 then 3 else 2
    fenced := min (g.fenced + 1) 255
    first := match g.first with | some f => some f | none => some (c, lcore)
    clusters := g.clusters ||| BitVec.ofNat 32 (2 ^ c) }

/-- The time since which a member refuses a row of a group; none where none of its queues does (09 R388). -/
def refusedSince (s : State) (n group : Nat) : Option Nat :=
  (getCore s n).tq.findSome? (fun q => (q.2.refusing.find? (fun r => r.1 == group)).map (fun r => r.2.1))

/-- A multicast member is fenced: its core stops in fault hold with 0x0150, its queues are fenced, and the partition degrades (09 R388, R381; 18 R679). -/
def fenceMember (s : State) (n group : Nat) : State :=
  let c := clusOf n
  let k := getCore s n
  let s1 := haltCore (latchCore s n 0 0x0150 k.pc k.issued 0) n .faultHold
  let s2 := modCore s1 n (fun k => { k with mcastStopped := true })
  let s3 := modClus s2 c (fun x => modMsg x (fun m => { m with members := mset m.members (64 * lcoreNum k + group) true }))
  let s4 := emptyQueues { s3 with groups := mmod {} s3.groups group (fun g => noteFenced g c (lcoreNum k)) } n .fenced
  raiseIn s4 c { code := 0x0150, kind := 4, pcore := pcoreOf n, index := group } .none_ false

/-- MCAST_MEMBER_FENCE: a member whose queue has refused a row for DEADLINE_US is fenced (09 R388; 11 R450). -/
def execMcastMemberFence (k : CoreId) (group : Fin 64) (s : State) : Res :=
  let c := k.cluster.val
  let key := 64 * lcoreNum (getCore s k.num) + group.val
  match refusedSince s k.num group.val with
  | none => .next s
  | some since =>
    if deadlinesHeld s c || mget false (getClus s c).msg.members key || decide (nowNs s < since + 1000 * (getGroup s group.val).deadlineUs) then .next s
    else .next (calmCheckAt (fenceMember s k.num group.val) c)

end Sys2Proof.Machine
end

