-- ==== Sys2Proof/Machine/Gather.lean ====
section
/-! DEFINITION. The request gatherer and the work rings: polls, acceptance, batches, completions (10; 15 R583 to R597). -/

namespace Sys2Proof.Machine

/-! ## Who is served -/

/-- A partition's rings and gatherers work: it runs and no STOP reaction is under way (18 R682). -/
def partServes (x : Part) : Bool := (x.state == .running || x.state == .stopping) && !x.faultStop

/-- The gatherers of a partition release full batches and post completions: it runs, or is stopped at a calm point, and no STOP reaction is under way (17 R668; 18 R682). -/
def partPosts (x : Part) : Bool := (x.state == .running || x.state == .stopping || x.state == .stopped) && !x.faultStop

/-- The gatherer channels of a partition accept rows: it is neither paused nor frozen nor stopped (10 R418; 11 R449; 18 R682). -/
def accepting (x : Part) : Bool := partServes x && decide (x.det.phase ≤ 1)

/-! ## Acceptance (10 R403 to R411) -/

/-- The deadline of a forming batch has been reached at a time, by the cc in which a row is accepted: a row of that cc still joins (10 R407, R408). -/
def pastDeadline (b : BatchBuf) (now : Nat) : Bool := decide (b.runFrom + b.deadline + 2 ≤ now)

/-- A buffer takes one more row: it forms, is not full, and its deadline has not passed (10 R406 to R408). -/
def bufOpen (h : Channel) (flushes : Bool) (b : BatchBuf) (now : Nat) : Bool :=
  b.state == .forming && decide (b.refs.length < h.batch) && !(flushes && pastDeadline b now)

/-- The rows that a channel can accept without waiting (10 R411, 15 R588). -/
def channelRoom (h : Channel) (flushes : Bool) (now : Nat) : Nat :=
  if !h.en then 0
  else
    let of (b : BatchBuf) : Nat := if b.state = .free then h.batch else if bufOpen h flushes b now then h.batch - b.refs.length else 0
    of h.buf0 + of h.buf1

/-- The buffer that takes the next row: the one that forms, otherwise the lowest free one; the batch that begins there has no row yet. -/
def bufFor (h : Channel) (flushes : Bool) (now : Nat) : Option Nat :=
  if bufOpen h flushes h.buf0 now then some 0
  else if bufOpen h flushes h.buf1 now then some 1
  else if h.buf0.state = .free then some 0
  else if h.buf1.state = .free then some 1
  else none

/-- A buffer after a row has been accepted into its next slot (10 R404, R405, R407, R408). -/
def takeRow (b : BatchBuf) (batch : Nat) (ref : W32) (seq : W64) (row : Row) (now : W64) (deadline : Nat) : BatchBuf :=
  let slot := b.refs.length
  let b1 : BatchBuf := if slot = 0 then { state := .forming, tFirst := now, runFrom := now.toNat, deadline := deadline } else b
  { b1 with
    refs := b.refs ++ [ref]
    seqs := b.seqs ++ [seq]
    waiting := b.waiting ++ [(slot, row)]
    flush := if slot + 1 = batch then false else b1.flush }

/-- A channel accepts a request row; none while it must wait (10 R405, R411). -/
def acceptRow (s : State) (c ch : Nat) (ref : W32) (seq : W64) (row : Row) : Option State :=
  match partOfCluster s c with
  | none => none
  | some p =>
    let x := getPart s p
    let h := getChan s c ch
    let freeBuf (b : BatchBuf) : BatchBuf := if b.state = .free then {} else b
    match (if h.en then bufFor h x.run.deadlineFlush (nowNs s) else none) with
    | none => none
    | some k =>
      let h1 := modBuf h k (fun b => takeRow (freeBuf b) h.batch ref seq row s.time.now x.gatherDeadline)
      some (setChan s c ch { h1 with reqs := h1.reqs.bump })

/-- SLOT_REF of an entry (10 R404, 15 R583, R584). -/
def slotRef (r : Nat) (x : Ring) (seq : W64) : W32 := BitVec.ofNat 32 (r <<< 24 ||| seq.toNat % 2 ^ x.sizeLog2)

/-- The rows of a poll reach their channel in SEQ order, and HEAD_SEQ passes them (15 R588). -/
def deliverRows (s : State) (r : Nat) : List Row → State
  | [] => s
  | row :: rest =>
    let x := getRing s r
    match acceptRow s (r / 4) (r % 4) (slotRef r x x.headSeq) x.headSeq row with
    | none => s
    | some s1 => deliverRows (setRing s1 r { x with headSeq := x.headSeq + 1, accepted := x.accepted.bump }) r rest

/-! ## Polls (15 R588 to R592, R595) -/

/-- How many of the entries read are ready: the leading run whose SEQ is the expected one (15 R587, R588). -/
def readyRun (head : W64) : List W64 → Nat
  | [] => 0
  | q :: rest => if q = head then 1 + readyRun (head + 1) rest else 0

/-- The trailers that a poll reads: of `a` entries from HEAD_SEQ on (15 R588). -/
def trailerAddrs (x : Ring) (a : Nat) : List Nat := (List.range a).map (fun i => entryAddr x (x.headSeq + BitVec.ofNat 64 i) + 448)

/-- The first host page for which a ring has no translation among the addresses that it is to access (15 R574). -/
def ringMiss (s : State) (h : Nat) (x : Ring) (addrs : List Nat) : Option Nat :=
  (addrs.find? (fun a => (hostXlat s h x.pasid a).isNone)).map hostPage

/-- A ring asks its port for a translation where it may; `post` tells an access of completion posting (15 R574, R590, R597). -/
def askRing (s : State) (h r page : Nat) (post : Bool) : State :=
  let x := getRing s r
  if x.xlat.isSome || (getPort s h).invalidating.contains (x.pasid, page) || !tagFree s h then s
  else emit (setRing s r { x with xlat := some (page, post) }) (.atsRequest h x.pasid page)

/-- The host reads of a poll take remote-class positions: the consumer word and the trailers (15 R588, R589, R595). -/
def pollReads (s : State) (h r a : Nat) : State :=
  let x := getRing s r
  let s1 := emit (oweRing s (r / 4) (1 + a)) (.hostRead h x.pasid (ringAddr s h x x.consAddr.toNat) 64)
  (trailerAddrs x a).foldl (fun t w => emit t (.hostRead h x.pasid (ringAddr s h x w) 64)) s1

/-- A completion of a ring's channel waits to be posted (10 R414; 15 R595). -/
def recordWaits (h : Channel) : Bool :=
  let left (b : BatchBuf) : Bool := b.state == .held && b.returned == h.cons && decide (b.posted < b.refs.length)
  left h.buf0 || left h.buf1

/-- The completion ring has space for the next record (15 R595). -/
def crSpace (x : Ring) : Bool := decide ((x.cseq - x.cons).toNat < 2 ^ x.crSizeLog2)

/-- STATE of a ring after a poll: a record that waits for completion space keeps it at 3 (15 R609). -/
def polledState (x : Ring) (h : Channel) (room : Nat) : RingState :=
  if !x.en then (if x.state = .waitSpace ∧ !crSpace x then .waitSpace else .off)
  else if x.state = .waitSpace ∧ recordWaits h ∧ !crSpace x then .waitSpace
  else if room = 0 then .waitChan
  else .polling

/-- A poll of one ring reads its entries: the trailers come back, and the reads of the ready entries wait for the port (15 R588, R590). -/
def pollEntries (s : State) (h r a : Nat) (rd : PollRead) : State :=
  match rd.seqs with
  | none => ringFault s r 0x01A0
  | some seqs =>
    let x := getRing s r
    let n := readyRun x.headSeq (seqs.take a)
    if n = 0 then s else sendRowReads (oweRing (setRing s r { x with polled := some n, sent := false }) (r / 4) n) h r

/-- One ring is polled: CONS at every poll of an enabled ring and while a record waits, the entries while the ring is enabled and no poll is in progress (15 R588, R590, R592, R595, R597, R602). -/
def pollRing (s : State) (p r : Nat) (rd : PollRead) : State :=
  let part := getPart s p
  let x := getRing s r
  let ch := getChan s (r / 4) (r % 4)
  let h := part.hostPort
  if x.state == .error || !(x.en || recordWaits ch) then s
  else if !hostOpen (getPort s h) then (if x.en then setRing s r { x with state := .heldRing } else s)
  else
    let room := if x.en && accepting part then channelRoom ch part.run.deadlineFlush (nowNs s) else 0
    let a := if x.polled.isSome then 0 else min room x.burst
    match ringMiss s h x [x.consAddr.toNat], ringMiss s h x (trailerAddrs x a) with
    | some page, _ => askRing s h r page true
    | none, some page => askRing s h r page false
    | none, none =>
      let s1 := pollReads s h r a
      match rd.cons with
      | none => ringFault s1 r 0x01A1
      | some cons =>
        let y := { getRing s1 r with cons := cons }
        pollEntries (setRing s1 r { y with state := polledState y ch room }) h r a rd

/-- The rings of a partition in ascending order, with what the poll reads of each. -/
def pollAll (s : State) (p : Nat) (reads : List PollRead) : State :=
  (clustersOf s p).foldl (fun a c => [0, 1, 2, 3].foldl (fun b ch =>
    match reads.find? (fun rd => rd.ring.val == ringOf c ch) with
    | some rd => pollRing b p (ringOf c ch) rd
    | none => b) a) s

/-- RING_POLL: at a multiple of RING_POLL_NS the rings of a running partition are polled in ascending ring number (15 R588). -/
def execRingPoll (p : PartId) (reads : List PollRead) (s : State) : Res :=
  let x := getPart s p.val
  if !partServes x || x.run.ringPoll == 0 || !atMultiple s x.run.ringPoll then .next s else .next (pollAll s p.val reads)

/-- RING_ROWS_DELIVER: the rows that a poll found ready come back, once their reads have gone out in remote-class positions, or their reads fail (15 R588 to R590). -/
def execRingRowsDeliver (r : Fin 128) (cc : Nat) (rows : Option (List Row)) (s : State) : Res :=
  let c := r.val / 4
  match enterCc s c cc, partOfCluster s c with
  | some s1, some p =>
    let x := getRing s1 r.val
    let part := getPart s1 p
    match x.polled with
    | none => .next s1
    | some n =>
      if !x.sent || decide (0 < ringLeft s1 c cc) || !hostOpen (getPort s1 part.hostPort) || !partServes part then .next s1
      else match rows with
        | none => .next (pumpFor (ringFault s1 r.val 0x01A0) c)
        | some rs =>
          if rs.length ≠ n ∨ !accepting part then .next s1
          else .next (pumpFor (deliverRows (setRing s1 r.val { x with polled := none, sent := false }) r.val rs) c)
  | _, _ => .next s

/-! ## Slots of the gatherer (10 R403, R796) -/

/-- The gatherer has a slot of a row's bank in this cc, and the bank's read or write slot is free (07 R243; 10 R403). -/
def gatherSlot (s : State) (c cc row : Nat) (write : Bool) : Bool := slotOwner s c (cmBank row) cc == 0x1A && !cmUsed s c write (cmBank row)

/-- The party that the gatherer is (07 R286). -/
def gatherParty : Party := { kind := 4, id := 0 }

/-- A row written by the gatherer: discarded with 0x0131 where its bank is unpowered (07 R283). -/
def gatherWrite (s : State) (c row : Nat) (v : Row) : State :=
  if cmAnswer s c (cmBank row) = .unpowered then dropAndRaise s c true 0 row 4 0 else writeCm s c row v gatherParty none

/-- The bank of a row sleeps: its wake begins (07 R280). -/
def gatherAsleep (s : State) (c row : Nat) : Bool := cmAnswer s c (cmBank row) == .asleep

/-- The row of slot `i` of buffer `k` (10 R403). -/
def requestRow (h : Channel) (k i : Nat) : Nat := batchBase h k + 16 + i
/-- The result row of slot `i` of buffer `k` (10 R403). -/
def resultRow (h : Channel) (k i : Nat) : Nat := batchBase h k + 80 + i

/-- Buffer 0 began to form before buffer 1: by T_FIRST, and by SEQ within one instant. -/
def firstOlder (h : Channel) : Bool :=
  decide (h.buf0.tFirst.toNat < h.buf1.tFirst.toNat) || (h.buf0.tFirst == h.buf1.tFirst && decide ((h.buf0.seqs.headD 0).toNat ≤ (h.buf1.seqs.headD 0).toNat))

/-- The buffers of a channel, the older batch first. -/
def buffersByAge (h : Channel) : List Nat :=
  if h.buf0.state != .free && h.buf1.state != .free && !firstOlder h then [1, 0] else [0, 1]

/-- The first row accepted and not yet written whose slot this cc is: buffer, slot and row. -/
def nextSlotWrite (s : State) (c cc : Nat) (h : Channel) : Option (Nat × Nat × Row) :=
  (buffersByAge h).findSome? (fun k => ((getBuf h k).waiting.find? (fun w =>
    gatherSlot s c cc (requestRow h k w.1) true && !gatherAsleep s c (requestRow h k w.1))).map (fun w => (k, w.1, w.2)))

/-- The sleeping banks of the rows that wait begin their wake (07 R280). -/
def wakeForRows (s : State) (c : Nat) (rows : List Nat) : State :=
  rows.foldl (fun a r => if gatherAsleep a c r then modCmPower a c (cmBank r) beginWake else a) s

/-- GATHER_SLOT_WRITE: an accepted request row takes its 0x1A slot (10 R796). -/
def execGatherSlotWrite (cl : ClusterId) (ch : Fin 4) (cc : Nat) (s : State) : Res :=
  let c := cl.val
  match enterCc s c cc with
  | none => .next s
  | some s0 =>
    let h := getChan s0 c ch.val
    let s1 := wakeForRows s0 c ((h.buf0.waiting.map (fun w => requestRow h 0 w.1)) ++ (h.buf1.waiting.map (fun w => requestRow h 1 w.1)))
    match nextSlotWrite s1 c cc h with
    | none => .next s1
    | some (k, i, row) =>
      .next (gatherWrite (setChan s1 c ch.val (modBuf h k (fun b => { b with waiting := b.waiting.filter (fun w => w.1 != i) }))) c (requestRow h k i) row)

/-! ## Release (10 R404, R406 to R409, R796) -/

/-- GATHER_DEADLINE: the deadline of a forming batch is reached, and the batch closes (10 R407, R409; 11 R450). -/
def execGatherDeadline (cl : ClusterId) (ch : Fin 4) (s : State) : Res :=
  let c := cl.val
  let h := getChan s c ch.val
  match partOfCluster s c with
  | none => .next s
  | some p =>
    let x := getPart s p
    let due (b : BatchBuf) : Bool := b.state == .forming && decide (b.refs.length < h.batch) && !b.flush && decide (b.runFrom + b.deadline ≤ nowNs s)
    let close (b : BatchBuf) : BatchBuf := if due b then { b with flush := true } else b
    if !x.run.deadlineFlush || !accepting x then .next s
    else .next (setChan s c ch.val { h with buf0 := close h.buf0, buf1 := close h.buf1 })

/-- The header row of a batch at release (10 R404). -/
def headerRow (b : BatchBuf) (seq step release : W64) : Row :=
  let refs := (b.refs.map (fun r => r.toNat)).zipIdx.foldl (fun a (r, i) => a ||| r <<< (2048 + 32 * i)) 0
  BitVec.ofNat 4096 ((batchMask b).toNat ||| b.refs.length <<< 64 ||| (if b.flush then 1 else 0) <<< 72 ||| seq.toNat <<< 128 ||| step.toNat <<< 192 |||
    b.tFirst.toNat <<< 256 ||| release.toNat <<< 320 ||| refs)

/-- A batch is complete and every row accepted into it has been written; `flushes` tells that the deadline counts (10 R406, R407, R418). -/
def releasable (h : Channel) (flushes : Bool) (now : Nat) (b : BatchBuf) : Bool :=
  b.state == .forming && b.waiting.isEmpty && (b.refs.length == h.batch || (flushes && !b.refs.isEmpty && (b.flush || pastDeadline b now)))

/-- The statistics of a release (10 R407, R422, R423). -/
def countRelease (s : State) (c ch p : Nat) (flush : Bool) : State :=
  let h := getChan s c ch
  if flush then
    modPart (setChan s c ch { h with flushes := h.flushes.bump }) p (fun x => { x with gatherFlushes := x.gatherFlushes.bump })
  else setChan s c ch { h with full := h.full.bump }

/-- Buffer `k` is released: its header row is written, and the release takes place in the next cc (10 R404, R796). -/
def releaseBuf (s : State) (c ch k cc p : Nat) : State :=
  let h := getChan s c ch
  let b0 := getBuf h k
  let b := { b0 with flush := b0.refs.length != h.batch }
  let step := (getPart s p).step
  let b1 : BatchBuf := { b with state := .released, batchSeq := h.seq, step := step, tRelease := s.time.now, relCc := cc + 1, taken := 0, returned := 0, gret := [], posted := 0 }
  let h1 := modBuf { h with seq := h.seq + 1 } k (fun _ => b1)
  countRelease (gatherWrite (setChan s c ch h1) c (batchBase h k) (headerRow b h.seq step s.time.now)) c ch p b.flush

/-- BATCH_RELEASE: a full batch, or one closed by its deadline, whose rows have all been written takes the next 0x1A slot of its header row's bank (10 R406, R407, R796). -/
def execBatchRelease (cl : ClusterId) (ch : Fin 4) (cc : Nat) (s : State) : Res :=
  let c := cl.val
  match enterCc s c cc, partOfCluster s c with
  | some s0, some p =>
    let h := getChan s0 c ch.val
    let x := getPart s0 p
    let order := (buffersByAge h).filter (fun k => (getBuf h k).state == .forming)
    match order with
    | k :: _ =>
      let row := batchBase h k
      if !partPosts x || !releasable h (x.run.deadlineFlush && accepting x) (nowNs s0) (getBuf h k) then .next s0
      else if gatherAsleep s0 c row then .next (wakeForRows s0 c [row])
      else if gatherSlot s0 c cc row true then .next (releaseBuf s0 c ch.val k cc p)
      else .next s0
    | [] => .next s0
  | _, _ => .next s

/-! ## Return and posting (10 R413, R414; 15 R593 to R597) -/

/-- A GRET of a core takes effect: every move that it queued before has executed (10 R413). -/
def gretDue (s : State) (n : Nat) (b : BatchBuf) : Bool :=
  match b.gret.find? (fun e => e.1 == lcoreNum (getCore s n)) with
  | some e => (getCore s n).mem.moves.all (fun m => decide (e.2 ≤ m.1))
  | none => false

/-- A buffer after a core has returned it. -/
def returnBuf (s : State) (n : Nat) (b : BatchBuf) : BatchBuf :=
  if gretDue s n b then
    let lc := lcoreNum (getCore s n)
    { b with returned := b.returned ||| BitVec.ofNat 24 (2 ^ lc), gret := mdel b.gret lc }
  else b

/-- BATCH_RETURN: a GRET takes effect (10 R413). -/
def execBatchReturn (k : CoreId) (ch : Fin 4) (s : State) : Res :=
  let c := k.cluster.val
  let h := getChan s c ch.val
  .next (setChan s c ch.val { h with buf0 := returnBuf s k.num h.buf0, buf1 := returnBuf s k.num h.buf1 })

/-- Every consumer has returned the batch (10 R414). -/
def allReturned (h : Channel) (b : BatchBuf) : Bool := b.state == .held && b.returned == h.cons

/-- The older of the buffers of a channel that meet a condition, by BATCH_SEQ. -/
def olderBuf (h : Channel) (meets : BatchBuf → Bool) : Option Nat :=
  let a := meets h.buf0
  let b := meets h.buf1
  if a && b then some (if h.buf0.batchSeq.toNat ≤ h.buf1.batchSeq.toNat then 0 else 1)
  else if a then some 0
  else if b then some 1
  else none

/-- The buffer whose completions are posted: the older of those returned with a completion left (10 R414, 15 R593). -/
def postingBuf (h : Channel) : Option Nat := olderBuf h (fun b => allReturned h b && decide (b.posted < b.refs.length))

/-- The buffer that is zeroed: the older of those returned whose completions have all been written (10 R414, R796). -/
def zeroingBuf (h : Channel) : Option Nat := olderBuf h (fun b => allReturned h b && decide (b.refs.length ≤ b.posted))

/-- The completion record of a slot (15 R594). -/
def completionRecord (r slot : Nat) (b : BatchBuf) (wrSeq cseq : W64) : Nat :=
  wrSeq.toNat ||| b.batchSeq.toNat <<< 64 ||| b.step.toNat <<< 128 ||| b.tRelease.toNat <<< 192 ||| r <<< 256 ||| slot <<< 264 |||
    (if b.flush then 1 else 0) <<< 272 ||| b.refs.length <<< 280 ||| cseq.toNat <<< 448

/-- A result row as the gatherer reads it: corrected codewords are counted, an uncorrectable one raises 0x0130, an unpowered bank 0x0132 at the cluster, its value not stated (07 R277, R278, R284). -/
def gatherRead (s : State) (c row : Nat) (ecc : Ecc) : Row × State :=
  if cmAnswer s c (cmBank row) = .unpowered then (Config.lostRow s.free, raiseIn (useFree s) c (bankInfo 0x0132 true 0 row) .none_ false)
  else
    let (v, s1) := readCm (strikeCm s c row ecc) c row gatherParty
    if cmBad s1 c row then (v, raiseIn (latchUe s1 c true 0 row 4) c (bankInfo 0x0130 true 0 row) (.bank c (cmBank row)) false) else (v, s1)

/-- The host addresses of the next completion of a buffer: its result row and its record (15 R593). -/
def postAddrs (x : Ring) (b : BatchBuf) : Nat × Nat :=
  (x.resBase.toNat + 512 * ((b.refs.getD b.posted 0).toNat % 2 ^ 24), x.crBase.toNat + 64 * (x.cseq.toNat % 2 ^ x.crSizeLog2))

/-- A completion of a slot is written to host memory in remote-class positions: the result row, then its record; the ring's vector has an event (15 R589, R593, R597, R598). -/
def postSlot (s : State) (p c ch k : Nat) (ecc : Ecc) : State :=
  let part := getPart s p
  let r := ringOf c ch
  let x := getRing s r
  let h := getChan s c ch
  let b := getBuf h k
  let slot := b.posted
  let (v, s1) := gatherRead s c (resultRow h k slot) ecc
  let (res, rec) := postAddrs x b
  let s2 := emit (oweRing s1 c 2) (.hostWrite part.hostPort x.pasid (ringAddr s part.hostPort x res) 512 v.toNat)
  let s3 := emit s2 (.hostWrite part.hostPort x.pasid (ringAddr s part.hostPort x rec) 64 (completionRecord r slot b (b.seqs.getD slot 0) x.cseq))
  let s4 := setRing s3 r { x with cseq := x.cseq + 1, posted := x.posted.bump, state := if x.state = .waitSpace then .polling else x.state }
  let s5 := setChan s4 c ch (modBuf (getChan s4 c ch) k (fun b => { b with posted := b.posted + 1 }))
  vecEvent s5 part.owner x.vector part.msixMod (some p)

/-- COMPLETION_POST: the next completion of a returned batch is posted, in slot order, once its addresses have translations (15 R574, R593 to R597; 10 R414, R796; 17 R668). -/
def execCompletionPost (cl : ClusterId) (ch : Fin 4) (cc : Nat) (ok : Bool) (ecc : Ecc) (s : State) : Res :=
  let c := cl.val
  match enterCc s c cc, partOfCluster s c with
  | some s0, some p =>
    let h := getChan s0 c ch.val
    let r := ringOf c ch.val
    let x := getRing s0 r
    let part := getPart s0 p
    match postingBuf h with
    | none => .next s0
    | some k =>
      let b := getBuf h k
      let row := resultRow h k b.posted
      let (res, rec) := postAddrs x b
      if x.state == .error || !partPosts part || !hostOpen (getPort s0 part.hostPort) then .next s0
      else if !crSpace x then .next (setRing s0 r { x with state := .waitSpace })
      else match ringMiss s0 part.hostPort x [res, rec] with
        | some page => .next (askRing s0 part.hostPort r page true)
        | none =>
          if gatherAsleep s0 c row then .next (wakeForRows s0 c [row])
          else if !gatherSlot s0 c cc row false then .next s0
          else if ok then .next (postSlot s0 p c ch.val k ecc)
          else .next (ringFault s0 r 0x01A1)
  | _, _ => .next s

/-- The offsets in a buffer of its header row and its 128 request and result rows (10 R403, R796). -/
def bufferOffsets : List Nat := 0 :: (List.range 128).map (· + 16)

/-- One row of a buffer at zero; the buffer is free once no row is left (10 R796). -/
def zeroRow (s : State) (c ch k o : Nat) (left : List Nat) : State :=
  let rest := left.erase o
  let s1 := gatherWrite s c (batchBase (getChan s c ch) k + o) 0
  setChan s1 c ch (modBuf (getChan s1 c ch) k (fun b => if rest.isEmpty then {} else { b with toZero := some rest }))

/-- BUFFER_FREE: when every completion of a batch has been written, a row of its buffer is zeroed in a 0x1A slot of the row's bank; the buffer is free once all have been (10 R414, R796; 15 R596). -/
def execBufferFree (cl : ClusterId) (ch : Fin 4) (cc : Nat) (s : State) : Res :=
  let c := cl.val
  match enterCc s c cc with
  | none => .next s
  | some s0 =>
    let h := getChan s0 c ch.val
    match zeroingBuf h with
    | none => .next s0
    | some k =>
      let left := (getBuf h k).toZero.getD bufferOffsets
      let s1 := wakeForRows s0 c (left.map (fun o => batchBase h k + o))
      match left.find? (fun o => gatherSlot s1 c cc (batchBase h k + o) true && !gatherAsleep s1 c (batchBase h k + o)) with
      | some o => .next (zeroRow s1 c ch.val k o left)
      | none => .next s1

/-! ## Ring commands (15 R591, R592) -/

/-- The BAR0 offset of a register of ring `r` (15 R609). -/
def ringOff (r off : Nat) : Nat := 0x00110000 + 0x80 * r + off

/-- A write of HP_WR_CTL: while EN is set only a write that clears EN; EN is not set on a disabled channel (15 R591, R592, R609). None where it is rejected. -/
def writeRingCtl (s : State) (r : Nat) (data : W32) : Option State :=
  let x := getRing s r
  let size := natBits data.toNat 16 5
  let burst := natBits data.toNat 0 7
  let en := data.getLsbD 31
  if x.en && en then none
  else if size < 6 ∨ 20 < size ∨ burst < 1 ∨ 64 < burst then none
  else if en && !(getChan s (r / 4) (r % 4)).en then none
  else some (setRing s r { x with en := en, sizeLog2 := size, burst := burst, state := if en then .polling else .off })

/-- A write of HP_WR_CTL by a port that sets or clears EN alone. -/
def hostRing (h r : Nat) (en : Bool) (s : State) : Res :=
  let x := getRing s r
  let data : W32 := BitVec.ofNat 32 ((if en then 1 else 0) <<< 31 ||| x.sizeLog2 <<< 16 ||| x.burst)
  let denied := firstDenied [clusDenied s h (r / 4), if (writeRingCtl s r data).isNone then some 7 else none]
  hostCmd s h (ringOff r 8) data denied (fun t => (writeRingCtl t r data).getD t)

/-- RING_ENABLE (15 R591). -/
def execRingEnable (h : Fin 2) (r : Fin 128) (s : State) : Res := hostRing h.val r.val true s
/-- RING_DISABLE (15 R592). -/
def execRingDisable (h : Fin 2) (r : Fin 128) (s : State) : Res := hostRing h.val r.val false s

/-! ## Completion timeouts (15 R590; 08 R326) -/

/-- The oldest host-memory read row of a stream whose request has left its port and waits for its completion. -/
def hostWaiting (s : State) (c st : Nat) : Option Nat :=
  let t := getStream s c st
  match t.desc with
  | some d =>
    if d.farSpace = 1 ∧ !d.dirOut then (t.tags.find? (fun g => g.data.isNone && g.err == 0 && !(getClus s c).str.host.contains (st, g.j))).map (fun g => g.j)
    else none
  | none => none

/-- A port logs a completion timeout in its AER: the header of the first error stays (15 R574). -/
def logTimeout (s : State) (h : Nat) : State :=
  modPort (useFree s) h (fun p => { p with aer := p.aer.put (14, Config.aerHeader s.free) })

/-- COMPLETION_TIMEOUT: a read request of a stream or of a ring is not answered in time; its tag is free again (08 R326, R334; 15 R574, R590). -/
def execCompletionTimeout (h : Fin 2) (who : HostRequester) (s : State) : Res :=
  match who with
  | .stream cl st =>
    match partOfCluster s cl.val, hostWaiting s cl.val st.val with
    | some p, some j =>
      if (getPart s p).hostPort = h.val then .next (pumpPort (calmCheck (failRow (logTimeout s h.val) cl.val st.val j 6 0x0143) p) h.val) else .next s
    | _, _ => .next s
  | .ring r =>
    match partOfCluster s (r.val / 4) with
    | some p =>
      if (getPart s p).hostPort = h.val ∧ (getRing s r.val).sent then .next (pumpPort (ringFault (logTimeout s h.val) r.val 0x01A0) h.val) else .next s
    | none => .next s

end Sys2Proof.Machine
end

