-- ==== Sys2Proof/Machine/Ed448.lean ====
section
/-! DEFINITION. Ed448 signature verification, which the specification names and does not define (02 R42), and the derivation of a public key (16 R629): RFC 8032 (PRESUMED). -/

namespace Sys2Proof.Machine

/-- The field prime 2^448 - 2^224 - 1. -/
def edP : Nat := 2 ^ 448 - 2 ^ 224 - 1
/-- The order of the base point. -/
def edL : Nat := 2 ^ 446 - 13818066809895115352007386748515426880336692474882178609894547503885

/-- The field. -/
def edAdd (a b : Nat) : Nat := (a + b) % edP
def edSub (a b : Nat) : Nat := (a + edP - b % edP) % edP
def edMul (a b : Nat) : Nat := a * b % edP

/-- The power of a field element; `n` bits of the exponent. -/
def edPow : Nat → Nat → Nat → Nat
  | 0, _, _ => 1
  | n + 1, a, e =>
    let h := edPow n (edMul a a) (e / 2)
    if e % 2 = 1 then edMul a h else h

/-- The inverse of a field element. -/
def edInv (a : Nat) : Nat := edPow 448 a (edP - 2)

/-- The curve constant d = -39081. -/
def edD : Nat := edP - 39081

/-- A point in projective coordinates: X, Y, Z. -/
abbrev EdPoint := Nat × Nat × Nat

/-- The neutral point. -/
def edZero : EdPoint := (0, 1, 1)

/-- The sum of two points. -/
def edPlus (p q : EdPoint) : EdPoint :=
  let (x1, y1, z1) := p
  let (x2, y2, z2) := q
  let a := edMul z1 z2
  let b := edMul a a
  let c := edMul x1 x2
  let d := edMul y1 y2
  let e := edMul edD (edMul c d)
  let f := edSub b e
  let g := edAdd b e
  let h := edMul (edAdd x1 y1) (edAdd x2 y2)
  (edMul a (edMul f (edSub (edSub h c) d)), edMul a (edMul g (edSub d c)), edMul f g)

/-- A multiple of a point; `n` bits of the scalar. -/
def edTimes : Nat → Nat → EdPoint → EdPoint
  | 0, _, _ => edZero
  | n + 1, k, p =>
    let h := edTimes n (k / 2) (edPlus p p)
    if k % 2 = 1 then edPlus p h else h

/-- The base point. -/
def edBase : EdPoint :=
  (224580040295924300187604334099896036246789641632564134246125461686950415467406032909029192869357953282578032075146446173674602635247710,
   298819210078481492676017930443930673437544040154080242095928241372331506189835876003536878655418784733982303233503462500531545062832660, 1)

/-- The point that 57 bytes encode; none where they encode none. -/
def edDecode (bs : List Byte) : Option EdPoint :=
  let v := bytesNat bs
  let y := v % 2 ^ 448
  let sign := v / 2 ^ 455 % 2
  if bs.length ≠ 57 ∨ v / 2 ^ 448 % 2 ^ 7 ≠ 0 ∨ edP ≤ y then none
  else
    let u := edSub (edMul y y) 1
    let w := edSub (edMul edD (edMul y y)) 1
    let u3w := edMul (edMul u (edMul u u)) w
    let x := edMul u3w (edPow 448 (edMul (edMul u3w (edMul u u)) (edMul w w)) ((edP - 3) / 4))
    if edMul w (edMul x x) ≠ u then none
    else if x = 0 ∧ sign = 1 then none
    else some (if x % 2 = sign then x else edSub 0 x, y, 1)

/-- Two points are equal. -/
def edSame (p q : EdPoint) : Bool :=
  edMul p.1 q.2.2 == edMul q.1 p.2.2 && edMul p.2.1 q.2.2 == edMul q.2.1 p.2.2

/-- ASCII "SigEd448". -/
def edDom : List Byte := [0x53, 0x69, 0x67, 0x45, 0x64, 0x34, 0x34, 0x38]

/-- A signature of 114 bytes verifies for a message under a key of 57 bytes and a context string. -/
def edVerify (key sig msg ctx : List Byte) : Bool :=
  match edDecode key, edDecode (sig.take 57) with
  | some a, some r =>
    let sv := bytesNat (sig.drop 57)
    let k := bytesNat (shake256 (edDom ++ [0, BitVec.ofNat 8 ctx.length] ++ ctx ++ sig.take 57 ++ key ++ msg) 114) % edL
    let four (p : EdPoint) : EdPoint := edTimes 3 4 p
    decide (sig.length = 114 ∧ sv < edL) && edSame (four (edTimes 446 sv edBase)) (edPlus (four r) (four (edTimes 446 k a)))
  | _, _ => false

/-- The 57 bytes of a point, as a number. -/
def edEncode (p : EdPoint) : Nat :=
  let z := edInv p.2.2
  edMul p.2.1 z + (edMul p.1 z % 2) * 2 ^ 455

/-- The secret scalar of a 57-byte seed. -/
def edScalar (seed : List Byte) : Nat :=
  let h := bytesNat ((shake256 seed 114).take 57)
  (h % 2 ^ 448 / 4 * 4) % 2 ^ 447 + 2 ^ 447

/-- The public key of a 57-byte seed, as a number. -/
def edPublic (seed : List Byte) : Nat := edEncode (edTimes 448 (edScalar seed) edBase)

end Sys2Proof.Machine
end

