-- ==== Sys2Proof/Machine/Records.lean ====
section
/-! DEFINITION. The flash records: their places, the header and the validity of a copy, the record in force, and what the payload of each type says (16 R618 to R622, R630 to R632, R637, R640; 01 R25). -/

namespace Sys2Proof.Machine

/-! ## Places (16 R618) -/

/-- Offset in its bank and size of each record, types 1 to 9 (16 R618). -/
def recordTable : List (Nat × Nat) :=
  [(0, 0x800000), (0x800000, 0x800000), (0x1000000, 0x10000), (0x1010000, 0x10000), (0x1020000, 0x10000), (0x1030000, 0x10000), (0x1040000, 0x10000),
   (0x1050000, 0x10000), (0x2000000, 0xE000000)]

/-- The offset of a record in its bank; the records of both banks stand at the same offset. -/
def recordOffset (t : Nat) : Nat := (recordTable.getD (t - 1) (0, 0)).1
/-- The size of a record. -/
def recordSize (t : Nat) : Nat := (recordTable.getD (t - 1) (0, 0)).2
/-- The flash address of a copy; bank 0 is A, of 256 MiB. -/
def copyAddress (t bank : Nat) : Nat := 0x10000000 * bank + recordOffset t
/-- The bytes that a record has room for behind its header (16 R619). -/
def payloadRoom (t : Nat) : Nat := recordSize t - 128

/-! ## A copy (16 R619, R620) -/

/-- The length of a payload in bytes. -/
def payloadLen : FlashPayload → Nat
  | .bytes len _ => len
  | .settings v => (Config.settingsLen v).val
/-- The bytes of a payload. -/
def payloadBytes : FlashPayload → List Byte
  | .bytes len data => natBytes len data
  | .settings v => natBytes (Config.settingsLen v).val (Config.settingsData v)
/-- The digest of a payload (16 R645). -/
def digestOf (v : FlashPayload) : Nat := shakeNat (payloadBytes v)

/-- ASCII "BRZR". -/
def recordMagic : W32 := 0x525A5242
/-- COMMIT of a committed copy. -/
def commitWord : W32 := 0x5A5AC3C3

/-- Header bytes 0x00 to 0x0F. -/
def headBytes (c : FlashCopy) : List Byte :=
  natBytes 4 c.magic.toNat ++ natBytes 1 c.rtype.toNat ++ natBytes 3 c.resv.toNat ++ natBytes 4 c.seq.toNat ++ natBytes 4 c.length.toNat
/-- The bytes of a copy as they stand in flash: the header, then the payload. -/
def copyBytes (c : FlashCopy) : List Byte :=
  headBytes c ++ natBytes 64 c.check.toNat ++ natBytes 4 c.commit.toNat ++ natBytes 44 c.tail.toNat ++ payloadBytes c.payload
/-- What CHECK has to hold. -/
def copyCheck (c : FlashCopy) : BitVec 512 := BitVec.ofNat 512 (shakeNat (headBytes c ++ payloadBytes c.payload))

/-- A copy of a record of type `t` is valid (16 R620). -/
def copyValid (t : Nat) (c : FlashCopy) : Bool :=
  c.magic == recordMagic && c.rtype == BitVec.ofNat 8 t && decide (c.length.toNat = payloadLen c.payload ∧ c.length.toNat ≤ payloadRoom t) &&
    c.commit == commitWord && c.check == copyCheck c

/-- A copy as its payload and header bytes 0x00 to 0x4F are programmed, COMMIT still erased (16 R622). -/
def programmed (t : Nat) (seq : BitVec 32) (v : FlashPayload) : FlashCopy :=
  let c : FlashCopy := { magic := recordMagic, rtype := BitVec.ofNat 8 t, resv := 0, seq := seq, length := BitVec.ofNat 32 (payloadLen v), check := 0, commit := BitVec.allOnes 32, tail := BitVec.allOnes 352, payload := v }
  { c with check := copyCheck c }
/-- A copy with its COMMIT programmed (16 R622). -/
def committed (t : Nat) (seq : BitVec 32) (v : FlashPayload) : FlashCopy := { programmed t seq v with commit := commitWord }

/-! ## The record in force (16 R620, R621) -/

/-- Copy X of a flash record is newer than copy Y (16 R621). -/
def newerSeq (x y : BitVec 32) : Bool := let d := (x - y).toNat; decide (1 ≤ d ∧ d ≤ 2 ^ 31 - 1)

/-- A copy of a flash record; bank 0 is A. -/
def flashCopy (b : Breeze) (t bank : Nat) : Option FlashCopy := mget none (b.flash.map (fun e => (e.1, some e.2))) (2 * t + bank)
/-- A copy of a flash record, where it is valid (16 R620). -/
def validCopy (b : Breeze) (t bank : Nat) : Option FlashCopy := (flashCopy b t bank).filter (copyValid t)

/-- The byte of the flash at an address; an erased byte is 0xFF (16 R618, R619). -/
def flashByte (b : Breeze) (a : Nat) : Byte :=
  ((List.range 18).findSome? (fun i => (flashCopy b (i / 2 + 1) (i % 2)).bind (fun c => if copyAddress (i / 2 + 1) (i % 2) ≤ a then (copyBytes c)[a - copyAddress (i / 2 + 1) (i % 2)]? else none))).getD 0xFF

/-- The bank of the copy in force; none where the record is missing (16 R621). -/
def bankInForce (b : Breeze) (t : Nat) : Option Nat :=
  match validCopy b t 0, validCopy b t 1 with
  | some x, some y => some (if newerSeq y.seq x.seq then 1 else 0)
  | some _, none => some 0
  | none, some _ => some 1
  | none, none => none

/-- Both copies of a record are valid. -/
def bothValid (b : Breeze) (t : Nat) : Bool := (validCopy b t 0).isSome && (validCopy b t 1).isSome

/-- The payload of a flash record in force. -/
def recordInForce (b : Breeze) (t : Nat) : Option FlashPayload := ((bankInForce b t).bind (validCopy b t)).map (·.payload)

/-- The valid copies of a record, the one in force first (16 R620, R621, R627). -/
def copiesOf (b : Breeze) (t : Nat) : List FlashPayload :=
  match bankInForce b t with
  | some bank => ([bank, 1 - bank].filterMap (validCopy b t)).map (·.payload)
  | none => []

/-- SETTINGS in force; a missing record reads as the defaults (16 R657). -/
def settingsOf (b : Breeze) : Settings :=
  match recordInForce b 8 with
  | some (.settings v) => v
  | _ => {}

/-! ## Signatures (16 R631): the last 114 bytes of a payload, over the bytes before them -/

/-- The bytes that a signature covers. -/
def signedBody (v : FlashPayload) : List Byte := (payloadBytes v).take (payloadLen v - 114)

/-- The Ed448 signature of a payload verifies under the Dalard firmware key, with an empty context string (16 R631). -/
def recordSigned (fwKey : Nat) (v : FlashPayload) : Bool :=
  decide (114 ≤ payloadLen v) && edVerify (natBytes 57 fwKey) ((payloadBytes v).drop (payloadLen v - 114)) (signedBody v) []

/-! ## What the payloads say -/

/-- The security version of a firmware payload (16 R631). -/
def secVersionOf : FlashPayload → Nat
  | .bytes len data => (Config.firmwareVersions len data).1.toNat
  | .settings _ => 0
/-- The interface version of a firmware payload (16 R637). -/
def ifOf : FlashPayload → Nat
  | .bytes len data => (Config.firmwareVersions len data).2.toNat
  | .settings _ => 0

/-- The floor of a firmware component in SETTINGS (16 R631). -/
def fwFloor (b : Breeze) (t : Nat) : Nat := ((settingsOf b).fwFloors.find? (fun e => e.1 == t)).elim 0 (·.2)

/-- A firmware payload verifies: its signature, and its security version against the floor of its component (16 R631). -/
def firmwareOk (fwKey : Nat) (b : Breeze) (t : Nat) (v : FlashPayload) : Bool := recordSigned fwKey v && decide (fwFloor b t ≤ secVersionOf v)

/-- The grade letter of a GRADE payload (01 R25). -/
def gradeLetterOf : FlashPayload → Nat
  | .bytes len data => (Config.gradeNames len data).1.toNat
  | .settings _ => 0
/-- The identity public key that a GRADE payload names (16 R632). -/
def gradeKeyOf : FlashPayload → Nat
  | .bytes len data => (Config.gradeNames len data).2.toNat
  | .settings _ => 0
/-- DISABLED_c of a GRADE payload (01 R25). -/
def gradeMaskOf (v : FlashPayload) (c : Nat) : BitVec 24 :=
  match v with
  | .bytes len data => Config.gradeMask len data c
  | .settings _ => 0

/-- The number of disabled cores of each cluster by grade (01 R24, R26). -/
def gradeCount (letter : Nat) : Option Nat :=
  if letter = 0x46 then some 0 else if letter = 0x47 then some 1 else if letter = 0x48 then some 2 else none

/-- The GRADE record is valid (01 R26; 16 R632). -/
def gradeOk (fwKey : Nat) (b : Breeze) : Bool :=
  match recordInForce b 3 with
  | some v => recordSigned fwKey v && gradeKeyOf v == b.pubKey && (match gradeCount (gradeLetterOf v) with
      | some n => (List.range 32).all (fun c => bitsSet (gradeMaskOf v c).toNat 24 == n)
      | none => false)
  | none => false

/-- CERT does not verify: its signature, the one by the device CA, or what its certificate names: the identity public key, the part number and the serial number (16 R630, R631; 20 R740). -/
def certBad (fwKey : Nat) (b : Breeze) : Bool :=
  match recordInForce b 5 with
  | some (.bytes len data) =>
    !(recordSigned fwKey (.bytes len data) && Config.certByCa len data && (Config.certNames len data).1.toNat == b.pubKey &&
      (Config.certNames len data).2.1 == 0x8864 && (Config.certNames len data).2.2 == b.serial)
  | _ => true

/-- One entry of COMPAT (16 R637). -/
structure CompatEntry where
  steppings : Byte
  romIf : Nat
  breezeIf : Nat
  eddyIf : Nat
  deriving DecidableEq, Repr

/-- One waiver of WAIVER (16 R640). -/
structure WaiverEntry where
  identity : Nat
  compA : Nat
  compB : Nat
  steppings : Byte
  verA : Nat
  verB : Nat
  deriving DecidableEq, Repr

/-- Entries of `size` bytes each, at most `room` of them; none where the body is not made of them. -/
def entriesOf (size room : Nat) (v : FlashPayload) : Option (List Nat) :=
  let body := signedBody v
  if body.length % size = 0 ∧ body.length / size ≤ room then some ((List.range (body.length / size)).map (fun i => bytesNat ((body.drop (size * i)).take size))) else none

/-- An entry of COMPAT from its 16 bytes (16 R637). -/
def compatEntry (r : Rec) : CompatEntry := { steppings := BitVec.ofNat 8 (r.le 0 1), romIf := r.le 4 4, breezeIf := r.le 8 4, eddyIf := r.le 12 4 }
/-- A waiver from its 80 bytes (16 R640). -/
def waiverEntry (r : Rec) : WaiverEntry :=
  { identity := r.le 0 64, compA := r.le 64 1, compB := r.le 65 1, steppings := BitVec.ofNat 8 (r.le 66 1), verA := r.le 68 4, verB := r.le 72 4 }

/-- The entries of a COMPAT or WAIVER record in force that verifies; none where it is missing or invalid (16 R637, R639, R640). -/
def signedEntries (s : State) (t size room : Nat) : Option (List Nat) :=
  match recordInForce s.brz t with
  | some v => if recordSigned s.fwKey v then entriesOf size room v else none
  | none => none

/-- The entries of COMPAT in force; none where it is missing or invalid (16 R637, R639). -/
def compatEntries (s : State) : Option (List CompatEntry) := (signedEntries s 6 16 256).map (·.map compatEntry)
/-- The waivers of WAIVER in force (16 R640). -/
def waiversOf (s : State) : List WaiverEntry := ((signedEntries s 7 80 8).getD []).map waiverEntry
/-- A WAIVER record that does not verify; a missing one waives nothing. -/
def waiverBad (s : State) : Bool := (recordInForce s.brz 7).isSome && (signedEntries s 7 80 8).isNone

end Sys2Proof.Machine
end

