-- ==== Sys2Proof/Machine/Views.lean ====
section
/-! DEFINITION. What a read of each BAR0 register returns, block by block (20 R731 to R741 and the register tables of every chapter). -/

namespace Sys2Proof.Machine

/-- The value of a register, or of a 64-bit pair that takes this offset and the next (00 R8). -/
inductive RegVal where
  | w (v : Nat)
  | q (v : W64)
  deriving DecidableEq, Repr

/-- The registers of a block by offset. -/
abbrev RegList := List (Nat × RegVal)

/-- A statistic at an offset (03 R127). -/
def statReg (o : Nat) (t : Stat) : Nat × RegVal := (o, .q t.bits)
/-- A field at its place. -/
def fld (v lo w : Nat) : Nat := (v % 2 ^ w) <<< lo
/-- A one-bit field at its place. -/
def bitAt (b : Bool) (lo : Nat) : Nat := if b then 2 ^ lo else 0
/-- A signed field at its place. -/
def sfld (v : Int) (lo w : Nat) : Nat := (v % (2 ^ w : Nat)).toNat <<< lo
/-- Four registers of a 128-bit value. -/
def wide128 (o v : Nat) : RegList := (List.range 4).map (fun i => (o + 4 * i, RegVal.w (natBits v (32 * i) 32)))
/-- VALID at bit 31 and OVERFLOW at bit 30 of a latch. -/
def latchBits (l : Latch α) : Nat := bitAt l.valid 31 ||| bitAt l.overflow 30
/-- A number of entries that satisfy a condition as a mask. -/
def maskOf (n : Nat) (p : Nat → Bool) : Nat := ((List.range n).filter p).foldl (fun a i => a + 2 ^ i) 0

/-! ## Core block (03 R126, 04 R179, 06 R240, 07 R285) -/

/-- STATE of CORE_STATUS. -/
def runCode : RunState → Nat
  | .noTask => 0
  | .stopped => 1
  | .running => 2
  | .frozen => 3
  | .lull => 4
  | .ended => 5
  | .faultHold => 6
  | .disabled => 7

/-- STATE of CORE_STATUS of a core: one whose END has issued runs until its operations have completed (03 R94, R126). -/
def coreState (c : Core) : Nat := if c.ending then 2 else runCode c.state

/-- FREEZE_CAUSE of CORE_STATUS. -/
def causeCode : FreezeCause → Nat
  | .none => 0
  | .input => 1
  | .output => 2
  | .calm => 3
  | .external => 4

/-- CORE_STATUS. -/
def coreStatus (c : Core) : Nat := fld (lcoreNum c) 16 5 ||| fld (causeCode c.cause) 8 4 ||| fld c.slot 4 4 ||| coreState c

/-- CORE_MAT_MODE (04 R179). -/
def matModeWord (s : State) (n : Nat) (c : Core) : Nat :=
  sfld c.mat.mode.eLo 8 10 ||| bitAt (runOf s (clusOf n)).rowStall 7 ||| bitAt c.mat.mode.systolic 6 ||| fld c.mat.mode.accmode 4 2 ||| fld c.mat.mode.format 0 4

/-- CORE_SP_PWR (07 R285). -/
def spPwrWord (s : State) (n : Nat) : Nat :=
  maskOf 8 (fun b => (spPower s n b).pend) <<< 16 ||| maskOf 8 (fun b => (spPower s n b).ready) <<< 8 ||| maskOf 8 (fun b => (spPower s n b).off)

/-- The registers of a core block. -/
def coreRegs (s : State) (n : Nat) : RegList :=
  let c := getCore s n
  let t := taskOf c
  let f := c.fault.info
  [(0x00, .w (coreStatus c)), (0x04, .w (c.pc % 2 ^ 14)), (0x08, .q c.issued)] ++
  [statReg 0x10 c.stats.freezeIn, statReg 0x18 c.stats.freezeOut, statReg 0x20 c.stats.freezeCalm, statReg 0x28 c.stats.freezeExt,
   statReg 0x30 c.stats.lullEntries] ++
  [(0x38, .w c.mem.split.toNat), (0x3C, .w c.mem.flags.toNat)] ++
  [(0x40, .w (latchBits c.fault ||| fld f.slot 24 3 ||| fld f.code 0 16)), (0x44, .w (f.pc % 2 ^ 14)), (0x48, .q f.issue), (0x50, .q f.step),
   (0x58, .q f.detail), statReg 0x60 c.stats.faults, statReg 0x68 c.stats.vecSaturate, statReg 0x70 c.stats.vecUnderflow, statReg 0x78 c.stats.eccCorr] ++
  [(0x80, .w t.spBase), (0x84, .w t.spBound), (0x88, .w t.cmBase), (0x8C, .w t.cmBound), (0x90, .q (BitVec.ofNat 64 t.dmBase)),
   (0x98, .q (BitVec.ofNat 64 t.dmBound)), (0xA0, .q (BitVec.ofNat 64 t.hmBase)), (0xA8, .q (BitVec.ofNat 64 t.hmBound)), (0xB0, .w t.pasid)] ++
  [(0xB4, .w (spPwrWord s n)), statReg 0xB8 c.stats.rowcntEvents, (0xC0, .w (matModeWord s n c)), (0xC4, .w c.mat.flags.toNat),
   statReg 0xC8 c.mat.bubbles, statReg 0xD0 c.mat.slips, (0xD8, .w (c.mat.lagMax % 32)), (0xDC, .w c.vecFlags.toNat), (0xE0, .q c.gcount),
   statReg 0xE8 c.stats.vecInvalid, statReg 0xF0 c.stats.vecDivzero, statReg 0xF8 c.stats.vecOverflow]

/-! ## First-fault records (18 R701) -/

/-- The registers of a first-fault record from an offset on. -/
def ffRegs (o : Nat) (r : FfRecord) : RegList :=
  let i := r.latch.info
  [(o, .w (latchBits r.latch ||| fld i.reaction 28 2 ||| fld i.cls 20 4 ||| fld i.kind 16 4 ||| fld i.code 0 16)),
   (o + 0x04, .w (bitAt i.part.isSome 31 ||| fld (i.part.getD 0) 27 4 ||| bitAt i.cluster.isSome 26 ||| fld (i.cluster.getD 0) 21 5 ||| fld i.pcore 16 5 ||| fld i.index 0 16)),
   (o + 0x08, .w (match i.pc with | some (slot, pc) => 2 ^ 31 ||| fld slot 16 3 ||| fld pc 0 14 | none => 0)),
   (o + 0x10, .q i.detail), (o + 0x18, .q i.step), (o + 0x20, .q i.time), statReg (o + 0x28) r.faults, (o + 0x30, .w 0),
   (o + 0x34, .w (bitAt r.refused 31 ||| fld r.cause 0 16))]

/-! ## Cluster memory block (07 R286) -/

/-- CLU_COLL_READER and CLU_COLL_WRITER. -/
def partyWord (p : Party) : Nat := fld p.pc 18 14 ||| fld p.id 0 16

/-- The cluster registers of 07 R286. -/
def cmRegs (s : State) (c : Nat) : RegList :=
  let m := (getClus s c).mem
  let k := m.coll.info
  let u := m.unpwr.info
  let e := m.eccUe.info
  [(0x200, .w (latchBits m.coll ||| fld k.reader.kind 27 3 ||| fld k.writer.kind 24 3 ||| bitAt k.cm 23 ||| fld k.pcore 18 5 ||| fld k.row 0 18)),
   (0x204, .w (partyWord k.reader)), (0x208, .w (partyWord k.writer)), (0x210, .q (BitVec.ofNat 64 k.writer.addr)), statReg 0x218 m.collCount,
   (0x220, .w (maskOf 16 (fun b => (cmPower s c b).ready) <<< 16 ||| maskOf 16 (fun b => (cmPower s c b).off))),
   (0x224, .w (maskOf 16 (fun b => (cmPower s c b).pend))), statReg 0x228 m.unpwrDrops,
   (0x230, .w (bitAt m.unpwr.valid 31 ||| fld u.kind 28 3 ||| bitAt u.cm 27 ||| fld u.pcore 22 5 ||| fld u.bank 18 4 ||| fld u.id 0 16)),
   statReg 0x238 m.eccCorr,
   (0x240, .w (bitAt m.eccUe.valid 31 ||| bitAt e.cm 30 ||| fld e.pcore 25 5 ||| fld e.reader 22 3 ||| fld e.bank 18 4 ||| fld e.bankRow 0 14))]

/-- CLU_CM_SLOT_n (07 R286). -/
def slotWord (s : State) (c i : Nat) : Nat :=
  ((List.range 4).map (fun k => fld (mget 0x1F (getClus s c).mem.slots (4 * i + k)) (8 * k) 5)).foldl (· + ·) 0

/-! ## Stream engine (08 R345, R346) -/

/-- STATE of STR_STATE. -/
def strCode : StrState → Nat
  | .idle => 0
  | .running => 1
  | .halted => 2
  | .faulted => 3
  | .done => 4

/-- Tags held and budgeted by the streams of one direction. -/
def tagWord (s : State) (c : Nat) (out : Bool) (w : Nat) : Nat :=
  let mine := (boundStreams s c).filter (fun i => match (getStream s c i).desc with | some d => d.dirOut == out | none => false)
  let inuse := (mine.map (fun i => (getStream s c i).tags.length)).sum
  let budget := (mine.map (fun i => match (getStream s c i).desc with | some d => d.tags | none => 0)).sum
  fld inuse 16 w ||| fld budget 0 w

/-- STR_PATTERN.CLASS. -/
def patternWord (x : StrEng) : Nat := ((classPattern x).zipIdx.map (fun (k, p) => fld k (2 * p) 2)).foldl (· + ·) 0

/-- An index of an index vector. -/
def idxAt (v : List Nat) (i : Nat) : Nat := v.getD i 0 % 65536

/-- The stream engine registers of a cluster. -/
def strRegs (s : State) (c : Nat) : RegList :=
  let x := (getClus s c).str
  let e := x.err.info
  [(0x3000, .w (fld x.shareRem 8 4 ||| fld x.shareWr 4 4 ||| fld x.shareRd 0 4)), (0x3004, .w (patternWord x)),
   (0x3008, .w (tagWord s c false 11)), (0x300C, .w (tagWord s c true 10)), statReg 0x3010 x.rowsRd, statReg 0x3018 x.rowsWr, statReg 0x3020 x.rowsRem,
   statReg 0x3028 x.pfCount, statReg 0x3030 x.refreshLost,
   (0x3040, .w (latchBits x.err ||| fld e.reason 16 8 ||| fld e.stream 0 8)), (0x3044, .w (idxAt e.idx 1 <<< 16 ||| idxAt e.idx 0)),
   (0x3048, .w (idxAt e.idx 3 <<< 16 ||| idxAt e.idx 2)), (0x304C, .w (idxAt e.idx 4)), (0x3050, .q (BitVec.ofNat 64 e.addr)), (0x3058, .q e.step), (0x3060, .q e.time)]

/-- The state block of a stream (08 R346). -/
def streamRegs (t : Stream) : RegList :=
  let v := match t.desc with | some d => indexVector d t.next | none => []
  [(0x00, .w (fld (strCode t.state) 28 4 ||| fld (if t.state = .halted ∨ t.state = .faulted then t.reason else 0) 16 8 ||| fld t.tags.length 0 11)),
   (0x04, .w (idxAt v 1 <<< 16 ||| idxAt v 0)), (0x08, .w (idxAt v 3 <<< 16 ||| idxAt v 2)), (0x0C, .w (idxAt v 4)),
   (0x10, .q (BitVec.ofNat 64 (farAddr t t.next))), (0x18, .q (BitVec.ofNat 64 t.delivered))]

/-! ## Messages (09 R396, R397, R399) -/

/-- The message registers of a cluster. -/
def msgRegs (s : State) (c : Nat) : RegList :=
  let m := (getClus s c).msg
  let d := m.txDrop.info
  let k := m.snap.info
  [statReg 0x6000 m.rxDrops, statReg 0x6008 m.txDropEvents, (0x6010, .w (latchBits m.txDrop ||| fld d.reason 24 4 ||| fld d.lcore 16 5 ||| d.seq.toNat)),
   (0x6014, .w d.dest.toNat), statReg 0x6018 m.rowsTx, statReg 0x6020 m.rowsRx, (0x6040, .w (latchBits m.snap ||| fld k.pcore 0 5)), (0x6048, .q k.time),
   (0x6050, .q k.step)] ++
  (List.range 24).flatMap (fun p =>
    let z := k.cores.getD p {}
    [(0x6080 + 8 * p, RegVal.w (fld z.state 28 4 ||| fld z.cause 24 4 ||| fld z.slot 20 4 ||| fld z.wait 0 16)),
     (0x6084 + 8 * p, .w (fld z.outq 16 8 ||| fld z.tq 0 9))]) ++
  (List.range 5).map (fun i => (0x6140 + 8 * i, RegVal.q (k.lanes.getD i 0)))

/-- STATE of MSG_TQ_STATUS. -/
def tqCode : TqState → Nat
  | .closed => 0
  | .opened => 1
  | .fenced => 2

/-- The view of a tag queue (09 R397). -/
def tqRegs (q : TagQueue) : RegList :=
  [(0x00, .w (fld (tqCode q.state) 30 2 ||| bitAt q.bindMat 29 ||| fld q.merge 27 2 ||| fld q.position 22 5 ||| bitAt q.carry 21 ||| fld q.depth 9 9 ||| fld q.entries.length 0 9)),
   (0x04, .w ((q.entries.filter (fun e => e.row.isNone)).length)), statReg 0x08 q.accepted] ++
  wide128 0x10 (match q.entries with | e :: _ => e.header.toNat | [] => 0)

/-- The block of a multicast group (09 R399). -/
def groupRegs (g : Group) : RegList :=
  [(0x0, .w (fld g.state 30 2 ||| fld g.fenced 8 8 ||| fld g.part 0 4)), (0x4, .w (match g.first with | some (c, l) => fld c 5 5 ||| fld l 0 5 | none => 0)),
   (0x8, .w g.clusters.toNat)]

/-! ## Gatherer (10 R422) -/

/-- BUF0 and BUF1 of CLU_GATH_STATE. -/
def bufCode : BufState → Nat
  | .free => 0
  | .forming => 1
  | .released => 2
  | .held => 3

/-- Slots filled in the forming buffer: those whose row has been written (10 R796). -/
def fillCount (h : Channel) : Nat :=
  let of (b : BatchBuf) : Nat := b.refs.length - b.waiting.length
  match (buffersByAge h).reverse.find? (fun k => (getBuf h k).state == .forming) with
  | some k => of (getBuf h k)
  | none => 0

/-- The registers of a gatherer channel. -/
def chanRegs (h : Channel) : RegList :=
  [(0x00, .w (bitAt h.en 31 ||| fld h.base 7 18 ||| fld h.batch 0 7)), (0x04, .w h.cons.toNat),
   (0x08, .w (fld (bufCode h.buf1.state) 10 2 ||| fld (bufCode h.buf0.state) 8 2 ||| fld (fillCount h) 0 7)), (0x10, .q h.seq), statReg 0x18 h.reqs,
   statReg 0x20 h.full, statReg 0x28 h.flushes, (0x30, .w (latchBits h.err ||| fld h.err.info.cause 5 2 ||| fld h.err.info.lcore 0 5))]

/-! ## Cluster block (20 R736, R738) -/

/-- CLU_CLK_STATUS (14 R572). -/
def clkStatus (x : Cluster) : Nat := bitAt x.holdover 4 ||| bitAt x.throttled 3 ||| fld x.step 0 3

/-- The register of a list at an offset: its value, and for the halves of a pair the pair. -/
structure RegRead where
  value : Nat
  /-- the pair and whether this is its low half -/
  pair : Option (W64 × Bool)
  deriving DecidableEq, Repr

/-- The register at an offset of a block. -/
def regIn (l : RegList) (o : Nat) : Option RegRead :=
  l.findSome? (fun (b, v) => match v with
    | .w n => if b = o then some { value := n % 2 ^ 32, pair := none } else none
    | .q x =>
      if b = o then some { value := x.toNat % 2 ^ 32, pair := some (x, true) }
      else if b + 4 = o then some { value := x.toNat / 2 ^ 32, pair := some (x, false) }
      else none)

/-- A block that reads as zero keeps its registers (20 R736; 03 R126). -/
def zeroed (closed : Bool) (r : Option RegRead) : Option RegRead :=
  if closed then r.map (fun x => { value := 0, pair := x.pair.map (fun p => (0, p.2)) }) else r

/-- The register at an offset of a cluster block. -/
def clusterReg (s : State) (c o : Nat) : Option RegRead :=
  let x := getClus s c
  let calmed := x.becalmed
  if o < 0x100 then
    regIn ([(0x10, .w x.disabled.toNat), (0x14, .w x.failed.toNat), (0x20, .w (clkStatus x))] ++
      (List.range 24).map (fun i => (0x40 + 4 * i, RegVal.w (mget 0x1F x.lmap i)))) o
  else if o < 0x200 then regIn (ffRegs 0x100 x.ff) o
  else if o < 0x400 then regIn (cmRegs s c) o
  else if o < 0x500 then regIn [(o / 4 * 4, .w (slotWord s c ((o - 0x400) / 4)))] o
  else if o < 0x1000 then none
  else if o < 0x2800 then
    let p := (o - 0x1000) / 0x100
    zeroed (calmed || x.disabled.getLsbD p) (regIn (coreRegs s (24 * c + p)) ((o - 0x1000) % 0x100))
  else if o < 0x3000 then none
  else if o < 0x4000 then zeroed calmed (regIn (strRegs s c) o)
  else if o < 0x6000 then zeroed calmed (regIn (streamRegs (getStream s c ((o - 0x4000) / 0x20))) ((o - 0x4000) % 0x20))
  else if o < 0x8000 then regIn (msgRegs s c) o
  else if o < 0xE000 then
    zeroed calmed (regIn (tqRegs (getTq (getCore s (24 * c + (o - 0x8000) / 0x400)) ((o - 0x8000) % 0x400 / 0x20))) ((o - 0x8000) % 0x20))
  else if o < 0xE100 then zeroed calmed (regIn (chanRegs (getChan s c ((o - 0xE000) / 0x40))) ((o - 0xE000) % 0x40))
  else none

/-! ## Partition block (20 R739) -/

/-- STATE of PART_STATUS (17 R659). -/
def partCode : PartState → Nat
  | .none => 0
  | .stopped => 1
  | .running => 2
  | .stopping => 3
  | .faulted => 4
  | .loading => 5

/-- The loader registers of a set from offset 0x100 on (02 R65). -/
def imgRegs (s : State) (g : ImgRegs) : RegList :=
  [(0x100, .q g.addr), (0x108, .w g.len.toNat), (0x110, .w 0), (0x114, .w (bitAt s.loader.isSome 31 ||| bitAt g.resultValid 16 ||| fld g.code 0 16)),
   (0x118, .w (g.section_ % 65536)), (0x11C, .w g.record_)] ++ wide128 0x120 g.imageId.toNat

/-- PART_PT_DATA for the page of PART_PT_INDEX (08 R347). -/
def ptDataWord (s : State) (x : Part) : Nat :=
  let e := getPte s x.pf.ptIndex
  fld e.state 30 2 ||| bitAt (resolving x x.pf.ptIndex) 29 ||| fld e.frame 0 19

/-- SAVE, DUMP or RESTORE runs (11 R463). -/
def detBusy (d : Det) : Bool := d.phase == 4 || d.phase == 5 || d.phase == 6

/-- STATE of PART_TWIN_STATUS (13 R544). -/
def twinCode (t : Twin) : Nat := if !twinOn t then 0 else if t.diverged then 2 else 1

/-- The digest ring (11 R463). -/
def digestRegs (d : Det) : RegList :=
  (List.range 16).flatMap (fun i =>
    let e := mget {} d.ring i
    [(0x500 + 0x20 * i, RegVal.q e.digest), (0x508 + 0x20 * i, .q e.step), (0x510 + 0x20 * i, .w e.calm.toNat), (0x514 + 0x20 * i, .w 0), (0x518 + 0x20 * i, .q e.seq)])

/-- The registers of a partition block. -/
def partRegs (s : State) (p : Nat) : RegList :=
  let x := getPart s p
  let d := x.det
  let t := x.twin
  let e := t.err.info
  [(0x00, .w 0), (0x04, .w (fld x.code 16 16 ||| bitAt x.resultValid 15 ||| bitAt x.degraded 7 ||| bitAt x.stopPending 6 ||| bitAt x.kept 4 ||| partCode x.state)),
   (0x08, .w x.clusters.toNat), (0x0C, .w x.stopDeadline), statReg 0x10 x.starts] ++
  imgRegs s x.img ++
  [(0x200, .w x.pf.ptIndex), (0x204, .w (ptDataWord s x)), (0x208, .w x.pf.deadline),
   (0x210, .w (match x.pf.queue with | q :: _ => 2 ^ 31 ||| fld q 0 19 | [] => 0)), (0x214, .w 0), (0x218, .w x.pf.queue.length),
   statReg 0x300 x.nondet, (0x310, .w x.gatherDeadline), statReg 0x318 x.gatherFlushes] ++
  [(0x400, .q x.step), (0x408, .w (match d.calmLast with | some i => 2 ^ 31 ||| i.toNat | none => 0)), (0x410, .w 0),
   (0x414, .w (bitAt (detBusy d) 31 ||| bitAt d.resultValid 20 ||| fld d.phase 16 4 ||| fld d.code 0 16)), (0x418, .q d.saveAddr), (0x420, .q (BitVec.ofNat 64 d.saveRows))] ++
  wide128 0x430 d.equivId.toNat ++
  [statReg 0x440 d.excPf, statReg 0x448 d.excThrottle, statReg 0x450 d.excFreq, statReg 0x458 d.excPause, statReg 0x460 d.excFreeze,
   (0x480, .w (fld d.digCount 8 5 ||| fld d.digNewest 0 4))] ++ digestRegs d ++
  [statReg 0x700 x.collEsc, statReg 0x708 x.collPoison, (0x710, .w t.cfg.toNat), (0x714, .w t.deadline),
   (0x718, .w (fld (twinCode t) 30 2 ||| fld t.localRecs.length 16 5 ||| fld t.remoteRecs.length 8 5 ||| fld t.exports.length 0 5)), statReg 0x720 t.matched,
   (0x730, .w (latchBits t.err ||| fld e.code 0 16)), (0x738, .q e.step), (0x740, .w (e.ord.toNat <<< 16 ||| e.calm.toNat)), (0x748, .q e.localDig),
   (0x750, .q e.remoteDig), (0x758, .q e.time)] ++
  [(0x800, .w 0), (0x804, .w (bitAt (x.freq.pending.isSome && !x.freq.waitRelock) 8 ||| bitAt (x.freq.switching && !x.freq.quiet) 7 ||| fld (x.freq.pending.getD 0) 4 3 ||| fld x.freq.current 0 3)),
   statReg 0x808 x.freq.linkPause, (0x900, .w x.react.toNat)]

/-! ## Device global block (20 R740; 01 R31; 09 R399; 16 R658) -/

/-- MGT_FLASH_STATUS (16 R658). -/
def flashStatus (b : Breeze) : Nat :=
  bitAt b.flashErr 31 ||| maskOf 9 (fun i => bothValid b (i + 1)) <<< 16 ||| maskOf 9 (fun i => bankInForce b (i + 1) == some 1)

/-- MGT_BOOT_STATUS (16 R658). -/
def bootStatus (b : Breeze) : Nat :=
  bitAt b.mainUp 31 ||| bitAt b.identityOk 30 ||| bitAt b.waived 29 ||| bitAt b.logWrapped 28 ||| fld b.bstate 24 4 ||| fld b.stage 16 8 ||| fld b.code 0 16

/-- A mask of partitions that satisfy a condition. -/
def partMask (s : State) (f : Part → Bool) : Nat := maskOf 16 (fun p => f (getPart s p))

/-- DEV_STATUS, as port `h` reads it (20 R740). -/
def devStatus (s : State) (h : Nat) : Nat :=
  bitAt s.ff.latch.valid 31 ||| bitAt s.pwr.thermtrip 30 ||| bitAt s.time.trusted 29 ||| bitAt (s.loaded.lsize != 0) 28 ||| bitAt s.loader.isSome 27 |||
    bitAt (h == s.hp.primary) 26 ||| fld h 25 1 ||| partMask s (fun x => x.state == .faulted)

/-- The registers of the device global block below the multicast groups. -/
def devRegs (s : State) (h : Nat) : RegList :=
  let b := s.brz
  [(0x00, .w 0x88645200), (0x04, .w (if s.b0 then 0xB0 else 0xA0))] ++ wide128 0x08 (if b.identityOk then b.serial.toNat else 0) ++
  [(0x20, .w (fld s.loaded.lsize 16 8 ||| fld b.gradePer 8 8 ||| fld b.gradeLetter 0 8)), (0x30, .w (fld s.self 0 10)), (0x40, .w s.ifRom), (0x44, .w b.ifBreeze), (0x48, .w b.ifEddy), (0x4C, .w 0x03010002),
   (0x50, .w (devStatus s h)), (0x54, .w (partMask s (fun x => x.degraded))), (0x58, .w (partMask s (fun x => x.state == .running))),
   (0x60, .w s.hp.p0.scratch.toNat), (0x64, .w s.hp.p1.scratch.toNat)] ++
  imgRegs s s.img ++
  [(0x200, .w (bootStatus b)), (0x204, .w (fld b.pair.2.1 8 8 ||| fld b.pair.1 0 8)), (0x208, .w b.pair.2.2.1), (0x20C, .w b.pair.2.2.2),
   (0x210, .w (flashStatus b)), (0x214, .w b.logSeq.toNat)]

/-- The register at an offset of the device global block. -/
def devReg (s : State) (h o : Nat) : Option RegRead :=
  if o < 0x400 then regIn (devRegs s h) o
  else if o < 0x800 then regIn (groupRegs (mget {} s.groups ((o - 0x400) / 0x10))) ((o - 0x400) % 0x10)
  else none

/-! ## Faults, time, power, fabric, host ports -/

/-- The faults block (18 R701, R702). -/
def faultRegs (s : State) : RegList :=
  let rej (p : Nat) : RegList :=
    let x := getPort s p
    let i := x.rej.info
    [(0x100 + 0x20 * p, .w (latchBits x.rej ||| fld i.reason 24 4 ||| fld i.offset 0 23)), (0x104 + 0x20 * p, .w i.data.toNat), statReg (0x108 + 0x20 * p) x.rejCount]
  ffRegs 0 s.ff ++ rej 0 ++ rej 1 ++ [statReg 0x180 s.stagingDrops]

/-- Nanoseconds of the counter from a value that it held to now: steps move the value with the counter, and the counter wraps (14 R557). -/
def TimeBlk.since (t : TimeBlk) (v : Nat) : Nat := (t.now - BitVec.ofNat 64 v).toNat

/-- DRIFT (14 R563; 19 R724). -/
def drift (t : TimeBlk) : Nat :=
  let rate := if t.refclkLost || t.standby then t.ppbRef else t.ppbSync
  let grown := rate * t.since t.untrustedSince / 1000000000
  if t.freeRun then (if t.refclkLost then min grown 0xFFFFFFFF else 0)
  else if !t.everTrusted then 0xFFFFFFFF
  else if t.trusted then t.offset.natAbs
  else min (t.offset.natAbs + grown) 0xFFFFFFFF

/-- The time block (14 R570). -/
def timeRegs (s : State) : RegList :=
  let t := s.time
  [(0x00, .q t.now),
   (0x08, .w (fld (t.slave.getD 0) 6 2 ||| bitAt t.slave.isSome 5 ||| bitAt t.refclkLost 4 ||| bitAt t.everTrusted 3 ||| bitAt (!t.trusted && t.everTrusted) 2 |||
     bitAt t.freeRun 1 ||| bitAt t.trusted 0)),
   (0x0C, .w (sfld t.offset 0 32)), (0x10, .w (drift t)), (0x14, .w (sfld t.adj 0 32)), (0x18, .w (bitAt t.ppsEn 1 ||| bitAt t.freeRun 0)), (0x1C, .w t.syncTimeout),
   (0x20, .w (fld t.ppbRef 16 16 ||| fld t.ppbSync 0 16)), (0x28, .q t.capture), (0x30, .w t.captureSeq.toNat), statReg 0x38 t.untrustCount, statReg 0x40 t.steps,
   (0x48, .q (BitVec.ofNat 64 (sfld t.lastStep 0 64))),
   (0x50, .w (bitAt t.xtalLost 3 ||| bitAt s.hp.p1.refLost 2 ||| bitAt s.hp.p0.refLost 1 ||| bitAt t.refclkLost 0))]

/-- The power block (19 R730). -/
def powerRegs (s : State) : RegList :=
  let p := s.pwr
  [(0x00, .w (bitAt p.thermtrip 31 ||| bitAt (!p.stagger.isEmpty) 30 ||| fld p.tjMax 0 12)), (0x04, .w (maskOf 32 (fun c => (getClus s c).becalmed))),
   (0x08, .w (maskOf 32 (fun c => (getClus s c).throttled))), (0x0C, .w (fld p.cause 4 4 ||| fld p.kind 0 4))] ++
  (List.range 34).map (fun i => (0x100 + 4 * i, match p.tj.find? (fun e => e.1 == i) with
    | some e => RegVal.w (2 ^ 31 ||| sfld e.2 0 16)
    | none => .w 0))

/-- STATE of FAB_PEER_STATUS. -/
def peerCode : PeerState → Nat
  | .absent => 0
  | .syncing => 1
  | .open_ => 2
  | .fenced => 3

/-- The registers of a fabric port (12 R500). -/
def fabRegs (s : State) (f : Nat) : RegList :=
  let x := getFab s f
  [(0x00, .w (bitAt x.linkUp 31 ||| fld x.mode 29 2 ||| bitAt x.macsec 28 ||| bitAt x.ptpSlave 27 ||| fld x.laneLock.toNat 20 4 |||
     fld ((x.peers.filter (fun p => p.2.state == .open_)).length) 0 11)),
   (0x04, .w (bitAt x.adminDown 0)), statReg 0x10 x.txFrames, statReg 0x18 x.rxFrames, statReg 0x20 x.fecCorr, statReg 0x28 x.fecUncorr, statReg 0x30 x.rxBad,
   statReg 0x38 x.rxDiscard, statReg 0x40 x.retxCount, statReg 0x48 x.slips, statReg 0x50 x.txDrops,
   (0x60, .w (latchBits x.err ||| fld x.err.info.peer 16 10 ||| fld x.err.info.code 0 16)), (0x68, .q x.err.info.time)]

/-- The view of a peer context (12 R501). -/
def peerRegs (p : Peer) : RegList :=
  [(0x00, .w (fld (peerCode p.state) 30 2 ||| fld p.flow 24 6 ||| p.txNext.toNat)), (0x04, .w (fld p.txCredit 24 8 ||| p.txAcked.toNat)),
   (0x08, .w (fld p.held.length 24 8 ||| p.rxNext.toNat)), (0x0C, .w p.txSession.toNat), (0x10, .w (p.rxSession.getD 0).toNat),
   (0x14, .w (fld (p.kept.foldl (fun a t => max a t.retx) 0) 0 4))]

/-- The register at an offset of the fabric block (12 R500 to R502). -/
def fabReg (s : State) (o : Nat) : Option RegRead :=
  if o < 0x40000 then
    let f := o / 0x10000
    let b := o % 0x10000
    if b < 0x8000 then regIn (fabRegs s f) b else regIn (peerRegs (mget {} (getFab s f).peers ((b - 0x8000) / 0x20))) (b % 0x20)
  else
    let x := s.fab
    regIn [(0x40000, .w x.period), (0x40004, .w x.slack), (0x40008, .w (bitAt x.suspended 2 ||| bitAt x.holdover 1 ||| bitAt x.active 0)),
      statReg 0x40010 x.suspensions, statReg 0x40018 x.suspPeriods] o

/-- The registers of a host port (15 R607). -/
def portRegs (p : Port) : RegList :=
  [(0x00, .w (bitAt p.linkUp 31 ||| bitAt p.flit 30 ||| fld p.width 26 4 ||| fld (if p.d3 then 3 else 0) 24 2 ||| bitAt p.ats 23 ||| bitAt p.pri 22 ||| bitAt p.pasid 21 |||
     bitAt p.ide 20 ||| bitAt p.hold 19)),
   (0x04, .w (fld p.win 0 4)), (0x08, .w p.holdMs), statReg 0x10 p.replays, statReg 0x18 p.hResets, statReg 0x20 p.bar2Refused,
   (0x30, .w (latchBits p.err ||| fld p.err.info.code 0 16)), (0x38, .q p.err.info.addr)]

/-- STATE of HP_WR_STATUS (15 R609). -/
def ringCode : RingState → Nat
  | .off => 0
  | .polling => 1
  | .waitChan => 2
  | .waitSpace => 3
  | .heldRing => 4
  | .error => 5

/-- The registers of a ring (15 R609). -/
def ringRegs (x : Ring) : RegList :=
  [(0x00, .q x.wrBase), (0x08, .w (bitAt x.en 31 ||| fld x.sizeLog2 16 5 ||| fld x.burst 0 7)), (0x0C, .w x.pasid), (0x10, .q x.headSeq), (0x18, .q x.crBase),
   (0x20, .w (fld x.crSizeLog2 16 5 ||| fld x.vector 0 11)), (0x28, .q x.consAddr), (0x30, .q x.cseq), (0x38, .q x.resBase), (0x40, .w (fld (ringCode x.state) 28 4)),
   statReg 0x48 x.accepted, statReg 0x50 x.posted]

/-- The interrupt block of a partition (15 R608). -/
def intRegs (x : Part) : RegList :=
  [(0x00, .w (fld x.pfVec 16 11 ||| fld x.loadVec 0 11)), (0x04, .w (fld x.faultVec 16 11 ||| fld x.detVec 0 11)), (0x08, .w x.msixMod)]

/-- The register at an offset of the host-port blocks (15 R606 to R609). -/
def hostReg (s : State) (o : Nat) : Option RegRead :=
  if o < 0x1000 then
    regIn [(0x00, .w s.hp.primary), (0x04, .w (partMask s (fun x => x.owner == 1))), (0x08, .w (fld s.hp.devFaultVec 16 11 ||| fld s.hp.devLoadVec 0 11))] o
  else if o < 0x3000 then regIn (portRegs (getPort s ((o - 0x1000) / 0x1000))) (o % 0x1000)
  else if o < 0x4000 then none
  else if o < 0x4400 then regIn (intRegs (getPart s ((o - 0x4000) / 0x40))) (o % 0x40)
  else if o < 0x10000 then none
  else if o < 0x14000 then regIn (ringRegs (getRing s ((o - 0x10000) / 0x80))) (o % 0x80)
  else none

/-- The register at a BAR0 offset as port `h` reads it; none where no register occupies the offset (20 R737). -/
def regAt (s : State) (h o : Nat) : Option RegRead :=
  if o % 4 ≠ 0 then none
  else if o < 0x10000 then devReg s h o
  else if o < 0x20000 then regIn (partRegs s ((o - 0x10000) / 0x1000)) (o % 0x1000)
  else if o < 0x40000 then regIn (faultRegs s) (o - 0x20000)
  else if o < 0x48000 then regIn (timeRegs s) (o - 0x40000)
  else if o < 0x80000 then regIn (powerRegs s) (o - 0x48000)
  else if o < 0x100000 then fabReg s (o - 0x80000)
  else if o < 0x1000000 then hostReg s (o - 0x100000)
  else if o < 0x1200000 then clusterReg s ((o - 0x1000000) / 0x10000) (o % 0x10000)
  else none

end Sys2Proof.Machine
end

