-- ==== Sys2Proof/Machine/Saved.lean ====
section
/-! DEFINITION. The saved state of a partition: its rows, and their way back into the partition (11 R452 to R462; 10 R418). -/

namespace Sys2Proof.Machine

/-- A row of fields: byte offset, size in bytes, value. -/
def packRow (fs : List (Nat × Nat × Nat)) : Row :=
  BitVec.ofNat 4096 (fs.foldl (fun a (o, n, v) => a ||| (v % 2 ^ (8 * n)) <<< (8 * o)) 0)

/-- A little-endian field of a row. -/
def rowField (r : Row) (o n : Nat) : Nat := natBits r.toNat (8 * o) (8 * n)

/-- A Bool as a number. -/
def boolNat (b : Bool) : Nat := if b then 1 else 0

/-! ## Register rows (11 R460) -/

/-- One loop level in 16 bytes at an offset; none where the level is closed. -/
def loopFields (o : Nat) : Option LoopLevel → List (Nat × Nat × Nat)
  | some l => [(o, 4, l.count.toNat), (o + 4, 2, l.start), (o + 6, 2, l.stop), (o + 8, 1, 1)]
  | none => []

/-- Register row 0. Loop level 0 is the outermost (DEDUCED). -/
def regRow0 (s : State) (n : Nat) (c : Core) : Row :=
  packRow ((List.range 32).map (fun i => (8 * i, 8, (mget 0 c.x i).toNat)) ++
    (List.range 16).map (fun i => (0x100 + 8 * i, 8, if i = 0 then 2 ^ 64 - 1 else (mget 0 c.m i).toNat)) ++
    (List.range 4).flatMap (fun l => loopFields (0x180 + 16 * l) (c.loops.reverse[l]?)) ++
    [(0x1C0, 4, c.pc % 2 ^ 14), (0x1C4, 4, matModeWord s n c), (0x1C8, 4, c.mat.cur), (0x1CC, 4, c.mat.flags.toNat), (0x1D0, 4, c.vecFlags.toNat),
     (0x1D4, 4, c.seq.toNat), (0x1D8, 8, c.gcount.toNat), (0x1E0, 8, c.issued.toNat), (0x1E8, 1, boolNat c.packedFp16)])

/-- Register row 1: VALID of the accumulator entries. -/
def regRow1 (c : Core) : Row := BitVec.ofNat 4096 (maskOf 256 (fun e => (mget {} c.mat.acc e : AccEntry).valid))

/-- Register row 2 + k: V2k and V2k+1 (03 R84). -/
def regRowV (c : Core) (k : Nat) : Row := (mget 0 c.v (2 * k)).setWidth 4096 ||| (mget 0 c.v (2 * k + 1)).setWidth 4096 <<< 2048

/-- Register row 34 + k: the accumulator file in the mode in force. -/
def regRowAcc (c : Core) (k : Nat) : Row :=
  if c.mat.mode.accmode = 2 then (mget {} c.mat.acc (k / 2) : AccEntry).bits.extractLsb' (4096 * (k % 2)) 4096
  else
    let half (e : Nat) : Row := ((mget {} c.mat.acc e : AccEntry).bits.setWidth 2048).setWidth 4096
    half (2 * k) ||| half (2 * k + 1) <<< 2048

/-- The 162 register rows of a core. -/
def regRows (s : State) (n : Nat) : List Row :=
  let c := getCore s n
  [regRow0 s n c, regRow1 c] ++ (List.range 32).map (regRowV c) ++ (List.range 128).map (regRowAcc c)

/-! ## Flags, streams, rings, batches (11 R461, R462; 10 R418) -/

/-- Flag row k of a memory: VALID at bit 2r and OVF at bit 2r + 1 (11 R461). -/
def flagRow (valid ovf : SMap Bool) (k : Nat) : Row :=
  let bits (m : SMap Bool) (o : Nat) : Nat :=
    (m.filter (fun e => e.2 && decide (2048 * k ≤ e.1 ∧ e.1 < 2048 * (k + 1)))).foldl (fun a e => a ||| 2 ^ (2 * (e.1 - 2048 * k) + o)) 0
  BitVec.ofNat 4096 (bits valid 0 ||| bits ovf 1)

/-- The bytes of a register list as fields at an offset. -/
def regFields (o : Nat) (l : RegList) : List (Nat × Nat × Nat) :=
  l.map (fun (b, v) => match v with
    | .w x => (o + b, 4, x)
    | .q x => (o + b, 8, x.toNat))

/-- Stream row k: streams 8k to 8k + 7 (11 R462). -/
def streamRow (s : State) (c k : Nat) : Row :=
  packRow ((List.range 8).flatMap (fun b =>
    let t := getStream s c (8 * k + b)
    let consumed := match t.desc with | some d => consumerPos s c (8 * k + b) t d | none => 0
    regFields (64 * b) (streamRegs t) ++ [(64 * b + 32, 8, consumed), (64 * b + 40, 8, sfld t.base 0 64)]))

/-- The bits that a ring position of a buffer takes, counted from BASE. -/
def posBits (g : Guarded) : Nat := if g.length ≤ 1 then 0 else (g.length - 1).log2 + 1

/-- The ring positions of a cluster's buffers as one little-endian number: every consumer position in the order of the declarations, then every producer position, each from BASE in as many bits as its buffer needs (layout: DESIGN CHOICE). -/
def ringBits (gs : List Guarded) : Nat :=
  let put (pos : Guarded → Nat) (a : Nat × Nat) (g : Guarded) : Nat × Nat := (a.1 ||| (pos g - g.base) <<< a.2, a.2 + posBits g)
  (gs.foldl (put (·.prodPos)) (gs.foldl (put (·.consPos)) (0, 0))).1

/-- The guarded-buffer row: the first 4,096 bits of the ring positions; those that do not fit follow in the cluster header row (layout: DESIGN CHOICE). -/
def guardRow (s : State) (c : Nat) : Row := BitVec.ofNat 4096 (ringBits (getClus s c).str.buffers)

/-- The guarded buffers with the ring positions of a saved state, `valid` giving the VALID rows of a buffer. A producer position beyond the 8,128 bits that the rows hold follows from the consumer's and the count of VALID rows. -/
def restoredRings (bits : Nat) (valid : Guarded → Nat) (gs : List Guarded) : List Guarded :=
  let total := (gs.map posBits).sum
  (gs.foldl (fun (a : List Guarded × Nat) g =>
    let w := posBits g
    let cons := natBits bits a.2 w
    let prod := if total + a.2 + w ≤ 8128 then natBits bits (total + a.2) w else (cons + valid g) % g.length
    (a.1 ++ [{ g with consPos := g.base + cons, prodPos := g.base + prod }], a.2 + w)) ([], 0)).1

/-- A batch buffer in 59 bytes at an offset; GRETs that took effect are returns (layout: DESIGN CHOICE). -/
def bufFields (o : Nat) (size : Nat) (b : BatchBuf) : List (Nat × Nat × Nat) :=
  let returned := b.gret.foldl (fun a e => a ||| 2 ^ e.1) b.returned.toNat
  [(o, 1, bufCode b.state), (o + 1, 1, b.refs.length), (o + 2, 1, boolNat b.flush), (o + 3, 1, b.posted), (o + 4, 3, b.taken.toNat), (o + 7, 3, returned),
   (o + 10, 4, (b.refs.headD 0).toNat), (o + 14, 1, size), (o + 15, 4, b.deadline), (o + 19, 8, (b.seqs.headD 0).toNat), (o + 27, 8, b.batchSeq.toNat),
   (o + 35, 8, b.step.toNat), (o + 43, 8, b.tFirst.toNat), (o + 51, 8, b.tRelease.toNat)]

/-- The gatherer row: 128 bytes a channel (layout: DESIGN CHOICE). -/
def gatherRow (s : State) (c : Nat) : Row :=
  packRow ((List.range 4).flatMap (fun i =>
    let h := getChan s c i
    let size := (getRing s (ringOf c i)).sizeLog2
    bufFields (128 * i) size h.buf0 ++ bufFields (128 * i + 59) size h.buf1 ++ [(128 * i + 118, 8, h.seq.toNat)]))

/-- A logical core that takes part no more: it has ended, has failed or has no task. -/
def outOfPlay (s : State) (p c l : Nat) : Bool :=
  match physOf s c l with
  | some n => !isParticipant s p n
  | none => true

/-- The cluster header row: the cluster's number, the logical cores that take part no more, and from byte 8 on the ring positions that the guarded-buffer row has no room for (layout: DESIGN CHOICE). -/
def clusterHeader (s : State) (p c : Nat) : Row :=
  packRow [(0, 1, c), (4, 4, maskOf s.loaded.lsize (outOfPlay s p c)), (8, 504, ringBits (getClus s c).str.buffers >>> 4096)]

/-- A cluster-memory row as it is saved: an accepted request row that waits for its slot counts as written (10 R418). -/
def savedCm (s : State) (c row : Nat) : Row :=
  let waits (h : Channel) (k : Nat) : Option Row := ((getBuf h k).waiting.find? (fun w => requestRow h k w.1 == row)).map (·.2)
  let found := (List.range 4).findSome? (fun i =>
    let h := getChan s c i
    if h.en then (waits h 0).or (waits h 1) else none)
  found.getD (if (cmPower s c (cmBank row)).ready then cmRow s c row else Config.lostRow (s.free + cmAddr c row))

/-- A scratchpad row as it is saved; the contents of a bank without power are lost (07 R282). -/
def savedSp (s : State) (n row : Nat) : Row := if (spPower s n (spBank row)).ready then spRow s n row else Config.lostRow (s.free + spAddr n row)

/-- The saved rows of a logical core. -/
def savedCore (s : State) (c l : Nat) : List Row :=
  match physOf s c l with
  | some n => regRows s n ++ (List.range 32768).map (savedSp s n) ++ (List.range 16).map (flagRow (getCore s n).mem.valid (getCore s n).mem.ovf)
  | none => List.replicate 32946 0

/-- The saved rows of a cluster (11 R458). -/
def savedCluster (s : State) (p c : Nat) : List Row :=
  [clusterHeader s p c, gatherRow s c, guardRow s c] ++ (List.range 32).map (streamRow s c) ++ (List.range s.loaded.lsize).flatMap (savedCore s c) ++
    (List.range 262144).map (savedCm s c) ++ (List.range 128).map (flagRow (getClus s c).mem.valid (getClus s c).mem.ovf)

/-- Sixteen-byte headers in rows of 32. -/
def headerRows (k : Nat) (hs : List Header) : List Row :=
  (List.range k).map (fun i => packRow (((hs.drop (32 * i)).take 32).zipIdx.map (fun (h, j) => (16 * j, 16, h.toNat))))

/-- A list of rows at a fixed length. -/
def padRows (k : Nat) (rs : List Row) : List Row := rs.take k ++ List.replicate (k - rs.length) 0

/-- The rows that a dump appends for a logical core (11 R452). -/
def dumpedCore (s : State) (c l : Nat) : List Row :=
  match physOf s c l with
  | some n =>
    let k := getCore s n
    let es := (List.range 32).flatMap (fun t => (getTq k t).entries)
    padRows 256 (es.map (fun e => e.row.getD 0)) ++ headerRows 8 (es.map (fun e => e.header)) ++
      padRows 8 (k.outq.map (fun m => m.row)) ++ headerRows 1 (k.outq.map (fun m => m.header)) ++
      (List.range 4).flatMap (fun i => padRows 4 ((getSp k i).rows.map (·.1)))
  | none => List.replicate 289 0

/-- Rows 1 and on of a saved state. -/
def savedBody (s : State) (p : Nat) (dump : Bool) : List Row :=
  (clustersOf s p).flatMap (savedCluster s p) ++
    (if dump then (clustersOf s p).flatMap (fun c => (List.range s.loaded.lsize).flatMap (dumpedCore s c)) else [])

/-- The bytes of rows. -/
def rowsBytes (rs : List Row) : List Byte := rs.flatMap (fun r => natBytes 512 r.toNat)

/-- Rows of a dump beyond those of a calm save. -/
def dumpExtra (s : State) (p : Nat) : Nat := 289 * s.loaded.lsize * (clustersOf s p).length

/-- MAGIC: ASCII "COLOBSAV". -/
def saveMagic : Nat := 0x564153424F4C4F43

/-- The partition header row (11 R459). -/
def savedHeader (s : State) (p : Nat) (dump : Bool) (body : List Row) : Row :=
  let x := getPart s p
  packRow [(0, 8, saveMagic), (8, 2, 0x0100), (0xA, 1, if dump then 2 else 1), (0xB, 1, p), (0xC, 1, s.loaded.lsize), (0x10, 4, x.clusters.toNat),
    (0x18, 8, body.length + 1), (0x20, 16, x.det.equivId.toNat), (0x30, 8, x.step.toNat), (0x38, 2, (x.det.calmLast.getD 0).toNat), (0x40, 8, x.det.saveTime.toNat),
    (0x48, 8, x.det.digSeq.toNat), (0x80, 64, shakeNat (rowsBytes body))]

/-- The saved state of a partition (11 R458). -/
def savedState (s : State) (p : Nat) (dump : Bool) : List Row :=
  let body := savedBody s p dump
  savedHeader s p dump body :: body

/-- Rows written to device memory from an address on. -/
def writeRows (s : State) (addr : Nat) : List Row → State
  | [] => s
  | r :: rest => writeRows (setDmRow s addr r) (addr + 512) rest

/-- A row of the partition's scratchpads or cluster memories holds an uncorrectable codeword. -/
def partBad (s : State) (p : Nat) : Bool :=
  (partCores s p).any (fun n => (getCore s n).mem.ecc.any (fun e => e.2.bad != 0)) || (clustersOf s p).any (fun c => (getClus s c).mem.ecc.any (fun e => e.2.bad != 0))

/-- The codewords that a SAVE or DUMP corrects as it reads a partition's memories are counted (07 R277). -/
def countSaved (s : State) (p : Nat) : State :=
  let s1 := (partCores s p).foldl (fun a n => (getCore s n).mem.ecc.foldl (fun b e => countCorrSp b n e.1) a) s
  useFree ((clustersOf s p).foldl (fun a c => (getClus s c).mem.ecc.foldl (fun b e => countCorrCm b c e.1) a) s1)

/-! ## The way back (11 R454, R455) -/

/-- Row `i` of a saved state in device memory. -/
def storedRow (s : State) (addr i : Nat) : Row := readRow s.dmMem (addr + 512 * i)

/-- A loop level from its 16 bytes. -/
def loopOf (r : Row) (o : Nat) : Option LoopLevel :=
  if rowField r (o + 8) 1 = 1 then some { count := BitVec.ofNat 32 (rowField r o 4), start := rowField r (o + 4) 2, stop := rowField r (o + 6) 2 } else none

/-- The accumulator file from its rows. -/
def restoredAcc (at_ : Nat → Row) (long : Bool) : SMap AccEntry :=
  (List.range (if long then 64 else 256)).map (fun e =>
    let bits : AccBits :=
      if long then (at_ (34 + 2 * e)).setWidth 8192 ||| (at_ (35 + 2 * e)).setWidth 8192 <<< 4096
      else ((at_ (34 + e / 2)).extractLsb' (2048 * (e % 2)) 2048).setWidth 8192
    (e, { bits := bits, valid := (at_ 1).getLsbD e }))

/-- The flags of a memory from its flag rows: VALID (o = 0) or OVF (o = 1). -/
def flagsOf (rows : List Row) (o : Nat) : SMap Bool :=
  rows.zipIdx.flatMap (fun (r, k) => ((List.range 2048).filter (fun j => r.getLsbD (2 * j + o))).map (fun j => (2048 * k + j, true)))

/-- The tag queues of a restored core: open and empty, at POSITION 0; closed where the core takes part no more (09 R372, R377). -/
def restoredQueues (c : Core) (out : Bool) : SMap TagQueue :=
  c.tq.map (fun q => (q.1, if q.2.bound && q.2.state != .fenced then { q.2 with state := if out then .closed else .opened, position := 0, entries := [], taken := 0 } else q.2))

/-- A core with its register rows restored; `at_` gives row `i` of the core's rows. -/
def restoredCore (c : Core) (at_ : Nat → Row) (out : Bool) : Core :=
  let r := at_ 0
  let mode := rowField r 0x1C4 4
  { c with
    x := (List.range 32).map (fun i => (i, BitVec.ofNat 64 (rowField r (8 * i) 8)))
    m := (List.range 16).map (fun i => (i, BitVec.ofNat 64 (rowField r (0x100 + 8 * i) 8)))
    v := (List.range 64).map (fun i => (i, (at_ (2 + i / 2)).extractLsb' (2048 * (i % 2)) 2048))
    loops := ((List.range 4).filterMap (fun l => loopOf r (0x180 + 16 * l))).reverse
    pc := rowField r 0x1C0 4
    issued := BitVec.ofNat 64 (rowField r 0x1E0 8)
    gcount := BitVec.ofNat 64 (rowField r 0x1D8 8)
    seq := BitVec.ofNat 16 (rowField r 0x1D4 4)
    vecFlags := BitVec.ofNat 6 (rowField r 0x1D0 4)
    packedFp16 := rowField r 0x1E8 1 == 1
    state := if c.fenced || c.state == .disabled || c.state == .noTask then c.state else if out then .ended else .stopped
    cause := .none
    slot := 0
    calm := none
    ending := false
    release := false
    inflight := []
    late := []
    outq := []
    sp := c.sp.map (fun q => (q.1, { q.2 with rows := [], taken := 0 }))
    tq := restoredQueues c out
    mat := { c.mat with
      mode := { format := natBits mode 0 4, accmode := natBits mode 4 2, systolic := mode.testBit 6, eLo := signedOf 10 (natBits mode 8 10) }
      acc := restoredAcc at_ (natBits mode 4 2 == 2)
      cur := rowField r 0x1C8 4
      flags := BitVec.ofNat 3 (rowField r 0x1CC 4)
      set0 := {}, set1 := {}, elastic := [], landed := [], debts := [] }
    mem := { c.mem with
      valid := flagsOf ((List.range 16).map (fun k => at_ (162 + 32768 + k))) 0
      ovf := flagsOf ((List.range 16).map (fun k => at_ (162 + 32768 + k))) 1
      ecc := [], moves := [], landing := [], remote := [], arriving := none, reply := none, rrdSent := false } }

/-- The rows of a scratchpad written from the saved state. -/
def restoreSp (s : State) (n : Nat) (at_ : Nat → Row) : State := (List.range 32768).foldl (fun a i => setSpRow a n i (at_ (162 + i))) s

/-- The row number of an index vector. -/
def rowOfIndex (d : StreamDesc) (idx : List Nat) : Nat := (d.counts.zip idx).foldr (fun (c, i) a => i + c * a) 0

/-- A stream from its block: a halted one translates its row again; a DIR 0 stream into a port reads the rows again that the port had not given to the program (11 R455, R462; DEDUCED). -/
def restoredStream (t : Stream) (r : Row) (o : Nat) : Stream :=
  let w0 := rowField r o 4
  let state : StrState := match natBits w0 28 4 with
    | 1 => .running
    | 2 => .running
    | 3 => .faulted
    | 4 => .done
    | _ => .idle
  let delivered := rowField r (o + 0x18) 8
  let consumed := rowField r (o + 32) 8
  match t.desc with
  | none => t
  | some d =>
    let idx := [rowField r (o + 4) 2, rowField r (o + 6) 2, rowField r (o + 8) 2, rowField r (o + 10) 2, rowField r (o + 12) 2]
    let j := rowOfIndex d idx
    let full := state == .done || (j == 0 && decide (streamRows d ≤ delivered))
    let next := if full then streamRows d else j
    let again := !d.dirOut && d.nearKind == 3 && decide (consumed < delivered)
    { desc := t.desc
      state := if again && state != .faulted then .running else state
      reason := if state = .faulted then natBits w0 16 8 else 0
      next := if again then consumed else next
      base := signedOf 64 (rowField r (o + 40) 8)
      delivered := if again then consumed else delivered
      consumed := consumed }

/-- BUF0 and BUF1 from their codes. -/
def bufStateOf : Nat → BufState
  | 1 => .forming
  | 2 => .released
  | 3 => .held
  | _ => .free

/-- A batch buffer from its bytes: the entries of a batch follow one another. -/
def restoredBuf (r : Row) (o : Nat) : BatchBuf :=
  let count := rowField r (o + 1) 1
  let first := rowField r (o + 10) 4
  let size := rowField r (o + 14) 1
  let seq := rowField r (o + 19) 8
  { state := bufStateOf (rowField r o 1)
    refs := (List.range count).map (fun i => BitVec.ofNat 32 (first / 2 ^ 24 * 2 ^ 24 + (first % 2 ^ 24 + i) % 2 ^ size))
    seqs := (List.range count).map (fun i => BitVec.ofNat 64 (seq + i))
    waiting := []
    tFirst := BitVec.ofNat 64 (rowField r (o + 43) 8)
    deadline := rowField r (o + 15) 4
    flush := rowField r (o + 2) 1 == 1
    batchSeq := BitVec.ofNat 64 (rowField r (o + 27) 8)
    step := BitVec.ofNat 64 (rowField r (o + 35) 8)
    tRelease := BitVec.ofNat 64 (rowField r (o + 51) 8)
    taken := BitVec.ofNat 24 (rowField r (o + 4) 3)
    returned := BitVec.ofNat 24 (rowField r (o + 7) 3)
    posted := rowField r (o + 3) 1 }

/-- A logical core restored; `at_` gives the rows of its cluster. -/
def restoreCoreRows (L : Nat) (at_ : Nat → Row) (c : Nat) (s : State) (l : Nat) : State :=
  match physOf s c l with
  | some n =>
    let mine (i : Nat) : Row := at_ (35 + 32946 * l + i)
    let out := decide (l < L) && (rowField (at_ 0) 4 4).testBit l
    restoreSp (modCore s n (fun k => restoredCore k mine out)) n mine
  | none => s

/-- A cluster restored; `at_` gives its rows. -/
def restoreCluster (L : Nat) (at_ : Nat → Row) (s : State) (c : Nat) : State :=
  let s1 := (List.range L).foldl (restoreCoreRows L at_ c) s
  let cm := 35 + 32946 * L
  let flags := (List.range 128).map (fun k => at_ (cm + 262144 + k))
  let s2 := (List.range 262144).foldl (fun a i => setCmRow a c i (at_ (cm + i))) s1
  modClus s2 c (fun x => { x with
    remoteIn := []
    mem := { x.mem with valid := flagsOf flags 0, ovf := flagsOf flags 1, ecc := [] }
    chans := x.chans.map (fun e => (e.1, { e.2 with buf0 := restoredBuf (at_ 1) (128 * e.1), buf1 := restoredBuf (at_ 1) (128 * e.1 + 59),
                                                     seq := BitVec.ofNat 64 (rowField (at_ 1) (128 * e.1 + 118) 8) }))
    str := { x.str with
      gddr := []
      host := []
      ringOwed := 0
      streams := x.str.streams.map (fun e => (e.1, restoredStream e.2 (at_ (3 + e.1 / 8)) (64 * (e.1 % 8))))
      buffers := restoredRings ((at_ 2).toNat ||| rowField (at_ 0) 8 504 <<< 4096)
        (fun g => bufferHeld (modClus s2 c (fun x => modCMem x (fun m => { m with valid := flagsOf flags 0 }))) c g) x.str.buffers } })

/-- The partition with a saved state written into it (11 R454). -/
def restoreState (s : State) (p addr : Nat) : State :=
  let L := s.loaded.lsize
  let size := 262307 + 32946 * L
  let s1 := (clustersOf s p).zipIdx.foldl (fun a (c, k) => restoreCluster L (fun i => storedRow s addr (1 + size * k + i)) a c) s
  let h := storedRow s addr 0
  modPart s1 p (fun x => { x with
    step := BitVec.ofNat 64 (rowField h 0x30 8)
    kept := true
    restored := true
    calm := none
    calmHeld := false
    twin := { emptyTwin x.twin with ord := 0 }
    det := { x.det with digSeq := BitVec.ofNat 64 (rowField h 0x48 8), calmLast := some (BitVec.ofNat 16 (rowField h 0x38 2)) } })

/-- The scratchpads and cluster memories of a list of clusters at zero, with their VALID, OVF and error marks (07 R284). -/
def scrubClusters (s : State) (cs : List Nat) : State :=
  let s1 := (cs.flatMap coresOf).foldl (fun a n =>
    modCore { a with spMem := clearRange a.spMem (spAddr n 0) 16777216 } n (fun c => modMem c (fun m => { m with valid := [], ovf := [], ecc := [] }))) s
  cs.foldl (fun a c =>
    modClus { a with cmMem := clearRange a.cmMem (cmAddr c 0) 134217728 } c (fun x => modCMem x (fun m => { m with valid := [], ovf := [], ecc := [] }))) s1

/-- The scrub of a partition (11 R457; 19 R729). -/
def scrubPart (s : State) (p : Nat) : State := scrubClusters s (clustersOf s p)

/-- The check of R454 and R457 that fails first; none where every check passes. -/
def restoreError (s : State) (p : Nat) : Option Nat :=
  let x := getPart s p
  let addr := x.det.saveAddr.toNat
  let h := storedRow s addr 0
  if rowField h 0 8 ≠ saveMagic ∨ rowField h 8 2 ≠ 0x0100 ∨ rowField h 0xA 1 ≠ 1 then some 0x0084
  else if rowField h 0x80 64 ≠ shakeNat (rowsBytes ((List.range (rowField h 0x18 8 - 1)).map (fun i => storedRow s addr (i + 1)))) then some 0x0085
  else if rowField h 0xB 1 ≠ p ∨ rowField h 0xC 1 ≠ s.loaded.lsize ∨ rowField h 0x10 4 ≠ x.clusters.toNat ∨ rowField h 0x20 16 ≠ x.det.equivId.toNat then some 0x0086
  else if rowField h 0x18 8 ≠ x.det.saveRows then some 0x0087
  else if s.dmBad.any (fun b => b.2 && decide (addr ≤ 512 * b.1 ∧ 512 * b.1 < addr + 512 * x.det.saveRows)) then some 0x0088
  else none

end Sys2Proof.Machine
end

