-- ==== Sys2Proof/Machine/Determ.lean ====
section
/-! DEFINITION. Pause, freeze, save, dump and restore: the commands of PART_DET_CMD and what ends them (11 R446 to R457; 17 R671). -/

namespace Sys2Proof.Machine

/-- A command of PART_DET_CMD ends: RESULT_VALID, CODE, and an event of DET_VEC (11 R457, R463; 15 R598). -/
def detEnd (s : State) (p code : Nat) : State :=
  partEvent (modPart s p (fun x => { x with det := { x.det with resultValid := true, code := code } })) p (·.detVec)

/-- A command of PART_DET_CMD given by a host port (11 R446, R463). -/
def detCmd (h p op : Nat) (act : State → State) (s : State) : Res :=
  hostCmd s h (partOff p 0x410) (BitVec.ofNat 32 op) (partDenied s h p) act

/-- The cores of a partition issue: RUNNING or STOPPING (17 R659). -/
def partIsUp (x : Part) : Bool := x.state == .running || x.state == .stopping

/-- The code with which a command ends that its PHASE or its partition's state does not allow; 0 where it is allowed (11 R446, R457). -/
def detRefusal (x : Part) (phases : List Nat) : Nat :=
  if x.state = .faulted then (if phases.contains x.det.phase then 0x0089 else 0x0080)
  else if phases.contains x.det.phase && partIsUp x then 0
  else 0x0080

/-- A command that runs where it is allowed and ends at once. -/
def detNow (s : State) (p : Nat) (phases : List Nat) (act : State → State) : State :=
  let code := detRefusal (getPart s p) phases
  if code = 0 then detEnd (act s) p 0 else detEnd s p code

/-- PHASE set. -/
def setPhase (s : State) (p phase : Nat) : State := modPart s p (fun x => { x with det := { x.det with phase := phase } })

/-- Every forming batch of a partition runs its deadline in full from now, one that its deadline had closed too (10 R418). -/
def restartBatches (s : State) (p : Nat) : State :=
  let now := nowNs s
  let f (b : BatchBuf) : BatchBuf := if b.state = .forming then { b with runFrom := now, flush := false } else b
  (clustersOf s p).foldl (fun a c => modClus a c (fun x => { x with chans := x.chans.map (fun e => (e.1, { e.2 with buf0 := f e.2.buf0, buf1 := f e.2.buf1 })) })) s

/-- PAUSE (11 R446, R447). -/
def execPause (h : Fin 2) (p : PartId) (s : State) : Res :=
  detCmd h.val p.val 0x01 (fun t => detNow t p.val [0] (fun u => setPhase u p.val 1)) s

/-- CONTINUE: from 1 it cancels the pause, from 2 it completes R114 from its third item (11 R446). -/
def continuePart (s : State) (p : Nat) : State :=
  if (getPart s p).det.phase = 1 then setPhase s p 0
  else finishCalm (restartBatches (setPhase s p 0) p) p

/-- CONTINUE (11 R446). -/
def execContinue (h : Fin 2) (p : PartId) (s : State) : Res :=
  detCmd h.val p.val 0x02 (fun t => detNow t p.val [1, 2] (fun u => continuePart u p.val)) s

/-- A time from which a deadline runs, extended by the part of a freeze that it has seen (11 R450). -/
def thawed (began now t : Nat) : Nat := t + (now - max began t)

/-- The deadlines of a cluster extended by the length of a freeze (11 R450). -/
def extendCluster (began now : Nat) (x : Cluster) : Cluster :=
  let f := thawed began now
  let buf (b : BatchBuf) : BatchBuf := if b.state = .forming then { b with runFrom := f b.runFrom } else b
  { x with
    str := { x.str with streams := x.str.streams.map (fun e => (e.1, if e.2.state = .halted then { e.2 with haltTime := f e.2.haltTime } else e.2)) }
    msg := { x.msg with
      combine := x.msg.combine.map (fun e => (e.1, { e.2 with firstTime := e.2.firstTime.map f })) }
    chans := x.chans.map (fun e => (e.1, { e.2 with buf0 := buf e.2.buf0, buf1 := buf e.2.buf1 })) }

/-- The refusals of a core's queues, extended by the length of a freeze (09 R388; 11 R450). -/
def extendCore (began now : Nat) (c : Core) : Core :=
  { c with tq := c.tq.map (fun e => (e.1, { e.2 with refusing := e.2.refusing.map (fun r => (r.1, (thawed began now r.2.1, r.2.2))) })) }

/-- The deadlines of a cluster and of its cores' queues, extended by the length of a freeze (11 R450). -/
def extendDeadlines (s : State) (c began now : Nat) : State :=
  (coresOf c).foldl (fun a n => if (getCore a n).tq.isEmpty then a else modCore a n (extendCore began now)) (modClus s c (extendCluster began now))

/-- The stops of a partition's clocks counted up to now: their deadlines so far are made good, since the freeze's own rule takes over or hands back here (14 R554; 11 R450). -/
def settleStops (s : State) (p : Nat) (extend : Bool) : State :=
  let now := nowNs s
  let q := (getPart s p).freq
  let f (a : State) (c : Nat) : State :=
    match (getClus a c).gated with
    | some t => modClus (if extend then extendDeadlines a c t now else a) c (fun x => { x with gated := some now })
    | none => if extend && q.gated && switchesWith (getClus a c) then extendDeadlines a c q.gatedAt now else a
  modPart ((clustersOf s p).foldl f s) p (fun x => { x with freq := { x.freq with gatedAt := now } })

/-- A partition freezes: PHASE 3, its excursion counted (11 R446, R449). -/
def freezePart (s : State) (p : Nat) : State :=
  modPart (settleStops s p true) p (fun x => { x with det := { x.det with phase := 3, backPhase := x.det.phase, freezeTime := nowNs s, excFreeze := x.det.excFreeze.bump } })

/-- FREEZE (11 R446, R449). -/
def execFreeze (h : Fin 2) (p : PartId) (s : State) : Res :=
  detCmd h.val p.val 0x03 (fun t => detNow t p.val [0, 1] (fun u => freezePart u p.val)) s

/-- A frozen partition goes on: the PHASE before FREEZE returns, and the deadlines are extended (11 R446, R450). -/
def thawPart (s : State) (p : Nat) : State :=
  let d := (getPart s p).det
  let s1 := (clustersOf s p).foldl (fun a c => extendDeadlines a c d.freezeTime (nowNs s)) s
  calmCheck (setPhase (settleStops s1 p false) p d.backPhase) p

/-- THAW (11 R446). -/
def execThaw (h : Fin 2) (p : PartId) (s : State) : Res :=
  detCmd h.val p.val 0x04 (fun t => detNow t p.val [3] (fun u => thawPart u p.val)) s

/-- 768 GiB, the end of device memory (08 R312). -/
def dmEnd : Nat := 824633720832

/-- Two ranges, each an address and a length, meet. -/
def rangesMeet (a n b m : Nat) : Bool := decide (a < b + m ∧ b < a + n)

/-- The range of a saved state is not allowed: code 0x0082 (11 R457). -/
def saveRangeBad (s : State) (p rows : Nat) : Bool :=
  let addr := (getPart s p).det.saveAddr.toNat
  let n := 512 * rows
  decide (addr % 4096 ≠ 0 ∨ dmEnd < addr + n) ||
    (List.range 16).any (fun q => q != p && partIsUp (getPart s q) && rangesMeet addr n (getPart s q).dmBase ((getPart s q).dmLimit - (getPart s q).dmBase)) ||
    (match s.loader with
     | some l => rangesMeet addr n l.addr l.len
     | none => false)

/-- SAVE, DUMP or RESTORE begins: its range closes to both host ports (11 R451). -/
def beginRows (s : State) (p phase rows : Nat) : State :=
  let x := getPart s p
  modPart { s with closedRanges := (p, x.det.saveAddr.toNat, 512 * rows) :: s.closedRanges } p (fun x =>
    { x with det := { x.det with phase := phase, backPhase := if phase = 6 then x.det.backPhase else x.det.phase, saveTime := s.time.now } })

/-- Its end: the range opens. -/
def endRows (s : State) (p phase code : Nat) : State :=
  detEnd (setPhase { s with closedRanges := s.closedRanges.filter (fun r => r.1 != p) } p phase) p code

/-- SAVE: valid while paused, and while STOPPED with start point KEPT (11 R446, R451; 17 R671). -/
def savePart (s : State) (p : Nat) : State :=
  let x := getPart s p
  if !(x.det.phase = 2 || (x.det.phase = 0 && x.state = .stopped && x.kept)) then detEnd s p 0x0080
  else if x.state = .faulted then detEnd s p 0x0089
  else if saveRangeBad s p x.det.saveRows then detEnd s p 0x0082
  else beginRows s p 4 x.det.saveRows

/-- SAVE (11 R446, R451). -/
def execSave (h : Fin 2) (p : PartId) (s : State) : Res := detCmd h.val p.val 0x05 (fun t => savePart t p.val) s

/-- SAVE_END: the saved state stands in device memory from PART_SAVE_ADDR on (11 R451, R457, R458). -/
def execSaveEnd (p : PartId) (s : State) : Res :=
  let x := getPart s p.val
  if x.det.phase ≠ 4 then .next s
  else if partBad s p.val then .next (endRows s p.val x.det.backPhase 0x0088)
  else .next (endRows (countSaved (writeRows s x.det.saveAddr.toNat (savedState s p.val false)) p.val) p.val x.det.backPhase 0)

/-- DUMP: valid while frozen (11 R446, R452). -/
def dumpPart (s : State) (p : Nat) : State :=
  let x := getPart s p
  let rows := x.det.saveRows + dumpExtra s p
  if x.det.phase ≠ 3 then detEnd s p 0x0080
  else if x.state = .faulted then detEnd s p 0x0089
  else if saveRangeBad s p rows then detEnd s p 0x0082
  else beginRows s p 6 rows

/-- DUMP (11 R446, R452). -/
def execDump (h : Fin 2) (p : PartId) (s : State) : Res := detCmd h.val p.val 0x06 (fun t => dumpPart t p.val) s

/-- DUMP_END: the dump stands in device memory; the partition is as it was (11 R452). -/
def execDumpEnd (p : PartId) (s : State) : Res :=
  let x := getPart s p.val
  if x.det.phase ≠ 6 then .next s
  else if partBad s p.val then .next (endRows s p.val 3 0x0088)
  else .next (endRows (countSaved (writeRows s x.det.saveAddr.toNat (savedState s p.val true)) p.val) p.val 3 0)

/-- RESTORE: the partition is stopped and an image is loaded (11 R446, R457). -/
def restorePart (s : State) (p : Nat) : State :=
  let x := getPart s p
  if detBusy x.det then detEnd s p 0x0080
  else if x.state ≠ .stopped ∨ x.aborting ∨ s.loaded.lsize = 0 then detEnd s p 0x0081
  else if saveRangeBad s p x.det.saveRows then detEnd s p 0x0082
  else if s.loader.isSome then detEnd s p 0x0083
  else beginRows s p 5 x.det.saveRows

/-- RESTORE (11 R446, R454). -/
def execRestore (h : Fin 2) (p : PartId) (s : State) : Res := detCmd h.val p.val 0x07 (fun t => restorePart t p.val) s

/-- A RESTORE that fails or is aborted: the partition is FAULTED and its SRAM is scrubbed (11 R457; 17 R661). -/
def failRestore (s : State) (p : Nat) : State := modPart (scrubPart s p) p (fun x => { x with state := .faulted, kept := false, restored := false })

/-- RESTORE_END: the saved state is read whole and checked, and only then written into the partition (11 R454, R457). -/
def execRestoreEnd (p : PartId) (s : State) : Res :=
  let x := getPart s p.val
  if x.det.phase ≠ 5 then .next s
  else match restoreError s p.val with
    | some code => .next (endRows (failRestore s p.val) p.val 0 code)
    | none => .next (endRows (restoreState s p.val x.det.saveAddr.toNat) p.val 0 0)

end Sys2Proof.Machine
end

