-- ==== Sys2Proof/Machine/ImageForm.lean ====
section
/-! DEFINITION. The container of a Colob image: its header, directory and trailer, and the checks 0x0013 to 0x0055 (02 R34 to R46, R73, R74). -/

namespace Sys2Proof.Machine

/-- An `n`-byte little-endian field of an image (02 R34). -/
def imgLE (img off n : Nat) : Nat := natBits img (8 * off) (8 * n)

/-- A directory entry with its index (02 R40). -/
structure ImgSection where
  index : Nat
  stype : Nat
  flags : Nat
  scope : Nat
  offset : Nat
  length : Nat
  count : Nat
  size : Nat
  reserved : Nat
  deriving DecidableEq, Repr

/-- Directory entry `i` (02 R35, R40). -/
def imgEntry (img i : Nat) : ImgSection :=
  let o := 0x80 + 32 * i
  { index := i, stype := imgLE img o 2, flags := imgLE img (o + 2) 2, scope := imgLE img (o + 4) 4, offset := imgLE img (o + 8) 8,
    length := imgLE img (o + 0x10) 8, count := imgLE img (o + 0x18) 4, size := imgLE img (o + 0x1C) 2, reserved := imgLE img (o + 0x1E) 2 }

/-- SECTION_COUNT (02 R38). -/
def imgCount (img : Nat) : Nat := imgLE img 0x14 2
/-- The directory. -/
def imgSections (img : Nat) : List ImgSection := (List.range (imgCount img)).map (imgEntry img)
/-- The records of a section. -/
def secRecs (img : Nat) (x : ImgSection) : List Rec := (List.range x.count).map (fun i => imgLE img (x.offset + i * x.size) x.size)

/-- Header fields (02 R38). -/
def imgLength (img : Nat) : Nat := imgLE img 0x18 8
def imgLsize (img : Nat) : Nat := imgLE img 0x0E 1
def imgMask (img : Nat) : Nat := imgLE img 0x10 4
def imgClass (img : Nat) : Nat := imgLE img 0x0B 1
def imgPlan (img : Nat) : Nat := imgLE img 0x20 16
def imgIdent (img : Nat) : Nat := imgLE img 0x30 16

/-- RECORD_SIZE by section type; none for a type that the loader does not know (02 R45). -/
def sectionSize (t : Nat) : Option Nat :=
  ([32, 8, 32, 32, 64, 64, 32, 16, 512, 32, 72, 16, 16, 8, 8, 128, 16] : List Nat)[t - 1]?.bind (fun n => if t = 0 then none else some n)
/-- Section types that may stand in a full image only (02 R45). -/
def fullOnly (t : Nat) : Bool := t == 0x1 || t == 0xB || t == 0x11
/-- Required section types (02 R45). -/
def requiredTypes (full : Bool) : List Nat := if full then [1, 2, 3, 4, 5, 6, 7, 0xB] else [2, 3, 4, 5, 6, 7]
/-- Section types that may repeat (02 R45). -/
def repeats (t : Nat) : Bool := t == 7 || t == 9

/-- A refusal: code, directory index, record index (02 R65, R74). -/
abbrev ImgFail := Nat × Nat × Nat
/-- No single section, or no single record, is at fault (02 R65). -/
def noSec : Nat := 0xFFFF
def noRec : Nat := 0xFFFFFFFF
/-- A refusal without a section. -/
def headFail (code : Nat) : ImgFail := (code, noSec, noRec)
/-- A refusal where a condition holds. -/
def imgIf (b : Bool) (f : ImgFail) : Option ImgFail := if b then some f else none

/-- The known sections of a type (02 R41). -/
def ofType (secs : List ImgSection) (t : Nat) : List ImgSection := secs.filter (fun x => x.stype == t)
/-- Every record of a type. -/
def recsOf (img : Nat) (secs : List ImgSection) (t : Nat) : List Rec := (ofType secs t).flatMap (secRecs img)

/-- The digest of R42: SHAKE256 of every byte before the trailer. -/
def imgDigest (img : Nat) : Nat := shakeNat (natBytes (imgLength img - 128) img)

/-! ## Keys and floors (02 R43, R44; 16 R657) -/

/-- The digest by which a key is revoked (16 R652, R654). -/
def keyDigest (key : Nat) : Nat := shakeNat (natBytes 57 key)

/-- The key of a slot: slot 0 the Dalard image key, slots 1 to 7 those enrolled; none where empty or revoked (02 R43). -/
def slotKey (s : State) (k : Nat) : Option Nat :=
  let st := settingsOf s.brz
  let key := if k = 0 then some s.dalardKey else (st.keys.find? (fun e => e.1 == k)).map (·.2)
  match key with
  | some v => if st.revoked.contains (keyDigest v) then none else some v
  | none => none

/-- The SECURITY_VERSION floor of a slot (02 R44). -/
def slotFloor (s : State) (k : Nat) : Nat := ((settingsOf s.brz).slotFloors.find? (fun e => e.1 == k)).elim 0 (·.2)

/-- ASCII "Colob". -/
def colobContext : List Byte := [0x43, 0x6F, 0x6C, 0x6F, 0x62]

/-- The signature of an image verifies under a key (02 R42). -/
def imgSigned (img key : Nat) : Bool :=
  edVerify (natBytes 57 key) (natBytes 114 (imgLE img (imgLength img - 128) 114)) (natBytes 64 (imgDigest img)) colobContext

/-! ## Checks 0x0013 to 0x0047 -/

/-- 0x0013. -/
def lengthBad (img len : Nat) : Bool :=
  decide (len ≠ imgLength img ∨ len % 64 ≠ 0 ∨ 2 ^ 30 < len ∨ imgCount img < 1 ∨ 4096 < imgCount img ∨ len < 0x80 + 32 * imgCount img + 128)

/-- ASCII "COLOBIMG". -/
def imgMagic : Nat := 0x474D49424F4C4F43

/-- Header, trailer and directory fields that must be zero (code 0x0023). -/
def reservedBad (img : Nat) (secs : List ImgSection) : Option ImgFail :=
  if imgLE img 0x17 1 ≠ 0 ∨ imgLE img 0x4C 52 ≠ 0 ∨ 4 ≤ imgLE img 0x0C 1 ∨ imgLE img (imgLength img - 14) 14 ≠ 0 then some (headFail 0x0023)
  else (secs.find? (fun x => decide (2 ≤ x.flags ∨ x.reserved ≠ 0))).map (fun x => (0x0023, x.index, noRec))

/-- The union of the cluster masks of the partition map (02 R39). -/
def mapUnion (img : Nat) (secs : List ImgSection) : Nat := (recsOf img secs 1).foldl (fun a r => a ||| r.le 4 4) 0

/-- The checks of the header, in the order of R74. `part` is the target of a partial load. -/
def headerFail (s : State) (part : Option Nat) (img len : Nat) (secs : List ImgSection) : Option ImgFail :=
  let key := imgLE img 0x16 1
  let b := s.brz
  let iv := imgLE img 0x44 4
  [imgIf (lengthBad img len) (headFail 0x0013),
   imgIf (imgLE img 0 8 != imgMagic) (headFail 0x0020),
   imgIf (imgLE img 9 1 != 3) (headFail 0x0021),
   imgIf (match part with
     | none => imgLE img 0x0A 1 != 1 || imgLE img 0x0F 1 != 0xFF
     | some p => imgLE img 0x0A 1 != 2 || imgLE img 0x0F 1 != p) (headFail 0x0022),
   reservedBad img secs,
   imgIf (decide (7 < key) || (slotKey s key).isNone) (headFail 0x0030),
   imgIf (!imgSigned img ((slotKey s key).getD 0)) (headFail 0x0031),
   imgIf (decide (imgLE img 0x40 4 < slotFloor s key)) (headFail 0x0032),
   imgIf (!(imgLE img 0x0C 1).testBit (if s.b0 then 1 else 0)) (headFail 0x0040),
   imgIf (let g := imgLE img 0x0D 1; decide (g < 0x46 ∨ 0x48 < g ∨ g < b.gradeLetter)) (headFail 0x0041),
   imgIf (decide (imgLsize img = 0 ∨ 24 < imgLsize img ∨ b.gradePer < imgLsize img)) (headFail 0x0042),
   imgIf (imgClass img != 1) (headFail 0x0043),
   imgIf (decide (iv / 65536 ≠ b.ifEddy / 65536 ∨ b.ifEddy % 65536 < iv % 65536)) (headFail 0x0045),
   imgIf (part.isSome && decide (imgLsize img ≠ s.loaded.lsize ∨ imgPlan img ≠ s.loaded.planId)) (headFail 0x0046),
   imgIf (match part with
     | none => !(ofType secs 1).isEmpty && mapUnion img secs != imgMask img
     | some p => (getPart s p).clusters.toNat != imgMask img) (headFail 0x0047)].findSome? id

/-! ## Checks 0x0050 to 0x0054: the directory -/

/-- A section breaks R37 or R40: it starts at no multiple of 64, lies outside its room, overlaps or precedes the section before it, or its length or record size is wrong. Offsets ascend strictly (DESIGN CHOICE). -/
def placeBad (img : Nat) (prev : Option ImgSection) (x : ImgSection) : Bool :=
  decide (x.offset % 64 ≠ 0 ∨ x.offset < 0x80 + 32 * imgCount img ∨ imgLength img < x.offset + x.length + 128 ∨ x.length ≠ x.count * x.size) ||
    (match sectionSize x.stype with | some n => x.size != n | none => false) ||
    (match prev with | some q => decide (x.offset ≤ q.offset ∨ x.offset < q.offset + q.length) | none => false)

/-- The first section that breaks R37 or R40. -/
def placeFail (img : Nat) : Option ImgSection → List ImgSection → Option ImgFail
  | _, [] => none
  | prev, x :: rest => if placeBad img prev x then some (0x0051, x.index, noRec) else placeFail img (some x) rest

/-- The first section of a type that an earlier section has and that may not repeat. -/
def repeatFail : List Nat → List ImgSection → Option ImgFail
  | _, [] => none
  | seen, x :: rest => if seen.contains x.stype && !repeats x.stype then some (0x0053, x.index, noRec) else repeatFail (x.stype :: seen) rest

/-- The sections whose types the loader knows (02 R41). -/
def knownSecs (secs : List ImgSection) : List ImgSection := secs.filter (fun x => (sectionSize x.stype).isSome)

/-- The checks of the directory, in the order of R74. -/
def directoryFail (part : Option Nat) (img : Nat) (secs : List ImgSection) : Option ImgFail :=
  let known := knownSecs secs
  [(secs.find? (fun x => (sectionSize x.stype).isNone && x.flags.testBit 0)).map (fun x => (0x0050, x.index, noRec)),
   placeFail img none secs,
   imgIf ((requiredTypes part.isNone).any (fun t => (ofType known t).isEmpty)) (headFail 0x0052),
   repeatFail [] known,
   if part.isSome then (known.find? (fun x => fullOnly x.stype)).map (fun x => (0x0054, x.index, noRec)) else none].findSome? id

/-! ## Check 0x0055: scope -/

/-- The device number that a load gives or leaves: that of the identity record of a full image (09 R364). -/
def selfAfter (s : State) (part : Option Nat) (img : Nat) (secs : List ImgSection) : Nat :=
  if part.isSome then s.self else ((recsOf img secs 0xB).find? (fun r => r.le 0 1 == 2)).elim s.self (fun r => r.le 2 2)

/-- The clusters of this device that a TAG_QUEUES record names: its own, and that of a sender on the device (09 R366). -/
def queueClusters (self : Nat) (r : Rec) : List Nat :=
  r.le 1 1 :: (if r.le 0 1 = 2 ∧ natBits (r.le 5 3) 0 12 = self then [natBits (r.le 5 3) 12 5] else [])

/-- The clusters that a STREAM_DESCRIPTORS record names: its own, the far cluster of a stream between clusters, and that of a remote producer (08 R289, R292). -/
def streamClusters (r : Rec) : List Nat :=
  r.le 1 1 :: (if r.le 0 1 = 1 ∧ r.le 5 1 = 2 then [r.le 6 1] else if r.le 0 1 = 2 ∧ r.le 5 1 = 3 then [r.le 7 1] else [])

/-- The clusters that a record names (02 R45; 08 R289, R292; 09 R366, R385); `self` is the device number. MESH_SLOTS records may name any cluster. -/
def recClusters (self t : Nat) (r : Rec) : List Nat :=
  if t = 2 ∨ t = 3 ∨ t = 6 ∨ t = 0xC then [r.le 0 1]
  else if t = 9 ∨ t = 0xF then [r.le 1 1]
  else if t = 0xE then queueClusters self r
  else if t = 0x10 then streamClusters r
  else if t = 0xD then r.le 4 1 :: (if r.le 1 1 = 0 ∧ r.le 5 1 ≠ 0xFF then [r.le 5 1] else [])
  else []

/-- A record reaches outside the image's clusters or the target partition. -/
def recOutside (self : Nat) (part : Option Nat) (mask t : Nat) (r : Rec) : Bool :=
  (recClusters self t r).any (fun c => !(mask.testBit c && decide (c < 32))) ||
    (match part with
     | some p => (t == 5 || t == 0xA) && r.le 0 1 != p
     | none => false)

/-- The records of a section that name clusters: of INITIAL_DATA only the descriptor (02 R60). -/
def scopeRecs (img : Nat) (x : ImgSection) : List Rec := if x.stype = 9 then (secRecs img x).take 1 else secRecs img x

/-- The first section whose SCOPE, or whose first record that, reaches outside. -/
def scopeFail (self : Nat) (part : Option Nat) (img : Nat) (secs : List ImgSection) : Option ImgFail :=
  secs.findSome? (fun x =>
    if x.scope &&& imgMask img ≠ x.scope then some (0x0055, x.index, noRec)
    else if (sectionSize x.stype).isNone then none
    else ((scopeRecs img x).zipIdx.find? (fun (r, _) => recOutside self part (imgMask img) x.stype r)).map (fun (_, i) => (0x0055, x.index, i)))

end Sys2Proof.Machine
end

