-- ==== Sys2Proof/Machine/Measure.lean ====
section
/-! DEFINITION. The measurement log of Breeze (16 R645 to R647). MGT_LOG_SEQ is the number of the newest entry, and the first has number 1. -/

namespace Sys2Proof.Machine

/-- An entry of the measurement log is appended; a log of 512 entries loses its oldest and sets LOG_WRAPPED (16 R646). -/
def logAppend (s : State) (index digest ident : Nat) : State :=
  let b := s.brz
  { s with brz := { b with
    log := ({ seq := b.logSeq + 1, time := s.time.now, index := index, digest := digest, ident := ident } :: b.log).take 512
    logSeq := b.logSeq + 1
    logWrapped := b.logWrapped || decide (512 ≤ b.log.length) } }

/-- A measured value: index, digest and identity; it is set, and an entry is appended (16 R645, R646; 02, under R44). -/
def measure (s : State) (index digest ident : Nat) : State :=
  logAppend { s with brz := { s.brz with measured := mset s.brz.measured index (digest, ident) } } index digest ident

/-- A measured value that may stay as it is: an entry only where it changes (16 R646). -/
def remeasure (s : State) (index digest ident : Nat) : State :=
  if mget (0, 0) s.brz.measured index = (digest, ident) then s else measure s index digest ident

end Sys2Proof.Machine
end

