-- ==== Sys2Proof/Machine/Flash.lean ====
section
/-! DEFINITION. Writes of flash records, one at a time, and the answers that wait for them (16 R616, R622 to R625, R649, R657, R798; 18 R700). -/

namespace Sys2Proof.Machine

/-- Breeze's own state changed. -/
def modBrz (s : State) (f : Breeze → Breeze) : State := { s with brz := f s.brz }

/-- The transmission unit of MCTP on both bindings, in bytes (16 R613). -/
def mctpUnit : Nat := 64
/-- The way by which an answer leaves the management port: the active binding (16 R611 to R613). -/
def mgtVia (b : Breeze) : Via := if b.i3c then .i3c (b.i3cAddr.getD 0) mctpUnit else .smbus b.listen mctpUnit

/-- An answer on the management port (16 R613, R615). -/
def answer (s : State) (command status : Nat) (data : List Nat) : State := emit s (.answer (mgtVia s.brz) command status data)

/-- The bank that a write of a record uses: that of the copy not in force, bank A where the record is missing (16 R622). -/
def spareBank (b : Breeze) (t : Nat) : Nat :=
  match bankInForce b t with
  | some 0 => 1
  | _ => 0

/-- SEQ of the new copy (16 R622). -/
def nextSeq (b : Breeze) (t : Nat) : BitVec 32 :=
  match (bankInForce b t).bind (validCopy b t) with
  | some c => c.seq + 1
  | none => 1

/-- The location of the copy not in force is erased (16 R622, R649). -/
def eraseSpare (s : State) (t : Nat) : State := modBrz s (fun b => { b with flash := mdel b.flash (2 * t + spareBank b t) })

/-- A payload and its header bytes 0x00 to 0x4F are programmed in the location of the copy not in force (16 R622). -/
def programSpare (s : State) (t : Nat) (v : FlashPayload) : State :=
  modBrz s (fun b => { b with flash := mset b.flash (2 * t + spareBank b t) (programmed t (nextSeq b t) v) })

/-- A value set in a list of pairs. -/
def setPair (l : List (Nat × Nat)) (k v : Nat) : List (Nat × Nat) := (k, v) :: l.filter (fun e => e.1 != k)

/-- SETTINGS with one change (16 R652, R654, R657). -/
def applyChange (v : Settings) : SettingsChange → Settings
  | .primary port => { v with primary := port }
  | .setting (.mgtAddr a) => { v with mgtAddr := a.toNat }
  | .setting (.autoload a) => { v with autoload := a.toNat == 1 }
  | .setting (.autoloadAddr a) => { v with autoloadAddr := a.toNat }
  | .setting (.holdMs a) => { v with holdMs := a.toNat }
  | .enrol slot key => { v with keys := setPair v.keys slot key }
  | .revoke slot digest => { v with keys := v.keys.filter (fun e => e.1 != slot), revoked := v.revoked ++ [digest] }
  | .slotFloor slot value => { v with slotFloors := setPair v.slotFloors slot value }
  | .fwFloor component value => { v with fwFloors := setPair v.fwFloors component value }
  | .ownerRoot root => { v with ownerRoot := some root }

/-- The payload of a write whose data Breeze holds whole; none for an update, whose data arrives later. -/
def writePayload (s : State) : WriteBody → Option FlashPayload
  | .payload v => some v
  | .change c => some (.settings (applyChange (settingsOf s.brz) c))
  | .update => none

/-- The write at the head of the queue begins: its location is erased, and what is already there to write is programmed (16 R622). -/
def beginWrite (s : State) : State :=
  match s.brz.writes with
  | w :: _ =>
    let s1 := eraseSpare s w.rtype
    match writePayload s w.body with
    | some v => programSpare s1 w.rtype v
    | none => s1
  | [] => s

/-- A record write is asked for; it waits for the writes before it (16 R625). -/
def queueWrite (s : State) (w : FlashWrite) : State :=
  let s1 := modBrz s (fun b => { b with writes := b.writes ++ [w] })
  if s.brz.writes.isEmpty then beginWrite s1 else s1

/-- The write at the head ends, and the next begins (16 R625). -/
def endWrite (s : State) : State := beginWrite (modBrz s (fun b => { b with writes := b.writes.tail }))

/-- COMMIT is programmed: the new copy is in force; a change of SETTINGS is measured, and the completed write is reported (16 R616, R622, R645). -/
def commitRecord (s : State) (t : Nat) (v : FlashPayload) : State :=
  let s1 := modBrz s (fun b => { b with flash := mset b.flash (2 * t + spareBank b t) (committed t (nextSeq b t) v) })
  let s2 := match v with
    | .settings _ => let d := digestOf v; remeasure s1 7 d (Config.logVersion 7 d)
    | _ => s1
  platformEvent s2 2 t

/-- The response of the management command whose write has ended (16 R657, R798). -/
def replyWrite (s : State) (w : FlashWrite) (status : Nat) : State :=
  match w.reply with
  | some c => answer s c status []
  | none => s

/-- A record write is abandoned: FLASH_ERR, fault 0x01B0, and the record in force unchanged; an update so abandoned ends (16 R624; 18 R700). -/
def abandonWrite (s : State) (w : FlashWrite) : State :=
  let s1 := raiseDevice (modBrz s (fun b => { b with flashErr := true, update := if w.body = .update then none else b.update })) { code := 0x01B0, kind := 14, index := w.rtype }
  endWrite (replyWrite s1 w 6)

/-! ## Updates (16 R648 to R650) -/

/-- The number of a PLDM command. -/
def pldmCmd (ptype code : Nat) : Nat := 65536 * ptype + 256 + code

/-- The payload of an update, once all its data has arrived. -/
def updatePayload (u : FwUpdate) : FlashPayload := .bytes u.size u.data

/-- An update ends, its copy committed or not, with the result of its apply (16 R649, R650). -/
def endUpdate (s : State) (u : FwUpdate) (ok : Bool) : State :=
  let s1 := if ok then commitRecord s u.rtype (updatePayload u) else s
  answer (endWrite (modBrz s1 (fun b => { b with update := none, offered := b.offered.filter (· != u.rtype) }))) (pldmCmd 5 0x19) (if ok then 0 else 1) []

/-- The data of an update has been read back and matches: COMMIT waits for ApplyComplete (16 R622, R649). -/
def updateRead (s : State) : State :=
  match s.brz.update with
  | some u =>
    if u.bytes ≠ u.size then s
    else if u.applying then endUpdate s u true
    else modBrz s (fun b => { b with update := some { u with readBack := true } })
  | none => s

/-- A record write whose data has been read back and matches (16 R622). -/
def finishWrite (s : State) (w : FlashWrite) : State :=
  match writePayload s w.body with
  | some v => endWrite (replyWrite (commitRecord s w.rtype v) w 0)
  | none => updateRead s

/-- The whole of a write stands in flash, so that it can be read back: of an update, all its data. -/
def writeWhole (s : State) (w : FlashWrite) : Bool :=
  w.body != .update || (match s.brz.update with | some u => u.bytes == u.size && !u.readBack | none => false)

/-- A read-back mismatch: the write is repeated once, then abandoned (16 R624). -/
def mismatch (s : State) (w : FlashWrite) : State :=
  if w.retries = 0 then modBrz s (fun b => { b with writes := { w with retries := 1 } :: b.writes.tail }) else abandonWrite s w

/-- FLASH_RECORD_COMMIT: the read-back of the record write in progress (16 R622, R624). -/
def execFlashRecordCommit (readBackOk : Bool) (s : State) : Res :=
  match s.brz.writes with
  | w :: _ => .next (if !writeWhole s w then s else if readBackOk then finishWrite s w else mismatch s w)
  | [] => .next s

/-- FLASH_TIMEOUT: a flash operation has not completed in its time (18 R700). -/
def execFlashTimeout (s : State) : Res :=
  match s.brz.writes with
  | w :: _ => .next (abandonWrite s w)
  | [] => .next s

end Sys2Proof.Machine
end

