-- ==== Sys2Proof/Machine/Aes.lean ====
section
/-! DEFINITION. AES-256 and the authenticated encryption that the cipher suite GCM-AES-XPN-256 of a fabric port names (12 R465; the algorithms are those of the published standards, PRESUMED). -/

namespace Sys2Proof.Machine

/-! ## The byte field and the substitution -/

/-- Twice an element of the byte field. -/
def gfTwice (a : Nat) : Nat := if 128 ≤ a then (2 * a) ^^^ 0x11B else 2 * a

/-- A product in the byte field, from the factor's highest bit down. -/
def gfTimes (a b : Nat) : Nat := (List.range 8).foldr (fun i p => gfTwice p ^^^ (if b.testBit i then a else 0)) 0

/-- The inverse of an element, its 254th power: the product of its first seven squarings; 0 for 0. -/
def gfInverse (a : Nat) : Nat :=
  ((List.range 7).foldl (fun (p, q) _ => let r := gfTimes q q; (gfTimes p r, r)) (1, a)).1

/-- A byte rotated left. -/
def rotByte (a k : Nat) : Nat := (a <<< k ||| a >>> (8 - k)) % 256

/-- The substitution of a byte. -/
def subByte (a : Nat) : Nat :=
  let b := gfInverse a
  [1, 2, 3, 4].foldl (fun y k => y ^^^ rotByte b k) (b ^^^ 0x63)

/-! ## The key schedule: words of four bytes, first byte lowest -/

/-- The substitution on each byte of a word. -/
def subWord (w : List Nat) : List Nat := w.map subByte

/-- Two byte strings combined by exclusive or. -/
def xorBytes (a b : List Nat) : List Nat := List.zipWith (· ^^^ ·) a b

/-- What word `i` adds to the word eight before it, from the word before it. -/
def keyStep (i rcon : Nat) (prev : List Nat) : List Nat :=
  if i % 8 = 0 then xorBytes (subWord (prev.rotateLeft 1)) [rcon, 0, 0, 0]
  else if i % 8 = 4 then subWord prev
  else prev

/-- `k` more words of the schedule; the words so far stand last first. -/
def expandKey : Nat → Nat → Nat → List (List Nat) → List (List Nat)
  | 0, _, _, ws => ws
  | k + 1, i, rcon, ws =>
    expandKey k (i + 1) (if i % 8 = 0 then gfTwice rcon else rcon) (xorBytes (ws.getD 7 []) (keyStep i rcon (ws.headD [])) :: ws)

/-- A list cut into pieces of `n`: `k` at most. -/
def piecesOf (n : Nat) : Nat → List Nat → List (List Nat)
  | 0, _ => []
  | k + 1, l => if l.isEmpty then [] else l.take n :: piecesOf n k (l.drop n)

/-- The 15 round keys of a 32-byte key, 16 bytes each. -/
def roundKeys (key : List Nat) : List (List Nat) :=
  piecesOf 16 15 (expandKey 52 8 1 (piecesOf 4 8 key).reverse).reverse.flatten

/-! ## The block cipher -/

/-- Byte `r + 4c` of a block after the row shift: that of column `c + r`. -/
def shiftRows (b : List Nat) : List Nat := (List.range 16).map (fun i => b.getD (i % 4 + 4 * ((i / 4 + i % 4) % 4)) 0)

/-- One column mixed. -/
def mixColumn (b : List Nat) : List Nat :=
  let at4 (i : Nat) : Nat := b.getD (i % 4) 0
  (List.range 4).map (fun i => gfTwice (at4 i) ^^^ (gfTwice (at4 (i + 1)) ^^^ at4 (i + 1)) ^^^ at4 (i + 2) ^^^ at4 (i + 3))

/-- One round with its key; the last round mixes no columns. -/
def aesRound (last : Bool) (b key : List Nat) : List Nat :=
  let c := shiftRows (b.map subByte)
  xorBytes (if last then c else ((piecesOf 4 4 c).map mixColumn).flatten) key

/-- AES-256 of a 16-byte block under the round keys. -/
def aesBlock (keys : List (List Nat)) (b : List Nat) : List Nat :=
  match keys with
  | [] => b
  | k0 :: rest => aesRound true (rest.dropLast.foldl (aesRound false) (xorBytes b k0)) (rest.getLastD [])

/-! ## Counter mode with authentication -/

/-- A byte string as a number, its first byte highest. -/
def bigEndian (b : List Nat) : Nat := b.foldl (fun a x => 256 * a + x) 0
/-- The `n` bytes of a number, the highest first. -/
def bigBytes (n v : Nat) : List Nat := (List.range n).map (fun i => v >>> (8 * (n - 1 - i)) % 256)

/-- The product of two blocks in the field of the authentication; the first bit of a block is its highest. -/
def ghashTimes (x y : Nat) : Nat :=
  ((List.range 128).foldl (fun (z, v) i =>
    (if x.testBit (127 - i) then z ^^^ v else z, if v.testBit 0 then v >>> 1 ^^^ 0xE1 <<< 120 else v >>> 1)) (0, y)).1

/-- A byte string filled with zeros to whole blocks. -/
def wholeBlocks (b : List Nat) : List (List Nat) := (piecesOf 16 (b.length / 16 + 1) b).map (fun p => p ++ List.replicate (16 - p.length) 0)

/-- The authentication hash of associated data and ciphertext under a hash key. -/
def ghash (h : Nat) (aad ct : List Nat) : Nat :=
  (wholeBlocks aad ++ wholeBlocks ct ++ [bigBytes 8 (8 * aad.length) ++ bigBytes 8 (8 * ct.length)]).foldl (fun y b => ghashTimes (y ^^^ bigEndian b) h) 0

/-- A text under the counter blocks from number `n` on. -/
def counterMode (keys : List (List Nat)) (iv text : List Nat) (n : Nat) : List Nat :=
  ((piecesOf 16 (text.length / 16 + 1) text).zipIdx.map (fun (p, i) => xorBytes p (aesBlock keys (iv ++ bigBytes 4 (n + i))))).flatten

/-- The authentication tag of a ciphertext. -/
def gcmTag (keys : List (List Nat)) (iv aad ct : List Nat) : List Nat :=
  xorBytes (bigBytes 16 (ghash (bigEndian (aesBlock keys (List.replicate 16 0))) aad ct)) (aesBlock keys (iv ++ [0, 0, 0, 1]))

/-- A text encrypted and its tag, under a 32-byte key and a 12-byte initial value. -/
def gcmSeal (key iv aad text : List Nat) : List Nat × List Nat :=
  let keys := roundKeys key
  let ct := counterMode keys iv text 2
  (ct, gcmTag keys iv aad ct)

/-- The text of a ciphertext whose tag holds; none where it does not. -/
def gcmOpen (key iv aad ct tag : List Nat) : Option (List Nat) :=
  let keys := roundKeys key
  if gcmTag keys iv aad ct = tag then some (counterMode keys iv ct 2) else none

end Sys2Proof.Machine
end

