-- ==== Sys2Proof/Machine/Wire.lean ====
section
/-! DEFINITION. Burtum frames as bytes on the wire: layout, FCS, MACsec, and what a port makes of the bytes that come in (12 R465, R467, R468, R471). -/

namespace Sys2Proof.Machine

/-! ## Bytes -/

/-- The numbers of a byte string. -/
def byteNats (b : List Byte) : List Nat := b.map (·.toNat)
/-- A byte string of numbers. -/
def natsBytes (b : List Nat) : List Byte := b.map (BitVec.ofNat 8)
/-- The `n` bytes of a number, the highest first: the order of the IEEE 802 fields. -/
def wireBytes (n v : Nat) : List Byte := natsBytes (bigBytes n v)
/-- `n` bytes of a byte string from a place, as a number with its highest byte first. -/
def wireNat (b : List Byte) (at_ n : Nat) : Nat := bigEndian (byteNats ((b.drop at_).take n))
/-- `n` bytes of a byte string from a place, as a little-endian number. -/
def leNat (b : List Byte) (at_ n : Nat) : Nat := bytesNat ((b.drop at_).take n)

/-- One byte of the FCS, lowest bit first (IEEE 802.3; 12 R468). -/
def fcsByte (c : Nat) (b : Byte) : Nat :=
  (List.range 8).foldl (fun x _ => if x.testBit 0 then x >>> 1 ^^^ 0xEDB88320 else x >>> 1) (c ^^^ b.toNat)

/-- The FCS of a frame, in transmission order (IEEE 802.3; 12 R468). -/
def fcsOf (b : List Byte) : List Byte := natBytes 4 (b.foldl fcsByte 0xFFFFFFFF ^^^ 0xFFFFFFFF)

/-! ## The Burtum part of a frame (12 R468, R471) -/

/-- The Burtum header of a frame (12 R471). -/
def headerBytes (fr : Frame) : List Byte :=
  natBytes 1 (0x10 ||| fr.ftype % 16) ++
    natBytes 1 ((if fr.retx then 1 else 0) ||| (if fr.ackValid then 2 else 0) ||| (if fr.resync then 4 else 0)) ++
    natBytes 2 (fr.src % 4096 ||| (fr.srcPort % 4) <<< 12) ++ natBytes 2 (fr.dst % 4096) ++
    natBytes 1 (if fr.ftype = 1 then fr.rows.length else 0) ++ natBytes 1 (if fr.ftype = 4 then fr.reason else 0) ++
    natBytes 4 fr.session.toNat ++ natBytes 4 fr.seq.toNat ++ natBytes 4 fr.ackSession.toNat ++
    natBytes 3 fr.cumAck.toNat ++ natBytes 1 fr.credit ++ natBytes 8 fr.sack.toNat

/-- The message header and the rows of a frame: of DATA both, of DROP the header (12 R468). -/
def messageBytes (fr : Frame) : List Byte :=
  (if fr.ftype = 1 ∨ fr.ftype = 4 then natBytes 16 fr.header.toNat else []) ++
    (if fr.ftype = 1 then fr.rows.flatMap (fun r => natBytes 512 r.toNat) else [])

/-- A frame from its EtherType to its last row (12 R468). -/
def burtumBytes (etherType : Nat) (fr : Frame) : List Byte := wireBytes 2 etherType ++ headerBytes fr ++ messageBytes fr

/-- A reserved bit of the Burtum header is set, or its VERSION is not 1 (12 R467, R471). -/
def headerBad (b : List Byte) : Bool :=
  leNat b 0 1 / 16 != 1 || leNat b 1 1 / 8 != 0 || leNat b 2 2 / 2 ^ 14 != 0 || leNat b 4 2 / 2 ^ 12 != 0 || leNat b 0xF 1 != 0

/-- The rows of a frame, 512 bytes each. -/
def rowsOf : Nat → List Byte → List Row
  | 0, _ => []
  | n + 1, b => BitVec.ofNat 4096 (bytesNat (b.take 512)) :: rowsOf n (b.drop 512)

/-- The length and the fields of a frame fit its TYPE: 1 to 8 rows as DATA and none otherwise, a REASON as DROP alone, and the bytes of its message there (12 R469, R471, R472). -/
def lengthOk (b : List Byte) : Bool :=
  let t := leNat b 0 1 % 16
  let rows := leNat b 6 1
  decide (32 ≤ b.length) && decide (1 ≤ t ∧ t ≤ 4) &&
    (if t = 1 then decide (1 ≤ rows ∧ rows ≤ 8) && b.length == 48 + 512 * rows else rows == 0 && (t != 4 || decide (48 ≤ b.length))) &&
    (t == 4 || leNat b 7 1 == 0)

/-- The frame of a Burtum header and what follows it (12 R471). -/
def readFrame (b : List Byte) : Frame :=
  let t := leNat b 0 1 % 16
  let flags := leNat b 1 1
  { ftype := t, retx := flags.testBit 0, ackValid := flags.testBit 1, resync := flags.testBit 2
    src := leNat b 2 2 % 4096, srcPort := leNat b 2 2 / 4096 % 4, dst := leNat b 4 2 % 4096, reason := leNat b 7 1
    session := BitVec.ofNat 32 (leNat b 8 4), seq := BitVec.ofNat 24 (leNat b 0xC 3), ackSession := BitVec.ofNat 32 (leNat b 0x10 4)
    cumAck := BitVec.ofNat 24 (leNat b 0x14 3), credit := leNat b 0x17 1, sack := BitVec.ofNat 64 (leNat b 0x18 8)
    header := if t = 1 ∨ t = 4 then BitVec.ofNat 128 (leNat b 32 16) else 0
    rows := if t = 1 then rowsOf (leNat b 6 1) (b.drop 48) else [] }

/-! ## MACsec (12 R465) -/

/-- The SecTAG: its EtherType, the bits SC, E and C with the association number, the short length, the low half of the packet number, the SCI (IEEE 802.1AE; 12 R465). -/
def secTag (an len : Nat) (pn : W64) (sci : List Byte) : List Byte :=
  wireBytes 2 0x88E5 ++ natBytes 1 (0x2C ||| an) ++ natBytes 1 (if len < 48 then len else 0) ++ wireBytes 4 (pn.toNat % 2 ^ 32) ++ sci

/-- The SCI of a port: its MAC address and the port identifier 1 (IEEE 802.1AE; PRESUMED). -/
def sciOf (mac : Nat) : List Byte := natBytes 6 mac ++ [0, 1]

/-- The initial value of a packet: SSCI and packet number, changed by the salt (GCM-AES-XPN; 12 R465). -/
def secIv (a : Assoc) (pn : W64) : List Nat := bigBytes 12 ((a.ssci.toNat <<< 64 ||| pn.toNat) ^^^ a.salt.toNat)

/-- The full packet number of a received one, next after the window of an association (IEEE 802.1AE; PRESUMED). -/
def fullPn (next : W64) (low : Nat) : W64 :=
  let high := next.toNat / 2 ^ 32
  BitVec.ofNat 64 ((if next.toNat / 2 ^ 31 % 2 = 1 ∧ low / 2 ^ 31 = 0 then high + 1 else high) * 2 ^ 32 + low)

/-- The replay window, in packets (12 R465). -/
def replayWindow : Nat := 1024

/-! ## A frame as it is sent (12 R468) -/

/-- The addresses of a frame and its C-tag (12 R468). -/
def wireHead (x : FabPort) (peerMac pcp : Nat) : List Byte × List Byte :=
  (natBytes 6 peerMac ++ natBytes 6 x.mac, wireBytes 2 0x8100 ++ wireBytes 2 ((pcp % 8) <<< 13 ||| x.vid % 4096))

/-- The bytes of a frame up to the FCS; with MACsec, the SecTAG, the encrypted part and the ICV (12 R465, R468). -/
def wireBody (x : FabPort) (a : Option Assoc) (peerMac pcp : Nat) (fr : Frame) : List Byte :=
  let (macs, tag) := wireHead x peerMac pcp
  let text := burtumBytes x.etherType fr
  match (if x.macsec then a else none) with
  | some k =>
    let sec := secTag x.anCur text.length k.pn (sciOf x.mac)
    let (ct, icv) := gcmSeal (bigBytes 32 k.sak.toNat) (secIv k k.pn) (byteNats (macs ++ sec)) (byteNats text)
    macs ++ tag ++ sec ++ natsBytes ct ++ natsBytes icv
  | none =>
    let b := macs ++ tag ++ text
    b ++ List.replicate (60 - b.length) 0

/-- A frame as it leaves a port (12 R468). -/
def wireFrame (x : FabPort) (a : Option Assoc) (peerMac pcp : Nat) (fr : Frame) : List Byte :=
  let b := wireBody x a peerMac pcp fr
  b ++ fcsOf b

/-! ## A frame as it comes in (12 R465 to R467) -/

/-- What a port makes of the bytes of a frame: a bad FCS or a failed MACsec check, a discard, an 802.1AS frame, or a Burtum frame with the port as its MACsec check leaves it. -/
inductive Arrived where
  | bad
  | discard
  | ptp
  | frame (fr : Frame) (x : FabPort)
  deriving DecidableEq, Repr

/-- The 802.1AS address (12 R467). -/
def ptpAddress : List Byte := [0x01, 0x80, 0xC2, 0x00, 0x00, 0x0E]

/-- The Burtum part of a frame, from its EtherType on (12 R467). -/
def arrivedText (f : Nat) (x : FabPort) (b : List Byte) : Arrived :=
  let h := b.drop 2
  if wireNat b 0 2 = 0x88F7 then .ptp
  else if wireNat b 0 2 ≠ x.etherType then .discard
  else if headerBad h || !lengthOk h || decide (leNat h 2 2 / 4096 % 4 ≠ f) then .discard
  else .frame (readFrame h) x

/-- The peer device with a MAC address. -/
def peerByMac (x : FabPort) (mac : List Byte) : Option Nat := (x.peers.find? (fun p => natBytes 6 p.2.mac == mac)).map (·.1)

/-- The MACsec check of a frame from its SecTAG on: the receive association that its SCI and AN name, the replay window, the ICV; none where it fails (12 R465). -/
def secCheck (x : FabPort) (macs b : List Byte) : Option (List Byte × FabPort) :=
  let sec := b.take 16
  match peerByMac x ((sec.drop 8).take 6) with
  | none => none
  | some dev =>
    let key := 2 * dev + wireNat sec 2 1 % 4
    match x.rxAssoc.find? (fun e => e.1 == key) with
    | none => none
    | some (_, a) =>
      let pn := fullPn a.pn (wireNat sec 4 4)
      if wireNat sec 2 1 / 4 ≠ 0x0B ∨ 1 < wireNat sec 2 1 % 4 ∨ (sec.drop 14) ≠ [0, 1] ∨ b.length < 32 ∨ pn.toNat + replayWindow < a.pn.toNat then none
      else
        (gcmOpen (bigBytes 32 a.sak.toNat) (secIv a pn) (byteNats (macs ++ sec)) (byteNats ((b.drop 16).take (b.length - 32))) (byteNats (b.drop (b.length - 16)))).map
          (fun t => (natsBytes t, { x with rxAssoc := mset x.rxAssoc key { a with pn := if a.pn.toNat ≤ pn.toNat then pn + 1 else a.pn } }))

/-- A tagged frame from its C-tag on: its VID, the MACsec check of a port that uses MACsec, and the Burtum part (12 R465, R467). -/
def arrivedTagged (f : Nat) (x : FabPort) (macs b : List Byte) : Arrived :=
  if wireNat b 2 2 % 4096 ≠ x.vid then .discard
  else if !x.macsec then arrivedText f x (b.drop 4)
  else if wireNat b 4 2 ≠ 0x88E5 then .bad
  else match secCheck x macs (b.drop 4) with
    | none => .bad
    | some (t, y) => arrivedText f y t

/-- A frame whose FCS is good, from its addresses on (12 R467). -/
def arrivedBody (f : Nat) (x : FabPort) (body : List Byte) : Arrived :=
  let da := body.take 6
  if da ≠ natBytes 6 x.mac ∧ da ≠ ptpAddress then .discard
  else if wireNat body 12 2 = 0x88F7 then .ptp
  else if wireNat body 12 2 ≠ 0x8100 then .discard
  else arrivedTagged f x (body.take 12) (body.drop 12)

/-- What a port makes of the bytes of a frame (12 R466, R467). -/
def arrived (f : Nat) (x : FabPort) (bytes : List Byte) : Arrived :=
  let body := bytes.take (bytes.length - 4)
  if bytes.length < 64 ∨ fcsOf body ≠ bytes.drop (bytes.length - 4) then .bad else arrivedBody f x body

end Sys2Proof.Machine
end

