-- ==== Sys2Proof/Machine/Fabric.lean ====
section
/-! DEFINITION. The fabric ports: links, sessions, windows, frames sent and received, retransmission, delivery to the mesh (12 R465 to R503). -/

namespace Sys2Proof.Machine

/-! ## Ports and contexts -/

/-- A fabric port changed. -/
def modFab (s : State) (f : Nat) (g : FabPort → FabPort) : State := setFab s f (g (getFab s f))
/-- The context of a peer device at a port. -/
def getPeer (s : State) (f dev : Nat) : Peer := mget {} (getFab s f).peers dev
/-- The context of a peer device set. -/
def setPeer (s : State) (f dev : Nat) (p : Peer) : State := modFab s f (fun x => { x with peers := mset x.peers dev p })
/-- The peer devices of a port, ascending. -/
def peerDevs (s : State) (f : Nat) : List Nat := (getFab s f).peers.map (·.1)

/-- A port fault: latched in FAB_ERR_INFO and raised at the device (12 R488, R497, R498, R500; 18 R689). -/
def fabFault (s : State) (f code : Nat) (dev : Option Nat) (detail : W64) : State :=
  let s1 := modFab s f (fun x => { x with err := x.err.put { peer := dev.getD 0, code := code, time := s.time.now } })
  match dev with
  | some d => raiseDevice s1 { code := code, kind := 10, index := f <<< 14 ||| d, detail := detail }
  | none => raiseDevice s1 { code := code, kind := 11, index := f }

/-- The router of the I/O die that holds a port, in the row of a cluster (09 R360). -/
def edgeRouter (f c : Nat) : Nat := meshAt (meshRow c) (if f < 2 then 0 else 7)

/-- A row of the fabric waits in the ingress lane of a partition to enter the mesh (09 R362; 12 R482). -/
def enterIngress (s : State) (f p c : Nat) (r : MeshRow) : State :=
  modClus s (edgeRouter f c) (fun x => modMsg x (fun m => { m with ioIn := m.ioIn ++ [(0x30 + p, { r with msg := { r.msg with fabPort := f } })] }))

/-- A drop report of a port returns to the cluster of a message's sender (09 R379; 12 R474, R482). -/
def reportDrop (s : State) (f reason : Nat) (h : Header) : State :=
  let c := rowSrcCluster h
  match partOfCluster s c with
  | some p => enterIngress s f p c { msg := { header := h, row := 0, fabPort := f }, kind := 1, reason := reason, remote := none }
  | none => takeReport s c reason h

/-- A message discarded at a port: reason 0x8 without a context, 0x9 where the context is fenced (12 R474). -/
def dropAtPort (s : State) (f reason : Nat) (h : Header) : State :=
  reportDrop (modFab s f (fun x => { x with txDrops := x.txDrops.bump })) f reason h

/-- A context is fenced: its unacknowledged frames are discarded, and each of their messages is reported with reason 0x9 (12 R488). -/
def fencePeer (s : State) (f dev : Nat) : State :=
  let p := getPeer s f dev
  let waits := (getFab s f).txQueue.filter (fun t => t.1 == dev)
  let lost := (p.kept.map (fun t => t.frame) ++ waits.map (·.2)).filter (fun fr => fr.ftype == 1)
  let s1 := setPeer s f dev { p with state := .fenced, kept := [], held := [], ready := [], wantSession := false, ackOwed := false, resyncOwed := none }
  let s2 := modFab s1 f (fun x => { x with txQueue := x.txQueue.filter (fun t => t.1 != dev) })
  lost.foldl (fun a fr => dropAtPort a f 9 fr.header) s2

/-- A fence by R488: the context is fenced and 0x0170 is raised, its detail TX_NEXT (12 R488; 18 R689). -/
def fenceFaulted (s : State) (f dev : Nat) : State := fabFault (fencePeer s f dev) f 0x0170 (some dev) ((getPeer s f dev).txNext.setWidth 64)

/-! ## Sequence numbers (12 R480) -/

/-- A sequence number precedes another. -/
def seqBefore (a b : BitVec 24) : Bool := let d := (b - a).toNat; decide (1 ≤ d ∧ d ≤ 2 ^ 23 - 1)

/-! ## Sending (12 R468, R469, R484, R491, R492, R498) -/

/-- Bytes of a frame from DA to FCS (12 R469). -/
def frameBytes (macsec : Bool) (fr : Frame) : Nat :=
  match fr.ftype with
  | 1 => (if macsec then 102 else 70) + 512 * fr.rows.length
  | 4 => if macsec then 102 else 70
  | _ => if macsec then 86 else 64

/-- The wire time of a frame in hundredths of a ns: (size + 20) bytes at 800 Gb/s (12 R469). -/
def wireTime (macsec : Bool) (fr : Frame) : Nat := frameBytes macsec fr + 20

/-- The SACK of a context: bit i for frame e + 1 + i (12 R471, R484). -/
def sackOf (p : Peer) : BitVec 64 :=
  p.held.foldl (fun a fr => let i := (fr.seq - p.rxNext).toNat; if 1 ≤ i ∧ i ≤ 64 then a ||| BitVec.ofNat 64 (2 ^ (i - 1)) else a) 0

/-- A frame of a context with its addressing and the acknowledgement of the reverse direction (12 R471, R484). -/
def dressFrame (s : State) (f dev : Nat) (p : Peer) (fr : Frame) : Frame :=
  { fr with
    src := s.self, srcPort := f, dst := dev, session := p.txSession
    ackValid := p.rxSession.isSome, ackSession := p.rxSession.getD 0, cumAck := p.rxNext, credit := p.grant, sack := sackOf p }

/-- The transmit association in use. -/
def curAssoc (x : FabPort) : Option Assoc := if x.anCur = 0 then x.an0 else x.an1

/-- The port can send Burtum frames: it is up, not stopped by R498, has a key where MACsec is in use, and its windows are not suspended (12 R494, R497, R498). -/
def canSend (s : State) (f : Nat) : Bool :=
  let x := getFab s f
  x.linkUp && !x.macsecStopped && !s.fab.suspended && (!x.macsec || (curAssoc x).isSome)

/-- The packet number at which an association is used up (12 R498). -/
def pnLimit : W64 := 0xFFFFFFFF00000000

/-- An association is installed and not used up (12 R498). -/
def assocFresh (a : Option Assoc) : Bool := match a with | some k => decide (k.pn.toNat < pnLimit.toNat) | none => false

/-- One packet number is used: at the limit the port changes to the other association, or stops (12 R498). -/
def usePn (s : State) (f : Nat) : State :=
  let x := getFab s f
  if !x.macsec then s
  else
    let bump (a : Option Assoc) : Option Assoc := a.map (fun k => { k with pn := k.pn + 1 })
    let x1 := if x.anCur = 0 then { x with an0 := bump x.an0 } else { x with an1 := bump x.an1 }
    match curAssoc x1 with
    | some k =>
      if k.pn ≠ pnLimit then setFab s f x1
      else if assocFresh (if x.anCur = 0 then x.an1 else x.an0) then setFab s f { x1 with anCur := 1 - x.anCur }
      else fabFault (setFab s f { x1 with macsecStopped := true, downSince := some (nowNs s) }) f 0x0173 none 0
    | none => setFab s f x1

/-- A frame leaves a port in its open window: the wire is taken, the frame counted, its acknowledgement given; none where the window has no room for it (12 R484, R491). -/
def transmit (s : State) (f dev : Nat) (fr : Frame) : Option State :=
  let x := getFab s f
  match x.open_ with
  | none => none
  | some (w, busy, close) =>
    let start := max busy (100 * nowNs s)
    let stop := start + wireTime x.macsec fr
    if !canSend s f || decide (100 * close < stop) then none
    else
      let p := getPeer s f dev
      let s1 := setPeer s f dev { p with ackOwed := if p.rxSession.isSome && !fr.resync then false else p.ackOwed }
      let s2 := modFab s1 f (fun x => { x with open_ := some (w, stop, close), txFrames := x.txFrames.bump, stamp := x.stamp + 1 })
      let pcp := match x.windows[w]? with | some v => v.pcp | none => 0
      some (usePn (emit s2 (.frame f (wireFrame x (curAssoc x) p.mac pcp fr))) f)

/-- A first transmission waits only for room: its context is open and has credit (12 R475, R483). -/
def hasCredit (p : Peer) : Bool := p.state == .open_ && decide ((p.txNext - p.txAcked).toNat < p.txCredit)

/-- The first message in the order of completion that a data window of a flow may carry (12 R492). -/
def nextFirst (s : State) (f flow : Nat) : Option (Nat × Frame) :=
  (getFab s f).txQueue.find? (fun t => let p := getPeer s f t.1; p.flow == flow && hasCredit p)

/-- First transmissions of a data window, `k` at most. -/
def pumpData : Nat → State → Nat → Nat → State
  | 0, s, _, _ => s
  | k + 1, s, f, flow =>
    match nextFirst s f flow with
    | none => s
    | some (dev, fr) =>
      let p := getPeer s f dev
      let fr1 := dressFrame s f dev p { fr with seq := p.txNext, retx := false }
      match transmit s f dev fr1 with
      | none => s
      | some s1 =>
        let p1 := getPeer s1 f dev
        let kept : TxFrame := { seq := p.txNext, frame := fr1, sent := true, due := false, retx := 0, age := 0, stamp := (getFab s1 f).stamp }
        let s2 := setPeer s1 f dev { p1 with txNext := p1.txNext + 1, kept := p1.kept ++ [kept] }
        pumpData k (modFab s2 f (fun x => { x with txQueue := x.txQueue.erase (dev, fr) })) f flow

/-- The first frame due in a retry window of a flow: contexts in ascending device number, frames in ascending SEQ (12 R487). -/
def nextDue (s : State) (f flow : Nat) : Option (Nat × TxFrame) :=
  (getFab s f).peers.findSome? (fun (dev, p) =>
    if p.flow == flow && p.state == .open_ then
      (p.kept.find? (fun t => t.due && decide ((t.seq - p.txAcked).toNat < p.txCredit))).map (fun t => (dev, t))
    else none)

/-- Retransmissions of a retry window, `k` at most (12 R487). -/
def pumpRetry : Nat → State → Nat → Nat → State
  | 0, s, _, _ => s
  | k + 1, s, f, flow =>
    match nextDue s f flow with
    | none => s
    | some (dev, t) =>
      let p := getPeer s f dev
      let fr := dressFrame s f dev p { t.frame with seq := t.seq, retx := true }
      match transmit s f dev fr with
      | none => s
      | some s1 =>
        let p1 := getPeer s1 f dev
        let st := (getFab s1 f).stamp
        let s2 := setPeer s1 f dev { p1 with kept := p1.kept.map (fun q => if q.seq = t.seq then { q with frame := fr, sent := true, due := false, retx := q.retx + 1, age := 0, stamp := st } else q) }
        pumpRetry k (modFab s2 f (fun x => { x with retxCount := x.retxCount.bump })) f flow

/-- The control frames that a context owes: a SYNC, once in each control window, an ACK with RESYNC, an ACK (12 R475, R478, R484). -/
def controlOf (opening : Bool) (p : Peer) : List Frame :=
  if p.state = .fenced ∨ p.state = .absent then []
  else
    (if p.state = .syncing ∧ !p.wantSession ∧ (opening ∨ p.syncs = 0) then [{ ftype := 3, seq := 0 }] else []) ++
    (match p.resyncOwed with | some _ => [{ ftype := 2, resync := true }] | none => []) ++
    (if p.ackOwed ∧ p.rxSession.isSome ∧ !(p.state = .syncing ∧ !p.wantSession ∧ (opening ∨ p.syncs = 0)) then [{ ftype := 2 }] else [])

/-- One control frame of a context; an eighth SYNC without an acknowledgement fences the context when a ninth would go (12 R475, R488). -/
def sendControl (s : State) (f dev : Nat) (fr : Frame) : State :=
  let p := getPeer s f dev
  if fr.ftype = 3 ∧ 8 ≤ p.syncs then fenceFaulted s f dev
  else
    let d := dressFrame s f dev p fr
    let fr1 := if fr.resync then { d with ackValid := true, ackSession := p.resyncOwed.getD 0 } else d
    match transmit s f dev fr1 with
    | none => s
    | some s1 =>
      let p1 := getPeer s1 f dev
      setPeer s1 f dev { p1 with syncs := if fr.ftype = 3 then p1.syncs + 1 else p1.syncs, resyncOwed := if fr.resync then none else p1.resyncOwed }

/-- The control frames of a flow, peers in ascending device number (12 R492). -/
def pumpControl (opening : Bool) (s : State) (f flow : Nat) : State :=
  (peerDevs s f).foldl (fun a dev => if (getPeer a f dev).flow = flow then (controlOf opening (getPeer a f dev)).foldl (fun b fr => sendControl b f dev fr) a else a) s

/-- The 802.1AS frames that wait leave in a control window with FLOW 0xFF, `k` at most; each takes the wire time of a 64-byte frame (12 R492). -/
def pumpPtp : Nat → State → Nat → State
  | 0, s, _ => s
  | k + 1, s, f =>
    let x := getFab s f
    match x.open_ with
    | some (w, busy, close) =>
      let stop := max busy (100 * nowNs s) + 84
      if x.ptpQueue = 0 ∨ !x.linkUp ∨ 100 * close < stop then s
      else pumpPtp k (emit (setFab s f { x with ptpQueue := x.ptpQueue - 1, open_ := some (w, stop, close) }) (.ptpFrame f)) f
    | none => s

/-- The frames that the open window of a port carries, as it opens or later (12 R492). -/
def pumpWith (opening : Bool) (s : State) (f : Nat) : State :=
  let x := getFab s f
  match x.open_ with
  | none => s
  | some (w, _, _) => match x.windows[w]? with
    | none => s
    | some v =>
      if v.wkind = 2 ∧ v.flow = 0xFF then pumpPtp x.ptpQueue s f
      else match v.wkind with
        | 0 => pumpData x.txQueue.length s f v.flow
        | 1 => pumpRetry ((x.peers.map (fun p => p.2.kept.length)).sum) s f v.flow
        | _ => pumpControl opening s f v.flow

/-- The frames that have become ready while a window of a port is open leave in it (12 R491, R492). -/
def pumpWindow (s : State) (f : Nat) : State := pumpWith false s f

/-- WINDOW_OPEN: a window opens at its place in the period, and the port sends the frames that it carries (12 R487, R491, R492, R498). -/
def execWindowOpen (f : Fin 4) (window : Fin 1024) (s : State) : Res :=
  let x := getFab s f.val
  let period := s.fab.period
  match x.windows[window.val]? with
  | none => .next s
  | some v =>
    let at_ := nowNs s % period
    if !s.fab.active || x.open_.isSome || period == 0 || !decide (v.start ≤ at_ ∧ at_ < v.start + v.len) || (s.fab.suspended && !(v.wkind == 2 && v.flow == 0xFF)) then .next s
    else
      let close := nowNs s - at_ + v.start + v.len
      .next (pumpWith true (setFab s f.val { x with open_ := some (window.val, 100 * nowNs s, close) }) f.val)

/-- A frame of a window's flow is ready and has been held back only for lack of room (12 R493). -/
def slipped (s : State) (f : Nat) (v : Window) : Bool :=
  canSend s f && ((v.wkind == 0 && (nextFirst s f v.flow).isSome) || (v.wkind == 1 && (nextDue s f v.flow).isSome))

/-- WINDOW_CLOSE: the open window closes; a frame held back for lack of room is a slip (12 R491, R493). -/
def execWindowClose (f : Fin 4) (window : Fin 1024) (s : State) : Res :=
  let x := getFab s f.val
  match x.open_, x.windows[window.val]? with
  | some (w, _, close), some v =>
    if w ≠ window.val ∨ nowNs s < close then .next s
    else .next (setFab s f.val { x with open_ := none, slips := if slipped s f.val v then x.slips.bump else x.slips })
  | _, _ => .next s

/-! ## Links (12 R497) -/

/-- LINK_UP: the link comes up with PCS lock; within its hold the contexts carry on (12 R497). -/
def execLinkUp (f : Fin 4) (s : State) : Res :=
  let x := getFab s f.val
  if x.mode = 0 ∨ x.adminDown then .next s
  else .next (pumpWindow (setFab s f.val { x with linkUp := true, laneLock := 15, downSince := if x.macsecStopped then x.downSince else none, holdFenced := false }) f.val)

/-- A port's link goes down: its contexts keep their state and its frames wait (12 R497). -/
def dropLink (s : State) (f : Nat) : State :=
  modFab s f (fun x => if x.linkUp then { x with linkUp := false, laneLock := 0, downSince := x.downSince.or (some (nowNs s)) } else x)

/-- LINK_HOLD_EXPIRE: the link has been down for LINK_HOLD_MS: every open context is fenced with 0x0170, and 0x0172 is raised once (12 R488, R497). -/
def execLinkHoldExpire (f : Fin 4) (s : State) : Res :=
  let x := getFab s f.val
  match x.downSince with
  | none => .next s
  | some t =>
    if nowNs s < t + 1000000 * x.linkHoldMs then .next s
    else
      let opened := (x.peers.filter (fun p => p.2.state == .open_)).map (·.1)
      let s1 := opened.foldl (fun a dev => fenceFaulted a f.val dev) s
      .next (fabFault (modFab s1 f.val (fun y => { y with downSince := none, holdFenced := true })) f.val 0x0172 none 0)

/-! ## Messages complete at a port (12 R474) -/

/-- The lane in which a row comes to a port: its cluster's, or its partition's static lane (09 R362). -/
def rowLane (h : Header) : Nat := if rowRoute h = 0 then rowSrcCluster h else 0x20 + rowSrcPart h

/-- The rows of the message that begins with a row, in ROW order; none while one is missing. -/
def messageRows (rs : List MsgRow) (first : MsgRow) : Option (List MsgRow) :=
  (List.range (rowLen first.header + 1)).mapM (fun i => rs.find? (fun r =>
    rowIndex r.header == i && rowSource r.header == rowSource first.header && rowMessage r.header == rowMessage first.header && rowDev r.header == rowDev first.header))

/-- The first complete message of a lane at a port. -/
def completeMessage (x : FabPort) (lane : Nat) : Option (List MsgRow) :=
  x.partial_.findSome? (fun r => if rowIndex r.header = 0 ∧ rowLane r.header = lane then messageRows x.partial_ r else none)

/-- FABRIC_MESSAGE_COMPLETE: the last row of a message has come to the port: it is queued on its context, or discarded where the port has none or it is fenced (12 R474, R485). -/
def execFabricMessageComplete (f : Fin 4) (lane : Fin 64) (s : State) : Res :=
  match completeMessage (getFab s f.val) lane.val with
  | none => .next s
  | some [] => .next s
  | some (r :: rest) =>
    let rows := r :: rest
    let dev := rowDev r.header
    let s1 := modFab s f.val (fun x => { x with partial_ := rows.foldl (fun a m => a.erase m) x.partial_ })
    let p := getPeer s1 f.val dev
    if p.state = .absent then .next (dropAtPort s1 f.val 8 r.header)
    else if p.state = .fenced then .next (dropAtPort s1 f.val 9 r.header)
    else
      let fr : Frame := { ftype := 1, src := s.self, srcPort := f.val, dst := dev, header := withRow r.header 0, rows := rows.map (fun m => m.row) }
      .next (pumpWindow (modFab s1 f.val (fun x => { x with txQueue := x.txQueue ++ [(dev, fr)] })) f.val)

/-! ## Sessions (12 R475 to R479) -/

/-- TX_SESSION_OPEN: link, schedule and time are ready, the port is not stopped by R498, and a context that waits takes the next session of its port (12 R475, R476, R498). -/
def execTxSessionOpen (f : Fin 4) (dev : Fin 1024) (s : State) : Res :=
  let x := getFab s f.val
  let p := getPeer s f.val dev.val
  if p.state ≠ .syncing ∨ !p.wantSession ∨ !x.linkUp ∨ x.macsecStopped ∨ !s.fab.active ∨ !s.time.trusted ∨ !x.seeded then .next s
  else
    let s1 := setPeer s f.val dev.val { p with wantSession := false, txSession := x.session, syncs := 0, acked := false }
    .next (pumpWindow (modFab s1 f.val (fun y => { y with session := y.session + 1 })) f.val)

/-- The frames of a context go again in a new session, numbered from 0, as retransmissions (12 R479). -/
def renumber (p : Peer) : Peer :=
  { p with
    kept := p.kept.zipIdx.map (fun (t, i) => { t with seq := BitVec.ofNat 24 i, due := true, age := 0 })
    txNext := BitVec.ofNat 24 p.kept.length }

/-- A frame that an acknowledgement reports missing while its SACK marks one sent later (12 R486). -/
def missing (kept : List TxFrame) (cum : BitVec 24) (sack : BitVec 64) (t : TxFrame) : Bool :=
  let marked (q : TxFrame) : Bool := let i := (q.seq - cum).toNat; decide (1 ≤ i ∧ i ≤ 64) && sack.getLsbD (i - 1)
  !marked t && kept.any (fun q => marked q && decide (t.stamp < q.stamp))

/-- A frame of a context has become due: it waits for a retry window, and the context is fenced where it has been retransmitted 8 times (12 R486, R488). -/
def markDue (s : State) (f dev : Nat) (due : TxFrame → Bool) : State :=
  let p := getPeer s f dev
  let fresh (t : TxFrame) : Bool := !t.due && due t
  if p.kept.any (fun t => fresh t && decide (8 ≤ t.retx)) then fenceFaulted s f dev
  else setPeer s f dev { p with kept := p.kept.map (fun t => if fresh t then { t with due := true } else t) }

/-- The acknowledgement that a frame carries: a RESYNC opens a new session; otherwise CUM_ACK, CREDIT and SACK of the current session (12 R475, R479, R483, R485, R486). -/
def takeAck (s : State) (f dev : Nat) (fr : Frame) : State :=
  let p := getPeer s f dev
  if !fr.ackValid ∨ p.wantSession ∨ fr.ackSession ≠ p.txSession ∨ p.state = .fenced ∨ p.state = .absent then s
  else if fr.resync then setPeer s f dev { p with state := .syncing, wantSession := true, acked := false, syncs := 0 }
  else
    let p1 := if p.state = .syncing then { (if p.kept.isEmpty then p else renumber p) with state := .open_, acked := true, txNext := BitVec.ofNat 24 p.kept.length } else p
    let kept := p1.kept.filter (fun t => !seqBefore t.seq fr.cumAck)
    let s1 := setPeer s f dev { p1 with txAcked := fr.cumAck, txCredit := fr.credit, kept := kept }
    pumpWindow (markDue s1 f dev (missing kept fr.cumAck fr.sack)) f

/-! ## Period boundaries (12 R486, R494 to R496) -/

/-- One period boundary for the frames of a context (12 R486). -/
def ageFrames (s : State) (f dev timeout : Nat) : State :=
  let p := getPeer s f dev
  let s1 := setPeer s f dev { p with kept := p.kept.map (fun t => { t with age := t.age + 1 }) }
  if p.state = .open_ then markDue s1 f dev (fun t => decide (timeout ≤ t.age)) else s1

/-- Period `k` has just begun: the counter is at its first value or within one tick of it, and its boundary has not been taken (12 R491; 14 R556). -/
def boundaryDue (s : State) : Bool := s.fab.period != 0 && atMultiple s s.fab.period && s.fab.boundary != some (nowNs s / s.fab.period)

/-- PERIOD_BOUNDARY: at k × PERIOD_NS, frames unacknowledged for RETX_TIMEOUT periods become due; while suspended the boundary is counted, or ends the suspension once time is trusted (12 R486, R491, R495, R496). -/
def execPeriodBoundary (s : State) : Res :=
  if !s.fab.active || !boundaryDue s then .next s
  else
    let s0 := { s with fab := { s.fab with boundary := some (nowNs s / s.fab.period) } }
    let s1 := if s.time.trusted then { s0 with fab := { s0.fab with suspended := false, holdover := false } } else s0
    if s1.fab.suspended then .next { s1 with fab := { s1.fab with suspPeriods := s1.fab.suspPeriods.bump } }
    else .next ([0, 1, 2, 3].foldl (fun a f => (peerDevs a f).foldl (fun b dev => ageFrames b f dev (getFab b f).retxTimeout) a) s1)

/-- WINDOWS_SUSPEND: the drift bound has reached 1 µs while the counter is untrusted (12 R494). -/
def execWindowsSuspend (s : State) : Res :=
  if !s.fab.active || s.fab.suspended || s.time.trusted || decide (drift s.time < 1000) then .next s
  else
    let ports := s.fab.ports.map (fun e => (e.1, match e.2.open_ with
      | some (w, _, _) => if (e.2.windows[w]?).any (fun v => v.flow == 0xFF) then e.2 else { e.2 with open_ := none }
      | none => e.2))
    .next (raiseDevice { s with fab := { s.fab with suspended := true, holdover := true, suspensions := s.fab.suspensions.bump, ports := ports } } { code := 0x0171, kind := 11 })

/-! ## Receiving (12 R467, R472, R477 to R484) -/

/-- A frame discarded at a port and counted. -/
def discardFrame (s : State) (f : Nat) : State := modFab s f (fun x => { x with rxDiscard := x.rxDiscard.bump })

/-- The receive direction takes a DATA or DROP frame by its sequence number (12 R478, R481). -/
def sequenceFrame (s : State) (f dev : Nat) (fr : Frame) : State :=
  let p := getPeer s f dev
  let d := (fr.seq - p.rxNext).toNat
  let holds := p.held.any (fun q => q.seq == fr.seq) || p.ready.any (fun q => q.seq == fr.seq)
  if p.rxSession ≠ some fr.session then setPeer (discardFrame s f) f dev { p with resyncOwed := some fr.session }
  else if d = 0 ∧ !holds then setPeer s f dev { p with ready := [fr] }
  else if 1 ≤ d ∧ d ≤ p.grant - 1 ∧ !holds then setPeer s f dev { p with held := p.held ++ [fr], ackOwed := true }
  else if holds || seqBefore fr.seq p.rxNext then setPeer (discardFrame s f) f dev { p with ackOwed := true }
  else discardFrame s f

/-- A frame with a bad FCS, an uncorrectable codeword or a failed MACsec check (12 R467). -/
def badFrame (s : State) (f : Nat) : State := modFab s f (fun x => { x with rxBad := x.rxBad.bump })

/-- An intact Burtum frame: of a context that is not fenced, and for this device, or discarded (12 R467, R472, R488). -/
def takeFrame (s : State) (f : Nat) (fr : Frame) (act : State → Frame → State) : State :=
  let p := getPeer s f fr.src
  if fr.dst ≠ s.self then discardFrame s f
  else
    let s1 := modFab s f (fun x => { x with rxFrames := x.rxFrames.bump })
    if p.state = .absent ∨ p.state = .fenced then discardFrame s1 f
    else act (takeAck s1 f fr.src fr) fr

/-- The codewords that the FEC of a port has corrected (12 R465, R500). -/
def countCorrected (s : State) (f n : Nat) : State := modFab s f (fun x => { x with fecCorr := x.fecCorr.add n })

/-- The bytes of a frame come in, of a TYPE: a bad frame and one that is discarded are counted; a frame of another TYPE is another command's (12 R465 to R467, R472). -/
def receive (f ftype : Nat) (bytes : List Byte) (corrected : Nat) (act : State → Frame → State) (s : State) : Res :=
  let s1 := countCorrected s f corrected
  if !(getFab s f).linkUp then .next s
  else match arrived f (getFab s f) bytes with
    | .bad => .next (badFrame s1 f)
    | .discard => .next (discardFrame s1 f)
    | .ptp => .next s
    | .frame fr x => if fr.ftype ≠ ftype then .next s else .next (takeFrame (countCorrected (setFab s f x) f corrected) f fr act)

/-- DATA_FRAME_RECEIVE (12 R472, R478, R481, R484). -/
def execDataFrameReceive (f : Fin 4) (bytes : List Byte) (corrected : Nat) (s : State) : Res := receive f.val 1 bytes corrected (fun t fr => sequenceFrame t f.val fr.src fr) s

/-- DROP_FRAME_RECEIVE (12 R472, R478, R481). -/
def execDropFrameReceive (f : Fin 4) (bytes : List Byte) (corrected : Nat) (s : State) : Res := receive f.val 4 bytes corrected (fun t fr => sequenceFrame t f.val fr.src fr) s

/-- ACK_FRAME_RECEIVE (12 R472, R475, R479, R483, R485, R486). -/
def execAckFrameReceive (f : Fin 4) (bytes : List Byte) (corrected : Nat) (s : State) : Res := receive f.val 2 bytes corrected (fun t _ => t) s

/-- A SYNC: a new session discards what is held and expects SEQ 0; it is acknowledged (12 R477). -/
def takeSync (s : State) (f dev : Nat) (fr : Frame) : State :=
  let p := getPeer s f dev
  if p.rxSession = some fr.session then setPeer s f dev { p with ackOwed := true }
  else
    setPeer (modFab s f (fun x => { x with rxDiscard := x.rxDiscard.add (p.held.length + p.ready.length) })) f dev
      { p with rxSession := some fr.session, rxNext := 0, held := [], ready := [], ackOwed := true, resyncOwed := none }

/-- SYNC_FRAME_RECEIVE (12 R477). -/
def execSyncFrameReceive (f : Fin 4) (bytes : List Byte) (corrected : Nat) (s : State) : Res := receive f.val 3 bytes corrected (fun t fr => takeSync t f.val fr.src fr) s

/-- FRAME_DISCARD: a frame that the port discards: with an uncorrectable codeword or a bad FCS, failing a MACsec check, PAUSE, PFC, misaddressed or malformed (12 R466, R467, R500). -/
def execFrameDiscard (f : Fin 4) (why : DiscardWhy) (corrected : Nat) (s : State) : Res :=
  let s1 := countCorrected s f.val corrected
  if !(getFab s f.val).linkUp then .next s
  else match why with
    | .fecUncorrectable more => .next (badFrame (modFab s1 f.val (fun x => { x with fecUncorr := x.fecUncorr.add (more + 1) })) f.val)
    | .wire bytes => match arrived f.val (getFab s f.val) bytes with
      | .bad => .next (badFrame s1 f.val)
      | .discard => .next (discardFrame s1 f.val)
      | _ => .next s

/-- The ingress lane of a partition at the I/O die of a port, in the row of a cluster, takes a frame's rows. -/
def ingressOpen (s : State) (f p c : Nat) : Bool := !((getClus s (edgeRouter f c)).msg.ioIn.any (fun r => r.1 == 0x30 + p))

/-- A frame in sequence has been delivered: e advances, and the next frame held comes to its turn (12 R481, R482). -/
def advanceRx (s : State) (f dev : Nat) : State :=
  let p := getPeer s f dev
  let e := p.rxNext + 1
  setPeer s f dev { p with
    rxNext := e
    ready := p.held.filter (fun q => q.seq == e)
    held := p.held.filter (fun q => q.seq != e)
    ackOwed := true }

/-- Row `i` of a frame's message: SEQ steps with the rows of a combine (09 R352, R390; 12 R473). -/
def frameRow (f : Nat) (h : Header) (i : Nat) (r : Row) : MeshRow :=
  let seq : BitVec 16 := h.extractLsb' 16 16 + (if rowSrcLcore h = 31 then BitVec.ofNat 16 i else 0)
  { msg := { header := (withRow h i &&& ~~~(0xFFFF <<< 16 : Header)) ||| seq.setWidth 128 <<< 16, row := r, fabPort := f }, kind := 0, reason := 0, remote := none }

/-- FRAME_DELIVER: the frame in sequence enters the ingress lane of its partition, or is delivered as a discard, for whose DROP frame the port must have room, or as a drop report (12 R482, R485). -/
def execFrameDeliver (f : Fin 4) (dev : Fin 1024) (s : State) : Res :=
  let p := getPeer s f.val dev.val
  match p.ready with
  | [] => .next s
  | fr :: _ =>
    if p.state = .fenced ∨ p.state = .absent then .next s
    else if fr.ftype = 4 then
      let c := rowSrcCluster fr.header
      match partOfCluster s c with
      | some q => if ingressOpen s f.val q c then .next (advanceRx (reportDrop s f.val fr.reason fr.header) f.val dev.val) else .next s
      | none => .next (advanceRx (reportDrop s f.val fr.reason fr.header) f.val dev.val)
    else
      let c := rowCluster fr.header
      match partOfCluster s c with
      | none => if portFree s f.val then .next (pumpWindow (advanceRx (queueDrop s f.val fr.src 1 fr.header) f.val dev.val) f.val) else .next s
      | some q =>
        if !ingressOpen s f.val q c then .next s
        else
          let s1 := fr.rows.zipIdx.foldl (fun a (r, i) => enterIngress a f.val q c (frameRow f.val fr.header i r)) s
          .next (advanceRx s1 f.val dev.val)

/-! ## The links of the mesh (09 R357, R360 to R363) -/

/-- The ports of the I/O die at which a link ends send what has become ready (12 R492, R493). -/
def pumpAfter (s : State) (c link : Nat) : State :=
  if leavesMesh c link then (if link = 3 then [0, 1] else [2, 3]).foldl pumpWindow s else s

/-- MESH_ROW_FORWARD: the lane that owns a link's cc sends one row, where it has one and the next router has room; link 4 comes from the I/O die (09 R360 to R363). -/
def execMeshRowForward (cl : ClusterId) (link : Fin 5) (cc : Nat) (s : State) : Res :=
  let c := cl.val
  let lane := slotLane s c link.val cc
  if routerStopped s c || lane == 0xFF then .next s else .next (pumpAfter (forwardRow s c link.val lane) c link.val)

end Sys2Proof.Machine
end

