-- ==== Sys2Proof/Machine/ImageRecs.lean ====
section
/-! DEFINITION. The records of a Colob image: the checks 0x0056 and 0x0060 to 0x006F (02 R47 to R64, R74; 01 R18 to R20; 07 R248, R255; 08 R288 to R293, R310, R311; 09 R364 to R367, R382 to R385; 10 R401, R402; 12 R489, R490). -/

namespace Sys2Proof.Machine

/-- An image as it is checked: the state, the target of a partial load, the image and its known sections. -/
structure ImgEnv where
  s : State
  part : Option Nat
  img : Nat
  secs : List ImgSection

/-- A partition as the image, or for a partial image the state, defines it (02 R47). -/
structure PartEntry where
  num : Nat
  owner : Nat
  clusters : Nat
  mcast : Nat
  base : Nat
  limit : Nat
  deriving DecidableEq, Repr

/-- The logical size of the image. -/
def ImgEnv.lsize (e : ImgEnv) : Nat := imgLsize e.img
/-- CLUSTER_MASK. -/
def ImgEnv.mask (e : ImgEnv) : Nat := imgMask e.img
/-- The covered clusters. -/
def ImgEnv.clusters (e : ImgEnv) : List Nat := (List.range 32).filter (fun c => e.mask.testBit c)
/-- The records of a type in the image. -/
def ImgEnv.recs (e : ImgEnv) (t : Nat) : List Rec := recsOf e.img e.secs t
/-- The image carries a type (02 R46). -/
def ImgEnv.carries (e : ImgEnv) (t : Nat) : Bool := !(ofType e.secs t).isEmpty

/-- A PARTITION_MAP record. -/
def partEntry (r : Rec) : PartEntry := { num := r.le 0 1, owner := r.le 1 1, clusters := r.le 4 4, mcast := r.le 8 8, base := r.le 0x10 8, limit := r.le 0x18 8 }
/-- The partitions that the image covers. -/
def ImgEnv.parts (e : ImgEnv) : List PartEntry :=
  match e.part with
  | none => (e.recs 1).map partEntry
  | some p =>
    let x := getPart e.s p
    [{ num := p, owner := x.owner, clusters := x.clusters.toNat, mcast := x.mcast.toNat, base := x.dmBase, limit := x.dmLimit }]
/-- The covered partition that holds a cluster. -/
def ImgEnv.partAt (e : ImgEnv) (c : Nat) : Option PartEntry := e.parts.find? (fun p => p.clusters.testBit c)

/-- The key of a table of records in force: by partition and type (02 R46). -/
def recKey (p t : Nat) : Nat := 65536 * (p + 1) + t
/-- The records that would be in force for a type after the load, for the checks of other sections (02 R46). -/
def ImgEnv.force (e : ImgEnv) (t : Nat) : List Rec :=
  match e.part with
  | none => e.recs t
  | some p => if e.carries t then e.recs t else mget [] e.s.loaded.records (recKey p t)

/-- The task of a logical core (02 R54). -/
def ImgEnv.task (e : ImgEnv) (c l : Nat) : Option Rec := (e.recs 6).find? (fun r => r.le 0 1 == c && r.le 1 1 == l)
/-- A logical core below L has a task. -/
def ImgEnv.hasTask (e : ImgEnv) (c l : Nat) : Bool := decide (l < e.lsize) && (e.task c l).isSome

/-- The programs of the image: header record and words (02 R56). -/
def ImgEnv.programs (e : ImgEnv) : List (Rec × List IWord) :=
  (ofType e.secs 7).filterMap (fun x => match secRecs e.img x with
    | h :: ws => some (h, ws.map (BitVec.ofNat 256))
    | [] => none)
/-- A program by its number. -/
def ImgEnv.program (e : ImgEnv) (n : Nat) : Option (Rec × List IWord) := e.programs.find? (fun q => q.1.le 0 2 == n)

/-! ## Scanning -/

/-- The first record that a check, given the records before it, refuses: its code and index. -/
def scanRecs (f : List Rec → Rec → Option Nat) : List Rec → List Rec → Option (Nat × Nat)
  | _, [] => none
  | seen, r :: rest =>
    match f seen r with
    | some code => some (code, seen.length)
    | none => scanRecs f (seen ++ [r]) rest

/-- The code `code` where a condition holds. -/
def bad (b : Bool) (code : Nat) : Option Nat := if b then some code else none
/-- A record must lie in a set of fields: every byte outside the listed (offset, size) fields is zero. -/
def zeroOutside (size : Nat) (fields : List (Nat × Nat)) (r : Rec) : Bool :=
  (List.range size).all (fun i => fields.any (fun (o, n) => decide (o ≤ i ∧ i < o + n)) || r.le i 1 == 0)
/-- The result of a scan, then a record that is missing from the section. -/
def scanThen (scan : Option (Nat × Nat)) (missing : Option Nat) : Option (Nat × Nat) :=
  match scan with
  | some x => some x
  | none => missing.map (fun code => (code, noRec))

/-! ## 0x0060 to 0x0065 -/

/-- Two partitions collide; an empty range strictly inside another one collides with it (02 R48; DESIGN CHOICE). -/
def partsMeet (a b : PartEntry) : Bool :=
  a.num == b.num || a.clusters &&& b.clusters != 0 || a.mcast &&& b.mcast != 0 || decide (a.base < b.limit ∧ b.base < a.limit)

/-- PARTITION_MAP (02 R47, R48). -/
def checkMap (rs : List Rec) : Option (Nat × Nat) :=
  scanThen (scanRecs (fun seen r =>
    let a := partEntry r
    bad (decide (16 ≤ seen.length ∨ 16 ≤ a.num ∨ 2 ≤ a.owner ∨ a.clusters = 0 ∨ a.base % 2097152 ≠ 0 ∨ a.limit % 2097152 ≠ 0 ∨ a.limit < a.base ∨ dmEnd < a.limit) ||
      r.le 2 2 != 0 || seen.any (fun q => partsMeet (partEntry q) a)) 0x0060) [] rs)
    (bad rs.isEmpty 0x0060)

/-- A cluster of the image has no record in a section whose records name it at byte 0. -/
def clusterMissing (e : ImgEnv) (rs : List Rec) : Bool := e.clusters.any (fun c => !rs.any (fun r => r.le 0 1 == c))

/-- CLOCK_PLAN (02 R50). -/
def checkClock (e : ImgEnv) (rs : List Rec) : Option (Nat × Nat) :=
  scanThen (scanRecs (fun seen r => bad (seen.any (fun q => q.le 0 1 == r.le 0 1) || decide (5 < r.le 1 1) || r.le 6 2 != 0) 0x0061) [] rs)
    (bad (clusterMissing e rs) 0x0061)

/-- The PHYS entries of a CORE_MAP record (02 R51). -/
def physEntries (r : Rec) : List Nat := (List.range 24).map (fun n => r.le (2 + n) 1)
/-- A core map names a core that is out of range, disabled, failed or already named (01 R19, R20). -/
def physBad (x : Cluster) : List Nat → Bool
  | [] => false
  | p :: rest => decide (24 ≤ p) || x.disabled.getLsbD p || x.failed.getLsbD p || rest.contains p || physBad x rest

/-- CORE_MAP (01 R19, R20; 02 R51). -/
def checkCoreMap (e : ImgEnv) (rs : List Rec) : Option (Nat × Nat) :=
  scanThen (scanRecs (fun seen r =>
    bad (seen.any (fun q => q.le 0 1 == r.le 0 1) || r.le 1 1 != e.lsize || r.le 0x1A 6 != 0 ||
      physBad (getClus e.s (r.le 0 1)) ((physEntries r).take e.lsize) || ((physEntries r).drop e.lsize).any (fun p => p != 0x1F)) 0x0062) [] rs)
    (bad (clusterMissing e rs) 0x0062)

/-- The twelve latencies of LT1 (03 R95). -/
def lt1 : List Nat := [10, 136, 1, 2, 3, 4, 3, 12, 9, 4, 3, 6]
/-- LATENCY_TABLE (02 R52). -/
def checkLatency (rs : List Rec) : Option (Nat × Nat) :=
  scanThen (scanRecs (fun _ r => bad ((List.range 12).map (fun i => r.le (2 * i) 2) != lt1 || r.le 24 8 != 0) 0x0063) [] rs) (bad rs.isEmpty 0x0063)

/-- A value lies outside a range. -/
def outside (v lo hi : Nat) : Bool := decide (v < lo ∨ hi < v)

/-- PARTITION_RUN (02 R53). -/
def checkRun (e : ImgEnv) (rs : List Rec) : Option (Nat × Nat) :=
  scanThen (scanRecs (fun seen r =>
    bad (!e.parts.any (fun p => p.num == r.le 0 1) || seen.any (fun q => q.le 0 1 == r.le 0 1) || decide (16 ≤ r.le 1 1) || r.le 2 2 != 0 || r.le 0x1C 36 != 0 ||
      outside (r.le 4 4) 10000 10000000 || r.le 8 8 == 2 ^ 64 - 1 || outside (r.le 0x10 4) 1000 1000000 || outside (r.le 0x14 4) 0 1000000 ||
      decide (r.le 0x18 4 < 1024)) 0x0064) [] rs)
    (bad (e.parts.any (fun p => !rs.any (fun r => r.le 0 1 == p.num))) 0x0064)

/-- The WORD_COUNT of a program of the image; none where it has no such program. -/
def ImgEnv.wordCount (e : ImgEnv) (n : Nat) : Option Nat := (e.program n).map (fun q => q.1.le 4 4)

/-- TASKS (02 R54 to R56). -/
def checkTasks (e : ImgEnv) (rs : List Rec) : Option (Nat × Nat) :=
  scanRecs (fun seen r =>
    bad (seen.any (fun q => q.le 0 2 == r.le 0 2) || decide (e.lsize ≤ r.le 1 1) || r.le 6 2 != 0 || r.le 0x38 8 != 0 || decide (2 ^ 20 ≤ r.le 8 4) ||
      (match e.wordCount (r.le 2 2) with | some w => decide (w ≤ r.le 4 2) | none => true) ||
      decide (r.le 0xE 2 < r.le 0xC 2 ∨ 32768 < r.le 0xE 2 ∨ r.le 0x14 4 < r.le 0x10 4 ∨ 262144 < r.le 0x14 4 ∨ r.le 0x20 8 < r.le 0x18 8 ∨
        r.le 0x18 8 % 512 ≠ 0 ∨ r.le 0x30 8 < r.le 0x28 8 ∨ r.le 0x28 8 % 512 ≠ 0) ||
      (match e.partAt (r.le 0 1) with | some p => decide (r.le 0x18 8 < p.base ∨ p.limit < r.le 0x20 8) | none => true)) 0x0065) [] rs

/-! ## 0x0066 to 0x0069 and 0x0056 -/

/-- PROGRAM; `before` are the sections before this one (02 R56). -/
def checkProgram (e : ImgEnv) (before : List ImgSection) (x : ImgSection) : Option (Nat × Nat) :=
  match secRecs e.img x with
  | [] => some (0x0066, noRec)
  | h :: _ =>
    let again := (ofType before 7).any (fun q => ((secRecs e.img q).head?.map (fun r => r.le 0 2)) == some (h.le 0 2))
    if !zeroOutside 32 [(0, 2), (4, 4)] h || outside (h.le 4 4) 1 16384 || h.le 4 4 + 1 != x.count || again then some (0x0066, 0) else none

/-- The base and the bound of a task by the KIND of a relocation (02 R54, R58). -/
def taskWindow (t : Rec) (kind : Nat) : Nat × Nat :=
  match kind with
  | 0 => (t.le 0xC 2, t.le 0xE 2)
  | 1 => (t.le 0x10 4, t.le 0x14 4)
  | 2 => (t.le 0x18 8, t.le 0x20 8)
  | _ => (t.le 0x28 8, t.le 0x30 8)

/-- The value that a relocation inserts for a task; none where R59 refuses. -/
def relocValue (t r : Rec) : Option Nat :=
  let (lo, hi) := taskWindow t (r.le 3 1)
  let a : Int := (lo : Int) + signedOf 32 (r.le 0xC 4)
  let v := a.toNat >>> r.le 0xA 1
  if a < lo ∨ (hi : Int) ≤ a ∨ 2 ^ r.le 9 1 ≤ v then none else some v

/-- A relocation record is malformed (02 R58, R74). -/
def relocBad (e : ImgEnv) (r : Rec) : Bool :=
  r.le 0xB 1 != 0 || decide (7 < r.le 2 1 ∨ 3 < r.le 3 1 ∨ r.le 9 1 < 1 ∨ 32 < r.le 9 1 ∨ 32 < r.le 8 1 + r.le 9 1 ∨ 31 < r.le 0xA 1) ||
    (match e.wordCount (r.le 0 2) with | some w => decide (w ≤ r.le 4 4) | none => true)

/-- RELOCATIONS (02 R58, R59). -/
def checkRelocs (e : ImgEnv) (rs : List Rec) : Option (Nat × Nat) :=
  scanRecs (fun _ r =>
    if relocBad e r then some 0x0067
    else bad (((e.recs 6).filter (fun t => t.le 2 2 == r.le 0 2)).any (fun t => (relocValue t r).isNone)) 0x0056) [] rs

/-- The target of an INITIAL_DATA section: space, unit, first row, rows (02 R60, R61). Device memory is counted in rows of 512 bytes. -/
def dataTarget (h : Rec) : Nat × Nat × Nat × Nat :=
  match h.le 0 1 with
  | 0 => (0, 32 * h.le 1 1 + h.le 2 1, h.le 8 8, h.le 0x10 4)
  | 1 => (1, h.le 1 1, h.le 8 8, h.le 0x10 4)
  | _ => (2, 0, h.le 8 8 / 512, h.le 0x10 4)

/-- Two targets meet; one without rows strictly inside another one meets it (DESIGN CHOICE). -/
def targetsMeet (a b : Nat × Nat × Nat × Nat) : Bool := a.1 == b.1 && a.2.1 == b.2.1 && rangesMeet a.2.2.1 a.2.2.2 b.2.2.1 b.2.2.2

/-- INITIAL_DATA (02 R60, R61). -/
def checkData (e : ImgEnv) (before : List ImgSection) (x : ImgSection) : Option (Nat × Nat) :=
  match secRecs e.img x with
  | [] => some (0x0068, noRec)
  | h :: _ =>
    let (space, _, start, rows) := dataTarget h
    let inside : Bool := match space with
      | 0 => decide (h.le 2 1 < e.lsize ∧ start + rows ≤ 32768)
      | 1 => decide (start + rows ≤ 262144)
      | _ => h.le 8 8 % 512 == 0 && (match e.partAt (h.le 1 1) with | some p => decide (p.base ≤ h.le 8 8 ∧ h.le 8 8 + 512 * rows ≤ p.limit) | none => false)
    let met := (ofType before 9).any (fun q => match secRecs e.img q with | g :: _ => targetsMeet (dataTarget g) (dataTarget h) | [] => false)
    if decide (2 < h.le 0 1 ∨ 1 < h.le 3 1) || !zeroOutside 512 [(0, 4), (8, 8), (0x10, 4)] h || x.count != (if h.le 3 1 = 0 then rows + 1 else 2) || !inside || met
    then some (0x0068, 0) else none

/-- GUST_SEEDS (02 R63). -/
def checkSeeds (e : ImgEnv) (rs : List Rec) : Option (Nat × Nat) :=
  scanRecs (fun seen r =>
    bad (!e.parts.any (fun p => p.num == r.le 0 1) || decide (16 ≤ r.le 1 1) || r.le 2 14 != 0 || seen.any (fun q => q.le 0 2 == r.le 0 2)) 0x0069) [] rs

/-! ## Mesh slots and static routes (09 R362, R364, R365, R382 to R384) -/

/-- A link of a router does not exist (09 R365). -/
def linkAbsent (c link : Nat) : Bool :=
  decide (32 ≤ c ∨ 4 < link) || (if link = 4 then !(meshCol c == 0 || meshCol c == 7) else (neighbour c link).isNone && !leavesMesh c link)

/-- MESH_SLOTS (09 R364, R365). -/
def checkMesh (rs : List Rec) : Option (Nat × Nat) :=
  scanThen (scanRecs (fun seen r =>
    bad (match r.le 0 1 with
      | 1 => linkAbsent (r.le 1 1) (r.le 2 1) || r.le 3 5 != 0 || seen.any (fun q => q.le 0 3 == r.le 0 3) ||
          (List.range 64).any (fun k => let v := r.le (8 + k) 1; decide (0x40 ≤ v ∧ v ≠ 0xFF))
      | 2 => !zeroOutside 72 [(0, 1), (2, 2)] r || decide (1024 ≤ r.le 2 2) || seen.any (fun q => q.le 0 1 == 2)
      | _ => true) 0x006F) [] rs)
    (bad (!rs.any (fun r => r.le 0 1 == 2)) 0x006F)

/-- The outputs of a route entry that are links. -/
def routeLinks (r : Rec) : List Nat := (List.range 4).filter (fun l => (r.le 3 1).testBit l)

/-- FAB_PORT of a route entry is wrong: a port of the die that its output reaches, otherwise 0xFF (09 R382, R384). -/
def routePortBad (r : Rec) : Bool :=
  let c := r.le 0 1
  match (routeLinks r).filter (fun l => leavesMesh c l) with
  | [] => r.le 5 1 != 0xFF
  | l :: _ => if l = 3 then decide (1 < r.le 5 1) else !(r.le 5 1 == 2 || r.le 5 1 == 3)

/-- The entries of a tree that a cycle holds back: `n` rounds of removing those that lead to none left (09 R384). -/
def treeCore : Nat → List Rec → List Rec
  | 0, rs => rs
  | n + 1, rs => treeCore n (rs.filter (fun r => (routeLinks r).any (fun l => match neighbour (r.le 0 1) l with
      | some d => rs.any (fun q => q.le 0 1 == d)
      | none => false)))

/-- The multicast or combine tree of an entry is not acyclic, or the entry reaches a router without an entry (09 R384). -/
def treeBad (e : ImgEnv) (rs : List Rec) (r : Rec) : Bool :=
  let part (q : Rec) : Option Nat := (e.partAt (q.le 0 1)).map (·.num)
  let tree := rs.filter (fun q => q.le 1 1 == r.le 1 1 && part q == part r)
  (routeLinks r).any (fun l => match neighbour (r.le 0 1) l with
    | some d => !tree.any (fun q => q.le 0 1 == d)
    | none => false) || (treeCore 32 tree).contains r

/-- An entry of a multicast or combine route lies outside the partition that owns its group: groups have the route, and none of them is owned by the entry's partition (09 R384). -/
def routeGroupBad (e : ImgEnv) (r : Rec) : Bool :=
  let groups := (e.force 0xD).filter (fun g => g.le 2 1 == r.le 1 1)
  !groups.isEmpty && groups.all (fun g => match e.partAt (r.le 0 1) with | some p => !p.mcast.testBit (g.le 0 1) | none => true)

/-- STATIC_ROUTES (02 R64; 09 R382 to R384). -/
def checkRoutes (e : ImgEnv) (rs : List Rec) : Option (Nat × Nat) :=
  scanRecs (fun seen r =>
    let c := r.le 0 1
    let kind := r.le 2 1
    let out := r.le 3 1
    let tree := kind == 2 || kind == 3
    if 64 ≤ (seen.filter (fun q => q.le 0 1 == c)).length then some 0x006A
    else bad (seen.any (fun q => q.le 0 2 == r.le 0 2) || decide (64 ≤ r.le 1 1 ∨ kind < 1 ∨ 5 < kind ∨ 32 ≤ out) || r.le 7 1 != 0 || r.le 0xD 3 != 0 ||
      (if kind = 3 then decide (16 ≤ r.le 4 1) else r.le 4 1 != 0) || decide (32 ≤ r.le 6 1) ||
      (routeLinks r).any (fun l => (neighbour c l).isNone && !leavesMesh c l) || routePortBad r ||
      decide (2 ^ e.lsize ≤ r.le 8 4) || (if kind = 3 ∧ out.testBit 4 then decide (e.lsize ≤ r.le 0xC 1) else r.le 0xC 1 != 0) ||
      (!tree && (decide (1 < bitsSet out 5) || (out.testBit 4 && bitsSet (r.le 8 4) 24 != 1))) ||
      (tree && (routeGroupBad e r || treeBad e rs r))) 0x006F) [] rs

/-- MULTICAST_GROUPS (02 R64; 09 R385). -/
def checkGroups (e : ImgEnv) (rs : List Rec) : Option (Nat × Nat) :=
  scanRecs (fun seen r =>
    if (match e.partAt (r.le 4 1) with | some p => !p.mcast.testBit (r.le 0 1) | none => true) then some 0x006A
    else bad (seen.any (fun q => q.le 0 1 == r.le 0 1) || decide (64 ≤ r.le 0 1 ∨ 1 < r.le 1 1 ∨ 64 ≤ r.le 2 1) || r.le 7 1 != 0 || r.le 0xC 4 != 0 ||
      outside (r.le 8 4) 1 1000000 ||
      (if r.le 1 1 = 0 then r.le 3 1 != 0 || !(r.le 5 1 == r.le 4 1 || r.le 5 1 == 0xFF) || !(decide (r.le 6 1 < e.lsize) || r.le 6 1 == 0xFF)
       else decide (3 < r.le 3 1))) 0x006F) [] rs

/-! ## Tag queues (09 R366, R367; 02 R64) -/

/-- A queue record and a sender record name one queue. -/
def sameQueue (q r : Rec) : Bool := q.le 1 3 == r.le 1 3
/-- The OPEN_MERGE_ALLOWED flag of the partition of a cluster (02 R53). -/
def openMergeAt (e : ImgEnv) (c : Nat) : Bool :=
  match e.partAt c with
  | some p => (e.recs 5).any (fun r => r.le 0 1 == p.num && (r.le 1 1).testBit 2)
  | none => false

/-- TAG_QUEUES (02 R64; 09 R366, R367, R375). -/
def checkQueues (e : ImgEnv) (rs : List Rec) : Option (Nat × Nat) :=
  scanRecs (fun seen r =>
    match r.le 0 1 with
    | 1 =>
      let mine := seen.filter (fun q => q.le 0 1 == 1 && q.le 1 2 == r.le 1 2)
      let merge := r.le 5 1 / 2 % 4
      let count := r.le 6 1
      let senders := rs.filter (fun q => q.le 0 1 == 2 && sameQueue q r)
      if 256 < ((r :: mine).map (fun q => q.le 4 1 + 1)).sum then some 0x006A
      else bad (mine.any (sameQueue r) || !e.hasTask (r.le 1 1) (r.le 2 1) || decide (32 ≤ r.le 3 1 ∨ 16 ≤ r.le 5 1 ∨ merge = 3) || outside count 1 32 || r.le 7 1 != 0 ||
        (merge == 0 && decide (1 < count)) || (r.le 5 1).testBit 0 && (r.le 5 1).testBit 3 || (merge == 2 && !openMergeAt e (r.le 1 1)) ||
        (List.range count).any (fun k => (senders.filter (fun q => q.le 4 1 == k)).length != 1)) 0x006F
    | 2 => bad (match rs.find? (fun q => q.le 0 1 == 1 && sameQueue q r) with
      | some q => decide (q.le 6 1 ≤ r.le 4 1 ∨ 2 ^ 22 ≤ r.le 5 3)
      | none => true) 0x006F
    | _ => some 0x006F) [] rs

/-! ## Bank splits and gatherer channels (08 R310, R311; 07 R248; 10 R401, R402) -/

/-- A CM_SLOTS code is refused: a logical core of L or greater, or a reserved code (08 R311). -/
def slotCodeBad (L v : Nat) : Bool := !(decide (v < 24 ∧ v < L) || v == 0x18 || v == 0x19 || v == 0x1A || v == 0x1F)
/-- The CM_SLOTS records of a cluster. -/
def slotRecs (rs : List Rec) (c : Nat) : List Rec := rs.filter (fun r => r.le 0 1 == 3 && r.le 1 1 == c)
/-- A cluster's slot table has an entry 0x1A (10 R402); the default table has (08 R310). -/
def hasGatherSlot (rs : List Rec) (c : Nat) : Bool :=
  (slotRecs rs c).isEmpty || (slotRecs rs c).any (fun r => (List.range 4).any (fun k => r.le (4 + k) 1 == 0x1A))

/-- The cluster-memory buffers of a cluster: base and length (08 R292). -/
def cmBuffers (e : ImgEnv) (c : Nat) : List (Nat × Nat) :=
  ((e.force 0x10).filter (fun r => r.le 0 1 == 2 && r.le 1 1 == c && r.le 2 1 == 1)).map (fun r => (r.le 0x10 4, r.le 0x14 4))

/-- The consumers of an enabled channel do not all have its area in their windows (10 R402). -/
def areaBad (e : ImgEnv) (rs : List Rec) (r : Rec) : Bool :=
  match rs.find? (fun q => q.le 0 1 == 4 && q.le 1 2 == r.le 1 2) with
  | some q => (List.range 24).any (fun l => (q.le 4 3).testBit l && (match e.task (r.le 1 1) l with
      | some t => decide (r.le 4 4 < t.le 0x10 4 ∨ t.le 0x14 4 < r.le 4 4 + 288)
      | none => false))
  | none => false

/-- BANK_SPLITS (02 R64; 07 R248; 08 R310, R311; 10 R401, R402). -/
def checkSplits (e : ImgEnv) (rs : List Rec) : Option (Nat × Nat) :=
  scanThen (scanRecs (fun seen r =>
    let c := r.le 1 1
    match r.le 0 1 with
    | 1 =>
      if r.le 2 1 = 0 ∨ r.le 3 1 = 0 ∨ r.le 4 1 = 0 ∨ r.le 2 1 + r.le 3 1 + r.le 4 1 ≠ 8 then some 0x006A
      else bad (seen.any (fun q => q.le 0 2 == r.le 0 2) || r.le 5 3 != 0) 0x006F
    | 2 => bad (decide (e.lsize ≤ r.le 2 1) || r.le 3 1 != 0 || seen.any (fun q => q.le 0 3 == r.le 0 3) ||
        r.le 4 1 &&& r.le 5 1 != 0 || r.le 6 1 &&& r.le 7 1 != 0) 0x006F
    | 3 => bad (r.le 2 1 % 4 != 0 || r.le 3 1 != 0 || seen.any (fun q => q.le 0 3 == r.le 0 3) || (List.range 4).any (fun k => slotCodeBad e.lsize (r.le (4 + k) 1))) 0x006F
    | 4 => bad (decide (4 ≤ r.le 2 1) || outside (r.le 3 1) 1 64 || r.le 4 3 == 0 || (List.range 24).any (fun l => (r.le 4 3).testBit l && !e.hasTask c l) || r.le 7 1 != 0 ||
        seen.any (fun q => q.le 0 3 == r.le 0 3) || (rs.any (fun q => q.le 0 1 == 5 && q.le 1 2 == r.le 1 2) && !hasGatherSlot rs c)) 0x006F
    | 5 => bad (decide (4 ≤ r.le 2 1) || r.le 3 1 != 0 || r.le 4 4 % 16 != 0 || seen.any (fun q => q.le 0 3 == r.le 0 3) ||
        seen.any (fun q => q.le 0 2 == r.le 0 2 && rangesMeet (q.le 4 4) 288 (r.le 4 4) 288) || (cmBuffers e c).any (fun b => rangesMeet b.1 b.2 (r.le 4 4) 288) ||
        areaBad e rs r) 0x006F
    | _ => some 0x006F) [] rs)
    (bad (e.clusters.any (fun c => let n := (slotRecs rs c).length; n != 0 && n != 64)) 0x006F)

/-! ## Streams and guarded buffers (07 R255; 08 R288 to R293) -/

/-- The fields of a stream record (08 R289). -/
def streamDescOf (r : Rec) : StreamDesc :=
  { owner := r.le 3 1, dirOut := r.le 4 1 == 1, farSpace := r.le 5 1, farCluster := r.le 6 1, nearKind := r.le 7 1, nearIndex := r.le 8 1, nearLcore := r.le 9 1
    tileDims := r.le 0xA 1, prefetch := r.le 0xB 1, tags := r.le 0xC 2, digest := (r.le 0xE 2).testBit 15, digestNum := r.le 0xE 2 % 32768, farBase := r.le 0x10 8
    nearBase := r.le 0x18 4, nearLen := r.le 0x1C 4, counts := (List.range 5).map (fun i => r.le (0x20 + 2 * i) 2)
    strides := (List.range 5).map (fun i => signedOf 64 (r.le (0x30 + 8 * i) 8)) }

/-- The fields of a guarded buffer declaration, its ring positions at BASE (08 R292). -/
def guardedOf (r : Rec) : Guarded :=
  { cm := r.le 2 1 == 1, lcore := r.le 3 1, buffer := r.le 4 1, producer := r.le 5 1, producerId := r.le 6 1, producerCluster := r.le 7 1, consumer := r.le 8 1
    consumerId := r.le 9 1, base := r.le 0x10 4, length := r.le 0x14 4, prodPos := r.le 0x10 4, consPos := r.le 0x10 4 }

/-- A buffer matches a stream with NEAR_KIND 2 (08 R291). -/
def bufferMatches (st : Nat) (d : StreamDesc) (g : Guarded) : Bool :=
  g.buffer == d.nearIndex && g.lcore == d.nearLcore && (if d.dirOut then streamConsumes st g else streamProduces st g)

/-- The near end of a stream is refused (08 R291, R293). -/
def nearBad (e : ImgEnv) (rs seen : List Rec) (r : Rec) (d : StreamDesc) : Bool :=
  let c := r.le 1 1
  let window (t : Option Rec) (kind : Nat) : Bool := match t with
    | some q => let (lo, hi) := taskWindow q kind; decide (d.nearLen = 0 ∨ d.nearBase < lo ∨ hi < d.nearBase + d.nearLen)
    | none => true
  match d.nearKind with
  | 0 => window (e.task c d.nearLcore) 0
  | 1 => window (e.task c d.owner) 1
  | 2 => d.nearBase != 0 || d.nearLen != 0 ||
      ((rs.filter (fun q => q.le 0 1 == 2 && q.le 1 1 == c)).filter (fun q => bufferMatches (r.le 2 1) d (guardedOf q))).length != 1
  | 3 => d.nearBase != 0 || d.nearLen != 0 || decide (4 ≤ d.nearIndex) ||
      seen.any (fun q => q.le 0 2 == r.le 0 2 && (let f := streamDescOf q; f.nearKind == 3 && f.nearIndex == d.nearIndex && f.nearLcore == d.nearLcore && f.dirOut == d.dirOut))
  | _ => true

/-- The far end of a stream is refused (08 R293). -/
def farBad (e : ImgEnv) (c : Nat) (d : StreamDesc) : Bool :=
  match d.farSpace with
  | 2 => d.farCluster == c || (match e.partAt c with | some p => !p.clusters.testBit d.farCluster | none => true)
  | 0 | 1 => d.farCluster != 0 || d.farBase % 512 != 0 || d.strides.any (fun v => v % 512 != 0)
  | _ => true

/-- A digest stream is refused: one of DIR 0, or one whose number another digest stream of its partition has (11 R440). -/
def digestBad (e : ImgEnv) (seen : List Rec) (c : Nat) (d : StreamDesc) : Bool :=
  d.digest && (!d.dirOut || seen.any (fun q => q.le 0 1 == 1 && (streamDescOf q).digest && (streamDescOf q).digestNum == d.digestNum &&
    (match e.partAt c with | some p => p.clusters.testBit (q.le 1 1) | none => false)))

/-- The code with which a stream record is refused (08 R289, R293; 02 R64; 11 R440). -/
def streamFail (e : ImgEnv) (rs seen : List Rec) (r : Rec) : Option Nat :=
  let c := r.le 1 1
  let d := streamDescOf r
  let mine := seen.filter (fun q => q.le 0 2 == r.le 0 2)
  let budget := ((mine.map streamDescOf).filter (fun f => f.dirOut == d.dirOut)).foldl (fun a f => a + f.tags) d.tags
  if 256 ≤ mine.length then some 0x006A
  else bad (mine.any (fun q => q.le 2 1 == r.le 2 1) || !e.hasTask c d.owner || !e.hasTask c d.nearLcore || decide (1 < r.le 4 1) ||
    outside d.tileDims 1 5 || outside d.prefetch 1 8 || outside d.tags 1 (if d.dirOut then 512 else 1024) || d.counts.contains 0 || r.le 0x2A 6 != 0 || r.le 0x58 40 != 0 ||
    decide ((if d.dirOut then 512 else 1024) < budget) || farBad e c d || digestBad e seen c d || nearBad e rs seen r d) 0x006F

/-- A buffer names a stream that does not name it (08 R293). -/
def orphanBuffer (rs : List Rec) (c : Nat) (g : Guarded) : Bool :=
  let names (st : Nat) (out : Bool) : Bool := rs.any (fun q => q.le 0 1 == 1 && q.le 1 1 == c && q.le 2 1 == st &&
    (let d := streamDescOf q; d.nearKind == 2 && d.dirOut == out && bufferMatches st d g))
  (g.producer == 0 && !names g.producerId false) || (g.consumer == 1 && !names g.consumerId true)

/-- The code with which a buffer declaration is refused (07 R255; 08 R292, R293). -/
def bufferFail (e : ImgEnv) (rs seen : List Rec) (r : Rec) : Option Nat :=
  let c := r.le 1 1
  let g := guardedOf r
  let mine := (seen.filter (fun q => q.le 0 3 == r.le 0 3)).map guardedOf |>.filter (fun h => g.cm || h.lcore == g.lcore)
  let (lo, hi) := match e.task c g.lcore with | some t => taskWindow t (if g.cm then 1 else 0) | none => (0, 0)
  bad (decide (1 < r.le 2 1 ∨ 3 < g.producer ∨ 1 < g.consumer) || !e.hasTask c g.lcore || decide ((if g.cm then 32 else 16) ≤ g.buffer ∨ (if g.cm then 32 else 16) ≤ mine.length) ||
    (g.producer != 3 && g.producerCluster != 0) || (g.consumer != 1 && g.consumerId != 0) || r.le 0xA 6 != 0 || r.le 0x18 104 != 0 ||
    g.base % 8 != 0 || g.length % 8 != 0 || outside g.length 8 (if g.cm then 65536 else 8192) || decide (g.base < lo ∨ hi < g.base + g.length) ||
    mine.any (fun h => rangesMeet h.base h.length g.base g.length) || orphanBuffer rs c g) 0x006F

/-- STREAM_DESCRIPTORS (08 R288 to R293). -/
def checkStreams (e : ImgEnv) (rs : List Rec) : Option (Nat × Nat) :=
  scanRecs (fun seen r => match r.le 0 1 with
    | 1 => streamFail e rs seen r
    | 2 => bufferFail e rs seen r
    | _ => some 0x006F) [] rs

/-! ## Fabric windows (12 R489, R490; 02 R64) -/

/-- The WINDOW records of a port. -/
def windowRecs (rs : List Rec) (port : Nat) : List Rec := rs.filter (fun r => r.le 0 1 == 4 && r.le 1 1 == port)
/-- The PORT record of a port sets a flag. -/
def portFlag (rs : List Rec) (port bit : Nat) : Bool := rs.any (fun r => r.le 0 1 == 2 && r.le 1 1 == port && (r.le 3 1).testBit bit)
/-- The wire time of an 8-row DATA frame, in hundredths of a ns (12 R469, R490). -/
def longFrame (macsec : Bool) : Nat := wireTime macsec { ftype := 1, rows := List.replicate 8 0 }

/-- The code with which a SCHEDULE record is refused. -/
def scheduleFail (seen : List Rec) (r : Rec) : Option Nat :=
  let period := r.le 4 4
  let slack := r.le 8 4
  if outside period 10000 1000000 then some 0x006A
  else bad (seen.any (fun q => q.le 0 1 == 1) || decide (period % 2 ≠ 0 ∨ slack % 2 ≠ 0 ∨ slack < 500 ∨ period < 2 * slack) || !zeroOutside 16 [(0, 1), (4, 8)] r) 0x006F

/-- A PORT record is refused. -/
def portBad (rs seen : List Rec) (r : Rec) : Bool :=
  let port := r.le 1 1
  decide (4 ≤ port ∨ 2 < r.le 2 1 ∨ 4 ≤ r.le 3 1 ∨ r.le 4 2 < 0x0600 ∨ 4096 ≤ r.le 6 2) || [0x8100, 0x88E5, 0x88F7].contains (r.le 4 2) ||
    outside (r.le 0xE 1) 1 16 || decide (r.le 0xF 1 = 0) || seen.any (fun q => q.le 0 2 == r.le 0 2) ||
    ((r.le 3 1).testBit 1 && !(windowRecs rs port).any (fun w => w.le 2 1 == 2 && w.le 3 1 == 0xFF))

/-- A PEER record is refused; `self` is the device that the image names. -/
def peerBad (rs seen : List Rec) (self : Nat) (r : Rec) : Bool :=
  let mine := seen.filter (fun q => q.le 0 2 == r.le 0 2)
  decide (4 ≤ r.le 1 1 ∨ 1024 ≤ r.le 2 2 ∨ 64 ≤ r.le 0xA 1) || outside (r.le 0xB 1) 1 64 || r.le 0xC 4 != 0 || r.le 2 2 == self || mine.any (fun q => q.le 2 2 == r.le 2 2) ||
    decide (512 < mine.foldl (fun a q => a + q.le 0xB 1) (r.le 0xB 1)) ||
    [0, 1, 2].any (fun k => !(windowRecs rs (r.le 1 1)).any (fun w => w.le 2 1 == k && w.le 3 1 == r.le 0xA 1))

/-- A WINDOW record is refused. -/
def windowBad (rs seen : List Rec) (r : Rec) : Bool :=
  let mine := windowRecs seen (r.le 1 1)
  let kind := r.le 2 1
  let start := r.le 4 4
  let len := r.le 8 4
  decide (4 ≤ r.le 1 1 ∨ 2 < kind ∨ 7 < r.le 0xC 1 ∨ start % 2 ≠ 0 ∨ len % 2 ≠ 0) || r.le 0xD 3 != 0 || !(decide (r.le 3 1 < 64) || (kind == 2 && r.le 3 1 == 0xFF)) ||
    (match rs.find? (fun q => q.le 0 1 == 1) with | some q => decide (q.le 4 4 < start + len + q.le 8 4) | none => true) ||
    mine.any (fun q => rangesMeet (q.le 4 4) (q.le 8 4) start len) || decide (256 ≤ mine.length) ||
    (kind != 2 && decide (100 * len < longFrame (portFlag rs (r.le 1 1) 0)))

/-- FABRIC_WINDOWS (02 R64; 12 R489, R490). -/
def checkFabric (self : Nat) (rs : List Rec) : Option (Nat × Nat) :=
  scanRecs (fun seen r => match r.le 0 1 with
    | 1 => scheduleFail seen r
    | 2 => bad (portBad rs seen r) 0x006F
    | 3 => bad (peerBad rs seen self r) 0x006F
    | 4 => bad (windowBad rs seen r) 0x006F
    | _ => some 0x006F) [] rs

/-! ## All sections, in directory order (02 R74) -/

/-- The device number that the image's identity record gives (09 R364). -/
def imgSelf (e : ImgEnv) : Nat := selfAfter e.s e.part e.img e.secs

/-- The first failure of one section; `before` are the sections before it. -/
def sectionFail (e : ImgEnv) (before : List ImgSection) (x : ImgSection) : Option (Nat × Nat) :=
  let rs := secRecs e.img x
  match x.stype with
  | 0x1 => checkMap rs
  | 0x2 => checkClock e rs
  | 0x3 => checkCoreMap e rs
  | 0x4 => checkLatency rs
  | 0x5 => checkRun e rs
  | 0x6 => checkTasks e rs
  | 0x7 => checkProgram e before x
  | 0x8 => checkRelocs e rs
  | 0x9 => checkData e before x
  | 0xA => checkSeeds e rs
  | 0xB => checkMesh rs
  | 0xC => checkRoutes e rs
  | 0xD => checkGroups e rs
  | 0xE => checkQueues e rs
  | 0xF => checkSplits e rs
  | 0x10 => checkStreams e rs
  | 0x11 => checkFabric (imgSelf e) rs
  | _ => none

/-- The first failure among the sections. -/
def sectionsFail (e : ImgEnv) : List ImgSection → List ImgSection → Option ImgFail
  | _, [] => none
  | before, x :: rest =>
    match sectionFail e before x with
    | some (code, i) => some (code, x.index, i)
    | none => sectionsFail e (before ++ [x]) rest

/-- The first check of R74 that fails, from 0x0013 on; none where the image passes. -/
def imageFail (s : State) (part : Option Nat) (img len : Nat) : Option ImgFail :=
  let secs := imgSections img
  match headerFail s part img len secs with
  | some f => some f
  | none => match directoryFail part img secs with
    | some f => some f
    | none => match scopeFail (selfAfter s part img secs) part img secs with
      | some f => some f
      | none => sectionsFail { s := s, part := part, img := img, secs := knownSecs secs } [] (knownSecs secs)

end Sys2Proof.Machine
end

