-- ==== Sys2Proof/Machine/Resets.lean ====
section
/-! DEFINITION. What a T reset of a partition and a C reset of a cluster leave (17 R669, R670, R673; 19 R719, R726, R729, and the Reset columns of every chapter). -/

namespace Sys2Proof.Machine

/-! ## A core (03 R126, R128; 04 R166, R179; 06 R240; 07 R285; 09 R377, R381; 18 R683) -/


/-- The array as a task finds it; its statistics are kept (04 R166; 19 R729). -/
def resetMat (m : Mat) : Mat := { bubbles := m.bubbles, slips := m.slips }

/-- The local memory side after a T or C reset: a T reset also returns the bank power bits (07 R285). -/
def resetMem (t : Bool) (m : CoreMem) : CoreMem :=
  { m with
    flags := 0, banks := if t then [] else m.banks, moves := [], moveSeq := 0, landing := [], remote := [], arriving := none, reply := none
    rrdSent := false, uses := [], cntWindows := [] }

/-- The state of a core after a reset: a failed or disabled core is out of service, a core without a task has none, any other is stopped (01 R28; 03 R126). A spare reads as a core without a task (DESIGN CHOICE). -/
def restState (off : Bool) (c : Core) : RunState := if off || c.fenced then .disabled else if c.task.isSome then .stopped else .noTask

/-- A tag queue closed and at POSITION 0; its record and its statistic are kept (09 R377, R397). -/
def closeQueue (q : TagQueue) : TagQueue := { q with state := .closed, position := 0, entries := [], taken := 0, refusing := [] }

/-- A core after a T or C reset. Its task, program, power split, failed mark and statistics are kept. -/
def resetCore (t off : Bool) (c : Core) : Core :=
  { c with
    state := restState off c, cause := .none, slot := 0, waitIx := 0, frozenFor := 0, idleFor := 0, waking := false
    pc := (c.task.getD {}).entry, issued := 0, x := [], v := [], m := [], loops := [], inflight := [], calm := none
    packedFp16 := false, gcount := 0, seq := 0, vecFlags := 0, mat := resetMat c.mat, mem := resetMem t c.mem
    sp := c.sp.map (fun e => (e.1, { e.2 with rows := [], taken := 0 }))
    sw := c.sw.map (fun e => (e.1, { e.2 with openRow := 0, offered := [], buffer := [] }))
    tq := c.tq.map (fun e => (e.1, closeQueue e.2))
    outq := [], late := [], fault := { info := {} }, mcastStopped := false, ending := false, release := false }

/-! ## A cluster (07 R286; 08 R337, R345; 09 R389, R396; 10 R419, R422; 18 R683) -/

/-- A stream after a T or C reset: idle, its index vector at zero (08 R337). -/
def resetStream (x : Stream) : Stream := { desc := x.desc }

/-- A gatherer channel with its batches discarded and BATCH_SEQ at 0 (10 R419, R422). -/
def resetChannel (h : Channel) : Channel := { h with buf0 := {}, buf1 := {}, seq := 0, err := { info := {} } }

/-- A guarded buffer with both ring positions at BASE (08 R292). -/
def resetGuarded (g : Guarded) : Guarded := { g with prodPos := g.base, consPos := g.base }

/-- The parts of a cluster outside its cores after a T or C reset. Bank fences and power bits return at a T reset, fences also when an image is applied. -/
def resetUnits (t : Bool) (x : Cluster) : Cluster :=
  { x with
    mem := { x.mem with
      banks := if t then [] else x.mem.banks, fencedBanks := 0, uses := []
      coll := { info := {} }, unpwr := { info := {} }, eccUe := { info := {} } }
    str := { x.str with
      streams := x.str.streams.map (fun e => (e.1, resetStream e.2)), gddr := [], host := [], ringOwed := 0, buffers := x.str.buffers.map resetGuarded, err := { info := {} } }
    msg := { x.msg with combine := [], members := [], txDrop := { info := {} }, snap := { info := {} } }
    chans := x.chans.map (fun e => (e.1, resetChannel e.2))
    remoteIn := [] }

/-- A ring without EN and in STATE 0 (15 R592, R609). -/
def offRing (x : Ring) : Ring := { x with en := false, state := .off, polled := none, sent := false, xlat := none }

/-- The rings of a cluster are disabled (15 R592). -/
def offRings (s : State) (c : Nat) : State :=
  { s with hp := { s.hp with rings := s.hp.rings.map (fun e => (e.1, if e.1 / 4 = c then offRing e.2 else e.2)) } }

/-- A cluster after a T or C reset: its queues discard what they hold, its cores, units and rings return (17 R670, R673). -/
def resetCluster (t : Bool) (s : State) (c : Nat) : State :=
  let s1 := (coresOf c).foldl (fun a n => modCore (emptyQueues a n .closed) n (resetCore t ((getClus a c).disabled.getLsbD (pcoreOf n)))) s
  offRings (modClus s1 c (resetUnits t)) c

/-- The multicast groups of a partition at their reset values (09 R389, R399). -/
def resetGroups (s : State) (p : Nat) : State :=
  { s with groups := s.groups.map (fun e => (e.1, if e.2.part = p then { e.2 with state := 0, fenced := 0, first := none, clusters := 0 } else e.2)) }

/-! ## A partition -/

/-- The CLOCK_PLAN step of a partition, that of its lowest-numbered cluster (02 R50). -/
def planStepOf (s : State) (p : Nat) : Nat := (getClus s (lowestCluster s p)).planStep

/-- A partition goes to its CLOCK_PLAN steps, by a switch where a cluster that takes part in it runs at another step (14, under R555; 17 R674; 02 R76). -/
def goPlan (s : State) (p : Nat) : State :=
  let away := (clustersOf s p).any (fun c => let x := getClus s c; switchesWith x && x.step != x.planStep)
  let plan := planStepOf s p
  modPart s p (fun x => { x with freq := { x.freq with
    current := plan, pending := none, waitRelock := false, switching := away, gated := away && x.freq.gated, target := plan, calmMode := false,
    stopAfter := false, byReset := away, quiet := false } })

/-- A T reset clears the throttle state, and every cluster goes back to its CLOCK_PLAN step by the same switch (19 R719; 14, under R555). The registers take their reset values at once: STEP reads the CLOCK_PLAN step, and SWITCHING reads 0 (14 R571, R572). -/
def returnSteps (s : State) (p : Nat) : State :=
  let s1 := (clustersOf s p).foldl (fun a c => modClus a c (fun x => { x with throttled := false, throttleWait := none, coolSince := none, own := none, gated := none, paused := [] })) s
  let s2 := modPart (goPlan s1 p) p (fun x => { x with freq := { x.freq with quiet := x.freq.switching } })
  (clustersOf s p).foldl (fun a c => modClus a c (fun x => { x with step := x.planStep })) s2

/-- Pause, save and digest registers after a T reset: SAVE_ADDR, the identity, the sequence counter and the statistics are kept (11 R435, R457, R463). -/
def resetDet (d : Det) : Det :=
  { d with phase := 0, backPhase := 0, resultValid := false, code := 0, calmLast := none, ring := [], digCount := 0, digNewest := 0 }

/-- The partition's own registers after a T reset (17 R670, R676; 10 R423; 13 R542, R544; 15 R608; 08 R337). -/
def resetPart (x : Part) : Part :=
  { x with
    kept := false, restored := false, stopPending := false, stopTime := none, degraded := false, faultStop := false
    step := x.run.stepInit, calm := none, calmHeld := false, gatherDeadline := x.run.gatherDeadline, msixMod := x.run.msixMod
    det := resetDet x.det
    pf := { x.pf with queue := [], overflow := [], resolving := [], pri := [] }
    twin := { emptyTwin x.twin with ord := 0, err := { info := {} } } }

/-- The T reset of a partition but for its scrub and its resulting state (17 R670; 19 R729). -/
def resetPartition (s : State) (p : Nat) : State :=
  let s1 := (clustersOf s p).foldl (resetCluster true) s
  let s2 := returnSteps (resetGroups s1 p) p
  modPart { s2 with closedRanges := s2.closedRanges.filter (fun r => r.1 != p) } p resetPart

end Sys2Proof.Machine
end

