-- ==== Sys2Proof/Machine/Partition.lean ====
section
/-! DEFINITION. The partition commands START, STOP and ABORT, the twin deadline, and the clear of a first-fault record (17 R663 to R671; 13 R541; 18 R690 to R694). -/

namespace Sys2Proof.Machine

/-- A partition command ends with its code (17 R663). -/
def partEnd (s : State) (p code : Nat) : State := modPart s p (fun x => { x with resultValid := true, code := code })

/-- A command of PART_CMD given by a host port (17 R663, R676). -/
def partCmd (h p op : Nat) (act : State → State) (s : State) : Res :=
  hostCmd s h (partOff p 0) (BitVec.ofNat 32 op) (partDenied s h p) act

/-- A save, dump or restore runs, or the partition is frozen: code 0x00A4 (17 R663, R671). -/
def phaseBusy (x : Part) : Bool := x.det.phase == 3 || detBusy x.det

/-! ## START (17 R664, R665) -/

/-- A core that a START sets going: it has a task and is not out of service (17 R664; 18 R683). -/
def startable (c : Core) : Bool := c.task.isSome && c.state == .stopped

/-- A core started from a FRESH start point: its queues open at POSITION 0, a fenced one apart, and its task begins at ENTRY_PC (17 R664; 09 R377, R381). -/
def startFresh (c : Core) : Core :=
  let c1 := { c with ccs := 0, tq := c.tq.map (fun e => (e.1, if e.2.bound && e.2.state != .fenced then { e.2 with state := .opened, position := 0 } else e.2)) }
  if startable c then { c1 with state := .running, pc := (c.task.getD {}).entry, issued := 0, seq := 0 } else c1

/-- A core restored by RESTORE goes on from its saved PC (17 R664). -/
def startKept (c : Core) : Core :=
  let c1 := { c with ccs := 0, outq := c.outq.map (fun r => { r with came := 0 }) }
  if startable c then { c1 with state := .running } else c1

/-- The multicast groups of a partition act from its start on; a group that a fence degraded or stopped keeps that state (09 R385, R399; DESIGN CHOICE after a T reset). -/
def openGroups (s : State) (p : Nat) : State :=
  { s with groups := s.groups.map (fun e => (e.1, if e.2.part = p ∧ e.2.state = 0 then { e.2 with state := 1 } else e.2)) }

/-- An accepted START or STOP addresses the cores of its partition: those in Lull begin their wake (03 R108). -/
def wakePart (s : State) (p : Nat) : State := (partCores s p).foldl wakeCore s

/-- The rows that wait in a cluster's lane buffers as its count of cc begins again: they came first (09 R373). -/
def cameBefore (x : Cluster) : Cluster :=
  { x with msg := { x.msg with bufs := x.msg.bufs.map (fun b => (b.1, b.2.map (fun r => { r with msg := { r.msg with came := 0 } }))) } }

/-- The partition starts (03 R108; 17 R664, R665; 08 R314; 10 R418; 11 R448). -/
def startPart (s : State) (p : Nat) : State :=
  let x := getPart s p
  let s1 := wakePart (if x.kept then restartBatches (releaseAll s p) p else s) p
  let s2 := (partCores s1 p).foldl (fun a n => modCore a n (if x.kept then startKept else startFresh)) s1
  let s3 := modPart ((clustersOf s2 p).foldl (fun a c => modClus a c (fun x => { cameBefore x with stopAt := none })) (openGroups s2 p)) p (fun y =>
    { y with state := .running, kept := false, restored := false, hostPort := y.owner, starts := y.starts.bump })
  partEnd s3 p 0

/-- START with its checks (17 R663, R664, R671). -/
def startCmd (s : State) (p : Nat) : State :=
  let x := getPart s p
  if phaseBusy x then partEnd s p 0x00A4
  else if x.state ≠ .stopped ∨ x.aborting then partEnd s p 0x00A0
  else if !(partCores s p).any (fun n => (getCore s n).task.isSome) then partEnd s p 0x00A1
  else startPart s p

/-- START (17 R664). -/
def execStart (h : Fin 2) (p : PartId) (s : State) : Res := partCmd h.val p.val 0x01 (fun t => startCmd t p.val) s

/-! ## STOP (17 R666 to R668) -/

/-- A stop becomes pending; a paused partition, or one without participants, stops at once (17 R666; 03 R108). -/
def stopPart (s : State) (p : Nat) : State :=
  let paused := (getPart s p).det.phase = 2
  let s1 := modPart (wakePart s p) p (fun x => { x with state := .stopping, stopPending := true, stopTime := some (nowNs s), det := { x.det with phase := 0 } })
  if paused ∨ (participants s1 p).isEmpty then takeStop s1 p else s1

/-- STOP with its checks (17 R663, R666, R671). -/
def stopCmd (s : State) (p : Nat) : State :=
  let x := getPart s p
  if phaseBusy x then partEnd s p 0x00A4
  else if x.state = .stopping ∧ !x.faultStop then partEnd s p 0
  else if x.state ≠ .running ∨ x.faultStop then partEnd s p 0x00A0
  else stopPart s p

/-- STOP (17 R666). -/
def execStop (h : Fin 2) (p : PartId) (s : State) : Res := partCmd h.val p.val 0x02 (fun t => stopCmd t p.val) s

/-- STOP_DEADLINE: the stop has not taken effect within PART_STOP_DEADLINE; the partition stays STOPPING (17 R668). -/
def execStopDeadline (p : PartId) (s : State) : Res :=
  let x := getPart s p.val
  match x.stopTime with
  | some t => if nowNs s < t + 1000 * x.stopDeadline then .next s else .next (partEnd (modPart s p.val (fun y => { y with stopTime := none })) p.val 0x00A2)
  | none => .next s

/-! ## ABORT (17 R669, R670) -/

/-- A first-fault record of the partition's clusters is valid (17 R669; 18 R691). -/
def recordsValid (s : State) (p : Nat) : Bool := (clustersOf s p).any (fun c => (getClus s c).ff.latch.valid)

/-- ABORT begins: every core stops issuing while its issued operations complete, and the T reset applies but for its scrub. A RESTORE so aborted leaves the partition FAULTED (17 R661, R670; 11 R457). -/
def abortPart (s : State) (p : Nat) : State :=
  let restoring := (getPart s p).det.phase = 5
  let s1 := (partCores s p).foldl (fun a n => drainCore drainStages a n) ((clustersOf s p).foldl stopCluster s)
  let s2 := resetPartition s1 p
  modPart s2 p (fun x => { x with state := if restoring then .faulted else .stopped, aborting := true })

/-- ABORT with its checks (17 R663, R669). -/
def abortCmd (s : State) (p : Nat) : State :=
  let x := getPart s p
  if x.det.phase = 3 then partEnd s p 0x00A4
  else if x.state = .none ∨ x.state = .loading then partEnd s p 0x00A0
  else if x.state = .faulted ∧ recordsValid s p then partEnd s p 0x00A3
  else abortPart s p

/-- ABORT (17 R669). -/
def execAbort (h : Fin 2) (p : PartId) (s : State) : Res := partCmd h.val p.val 0x03 (fun t => abortCmd t p.val) s

/-- ABORT_END: the scrub of the T reset is done, and ABORT ends with 0x0000 (17 R669, R670). -/
def execAbortEnd (p : PartId) (s : State) : Res :=
  if !(getPart s p.val).aborting then .next s
  else
    let s1 := partEnd (modPart (scrubPart s p.val) p.val (fun x => { x with aborting := false })) p.val 0
    .next (if (getPart s p.val).state = .faulted then partEvent s1 p.val (·.faultVec) else s1)

/-! ## The twin deadline (13 R541, R543) -/

/-- The twin deadline of a record has passed (13 R541, R543, R544). -/
def twinLate (s : State) (t : Twin) (r : TwinRec) : Bool := decide (r.time + 1000 * t.deadline ≤ nowNs s)

/-- TWIN_DEADLINE: each record that has stayed unmatched for PART_TWIN_DEADLINE is discarded with 0x0181, local records first (13 R541). -/
def execTwinDeadline (p : PartId) (s : State) : Res :=
  let t := (getPart s p.val).twin
  let late := t.localRecs.filter (twinLate s t) ++ t.remoteRecs.filter (twinLate s t)
  let s1 := modPart s p.val (fun x => { x with twin := { t with localRecs := t.localRecs.filter (fun r => !twinLate s t r), remoteRecs := t.remoteRecs.filter (fun r => !twinLate s t r) } })
  .next (late.foldl (fun a r => twinFault a p.val 0x0181 r 0 0) s1)

/-! ## FF_CLEAR (18 R690 to R695) -/

/-- The codes whose causes persist in the device, in ascending order (18 R691). -/
def persistingCodes (s : State) : List Nat :=
  let port (f : FabPort → Bool) : Bool := [0, 1, 2, 3].any (fun i => f (getFab s i))
  [(0x0171, s.fab.suspended), (0x0172, port (fun f => f.holdFenced && !f.linkUp)), (0x0173, port (fun f => f.macsecStopped)),
   (0x0190, s.time.refclkLost), (0x0191, s.hp.p0.refLost || s.hp.p1.refLost), (0x0192, s.time.xtalLost),
   (0x0193, !s.time.trusted && !s.time.freeRun), (0x01A2, s.hp.p0.hold || s.hp.p1.hold),
   (0x01C0, s.pwr.tj.any (fun e => decide (950 ≤ e.2)))].filterMap (fun e => if e.2 then some e.1 else none)

/-- A record after a write of its FF_CLEAR (18 R690). -/
def clearRecord (r : FfRecord) (code : Nat) (causes : List Nat) : FfRecord :=
  if !r.latch.valid then r
  else if code ≠ r.latch.info.code then { r with refused := true, cause := 0xFFFF }
  else match causes with
    | c :: _ => { r with refused := true, cause := c }
    | [] => { r with latch := r.latch.clear, refused := false, cause := 0 }

/-- The unit latches of a cluster without VALID and OVERFLOW (18 R693). -/
def clearUnits (s : State) (c : Nat) : State :=
  let s1 := (coresOf c).foldl (fun a n => modCore a n (fun k => { k with fault := k.fault.clear })) s
  let s2 := modClus s1 c (fun x => { x with
    str := { x.str with err := x.str.err.clear }
    mem := { x.mem with coll := x.mem.coll.clear, unpwr := x.mem.unpwr.clear, eccUe := x.mem.eccUe.clear }
    msg := { x.msg with txDrop := x.msg.txDrop.clear, snap := x.msg.snap.clear }
    chans := x.chans.map (fun e => (e.1, { e.2 with err := e.2.err.clear })) })
  match partOfCluster s c with
  | some p => if lowestCluster s p = c then modPart s2 p (fun x => { x with twin := { x.twin with err := x.twin.err.clear } }) else s2
  | none => s2

/-- A write of FLT_FF_CLEAR; a refused clear is reported to the management side (18 R690, R691, R695). -/
def clearDevice (s : State) (code : Nat) : State :=
  let r := clearRecord s.ff code (persistingCodes s)
  let s1 := { s with ff := r }
  if s.ff.latch.valid && r.latch.valid then platformEvent s1 1 s.ff.latch.info.code else s1

/-- A write of a cluster's CLU_FF_CLEAR; an accepted clear clears its unit latches (18 R690, R693). -/
def clearCluster (s : State) (c code : Nat) : State :=
  let r := (getClus s c).ff
  let r' := clearRecord r code []
  let s1 := modClus s c (fun x => { x with ff := r' })
  if r.latch.valid && !r'.latch.valid then clearUnits s1 c else s1

/-- FF_CLEAR: the device record by the primary port, a cluster record by the owner port (18 R690, R694). -/
def execFfClear (h : Fin 2) (rec : Option ClusterId) (code : W32) (s : State) : Res :=
  let reserved : Option Nat := if natBits code.toNat 16 16 ≠ 0 then some 1 else none
  let v := natBits code.toNat 0 16
  match rec with
  | none => hostCmd s h.val 0x00020030 code (firstDenied [reserved, primaryDenied s h.val]) (fun t => clearDevice t v)
  | some c => hostCmd s h.val (clusOff c.val 0x130) code (firstDenied [reserved, clusDenied s h.val c.val]) (fun t => clearCluster t c.val v)

end Sys2Proof.Machine
end

