-- ==== Sys2Proof/Machine/Time.lean ====
section
/-! DEFINITION. The time counter, its servo and trust, the reference clocks, the time pins, and frequency changes (14). -/

namespace Sys2Proof.Machine

/-! ## Trust (14 R560 to R563) -/

/-- The time base changed. -/
def modTime (s : State) (f : TimeBlk → TimeBlk) : State := { s with time := f s.time }

/-- A fault of the time base or of a reference: device record only (14 R562, R566; 18 R701). -/
def timeFault (s : State) (code index : Nat) (detail : W64) : State := raiseDevice s { code := code, kind := 13, index := index, detail := detail }

/-- PPS_OUT falls where it is high and its pulse of 100 µs is over, PPS_EN is clear, DRIFT has reached 1 µs, or the main side does not run (14 R568; 21 R754). -/
def settlePps (s : State) : State :=
  let ended := match s.pins.pps with
    | some t => decide (100000 ≤ s.time.since t)
    | none => true
  if s.pins.ppsHigh && (ended || !s.time.ppsEn || decide (1000 ≤ drift s.time) || !s.brz.mainRuns) then
    emit { s with pins := { s.pins with ppsHigh := false } } (.pin 0 false)
  else s

/-- A port's session counter takes bits [47:16] of the counter, once after a P or F reset (12 R476). -/
def seedSessions (s : State) : State :=
  [0, 1, 2, 3].foldl (fun a f => modFab a f (fun x => if x.seeded then x else { x with seeded := true, session := s.time.now.extractLsb' 16 32 })) s

/-- The counter becomes trusted (14 R561). -/
def trustTime (s : State) : State :=
  if s.time.trusted then s else seedSessions (modTime s (fun t => { t with trusted := true, everTrusted := true, standby := false }))

/-- The conditions of trust: REFCLK is present, and FREE_RUN is set, or a port holds the SlavePort role and the last 8 Syncs measured within 100 ns (14 R561). -/
def mayTrust (t : TimeBlk) : Bool := !t.refclkLost && (t.freeRun || (t.slave.isSome && decide (8 ≤ t.goodSyncs)))

/-- The counter becomes trusted as soon as all the conditions hold, whichever came last (14 R561). -/
def checkTrust (s : State) : State := if mayTrust s.time then trustTime s else s

/-- The counter becomes untrusted: counted, fault 0x0193, and the windows run on the held-over counter (14 R562; 12 R494). -/
def untrustTime (s : State) : State :=
  if !s.time.trusted then s
  else
    let s1 := modTime s (fun t => { t with trusted := false, goodSyncs := 0, untrustedSince := nowNs s, untrustCount := t.untrustCount.bump })
    settlePps (timeFault { s1 with fab := { s1.fab with holdover := s1.fab.holdover || s1.fab.active } } 0x0193 0 0)

/-- A signed 32-bit value, saturating (14 R570). -/
def satOffset (v : Int) : Int := max (-2147483648) (min 2147483647 v)

/-- The servo may step: before first trust, or during a suspension with the offset above 10 µs (14 R560). -/
def mayStep (s : State) (off : Int) : Bool := !s.time.everTrusted || (s.fab.suspended && decide (10000 < off.natAbs))

/-- A value of the counter by the measured offset (14 R557, R560). -/
def stepValue (off : Int) (v : Nat) : Nat := (BitVec.ofInt 64 ((v : Int) - off)).toNat

/-- The counter stepped by the measured offset; the values from which the time base measures elapsed time move with it, since a step is no time elapsed (14 R560, R563). -/
def stepTime (s : State) (off : Int) : State :=
  let s1 := modTime s (fun t => { t with
    now := BitVec.ofInt 64 ((t.now.toNat : Int) - off)
    untrustedSince := stepValue off t.untrustedSince
    lastSync := stepValue off t.lastSync
    lastEdge := t.lastEdge.map (stepValue off)
    steps := t.steps.bump
    lastStep := -off })
  { s1 with pins := { s1.pins with pps := s1.pins.pps.map (stepValue off) } }

/-- A Sync on the SlavePort: the offset, the servo's step or ADJ, and what it does to the trust (14 R559 to R562). ADJ, and whether a permitted step is made, are free values. -/
def takeSyncMessage (s : State) (off : Int) : State :=
  let steps := mayStep s off && Config.servoSteps s.free
  let adj : Int := (Config.servoAdj s.free).val - 1717986
  let s1 := useFree (if steps then stepTime s off else s)
  let s2 := modTime s1 (fun t => { t with
    offset := satOffset off
    adj := adj
    lastSync := t.now.toNat
    goodSyncs := if off.natAbs ≤ 100 then t.goodSyncs + 1 else 0 })
  settlePps (if s2.time.trusted && decide (1000 < off.natAbs) then untrustTime s2 else checkTrust s2)

/-- PTP_SYNC: a Sync is received on the port that holds the SlavePort role; with FREE_RUN the servo does not run (14 R559, R561). -/
def execPtpSync (f : Fin 4) (offset : BitVec 64) (s : State) : Res :=
  if s.time.slave ≠ some f.val ∨ s.time.freeRun then .next s else .next (takeSyncMessage s offset.toInt)

/-- PTP_SLAVE of each port: the port that holds the SlavePort role has it (12 R500). -/
def markSlave (s : State) (slave : Option Nat) : State := [0, 1, 2, 3].foldl (fun a f => modFab a f (fun x => { x with ptpSlave := slave == some f })) s

/-- The SlavePort role goes to a port, or to none; with none a trusted counter becomes untrusted (14 R562). -/
def setSlave (s : State) (slave : Option Nat) : State :=
  let s1 := markSlave (modTime s (fun t => { t with slave := slave })) slave
  if slave.isNone && !s.time.freeRun && s.time.slave.isSome then untrustTime s1 else checkTrust s1

/-- PTP_FRAME: an 802.1AS frame other than a Sync drives the port state machines: the port's next frame waits for its window, and the SlavePort role is where they put it (14 R559, R562; 12 R492). -/
def execPtpFrame (f : Fin 4) (slave : Option (Fin 4)) (s : State) : Res :=
  let x := getFab s f.val
  if !x.ptp ∨ !x.linkUp then .next s
  else
    let s1 := setFab s f.val { x with ptpQueue := x.ptpQueue + 1 }
    match slave with
    | some g => if (getFab s g.val).ptp then .next (setSlave s1 (some g.val)) else .next s1
    | none => .next (setSlave s1 none)

/-- SYNC_TIMEOUT: no Sync on the SlavePort for TIME_SYNC_TIMEOUT (14 R562). -/
def execSyncTimeout (s : State) : Res :=
  let t := s.time
  if !t.trusted ∨ t.freeRun ∨ t.slave.isNone ∨ t.since t.lastSync < 1000000 * t.syncTimeout then .next s else .next (untrustTime s)

/-! ## Links and the SlavePort role (12 R497; 14 R562) -/

/-- A port's link goes down, and with it the SlavePort role that the port holds. -/
def linkFails (s : State) (f : Nat) : State :=
  let s1 := dropLink s f
  if s.time.slave = some f then setSlave s1 none else s1

/-- LINK_DOWN (12 R497). -/
def execLinkDown (f : Fin 4) (s : State) : Res := if (getFab s f.val).linkUp then .next (linkFails s f.val) else .next s

/-- FAB_PORT_CTRL.ADMIN_DOWN set (12 R497, R500). -/
def takeAdminDown (s : State) (f : Nat) : State := modFab (linkFails s f) f (fun x => { x with adminDown := true })

/-- ADMIN_DOWN: the primary port sets FAB_PORT_CTRL.ADMIN_DOWN (12 R497, R500). -/
def execAdminDown (h : Fin 2) (f : Fin 4) (s : State) : Res :=
  hostCmd s h.val (0x00080000 + 0x10000 * f.val + 4) 1 (primaryDenied s h.val) (fun t => takeAdminDown t f.val)

/-! ## Reference clocks (14 R565 to R567) -/

/-- Every cluster's generator holds over (14 R566, R572). -/
def holdOver (s : State) : State := (List.range 32).foldl (fun a c => modClus a c (fun x => { x with holdover := true })) s

/-- The features of a port that the host has enabled: ATS, PRI, PASID, bus mastering (15 R602). -/
def portFeatures (p : Port) : Bool × Bool × Bool × Bool := (p.ats, p.pri, p.pasid, p.busMaster)

/-- The page requests outstanding at a port wait to be issued again (15 R602; 08 R336). -/
def recallPri (s : State) (h : Nat) : State :=
  (List.range 16).foldl (fun a p => if (getPart a p).hostPort ≠ h then a else
    modPart a p (fun x => { x with pf := { x.pf with pri := x.pf.pri.map (fun r => if r.st = .sent then { r with st := .waiting } else r) } })) s

/-- A port's link is lost and the port holds; a hold under way goes on (15 R602, under R605). -/
def startHold (s : State) (h : Nat) : State :=
  modPort (recallPri s h) h (fun p =>
    let q := { p with linkUp := false }
    if p.hold then q else { q with hold := true, before := some (portFeatures p), holdSince := nowNs s, holdExpired := false })

/-- A port's 100 MHz reference is lost: its link goes down and it holds (14 R566; 15, under R605). -/
def loseHostRef (s : State) (h : Nat) : State := startHold (modPort s h (fun p => { p with refLost := true })) h

/-- REFERENCE_LOSS: the generators that a reference feeds hold over, and its fault is raised (14 R562, R565, R566). -/
def execReferenceLoss (ref : RefClock) (s : State) : Res :=
  match ref with
  | .refclk =>
    if s.time.refclkLost then .next s
    else .next (untrustTime (timeFault (holdOver (modTime s (fun t => { t with refclkLost := true }))) 0x0190 0 0))
  | .h0 => if s.hp.p0.refLost then .next s else .next (timeFault (loseHostRef s 0) 0x0191 1 0)
  | .h1 => if s.hp.p1.refLost then .next s else .next (timeFault (loseHostRef s 1) 0x0191 2 1)
  | .xtal => if s.time.xtalLost then .next s else .next (timeFault (modTime s (fun t => { t with xtalLost := true })) 0x0192 3 0)

/-- REFERENCE_RESTORE: a reference is present and in range again; with the return of REFCLK the counter becomes trusted where the other conditions hold (14 R561, R565, R567). -/
def execReferenceRestore (ref : RefClock) (s : State) : Res :=
  match ref with
  | .refclk =>
    if !s.time.refclkLost then .next s
    else .next (checkTrust (modTime s (fun t => { t with refclkLost := false })))
  | .h0 => .next (modPort s 0 (fun p => { p with refLost := false }))
  | .h1 => .next (modPort s 1 (fun p => { p with refLost := false }))
  | .xtal => .next (modTime s (fun t => { t with xtalLost := false }))

/-! ## Frequency (14 R550 to R555; 19 R717, R718) -/

/-- A waiting immediate change begins once no generator of the partition holds over and no other switch is under way (14 R567). -/
def releaseImmediate (s : State) (p : Nat) : State :=
  let q := (getPart s p).freq
  match q.pending with
  | some t => if q.waitRelock && !q.switching && !holdsOver s p then beginSwitch s p t false false else s
  | none => s

/-- GENERATOR_RELOCK: a generator that held over has relocked (14 R567). -/
def execGeneratorRelock (cl : ClusterId) (s : State) : Res :=
  if s.time.refclkLost || !(getClus s cl.val).holdover then .next s
  else
    let s1 := modClus s cl.val (fun x => { x with holdover := false })
    match partOfCluster s cl.val with
    | some p => .next (releaseImmediate s1 p)
    | none => .next s1

/-- A calm-mode change is pending; of the step in force with nothing pending it does nothing (14 R550, R551). -/
def freqCalm (s : State) (p target : Nat) : State :=
  let q := (getPart s p).freq
  if q.pending.isNone ∧ target = q.current then s
  else modPart s p (fun x => { x with freq := { x.freq with pending := some target, waitRelock := false } })

/-- An immediate change: it begins now, or waits for a switch under way or for a generator that holds over (14 R550, R567). -/
def freqImmediate (s : State) (p target : Nat) : State :=
  releaseImmediate (modPart s p (fun x => { x with freq := { x.freq with pending := some target, waitRelock := true } })) p

/-- A write of PART_FREQ_CMD (14 R571). -/
def freqCmd (h p : Nat) (immediate : Bool) (target : BitVec 3) (s : State) : Res :=
  let data : W32 := BitVec.ofNat 32 ((if immediate then 0x100 else 0) + target.toNat)
  hostCmd s h (partOff p 0x800) data (firstDenied [partDenied s h p, if 6 ≤ target.toNat then some 2 else none])
    (fun t => if immediate then freqImmediate t p target.toNat else freqCalm t p target.toNat)

/-- FREQ_CHANGE_CALM (14 R550, R551). -/
def execFreqChangeCalm (h : Fin 2) (p : PartId) (target : BitVec 3) (s : State) : Res := freqCmd h.val p.val false target s
/-- FREQ_CHANGE_IMMEDIATE (14 R550, R551). -/
def execFreqChangeImmediate (h : Fin 2) (p : PartId) (target : BitVec 3) (s : State) : Res := freqCmd h.val p.val true target s

/-- The partition of a row of the mesh: that of its sender, of its destination where the sender is on another device, of the requester for a remote access (09 R350, R362; 07 R274). -/
def rowOwner (s : State) (r : MeshRow) : Option Nat :=
  match r.remote with
  | some q => partOfCluster s (clusOf q.core)
  | none => if rowSrcDev r.msg.header = s.self then some (rowSrcPart r.msg.header) else partOfCluster s (rowCluster r.msg.header)

/-- The partitions other than the cluster's own that have a row in the lane buffers of its router (14 R555). -/
def rowsHeldAt (s : State) (c : Nat) : List Nat :=
  let rows := (getClus s c).msg.bufs.flatMap (fun e => e.2)
  (List.range 16).filter (fun p => decide (partOfCluster s c ≠ some p) && rows.any (fun r => decide (rowOwner s r = some p)))

/-- Each partition of a list counts one link pause (14 R555). -/
def countPauses (s : State) (ps : List Nat) : State :=
  ps.foldl (fun a p => modPart a p (fun x => { x with freq := { x.freq with linkPause := x.freq.linkPause.bump } })) s

/-- The partitions with a row held at a router of the clusters, each once. -/
def pausedBy (s : State) (cs : List Nat) : List Nat := (List.range 16).filter (fun p => cs.any (fun c => (rowsHeldAt s c).contains p))

/-- The clusters that the switch of a partition stops (14 R552; 19 R718). -/
def switchClusters (s : State) (p : Nat) : List Nat := (clustersOf s p).filter (fun c => switchesWith (getClus s c))

/-- A partition's clusters gate their clocks (14 R552, R555). -/
def gatePart (s : State) (p : Nat) : State :=
  let paused := pausedBy s (switchClusters s p)
  countPauses (modPart s p (fun x => { x with freq := { x.freq with gated := true, gatedAt := nowNs s, paused := paused } })) paused

/-- A cluster in a switch of its own gates its clock (19 R715; 14 R552, R555). -/
def gateCluster (s : State) (c : Nat) : State :=
  let paused := pausedBy s [c]
  countPauses (modClus s c (fun x => { x with gated := some (nowNs s), paused := paused })) paused

/-- CLOCK_GATE: at beat boundary B the clusters of a switching partition, or one cluster in a switch of its own, gate their clocks; each other partition with a row held at one of their routers counts one link pause (14 R552, R555; 19 R715, R716). -/
def execClockGate (unit : ClockUnit) (s : State) : Res :=
  match unit with
  | .part p =>
    let q := (getPart s p.val).freq
    if !q.switching ∨ q.gated then .next s else .next (gatePart s p.val)
  | .cluster c =>
    let x := getClus s c.val
    if x.own.isNone ∨ x.gated.isSome then .next s else .next (gateCluster s c.val)

/-- A cluster throttles: THROTTLED and its partition's count at once, and a stop-and-switch of its own to step 5 (19 R715). -/
def throttleCluster (s : State) (c : Nat) : State :=
  let s1 := modClus s c (fun x => { x with throttled := true, own := some true, throttleWait := none, coolSince := none })
  match partOfCluster s c with
  | some p => modPart s1 p (fun x => { x with det := { x.det with excThrottle := x.det.excThrottle.bump } })
  | none => s1

/-- A throttle ends, and a stop-and-switch of the cluster's own back to the step of its partition begins (19 R716). -/
def unthrottleCluster (s : State) (c : Nat) : State :=
  modClus s c (fun x => { x with throttled := false, own := some false, throttleWait := none, coolSince := none })

/-- A throttle or its end that waited for the end of a switch (19 R717). -/
def takeThrottleWait (s : State) (c : Nat) : State :=
  match (getClus s c).throttleWait with
  | some true => throttleCluster s c
  | some false => unthrottleCluster s c
  | none => s

/-- A cluster's clock runs again: its deadlines go on from where they stood, unless a debug freeze holds them (14 R554; 11 R450). -/
def resumeDeadlines (s : State) (since c : Nat) : State :=
  if (match partOfCluster s c with | some p => let x := getPart s p; x.det.phase == 3 || x.det.phase == 6 | none => false) then s
  else extendDeadlines s c since (nowNs s)

/-- The generators of a partition restart at the new step, after a reset or a load at their CLOCK_PLAN steps; a throttled cluster stays at step 5. A row that came to a stopped router counts for its partition as one held from the start (14 R552, R555; 17 R674; 19 R718, R719). -/
def restartClocks (s : State) (p target : Nat) : State :=
  let q := (getPart s p).freq
  let cs := switchClusters s p
  let s1 := countPauses s ((pausedBy s cs).filter (fun o => !q.paused.contains o))
  let s2 := cs.foldl (fun a c => resumeDeadlines (modClus a c (fun x => { x with step := if q.byReset then x.planStep else target })) q.gatedAt c) s1
  let s3 := modPart s2 p (fun x => { x with
    freq := { x.freq with switching := false, gated := false, byReset := false, quiet := false, paused := [] }
    det := { x.det with excFreq := if q.byReset then x.det.excFreq else x.det.excFreq.bump } })
  (clustersOf s p).foldl takeThrottleWait s3

/-- A cluster's generator restarts after a switch of its own: at step 5 in a throttle, else at the step in force for its partition (19 R715 to R718). -/
def restartCluster (s : State) (c : Nat) (down : Bool) (since : Nat) : State :=
  let step := match partOfCluster s c with
    | some p => (getPart s p).freq.current
    | none => 0
  let s1 := countPauses s ((pausedBy s [c]).filter (fun o => !(getClus s c).paused.contains o))
  let s2 := resumeDeadlines (modClus s1 c (fun x => { x with step := if down then 5 else step, own := none, gated := none, paused := [] })) since c
  takeThrottleWait s2 c

/-- CLOCK_RESTART: at beat boundary B + 3 the generators restart, and the participants are released, or the stop takes effect, or the external freeze ends (14 R552; 17 R667; 19 R715, R716). -/
def execClockRestart (unit : ClockUnit) (s : State) : Res :=
  match unit with
  | .part p =>
    let q := (getPart s p.val).freq
    if !q.gated then .next s
    else
      let s1 := restartClocks s p.val q.target
      let s2 := if !q.calmMode then s1 else if q.stopAfter then becomeStopped s1 p.val else releaseAll s1 p.val
      .next (releaseImmediate s2 p.val)
  | .cluster c =>
    match (getClus s c.val).own, (getClus s c.val).gated with
    | some down, some since => .next (restartCluster s c.val down since)
    | _, _ => .next s

/-! ## The tick (14 R556) -/

/-- One 500 MHz cycle of the time base: 2 ns and the correction of TIME_ADJ (14 R556). -/
def tickTime (t : TimeBlk) : TimeBlk :=
  let total : Int := ((t.now.toNat * 2 ^ 32 + t.frac.toNat : Nat) : Int) + 2 * 2 ^ 32 + t.adj
  { t with now := BitVec.ofInt 64 (total / 2 ^ 32), frac := BitVec.ofInt 32 (total % 2 ^ 32) }

/-- The device after one cycle of the time base in which no command comes. -/
def tick (s : State) : State := settlePps { s with time := tickTime s.time }

/-! ## Time pins (14 R568, R569) -/

/-- The pin may rise: PPS_EN is set, DRIFT is below 1 µs, the main side runs, and the counter is within 10 ns of a whole second for which the pin has not risen (14 R568; 21 R754). -/
def ppsDue (s : State) : Bool :=
  let r := nowNs s % 1000000000
  let fresh := match s.pins.pps with
    | some t => decide (20 < s.time.since t)
    | none => true
  s.brz.mainRuns && s.time.ppsEn && decide (drift s.time < 1000) && decide (r ≤ 10 ∨ 999999990 ≤ r) && fresh

/-- PPS_OUT: it rises at a whole second of the counter while PPS_EN is set and DRIFT is below 1 µs, once a second; it falls after 100 µs, and is low at all other times (14 R568; 21 R754). -/
def execPpsOut (s : State) : Res :=
  if ppsDue s then .next (emit { s with pins := { s.pins with ppsHigh := true, pps := some (nowNs s) } } (.pin 0 true))
  else .next (settlePps s)

/-- TIME_CAPTURE: a rising edge on TIME_CAPTURE_IN latches the counter; of edges closer together than 1 µs only the first (14 R569). -/
def execTimeCapture (s : State) : Res :=
  let now := nowNs s
  let near := match s.time.lastEdge with
    | some t => decide (s.time.since t < 1000)
    | none => false
  if near then .next s
  else .next (modTime s (fun t => { t with capture := t.now, captureSeq := t.captureSeq + 1, lastEdge := some now }))

end Sys2Proof.Machine
end

