-- ==== Sys2Proof/Machine/ImageApply.lean ====
section
/-! DEFINITION. The apply sequence of a Colob image: what each section type sets in the machine (02 R46, R57 to R63, R75; 01 R33; 08 R310, R318; 09 R362, R366, R382, R385; 10 R401; 11 R425; 12 R473, R489; 19 R705). -/

namespace Sys2Proof.Machine

/-! ## The records in force (02 R46) -/

/-- The programs that the tasks of a partition name (02 R56). -/
def taskPrograms (tasks : List Rec) : List Nat := (tasks.map (fun r => r.le 2 2)).eraseDups

/-- A record concerns a partition (02 R45, R46). -/
def recConcerns (p : PartEntry) (programs : List Nat) (t : Nat) (r : Rec) : Bool :=
  if t = 1 ∨ t = 5 ∨ t = 0xA then r.le 0 1 == p.num
  else if t = 4 then true
  else if t = 8 then programs.contains (r.le 0 2)
  else if t = 0xD then p.clusters.testBit (r.le 4 1)
  else if t = 2 ∨ t = 3 ∨ t = 6 ∨ t = 0xC then p.clusters.testBit (r.le 0 1)
  else p.clusters.testBit (r.le 1 1)

/-- The section types that are settings in force; programs, relocations and initial data are not (02 R46). -/
def settingTypes : List Nat := [1, 2, 3, 4, 5, 6, 0xA, 0xC, 0xD, 0xE, 0xF, 0x10]

/-- The records of a type in force for a partition. -/
def inForce (ld : Loaded) (p t : Nat) : List Rec := mget [] ld.records (recKey p t)

/-- The settings of one partition after a load: a type that the image carries is replaced, any other stays (02 R46). -/
def mergeRecs (e : ImgEnv) (p : PartEntry) (ld : Loaded) : Loaded :=
  settingTypes.foldl (fun a t =>
    if e.part.isNone || e.carries t then { a with records := mset a.records (recKey p.num t) ((e.recs t).filter (recConcerns p [] t)) } else a) ld

/-- The programs and relocations of a partition: always those of the image (02 R45, R57). -/
def mergePrograms (e : ImgEnv) (p : PartEntry) (ld : Loaded) : Loaded :=
  let named := taskPrograms (inForce ld p.num 6)
  let kept := ld.programs.filter (fun q => q.1 / 65536 != p.num)
  { ld with
    records := mset ld.records (recKey p.num 8) ((e.recs 8).filter (recConcerns p named 8))
    programs := (e.programs.filter (fun q => named.contains (q.1.le 0 2))).foldl (fun a q => mset a (65536 * p.num + q.1.le 0 2) q) kept }

/-- The image in force after a load (02 R38, R46; 16 R645). A full image replaces all. -/
def mergeImage (e : ImgEnv) (ld : Loaded) : Loaded :=
  let base : Loaded := match e.part with
    | none => { lsize := imgLsize e.img, latClass := imgClass e.img, planId := imgPlan e.img, fullDigest := imgDigest e.img, partDigest := ld.partDigest }
    | some _ => ld
  let l1 := { base with toolchain := imgLE e.img 0x48 4 }
  e.parts.foldl (fun a p =>
    let b := mergePrograms e p (mergeRecs e p a)
    { b with partDigest := mset b.partDigest p.num (imgDigest e.img) }) l1

/-! ## EQUIV_ID (11 R425) -/

/-- A record with a field set to zero. -/
def zeroField (off n : Nat) (r : Rec) : Rec := r - (r.le off n) <<< (8 * off)

/-- What EQUIV_ID takes of a record of a type; none where it is left out (11 R425). -/
def equivRec (t : Nat) (r : Rec) : Option Rec :=
  match t with
  | 1 => some (zeroField 1 1 r)
  | 4 | 6 | 8 | 0xA | 0xC | 0xE => some r
  | 5 => some (r.le 1 1 <<< 8)
  | 0xD => some (zeroField 8 4 r)
  | 0xF => if r.le 0 1 = 2 ∨ r.le 0 1 = 4 ∨ r.le 0 1 = 5 then some r else none
  | 0x10 => if r.le 0 1 = 1 then some (zeroField 0xC 2 (zeroField 0xB 1 r)) else some r
  | _ => none

/-- Byte strings in the order of unsigned comparison from byte 0. -/
def bytesLe : List Byte → List Byte → Bool
  | [], _ => true
  | _ :: _, [] => false
  | a :: r, b :: q => decide (a.toNat < b.toNat) || (a == b && bytesLe r q)

/-- A byte string put into a sorted list. -/
def insertBytes (b : List Byte) : List (List Byte) → List (List Byte)
  | [] => [b]
  | c :: r => if bytesLe b c then b :: c :: r else c :: insertBytes b r

/-- Byte strings sorted. -/
def sortBytes (l : List (List Byte)) : List (List Byte) := l.foldr insertBytes []

/-- The bytes that EQUIV_ID takes of one section type. -/
def equivType (ld : Loaded) (p t : Nat) : List Byte :=
  if t = 7 then (ld.programs.filter (fun q => q.1 / 65536 == p)).flatMap (fun q => natBytes 32 q.2.1 ++ q.2.2.flatMap (fun w => natBytes 32 w.toNat))
  else (sortBytes (((inForce ld p t).filterMap (equivRec t)).map (natBytes ((sectionSize t).getD 0)))).flatten

/-- EQUIV_ID of a partition (11 R425). -/
def equivIdOf (ld : Loaded) (p : Nat) : BitVec 128 :=
  let body := [1, 4, 5, 6, 7, 8, 0xA, 0xC, 0xD, 0xE, 0xF, 0x10].flatMap (equivType ld p)
  BitVec.ofNat 128 (bytesNat (shake256 (natBytes 1 ld.lsize ++ natBytes 1 ld.latClass ++ body) 16))

/-! ## Cores (02 R51, R54, R57, R59) -/

/-- A field of a slot of an instruction word set (02 R58, R59). -/
def patchWord (w : IWord) (lsb width v : Nat) : IWord :=
  let mask : IWord := BitVec.ofNat 256 ((2 ^ width - 1) <<< lsb)
  (w &&& ~~~mask) ||| BitVec.ofNat 256 (v <<< lsb)

/-- One relocation applied to the copy of a task's program (02 R59). -/
def relocate (task : Rec) (im : SMap IWord) (r : Rec) : SMap IWord :=
  match relocValue task r with
  | some v => mmod 0 im (r.le 4 4) (fun w => patchWord w (32 * r.le 2 1 + r.le 8 1) (r.le 9 1) v)
  | none => im

/-- The instruction memory of a task: its program with the relocations of that program applied (02 R57). -/
def loadProgram (ld : Loaded) (p : Nat) (task : Rec) : SMap IWord × Nat :=
  match (ld.programs.find? (fun q => q.1 == 65536 * p + task.le 2 2)).map (·.2.2) with
  | some ws =>
    let im := ws.zipIdx.map (fun (w, i) => (i, w))
    (((inForce ld p 8).filter (fun r => r.le 0 2 == task.le 2 2)).foldl (relocate task) im, ws.length)
  | none => ([], 0)

/-- The registers of a task (02 R54; 03 R128). -/
def taskRegs (r : Rec) : Task :=
  { program := r.le 2 2, entry := r.le 4 2, pasid := r.le 8 4, spBase := r.le 0xC 2, spBound := r.le 0xE 2, cmBase := r.le 0x10 4, cmBound := r.le 0x14 4
    dmBase := r.le 0x18 8, dmBound := r.le 0x20 8, hmBase := r.le 0x28 8, hmBound := r.le 0x30 8 }

/-- The tag queues of a logical core; the statistic of each queue is kept (09 R366, R377, R397). -/
def queuesOf (rs : List Rec) (c l : Nat) (old : SMap TagQueue) : SMap TagQueue :=
  let mine := rs.filter (fun r => r.le 1 1 == c && r.le 2 1 == l)
  (List.range 32).foldl (fun a t =>
    let accepted := (mget {} old t).accepted
    match mine.find? (fun r => r.le 0 1 == 1 && r.le 3 1 == t) with
    | some r =>
      let senders := (List.range (r.le 6 1)).map (fun k => ((mine.find? (fun q => q.le 0 1 == 2 && q.le 3 1 == t && q.le 4 1 == k)).map (fun q => q.le 5 3)).getD 0)
      mset a t { bound := true, bindMat := (r.le 5 1).testBit 0, merge := r.le 5 1 / 2 % 4, carry := (r.le 5 1).testBit 3, depth := r.le 4 1 + 1, senders := senders, accepted := accepted }
    | none => if accepted = {} then a else mset a t { accepted := accepted }) []

/-- The stream that a near port of a logical core carries (08 R291, R295). -/
def portStream (rs : List Rec) (c l i : Nat) (out : Bool) : Option Nat :=
  (rs.find? (fun r => r.le 0 1 == 1 && r.le 1 1 == c && (let d := streamDescOf r; d.nearKind == 3 && d.nearIndex == i && d.nearLcore == l && d.dirOut == out))).map (fun r => r.le 2 1)

/-- CORE_SP_SPLIT of a logical core; 0xAA55_807F without a record (08 R310). -/
def splitOf (rs : List Rec) (c l : Nat) : W32 :=
  match rs.find? (fun r => r.le 0 1 == 2 && r.le 1 1 == c && r.le 2 1 == l) with
  | some r => BitVec.ofNat 32 (r.le 4 4)
  | none => 0xAA55807F

/-- The logical core that a core map gives a physical core. -/
def lcoreOf (maps : List Rec) (c k L : Nat) : Option Nat :=
  match maps.find? (fun r => r.le 0 1 == c) with
  | some r => (List.range L).find? (fun n => r.le (2 + n) 1 == k)
  | none => none

/-- A core that carries a logical core, as the records in force set it; it comes from a C reset. -/
def loadCore (ld : Loaded) (p c l : Nat) (off : Bool) (x : Core) : Core :=
  let task := (inForce ld p 6).find? (fun r => r.le 0 1 == c && r.le 1 1 == l)
  let prog := match task with | some r => loadProgram ld p r | none => ([], 0)
  let streams := inForce ld p 0x10
  let y := { x with
    lcore := some l, task := task.map taskRegs, imem := prog.1, wordCount := prog.2
    tq := queuesOf (inForce ld p 0xE) c l x.tq
    sp := (List.range 4).map (fun i => (i, { stream := portStream streams c l i false }))
    sw := (List.range 4).map (fun i => (i, { stream := portStream streams c l i true }))
    mem := { x.mem with split := splitOf (inForce ld p 0xF) c l } }
  { y with state := restState off y, pc := (y.task.getD {}).entry }

/-- A core that carries no logical core. -/
def clearCore (off : Bool) (x : Core) : Core :=
  let y : Core := { x with lcore := none, task := none, imem := [], wordCount := 0, tq := queuesOf [] 0 0 x.tq, sp := [], sw := [], mem := { x.mem with split := 0 } }
  { y with state := restState off y, pc := 0 }

/-! ## Clusters -/

/-- The slot table of a cluster; the default without records (08 R310). -/
def slotTable (rs : List Rec) (c : Nat) : SMap Nat :=
  match slotRecs rs c with
  | [] => (List.range 256).map (fun n => (n, if n / 16 ≤ 7 then 0x18 else if n / 16 ≤ 11 then 0x19 else 0x1A))
  | recs => (recs.flatMap (fun r => (List.range 4).map (fun k => (r.le 2 1 + k, r.le (4 + k) 1)))).foldl (fun a e => mset a e.1 e.2) []

/-- Channel `g` of a cluster: enabled with both of its records; its statistics are kept (10 R401, R422). -/
def loadChannel (rs : List Rec) (c g : Nat) (old : Channel) : Channel :=
  let find (kind : Nat) := rs.find? (fun r => r.le 0 1 == kind && r.le 1 1 == c && r.le 2 1 == g)
  let base : Channel := { reqs := old.reqs, full := old.full, flushes := old.flushes }
  match find 4, find 5 with
  | some q, some a => { base with en := true, base := a.le 4 4, batch := q.le 3 1, cons := BitVec.ofNat 24 (q.le 4 3) }
  | _, _ => base

/-- The routes of a cluster (09 R382). -/
def routesOf (rs : List Rec) (c : Nat) : SMap RouteEntry :=
  (rs.filter (fun r => r.le 0 1 == c)).foldl (fun a r => mset a (r.le 1 1)
    { kind := r.le 2 1, out := BitVec.ofNat 5 (r.le 3 1), inp := BitVec.ofNat 4 (r.le 4 1), fabPort := r.le 5 1, tag := r.le 6 1, lcores := BitVec.ofNat 24 (r.le 8 4), localOut := r.le 0xC 1 }) []

/-- The streams of a cluster, idle. -/
def streamsOf (rs : List Rec) (c : Nat) : SMap Stream :=
  (rs.filter (fun r => r.le 0 1 == 1 && r.le 1 1 == c)).foldl (fun a r => mset a (r.le 2 1) { desc := some (streamDescOf r) }) []

/-- The guarded buffers of a cluster. -/
def buffersOf (rs : List Rec) (c : Nat) : List Guarded := (rs.filter (fun r => r.le 0 1 == 2 && r.le 1 1 == c)).map guardedOf

/-- A share of a cluster; `d` without a record (08 R310). -/
def shareOf (rs : List Rec) (c off d : Nat) : Nat := ((rs.find? (fun r => r.le 0 1 == 1 && r.le 1 1 == c)).map (fun r => r.le off 1)).getD d

/-- The units of a cluster as the records in force of its partition set them. -/
def loadUnits (ld : Loaded) (p c : Nat) (x : Cluster) : Cluster :=
  let clock := ((inForce ld p 2).find? (fun r => r.le 0 1 == c)).getD 0
  let map := ((inForce ld p 3).find? (fun r => r.le 0 1 == c)).getD 0
  let splits := inForce ld p 0xF
  { x with
    becalmed := false
    planStep := clock.le 1 1, coreLullIdle := clock.le 2 2, bankLullIdle := clock.le 4 2
    lmap := (List.range ld.lsize).map (fun n => (n, map.le (2 + n) 1))
    mem := { x.mem with slots := slotTable splits c }
    str := { x.str with
      shareRd := shareOf splits c 2 5, shareWr := shareOf splits c 3 2, shareRem := shareOf splits c 4 1
      lastRd := 255, lastWr := 255, lastRem := 255, issueCc := none
      streams := streamsOf (inForce ld p 0x10) c, buffers := buffersOf (inForce ld p 0x10) c }
    msg := { x.msg with routes := routesOf (inForce ld p 0xC) c, combine := [], pendingOut := [] }
    chans := [0, 1, 2, 3].map (fun g => (g, loadChannel splits c g (mget {} x.chans g))) }

/-- A covered cluster of partition `p` after the load (02 R75). -/
def loadCluster (ld : Loaded) (p : Nat) (s : State) (c : Nat) : State :=
  let s1 := modClus s c (loadUnits ld p c)
  (coresOf c).foldl (fun a n =>
    let off := (getClus a c).disabled.getLsbD (pcoreOf n)
    modCore a n (fun x => match lcoreOf (inForce ld p 3) c (pcoreOf n) ld.lsize with
      | some l => loadCore ld p c l off x
      | none => clearCore off x)) s1

/-- A cluster that a full load leaves in no partition: Becalmed at step 0, without streams, queues, channels or tasks; its CLU_LMAP stays (01 R33; 02 R49; 15 R592; 19 R705, R706). -/
def becalm (s : State) (c : Nat) : State :=
  let s1 := modClus (resetCluster false s c) c (fun x =>
    { x with
      becalmed := true, step := 0, planStep := 0, throttled := false, throttleWait := none, coolSince := none, coreLullIdle := 0, bankLullIdle := 0
      mem := { x.mem with slots := [] }
      str := { x.str with shareRd := 5, shareWr := 2, shareRem := 1, streams := [], buffers := [], gddr := [], host := [], ringOwed := 0 }
      msg := { x.msg with routes := [], combine := [], pendingOut := [] }
      chans := [0, 1, 2, 3].map (fun g => (g, let h : Channel := mget {} x.chans g; { reqs := h.reqs, full := h.full, flushes := h.flushes })) })
  (coresOf c).foldl (fun a n => modCore a n (clearCore ((getClus a c).disabled.getLsbD (pcoreOf n)))) s1

/-! ## Partitions and groups -/

/-- A PARTITION_MAP entry in force (02 R47, R49). -/
def mapPart (x : Part) (e : PartEntry) : Part :=
  { x with clusters := BitVec.ofNat 32 e.clusters, mcast := BitVec.ofNat 64 e.mcast, dmBase := e.base, dmLimit := e.limit, owner := e.owner }

/-- The run defaults of a PARTITION_RUN record (02 R53). -/
def runDefaultsOf (r : Rec) : RunDefaults :=
  let f := r.le 1 1
  { rowStall := f.testBit 0, rawLenient := f.testBit 1, openMerge := f.testBit 2, deadlineFlush := f.testBit 3, gatherDeadline := r.le 4 4
    stepInit := BitVec.ofNat 64 (r.le 8 8), ringPoll := r.le 0x10 4, msixMod := r.le 0x14 4, stallDeadline := r.le 0x18 4 }

/-- The seed slots of a partition (02 R63). -/
def seedsOf (rs : List Rec) : SMap (BitVec 128) := rs.foldl (fun a r => mset a (r.le 1 1) (BitVec.ofNat 128 (r.le 0x10 16))) []

/-- The rows of a saved state (11 R458). -/
def saveRowsOf (L clusters : Nat) : Nat := 1 + clusters * (262307 + 32946 * L)

/-- The groups of a partition as its records set them, active and without a fenced member (09 R385, R389, R399). -/
def loadGroups (s : State) (p : Nat) : State :=
  let kept := s.groups.filter (fun e => e.2.part != p && !(getPart s p).mcast.getLsbD e.1)
  { s with groups := (inForce s.loaded p 0xD).foldl (fun a r => mset a (r.le 0 1)
      { state := 1, part := p, kind := r.le 1 1, routeId := r.le 2 1, op := r.le 3 1, root := r.le 4 1, senderCluster := r.le 5 1, senderLcore := r.le 6 1, deadlineUs := r.le 8 4 }) kept }

/-- The partition's own settings after a load: stopped with a FRESH start point (02 R75; 08 R330; 11 R445; 13 R542; 17 R661, R662). -/
def loadPart (ld : Loaded) (p : Nat) (x : Part) : Part :=
  let run := runDefaultsOf ((inForce ld p 5).headD 0)
  { x with
    state := .stopped, kept := false, restored := false, stopPending := false, stopTime := none, degraded := false, faultStop := false, aborting := false
    run := run, seeds := seedsOf (inForce ld p 0xA), step := run.stepInit, gatherDeadline := run.gatherDeadline, msixMod := run.msixMod
    calm := none, calmHeld := false
    det := { x.det with phase := 0, backPhase := 0, digSeq := 0, saveRows := saveRowsOf ld.lsize (bitsSet x.clusters.toNat 32), equivId := equivIdOf ld p }
    pf := { x.pf with queue := [], overflow := [], resolving := [], pri := [] }
    twin := { emptyTwin x.twin with ord := 0 } }

/-- One covered partition after the load. -/
def loadPartition (s : State) (p : Nat) : State :=
  let s1 := modPart s p (loadPart s.loaded p)
  let s2 := goPlan ((clustersOf s1 p).foldl (loadCluster s1.loaded p) (loadGroups s1 p)) p
  { s2 with closedRanges := s2.closedRanges.filter (fun r => r.1 != p) }

/-! ## The mesh and the fabric, set by a full image only (02 R45; 09 R364; 12 R473, R489) -/

/-- The link tables of every cluster (09 R364, R365). -/
def loadLinks (rs : List Rec) (s : State) : State :=
  (List.range 32).foldl (fun a c => modClus a c (fun x => modMsg x (fun m => { m with
    links := (rs.filter (fun r => r.le 0 1 == 1 && r.le 1 1 == c)).foldl (fun b r => mset b (r.le 2 1) ((List.range 64).map (fun k => r.le (8 + k) 1))) [] }))) s

/-- A peer context as a full load makes it: both directions without state, the transmit direction waiting to open a session (12 R473, R475, R479). -/
def newPeer (r : Rec) : Peer := { state := .syncing, flow := r.le 0xA 1, grant := r.le 0xB 1, mac := r.le 4 6 }

/-- A fabric port as a full image sets it. Registers that no image sets keep their values (12 R489, R500). -/
def loadFabPort (rs : List Rec) (f : Nat) (x : FabPort) : FabPort :=
  let port := ((rs.find? (fun r => r.le 0 1 == 2 && r.le 1 1 == f))).getD 0
  let on := port.le 2 1 != 0
  { x with
    mode := port.le 2 1, macsec := (port.le 3 1).testBit 0, ptp := (port.le 3 1).testBit 1, etherType := port.le 4 2, vid := port.le 6 2, mac := port.le 8 6
    retxTimeout := max 1 (port.le 0xE 1), linkHoldMs := max 1 (port.le 0xF 1)
    linkUp := x.linkUp && on, laneLock := if on then x.laneLock else 0, downSince := if x.linkUp && on then none else x.downSince, holdFenced := false
    windows := (windowRecs rs f).map (fun w => { wkind := w.le 2 1, flow := w.le 3 1, start := w.le 4 4, len := w.le 8 4, pcp := w.le 0xC 1 })
    open_ := none
    peers := (rs.filter (fun r => r.le 0 1 == 3 && r.le 1 1 == f)).foldl (fun a r => mset a (r.le 2 2) (newPeer r)) []
    txQueue := [], partial_ := [] }

/-- The fabric as a full image sets it; without FABRIC_WINDOWS every port is disabled (02 R45; 12 R489, R494, R502). -/
def loadFabric (rs : List Rec) (s : State) : State :=
  let sched := ((rs.find? (fun r => r.le 0 1 == 1))).getD 0
  let active := sched != 0
  let fab := { s.fab with
    period := sched.le 4 4, slack := sched.le 8 4, active := active, holdover := active && !s.time.trusted, suspended := active && s.fab.suspended }
  [0, 1, 2, 3].foldl (fun a f => setFab a f (loadFabPort rs f (getFab a f))) { s with fab := fab }

/-! ## Initial data (02 R60 to R62) -/

/-- The payload rows of an INITIAL_DATA section. -/
def dataRows (h : Rec) (body : List Rec) : List Row :=
  if h.le 3 1 = 0 then body.map (BitVec.ofNat 4096) else List.replicate (h.le 0x10 4) (BitVec.ofNat 4096 (body.headD 0))

/-- One INITIAL_DATA section written. -/
def placeData (e : ImgEnv) (s : State) (x : ImgSection) : State :=
  match secRecs e.img x with
  | [] => s
  | h :: body =>
    let bytes := (dataRows h body).flatMap (fun r => natBytes 512 r.toNat)
    match h.le 0 1 with
    | 0 => match physOf s (h.le 1 1) (h.le 2 1) with
      | some n => { s with spMem := writeBytes s.spMem (spAddr n (h.le 8 8)) bytes }
      | none => s
    | 1 => { s with cmMem := writeBytes s.cmMem (cmAddr (h.le 1 1) (h.le 8 8)) bytes }
    | _ =>
      let a := h.le 8 8
      { s with dmMem := writeBytes s.dmMem a bytes, dmBad := s.dmBad.filter (fun b => !decide (a ≤ 512 * b.1 ∧ 512 * b.1 < a + bytes.length)) }

/-! ## The whole apply -/

/-- The clusters that an apply scrubs: those of CLUSTER_MASK, and all of them for a full image (02 R75). -/
def scrubbed (e : ImgEnv) : List Nat := if e.part.isNone then List.range 32 else e.clusters

/-- The partition map of a full image: partitions without a record become NONE (02 R75; 17 R661). -/
def loadMap (e : ImgEnv) (s : State) : State :=
  (List.range 16).foldl (fun a p => modPart a p (fun x =>
    match e.parts.find? (fun q => q.num == p) with
    | some q => mapPart x q
    | none => { mapPart x { num := p, owner := x.owner, clusters := 0, mcast := 0, base := 0, limit := 0 } with
        state := .none, kept := false, restored := false, stopPending := false, stopTime := none, degraded := false, faultStop := false, aborting := false })) s

/-- What a full image sets outside the partitions: clusters in no partition, links, the device number, fabric and page table (02 R49, R75; 08 R318; 09 R364). -/
def loadDevice (e : ImgEnv) (s : State) : State :=
  let s1 := ((List.range 32).filter (fun c => !e.mask.testBit c)).foldl becalm { s with groups := [] }
  let s2 := loadFabric (e.recs 0x11) (loadLinks (e.recs 0xB) s1)
  { s2 with self := imgSelf e, ptes := [], ptIdentity := true }

/-- Every step of R75 but the report. -/
def applyImage (e : ImgEnv) (s : State) : State :=
  let s1 := scrubClusters { s with loaded := mergeImage e s.loaded } (scrubbed e)
  let s2 := if e.part.isNone then loadDevice e (loadMap e s1) else s1
  let s3 := e.parts.foldl (fun a p => loadPartition a p.num) s2
  (ofType e.secs 9).foldl (placeData e) s3

/-- The measurement log after a successful load (02, under R44; 16 R645, R646). -/
def logImage (e : ImgEnv) (s : State) : State :=
  let d := imgDigest e.img
  let s1 := if e.part.isNone then measure s 8 d (imgIdent e.img) else s
  e.parts.foldl (fun a p => measure a (16 + p.num) d (imgIdent e.img)) s1

end Sys2Proof.Machine
end

