-- ==== Sys2Proof/Machine/Image.lean ====
section
/-! DEFINITION. The device image loader: its commands, the end of its checks, and the end or failure of its apply (02 R65 to R77; 17 R661; 18 R680; 19 R706). -/

namespace Sys2Proof.Machine

/-! ## The registers of a loader (02 R65) -/

/-- The registers of the device loader (none) or of a partition's. -/
def imgRegsOf (s : State) : Option Nat → ImgRegs
  | none => s.img
  | some p => (getPart s p).img

/-- The state with loader registers changed. -/
def modImg (s : State) (part : Option Nat) (f : ImgRegs → ImgRegs) : State :=
  match part with
  | none => { s with img := f s.img }
  | some p => modPart s p (fun x => { x with img := f x.img })

/-- The completion interrupt of a load: DEV_LOAD_VEC at the primary port, or LOAD_VEC at the owner port. A VERIFY is no load (02 R75; 15 R598). -/
def loadVecEvent (s : State) (part : Option Nat) (verify : Bool) : State :=
  if verify then s
  else match part with
    | none => vecEvent s s.hp.primary s.hp.devLoadVec 0 none
    | some p => partEvent s p (·.loadVec)

/-- A loader command ends: RESULT_VALID, CODE, SECTION and RECORD, and the interrupt; a refusal at boot stage 9 is boot code 0x0501, with its line of the boot log (02 R65, R75; 16 R614, R627). -/
def loadEnd (s : State) (part : Option Nat) (verify autoload : Bool) (f : ImgFail) : State :=
  let s1 := loadVecEvent (modImg { s with loader := none } part (fun g => { g with resultValid := true, code := f.1, section_ := f.2.1, record_ := f.2.2 })) part verify
  if autoload && f.1 != 0 then emit { s1 with brz := { s1.brz with code := 0x0501 } } (.console 64 0x0501) else s1

/-- A command that is accepted, or refused by no section. -/
def passed : ImgFail := (0, noSec, noRec)

/-! ## Checks 0x0010 to 0x0012 (02 R72, R74) -/

/-- The state of the machine does not allow the command: 0x0010 or 0x0011. -/
def loadStateFail (s : State) : Option Nat → Option ImgFail
  | none => imgIf ((List.range 16).any (fun q => partIsUp (getPart s q))) (headFail 0x0010)
  | some p => imgIf (decide ((getPart s p).state ≠ .stopped) || (getPart s p).aborting || decide (s.loaded.lsize = 0)) (headFail 0x0011)

/-- 64 GiB, one position of BAR2 (02 R72). -/
def winSize : Nat := 68719476736

/-- The staging range breaks R72, or ADDR is no multiple of 4 KiB: 0x0012. -/
def stagingFail (s : State) (addr len : Nat) : Option ImgFail :=
  imgIf (decide (addr % 4096 ≠ 0 ∨ dmEnd < addr + len ∨ addr / winSize ≠ (addr + (len - 1)) / winSize) ||
    (List.range 16).any (fun q => partIsUp (getPart s q) && rangesMeet addr len (getPart s q).dmBase ((getPart s q).dmLimit - (getPart s q).dmBase))) (headFail 0x0012)

/-- The first of them that fails. -/
def commandFail (s : State) (part : Option Nat) (addr len : Nat) : Option ImgFail :=
  match loadStateFail s part with
  | some f => some f
  | none => stagingFail s addr len

/-! ## Commands (02 R65, R66, R68, R69) -/

/-- The loader takes a command: it ends at once where a check of the command fails. -/
def takeLoad (s : State) (part : Option Nat) (verify copying autoload : Bool) (len : Nat) : State :=
  let addr := (imgRegsOf s part).addr.toNat
  match commandFail s part addr len with
  | some f => loadEnd s part verify autoload f
  | none => { s with loader := some { part := part, verify := verify, copying := copying, autoload := autoload, applying := false, addr := addr, len := len, image := 0 } }

/-- The loader runs a command: a write of a command register is rejected (02 R69). -/
def loaderDenied (s : State) : Option Nat := if s.loader.isSome then some 6 else none

/-- A command of DEV_IMG_CMD (02 R65, R68, R69). -/
def devImgCmd (h : Nat) (verify src : Bool) (act : State → State) (s : State) : Res :=
  hostCmd s h 0x110 ((if src then 0x100 else 0) + (if verify then 2 else 1)) (firstDenied [primaryDenied s h, loaderDenied s]) act

/-- SRC = 1: the DEFAULT_IMAGE record in force is staged; without one the command ends with 0x0013, before 0x0010 is looked at (02 R66; the order is a DESIGN CHOICE). -/
def takeDefault (s : State) (verify autoload : Bool) : State :=
  match recordInForce s.brz 9 with
  | some (.bytes len _) => takeLoad s none verify true autoload len
  | _ => loadEnd s none verify autoload (headFail 0x0013)

/-- DEV_IMG_LOAD (02 R65). -/
def execDevImgLoad (h : Fin 2) (s : State) : Res := devImgCmd h.val false false (fun t => takeLoad t none false false false t.img.len.toNat) s
/-- DEV_IMG_VERIFY (02 R65). -/
def execDevImgVerify (h : Fin 2) (s : State) : Res := devImgCmd h.val true false (fun t => takeLoad t none true false false t.img.len.toNat) s
/-- DEV_IMG_DEFAULT_LOAD (02 R66). -/
def execDevImgDefaultLoad (h : Fin 2) (s : State) : Res := devImgCmd h.val false true (fun t => takeDefault t false false) s
/-- DEV_IMG_DEFAULT_VERIFY (02 R66). -/
def execDevImgDefaultVerify (h : Fin 2) (s : State) : Res := devImgCmd h.val true true (fun t => takeDefault t true false) s

/-- A command of PART_IMG_CMD (02 R65, R68, R69). -/
def partImgCmd (h p : Nat) (verify : Bool) (s : State) : Res :=
  hostCmd s h (partOff p 0x110) (if verify then 2 else 1) (firstDenied [partDenied s h p, loaderDenied s])
    (fun t => takeLoad t (some p) verify false false (getPart t p).img.len.toNat)
/-- PART_IMG_LOAD (02 R65). -/
def execPartImgLoad (h : Fin 2) (p : PartId) (s : State) : Res := partImgCmd h.val p.val false s
/-- PART_IMG_VERIFY (02 R65). -/
def execPartImgVerify (h : Fin 2) (p : PartId) (s : State) : Res := partImgCmd h.val p.val true s

/-- DEFAULT_IMAGE_COPY_END: the payload of the record stands in device memory, and DEV_IMG_LEN holds its length (02 R66). The record is the one in force at the end of the copy (DESIGN CHOICE). -/
def execDefaultImageCopyEnd (s : State) : Res :=
  match s.loader, recordInForce s.brz 9 with
  | some r, some (.bytes len bytes) =>
    if !r.copying then .next s
    else
      let s1 := modImg { s with dmMem := writeBytes s.dmMem r.addr (natBytes len bytes) } none (fun g => { g with len := BitVec.ofNat 32 len })
      .next { s1 with loader := some { r with copying := false, len := len } }
  | _, _ => .next s

/-! ## The checks end (02 R73, R74; 17 R661, R673; 19 R706) -/

/-- The image that stands in the staging range. -/
def stagedImage (s : State) (r : LoaderRun) : Nat := bytesNat (readBytes s.dmMem r.addr r.len)

/-- An image in the form in which it is applied. -/
def imgEnv (s : State) (part : Option Nat) (img : Nat) : ImgEnv := { s := s, part := part, img := img, secs := knownSecs (imgSections img) }

/-- The first check that fails, the state's own check made again at their end. -/
def checksFail (s : State) (r : LoaderRun) : Option ImgFail :=
  match loadStateFail s r.part with
  | some f => some f
  | none => imageFail s r.part (stagedImage s r) r.len

/-- The apply begins: stopped partitions that the image covers are LOADING, each covered cluster takes its C reset, and the Becalmed clusters that a full image places wait for their power-up turns. -/
def beginApply (s : State) (r : LoaderRun) : State :=
  let img := stagedImage s r
  let e := imgEnv s r.part img
  let s1 := e.parts.foldl (fun a p => modPart a p.num (fun x => if x.state = .stopped then { x with state := .loading } else x)) s
  let s2 := e.clusters.foldl (resetCluster false) s1
  let asleep := e.clusters.filter (fun c => (getClus s c).becalmed)
  { s2 with
    loader := some { r with applying := true, image := img }
    pwr := { s2.pwr with stagger := if r.part.isNone then s2.pwr.stagger ++ asleep.filter (fun c => !s2.pwr.stagger.contains c) else s2.pwr.stagger } }

/-- What the end of the checks does: a refusal, the end of a VERIFY, or the begin of the apply. -/
def checksEnd (s : State) (r : LoaderRun) : State :=
  match checksFail s r with
  | some f => loadEnd s r.part r.verify r.autoload f
  | none => if r.verify then loadEnd s r.part true r.autoload passed else beginApply s r

/-- IMAGE_CHECKS_END (02 R73). -/
def execImageChecksEnd (s : State) : Res :=
  match s.loader with
  | some r => if r.copying || r.applying then .next s else .next (checksEnd s r)
  | none => .next s

/-! ## The apply ends, or fails (02 R75, R77) -/

/-- IMAGE_ID of the image, and for a full image of every partition (02 R65). -/
def setImageIds (s : State) (part : Option Nat) (id : BitVec 128) : State :=
  match part with
  | none => (List.range 16).foldl (fun a p => modPart a p (fun x => { x with img := { x.img with imageId := id } })) { s with img := { s.img with imageId := id } }
  | some p => modPart s p (fun x => { x with img := { x.img with imageId := id } })

/-- The end of a load that succeeds. -/
def finishLoad (s : State) (r : LoaderRun) : State :=
  let e := imgEnv s r.part r.image
  loadEnd (logImage e (setImageIds (applyImage e s) r.part (BitVec.ofNat 128 (imgIdent r.image)))) r.part r.verify r.autoload passed

/-- IMAGE_APPLY_END: once no cluster waits for its power-up turn (02 R75; 19 R706). -/
def execImageApplyEnd (s : State) : Res :=
  match s.loader with
  | some r => if r.applying && s.pwr.stagger.isEmpty then .next (finishLoad s r) else .next s
  | none => .next s

/-- The cluster of the unit that fails, one of the covered ones; none where the unit lies in no cluster (02 R77). -/
def failCluster (s : State) (covered : List Nat) (code : Nat) : Option Nat :=
  (Config.applyUnit s.free code).2.2.1.bind (fun k => covered[k.val % covered.length]?)

/-- The record of a failed apply: the code of the error, REACTION STOP, and the unit, a free value (02 R77; 18 R680, R701). -/
def failInfo (s : State) (covered : List Nat) (code p : Nat) : FfInfo :=
  let u := Config.applyUnit s.free code
  let k := failCluster s covered code
  { reaction := 2, cls := classOfCode code, kind := u.1.val, code := code, part := some p, cluster := k, pcore := if k.isSome && decide (u.2.2.2.val < 24) then u.2.2.2.val else 0x1F, index := u.2.1.toNat
    step := (getPart s p).step, time := s.time.now }

/-- The cluster of a partition in whose record a failed apply is found: that of the failing unit, the lowest-numbered one where the unit lies outside the partition (DESIGN CHOICE). -/
def failHome (s : State) (covered : List Nat) (code p : Nat) : Nat :=
  match failCluster s covered code with
  | some c => if (getPart s p).clusters.getLsbD c then c else lowestCluster s p
  | none => lowestCluster s p

/-- A partition that a failed apply leaves FAULTED, with the fault in a cluster record of its own (02 R77; 17 R661). -/
def failPartition (s : State) (covered : List Nat) (code p : Nat) : State :=
  let s1 := recordCluster s (failHome s covered code p) none (failInfo s covered code p)
  partEvent (modPart s1 p (fun x => { x with state := .faulted, kept := false, restored := false })) p (·.faultVec)

/-- The partition map as a failed full load leaves it: its partitions have their clusters, and a partition whose clusters they take is NONE; any other is unaffected (02 R77). -/
def failMap (e : ImgEnv) (s : State) : State :=
  let t := loadMap e s
  (List.range 16).foldl (fun a p =>
    if e.parts.any (fun q => q.num == p) || (getPart s p).clusters.toNat &&& e.mask != 0 then setPart a p (getPart t p) else a) s

/-- The fault of a failed apply in the device record, once. -/
def failDevice (s : State) (covered : List Nat) (code : Nat) (parts : List PartEntry) : State :=
  match ((failCluster s covered code).bind (fun c => parts.find? (fun p : PartEntry => p.clusters.testBit c))).or parts.head? with
  | some p => recordDevice s none (failInfo s covered code p.num)
  | none => s

/-- What a failed apply leaves; LOGICAL_SIZE keeps the L of the image loaded before (DESIGN CHOICE). -/
def failApply (s : State) (r : LoaderRun) (code : Nat) : State :=
  let e := imgEnv s r.part r.image
  let s1 := if r.part.isNone then failMap e s else s
  let s2 := failDevice (scrubClusters s1 e.clusters) e.clusters code e.parts
  let s3 := useFree (e.parts.foldl (fun a p => failPartition a e.clusters code p.num) s2)
  loadEnd { s3 with pwr := { s3.pwr with stagger := [] } } r.part r.verify r.autoload (headFail 0x0070)

/-- APPLY_FAILURE: the covered SRAM is scrubbed, each covered partition is FAULTED, and the loader reports 0x0070 (02 R77; 17 R661). -/
def execApplyFailure (code : BitVec 16) (s : State) : Res :=
  match s.loader with
  | some r => if r.applying then .next (failApply s r code.toNat) else .next s
  | none => .next s

end Sys2Proof.Machine
end

