-- ==== Sys2Proof/Machine/Boot.lean ====
section
/-! DEFINITION. The boot of the device: its nine stages, the compatibility check and the self-test marks (01 R25 to R28; 16 R627 to R641, R645; 19 R705, R710; 21 R746, R750, R751). -/

namespace Sys2Proof.Machine

/-- BSTATE of Breeze; each change is reported (16 R616, R636). -/
def setBstate (s : State) (v : Nat) : State :=
  if s.brz.bstate = v then s else platformEvent (modBrz s (fun b => { b with bstate := v })) 0 v

/-- A line of the boot log: 64 a code, 65 a stage begun (16 R614). -/
def bootLine (s : State) (kind v : Nat) : State := emit s (.console kind v)

/-- STAGE of MGT_BOOT_STATUS: the last stage begun (16 R614, R658). -/
def atStage (s : State) (n : Nat) : State := bootLine (modBrz s (fun b => { b with stage := n })) 65 n

/-- A code of MGT_BOOT_STATUS (16 R614, R627, R635). -/
def bootCode (s : State) (code : Nat) : State := bootLine (modBrz s (fun b => { b with code := code })) 64 code

/-- A stage fails: its code, and the state that follows (16 R627, R636). -/
def failStage (s : State) (code bstate : Nat) : State := setBstate (bootCode s code) bstate

/-- How a stage ends: the boot goes on, or it has ended. -/
abbrev Staged := State × Bool

/-- The next stage, where the boot goes on. -/
def thenStage (x : Staged) (f : State → Staged) : Staged := if x.2 then f x.1 else x

/-! ## Stages 1 and 2 (16 R629, R630) -/

/-- ASCII "Rasel identity". -/
def identityText : List Byte := [0x52, 0x61, 0x73, 0x65, 0x6C, 0x20, 0x69, 0x64, 0x65, 0x6E, 0x74, 0x69, 0x74, 0x79]

/-- The 57-byte seed of the identity key (16 R629). -/
def identitySeed (secret : BitVec 256) : List Byte := shake256 (natBytes 32 secret.toNat ++ identityText) 57

/-- Stage 1: PUF_HELPER is read; the boot ROM's contents are measured. -/
def stage1 (s : State) : Staged :=
  let d := Config.romDigest s.b0
  let s1 := remeasure (atStage s 1) 1 d (Config.logVersion 1 d)
  match recordInForce s.brz 4 with
  | some _ => (s1, true)
  | none => (failStage s1 0x0102 2, false)

/-- Stage 2: the identity key and the serial number. -/
def stage2 (env : BootEnv) (s : State) : Staged :=
  let s1 := atStage s 2
  match env.secret with
  | some secret =>
    let pub := edPublic (identitySeed secret)
    (modBrz s1 (fun b => { b with identityOk := true, pubKey := pub, serial := BitVec.ofNat 128 (bytesNat (shake256 (natBytes 57 pub) 16)) }), true)
  | none => (failStage s1 0x0101 2, false)

/-! ## Compatibility (16 R637 to R641) -/

/-- The bit of a STEPPINGS byte for this stepping. -/
def coversStepping (s : State) (v : Byte) : Bool := v.getLsbD (if s.b0 then 1 else 0)

/-- The version that a component shows in a set of versions: stepping, boot ROM, Breeze, Eddy (16 R638). -/
def compVersion (s : State) (breeze eddy : Nat) : Nat → Nat
  | 0 => if s.b0 then 0xB0 else 0xA0
  | 1 => s.ifRom
  | 2 => breeze
  | _ => eddy

/-- An entry of COMPAT holds the version of a component; the stepping is covered by STEPPINGS (16 R638). -/
def entryHolds (s : State) (breeze eddy : Nat) (e : CompatEntry) : Nat → Bool
  | 0 => true
  | 1 => e.romIf == s.ifRom
  | 2 => e.breezeIf == breeze
  | _ => e.eddyIf == eddy

/-- A pair is tested (16 R638). -/
def pairTested (s : State) (breeze eddy : Nat) (p : Nat × Nat) : Bool :=
  ((compatEntries s).getD []).any (fun e => coversStepping s e.steppings && entryHolds s breeze eddy e p.1 && entryHolds s breeze eddy e p.2)

/-- A pair is waived for this device (16 R640). -/
def pairWaived (s : State) (breeze eddy : Nat) (p : Nat × Nat) : Bool :=
  let me := shakeNat (natBytes 57 s.brz.pubKey)
  (waiversOf s).any (fun w => (w.identity == 0 || w.identity == me) && coversStepping s w.steppings &&
    ((w.compA == p.1 && w.compB == p.2 && w.verA == compVersion s breeze eddy p.1 && w.verB == compVersion s breeze eddy p.2) ||
     (w.compA == p.2 && w.compB == p.1 && w.verA == compVersion s breeze eddy p.2 && w.verB == compVersion s breeze eddy p.1)))

/-- The pairs in the order of their check (16 R638). -/
def compatPairs : List (Nat × Nat) := [(0, 2), (0, 3), (1, 2), (2, 3)]

/-- A pair is neither tested nor waived. -/
def pairBad (s : State) (breeze eddy : Nat) (p : Nat × Nat) : Bool := !pairTested s breeze eddy p && !pairWaived s breeze eddy p

/-- The first untested pair (16 R638). -/
def untestedPair (s : State) (breeze eddy : Nat) : Option (Nat × Nat) := compatPairs.find? (pairBad s breeze eddy)

/-- Breeze runs a firmware payload: its version and its measurement (16 R645, R658). -/
def runBreeze (s : State) (v : FlashPayload) : State :=
  let d := digestOf v
  remeasure (modBrz s (fun b => { b with ifBreeze := ifOf v, breezeDigest := d })) 2 d (Config.logVersion 2 d)

/-- Stage 3: the copy in force, or the other valid copy. With the main side running, a copy in force that would form an untested pair with the running Eddy firmware is passed over for the other, code 0x0403 (16 R627, R635). -/
def stage3 (s : State) : Staged :=
  let s1 := atStage s 3
  let fit (v : FlashPayload) : Bool := !s.brz.mainRuns || !pairBad s (ifOf v) s.brz.ifEddy (2, 3)
  match (copiesOf s.brz 1).filter (firmwareOk s.fwKey s.brz 1) with
  | v :: rest =>
    if fit v then (runBreeze s1 v, true)
    else match rest with
      | w :: _ => (runBreeze (bootCode s1 0x0403) w, true)
      | [] => (runBreeze s1 v, true)
  | [] => (failStage s1 0x0201 1, false)

/-! ## Stage 4: the other records (01 R25, R26; 16 R627, R632) -/

/-- The payload of GRADE in force is measured (16 R645). -/
def measureGrade (s : State) : State :=
  match recordInForce s.brz 3 with
  | some v => remeasure s 4 (digestOf v) (Config.logVersion 4 (digestOf v))
  | none => s

/-- DEV_GRADE and the masks of disabled cores taken from GRADE in force (01 R25, R31, R32). -/
def setGrade (s : State) : State :=
  match recordInForce s.brz 3 with
  | some v => modBrz s (fun b => { b with
      gradeLetter := gradeLetterOf v, gradePer := 24 - (gradeCount (gradeLetterOf v)).getD 0, gradeMasks := (List.range 32).map (fun c => (c, gradeMaskOf v c)) })
  | none => s

/-- The grade at a stage 4: it is measured, and taken where no stage 4 since the P reset has taken it (00 R7; 01 R31; 16 R645). -/
def takeGrade (s : State) : State := if s.brz.gradeLetter = 0 then setGrade (measureGrade s) else measureGrade s

/-- EDDY_FW in force verifies. -/
def eddyOk (s : State) : Bool :=
  match recordInForce s.brz 2 with
  | some v => firmwareOk s.fwKey s.brz 2 v
  | none => false

/-- Stage 4: EDDY_FW, GRADE, COMPAT, WAIVER and CERT. COMPAT is judged at stage 5; a bad CERT is reported and does not stop the boot. -/
def stage4 (s : State) : Staged :=
  let s1 := atStage s 4
  if !eddyOk s then (failStage s1 0x0301 2, false)
  else if !gradeOk s.fwKey s.brz then (failStage s1 0x0302 2, false)
  else if waiverBad s then (failStage s1 0x0303 2, false)
  else
    let s2 := takeGrade s1
    let s3 := match recordInForce s.brz 8 with
      | some v => remeasure s2 7 (digestOf v) (Config.logVersion 7 (digestOf v))
      | none => s2
    (if certBad s.fwKey s.brz then bootCode s3 0x0304 else s3, true)

/-! ## Stages 5 to 9 -/

/-- The interface version of EDDY_FW in force. -/
def eddyIfInForce (b : Breeze) : Nat := ((recordInForce b 2).map ifOf).getD 0

/-- The untested pair as a number: its components, then its versions. -/
def pairData (p : Nat × Nat × Nat × Nat) : Nat := p.1 + 256 * p.2.1 + 65536 * p.2.2.1 + 281474976710656 * p.2.2.2

/-- The untested pair is reported in the registers, and with them in sensor 0x0060, and in a PlatformEventMessage (16 R639). -/
def reportPair (s : State) (p : Nat × Nat) : State :=
  let e := eddyIfInForce s.brz
  let v := (p.1, p.2, compVersion s s.brz.ifBreeze e p.1, compVersion s s.brz.ifBreeze e p.2)
  platformEvent (modBrz s (fun b => { b with pair := v })) 3 (pairData v)

/-- COMPAT and, where a waiver is used, WAIVER are measured (16 R641, R645). -/
def measureCompat (s : State) (waived : Bool) : State :=
  let c := ((recordInForce s.brz 6).map digestOf).getD 0
  let w := if waived then ((recordInForce s.brz 7).map digestOf).getD 0 else 0
  remeasure (remeasure s 5 c (Config.logVersion 5 c)) 6 w (if waived then Config.logVersion 6 w else 0)

/-- Stage 5: the compatibility check (16 R638 to R641). -/
def stage5 (s : State) : Staged :=
  let s1 := atStage s 5
  let v := s.brz.ifBreeze
  let e := eddyIfInForce s.brz
  if (compatEntries s).isNone then (failStage (reportPair s1 (0, 2)) 0x0402 2, false)
  else match untestedPair s v e with
    | some p => (failStage (reportPair s1 p) 0x0401 2, false)
    | none =>
      let waived := compatPairs.any (fun p => !pairTested s v e p)
      (measureCompat (modBrz s1 (fun b => { b with underWaiver := waived, pair := (0, 0, 0, 0) })) waived, true)

/-- Every main rail is within its range (21 R750, R751). -/
def railsOk (env : BootEnv) : Bool := env.railsAll && !env.railsNone

/-- REFCLK is lost as stage 6 begins: it is not there, or its monitor still counts it as lost (14 R565; 21 R746). -/
def refclkGone (env : BootEnv) (s : State) : Bool := !env.refclk || s.time.refclkLost

/-- Stage 6: the main rails and REFCLK; the main side starts, under a waiver or not, and its clusters wait for their power-up turns, behind which the boot goes on (16 R641; 19 R710; 21 R746, R750, R751). -/
def stage6 (env : BootEnv) (s : State) : State :=
  let s0 := atStage s 6
  let s1 := { s0 with pwr := { s0.pwr with railsGood := railsOk env } }
  if env.railsNone then setBstate s1 4
  else if !env.railsAll || !env.railsOrder || refclkGone env s then failStage s1 0x0601 2
  else modBrz { s1 with pwr := { s1.pwr with stagger := List.range 32 } } (fun b => { b with waived := b.underWaiver, booting := some env.failed })

/-- The cores of a cluster after its self-test: disabled cores by GRADE, failed cores by the test (01 R27, R28; 16 R633). -/
def testCluster (found : List (BitVec 24)) (s : State) (c : Nat) : State :=
  let off := mget 0 s.brz.gradeMasks c
  let failed := found.getD c 0 &&& ~~~off
  let s1 := modClus s c (fun x => { x with disabled := off, failed := failed, becalmed := true, step := 0 })
  (coresOf c).foldl (fun a n =>
    let bad := failed.getLsbD (pcoreOf n)
    if bad || off.getLsbD (pcoreOf n) then modCore a n (fun k => { k with state := .disabled, fenced := bad }) else a) s1

/-- Stage 7: the self-test, and EDDY_FW is loaded; every cluster is Becalmed from its end on (16 R627, R633; 19 R705). -/
def stage7 (found : List (BitVec 24)) (s : State) : State :=
  let s1 := (List.range 32).foldl (testCluster found) (atStage s 7)
  match recordInForce s.brz 2 with
  | some v =>
    let d := digestOf v
    remeasure (modBrz s1 (fun b => { b with ifEddy := ifOf v, eddyDigest := d })) 3 d (Config.logVersion 3 d)
  | none => s1

/-- Stage 8: the host ports open, and Breeze is Running (16 R627, R628, R636). -/
def stage8 (s : State) : State :=
  let s1 := modBrz (atStage s 8) (fun b => { b with mainUp := true, mainRuns := true })
  setBstate (modPort (modPort s1 0 (fun p => { p with opened := true })) 1 (fun p => { p with opened := true })) 3

/-- Stage 9: with AUTOLOAD set, Breeze gives the default load (02 R66; 16 R627). -/
def stage9 (s : State) : State :=
  let v := settingsOf s.brz
  let s1 := atStage s 9
  if v.autoload then takeDefault (modImg s1 none (fun g => { g with addr := BitVec.ofNat 64 v.autoloadAddr })) false true else s1

/-- Stages 5 and 6; stages 7 to 9 follow the last power-up turn (16 R627, R634; 19 R710). -/
def bootMain (env : BootEnv) (s : State) : State :=
  let x := stage5 s
  if x.2 then stage6 env x.1 else x.1

/-- Stages 7 to 9 of the boot that waits for them, once no cluster waits for its turn (16 R627). -/
def bootOn (s : State) : State :=
  match s.brz.booting with
  | some found => if s.pwr.stagger.isEmpty then stage9 (stage8 (stage7 found (modBrz s (fun b => { b with booting := none })))) else s
  | none => s

/-- Stages 1 to 4 (16 R627, R635). -/
def bootBreeze (env : BootEnv) (s : State) : Staged := thenStage (thenStage (thenStage (stage1 s) (stage2 env)) stage3) stage4

/-- The boot up to the power-up turns of stage 6 (16 R627). -/
def bootAll (env : BootEnv) (s : State) : State :=
  let x := bootBreeze env s
  if x.2 then bootMain env x.1 else x.1

end Sys2Proof.Machine
end

