-- ==== Sys2Proof/Machine/Power.lean ====
section
/-! DEFINITION. Power: thermal samples, the power-up stagger, Standby, and the P, F and M resets (16 R634, R635, R647; 19 R709 to R729; 21 R748 to R753). -/

namespace Sys2Proof.Machine

/-! ## Thermal limits (19 R714 to R720) -/

/-- A switch of R552 is under way for the cluster, its own or its partition's (19 R717). -/
def clusterSwitching (s : State) (c : Nat) : Bool :=
  match partOfCluster s c with
  | some p => (getClus s c).own.isSome || (getPart s p).freq.switching
  | none => (getClus s c).own.isSome

/-- A throttle begins now, or at the end of a switch under way (19 R715, R717). -/
def beginThrottle (s : State) (c : Nat) : State :=
  if clusterSwitching s c then modClus s c (fun x => { x with throttleWait := some true }) else throttleCluster s c

/-- A throttle ends now, or at the end of a switch under way (19 R716, R717). -/
def endThrottle (s : State) (c : Nat) : State :=
  if clusterSwitching s c then modClus s c (fun x => { x with throttleWait := some false }) else unthrottleCluster s c

/-- 10 ms in ns (19 R716). -/
def coolTime : Nat := 10000000

/-- What a reading does to its cluster: a throttle from 105 °C on, and its end after 10 ms at 100 °C or less (19 R715, R716). -/
def clusterReading (s : State) (c : Nat) (v : Int) : State :=
  let x := getClus s c
  if !x.throttled then (if 1050 ≤ v then beginThrottle s c else s)
  else if 1000 < v then modClus s c (fun y => { y with coolSince := none })
  else match x.coolSince with
    | some t => if t + coolTime ≤ nowNs s then endThrottle s c else s
    | none => modClus s c (fun y => { y with coolSince := some (nowNs s) })

/-- A partition stops by the trip (18 R682; 19 R720). -/
def tripPart (s : State) (p : Nat) : State := (clustersOf s p).foldl stopCluster (stopByFault s p (lowestCluster s p))

/-- The device trips: fault 0x01C0, every partition stops, every clock is gated, and THERMTRIP_N falls (19 R720). -/
def trip (s : State) : State :=
  let s1 := raiseDevice s { code := 0x01C0, kind := 15 }
  let s2 := ((List.range 16).filter (fun p => partIsUp (getPart s p))).foldl tripPart s1
  let s3 := (List.range 32).foldl (fun a c => modClus a c (fun x => { x with tripGated := true })) s2
  { s3 with pwr := { s3.pwr with thermtrip := true }, pins := { s3.pins with thermtripLow := true } }

/-- Every sensor has read below 95 °C since the main rails were removed (19 R720). -/
def allCool (p : PwrBlk) : Bool := (List.range 34).all (fun i => match p.tj.find? (fun e => e.1 == i) with
  | some e => decide (e.2 < 950)
  | none => false)

/-- THERMTRIP_N is released. -/
def releaseTrip (s : State) : State := { s with pwr := { s.pwr with thermtrip := false }, pins := { s.pins with thermtripLow := false } }

/-- A reading with the main side powered. -/
def hotReading (s : State) (sensor : Nat) (v : Int) : State :=
  let s1 := if sensor < 32 then clusterReading s sensor v else s
  if 1150 ≤ v ∧ !s.pwr.thermtrip then trip s1 else s1

/-- THERMAL_SAMPLE: a reading of one sensor, in tenths of a degree (19 R714). -/
def execThermalSample (sensor : Fin 34) (reading : BitVec 16) (s : State) : Res :=
  let v := reading.toInt
  let s1 := { s with pwr := { s.pwr with tj := mset s.pwr.tj sensor.val v, tjMax := min 4095 (max s.pwr.tjMax v.toNat) } }
  if s.pwr.railsGood then .next (hotReading s1 sensor.val v)
  else .next (if s.pwr.thermtrip && allCool s1.pwr then releaseTrip s1 else s1)

/-! ## The power-up stagger (19 R709, R710) -/

/-- CLUSTER_POWER_UP: the turn of the lowest-numbered cluster that waits; it is powered at the end of its turn, and behind the last turn a boot goes on (16 R627; 19 R709, R710). -/
def execClusterPowerUp (cl : ClusterId) (s : State) : Res :=
  match s.pwr.stagger with
  | c :: rest => if c = cl.val then .next (bootOn (modClus { s with pwr := { s.pwr with stagger := rest } } c (fun x => { x with powered := true }))) else .next s
  | [] => .next s

/-! ## Resets (19 R726 to R729) -/

/-- A port after a P or F reset; the level of PERSTh_N is the board's. -/
def freshPort (p : Port) : Port := { perst := p.perst }

/-- The measured values of the images are lost with the images (16 R645, R646; 19 R729). -/
def forgetImages (s : State) : State := (8 :: (List.range 16).map (· + 16)).foldl (fun a i => remeasure a i 0 0) s

/-- Breeze as the main side is reset: it runs on, a code of its own stages stays, the DOE mailboxes lose their connections, and no session of the host ports stays (16 R634, R643). -/
def breezeAtF (b : Breeze) : Breeze := { b with mainUp := false, mainRuns := false, waived := false, booting := none, code := if b.stage < 4 ∨ b.code = 0x0304 ∨ b.code = 0x0403 then b.code else 0, ifEddy := 0, eddyDigest := 0, spdm := b.spdm.filter (fun e => e.1 == 0) }

/-- Device memory after a reset of the main side: a free value in the form of a memory (19 R729; 21 R753). -/
def lostMemory (s : State) : Mem := ((Config.lostMemory s.free).filter (fun e => e.1 < dmEnd)).foldl (fun m e => writeBytes m e.1 [e.2]) []

/-- The main side reset: every main-side unit at its reset value; flash, Breeze, the device record, the time counter, the TAP and THERMTRIP_N are kept, and PPS_OUT is low. The primary port comes from SETTINGS (19 R722, R726, R729; 21 R754; 15 R576; 16 R656). -/
def resetMainSide (s : State) : State :=
  let base : State := {}
  forgetImages (settlePps { base with
    pending := s.pending, free := s.free + 1, b0 := s.b0, ifRom := s.ifRom, dalardKey := s.dalardKey, fwKey := s.fwKey, out := s.out, dmMem := lostMemory s
    ff := s.ff, time := s.time, brz := breezeAtF s.brz, tap := s.tap, pins := s.pins
    pwr := { thermtrip := s.pwr.thermtrip, tjMax := s.pwr.tjMax, cause := s.pwr.cause, kind := s.pwr.kind }
    hp := { primary := (settingsOf s.brz).primary % 2, p0 := freshPort s.hp.p0, p1 := freshPort s.hp.p1 } })

/-- The session counters are seeded from a counter that is trusted as an F reset ends (12 R476). -/
def seedIfTrusted (s : State) : State := if s.time.trusted then seedSessions s else s

/-- At an F reset DEV_GRADE takes its value again from GRADE in force, where that is valid (00 R7; 01 R31; DESIGN CHOICE). -/
def regrade (s : State) : State := if gradeOk s.fwKey s.brz then setGrade s else s

/-- Breeze has come through its own stages 1 to 4, so that an F reset goes on from stage 5; held in stage 4, it makes that stage again first, and stopped in an earlier one it stays as that stage left it (16 R634, R636). -/
def bootFromF (env : BootEnv) (s : State) : State :=
  if s.brz.stage = 0 then s
  else if s.brz.stage < 4 then setBstate s (if s.brz.stage = 3 then 1 else 2)
  else if s.brz.stage = 4 then (let x := stage4 (regrade s); if x.2 then bootMain env x.1 else x.1)
  else if eddyOk s then bootMain env (regrade s)
  else failStage (atStage s 4) 0x0301 2

/-- An F reset with its cause (19 R726, R730). -/
def fReset (s : State) (cause : Nat) (env : BootEnv) : State :=
  let s1 := resetMainSide s
  bootFromF env (seedIfTrusted { s1 with pwr := { s1.pwr with cause := cause, kind := 1, railsGood := railsOk env } })

/-- CAUSE of an F reset by a pin. -/
def causeOf : FCause → Nat
  | .devReset => 1
  | .bothPerst => 2

/-- F_RESET (19 R726, R727). With both PERST_N low, both ports' pins are low. -/
def execFReset (cause : FCause) (env : BootEnv) (s : State) : Res :=
  let low := cause == .bothPerst
  .next (fReset (modPort (modPort s 0 (fun p => { p with perst := p.perst || low })) 1 (fun p => { p with perst := p.perst || low })) (causeOf cause) env)

/-- P_RESET: the whole device at its reset values but flash, and the boot from stage 1. A record write under way is lost with its copy (16 R623, R627; 19 R726, R729; 21 R748). -/
def execPReset (env : BootEnv) (s : State) : Res :=
  let base : State := {}
  .next (bootAll env { base with
    pending := s.pending, free := s.free + 1, b0 := s.b0, ifRom := s.ifRom, dalardKey := s.dalardKey, fwKey := s.fwKey, out := s.out, dmMem := lostMemory s
    pwr := { railsGood := railsOk env }
    brz := { flash := s.brz.flash, listen := (settingsOf s.brz).mgtAddr }, tap := { held := s.tap.held }
    hp := { primary := (settingsOf s.brz).primary % 2, p0 := freshPort s.hp.p0, p1 := freshPort s.hp.p1 } })

/-- The measurement log restarts with an entry for every index that holds a value (16 R647). -/
def restartLog (s : State) : State :=
  s.brz.measured.foldl (fun a e => if e.2 = (0, 0) then a else logAppend a e.1 e.2.1 e.2.2) (modBrz s (fun b => { b with log := [], logSeq := 0, logWrapped := false }))

/-- What every M reset leaves of Breeze: the flash, the grade, which only P and F resets set, and the address in SETTINGS (00 R7; 01 R31; 16 R611, R623). -/
def breezeFresh (b : Breeze) : Breeze :=
  { flash := b.flash, listen := (settingsOf b).mgtAddr, gradeLetter := b.gradeLetter, gradePer := b.gradePer, gradeMasks := b.gradeMasks }

/-- Breeze after an M reset with the main side running: what the main side keeps of its firmware and images stays known (16 R635, R647, R658). -/
def breezeAtM (b : Breeze) : Breeze :=
  { breezeFresh b with mainRuns := true, underWaiver := b.underWaiver, ifEddy := b.ifEddy, eddyDigest := b.eddyDigest, measured := b.measured }

/-- Breeze runs again beside a main side that runs: MAIN_UP and WAIVED report it anew (16 R635, R636, R658). -/
def runAgain (s : State) : State := setBstate (modBrz s (fun b => { b with mainUp := true, waived := b.underWaiver })) 3

/-- An M reset beside a running main side: stages 1 to 4 only (16 R635). -/
def mResetRunning (s : State) (env : BootEnv) : State :=
  let x := bootBreeze env (modBrz s breezeAtM)
  restartLog (if x.2 then runAgain x.1 else x.1)

/-- An M reset with the main side not running: the boot starts again at stage 1 and runs through stage 9 (19 R727). -/
def mResetDown (s : State) (env : BootEnv) : State := bootAll env (modBrz { s with pwr := { s.pwr with stagger := [] } } breezeFresh)

/-- M_RESET (16 R635; 19 R726, R727). -/
def execMReset (env : BootEnv) (s : State) : Res :=
  let s1 := { s with time := { s.time with xtalLost := false } }
  .next (if s.brz.mainRuns then mResetRunning s1 env else mResetDown s1 env)

/-! ## Standby (19 R722 to R725; 21 R753) -/

/-- STANDBY_ENTRY: a main rail leaves its tolerance; the main side loses its content and Breeze is in Standby (19 R722). -/
def execStandbyEntry (s : State) : Res :=
  if !s.pwr.railsGood then .next s
  else
    let s1 := resetMainSide s
    .next (setBstate { s1 with time := { s1.time with untrustedSince := nowNs s, standby := true } } 4)

/-- The time base takes up Breeze's value, and the counter is untrusted: DRIFT counts from the entry into Standby. With FREE_RUN set and REFCLK present it is trusted again (19 R724; 14 R561, R562). -/
def timeOnReturn (s : State) (env : BootEnv) : State :=
  let s1 := untrustTime s
  let s2 := { s1 with time := { s1.time with goodSyncs := 0, untrustedSince := s.time.untrustedSince, standby := true } }
  if s.time.freeRun && env.refclk then trustTime s2 else s2

/-- STANDBY_EXIT: every main rail is back within its tolerance: an F reset with cause "standby exit" (19 R725). -/
def execStandbyExit (env : BootEnv) (s : State) : Res :=
  if s.pwr.railsGood then .next s else .next (fReset (timeOnReturn s env) 4 env)

end Sys2Proof.Machine
end

