-- ==== Sys2Proof/Machine/Mgmt.lean ====
section
/-! DEFINITION. The management port: its transports, MCTP control, PLDM and the Dalard management commands (16 R611 to R617, R648 to R657, R798; 15 R576, R579; 18 R696; 02 R67).
Command numbers of the answers are 256 * the MCTP type + the command code; a PLDM command adds 65,536 * its PLDM type. Codes of the standards that the specification names are PRESUMED. -/

namespace Sys2Proof.Machine

/-! ## Transports (16 R611 to R613, R636) -/

/-- Breeze answers: it is in one of its states, or its firmware runs and the boot goes on (16 R615, R627, R636). -/
def breezeUp (s : State) : Bool := s.brz.bstate != 0 || decide (4 ≤ s.brz.stage)
/-- Breeze answers what ROM recovery restricts: sensors, vendor commands and SPDM (16 R636). -/
def breezeFull (s : State) : Bool := breezeUp s && s.brz.bstate != 1

/-- Something that Breeze does where it answers; otherwise nothing. -/
def whileUp (up : State → Bool) (act : State → State) (s : State) : Res := if up s then .next (act s) else .next s

/-- I3C_ENTRY: ENTDAA or SETDASA gives a dynamic address (16 R612). -/
def execI3cEntry (addr : BitVec 7) (s : State) : Res := whileUp breezeUp (fun t => modBrz t (fun b => { b with i3c := true, i3cAddr := some addr.toNat })) s
/-- RSTACT: back to SMBus (16 R612). -/
def execRstact (s : State) : Res := whileUp breezeUp (fun t => modBrz t (fun b => { b with i3c := false, i3cAddr := none })) s

/-! ## MCTP control (16 R613, R615) -/

/-- The number of an MCTP control command. -/
def mctpCmd (code : Nat) : Nat := code
/-- An answer whose content a standard gives: a free value (16 R615). -/
def freeAnswer (s : State) (via : Via) (command : Nat) (head : List Nat) : State :=
  useFree (emit s (.answer via command 0 (head ++ Config.answerData command s.free)))

/-- The MCTP message types answered (16 R615, R636). -/
def messageTypes (s : State) : List Nat := if breezeFull s then [0x01, 0x05, 0x06, 0x7F] else [0x01]

/-- SET_ENDPOINT_ID: the null and broadcast identifiers are refused (PRESUMED, DSP0236) (16 R613). -/
def execSetEndpointId (eid : Byte) (s : State) : Res :=
  whileUp breezeUp (fun t =>
    if eid = 0 ∨ eid = 0xFF then answer t (mctpCmd 1) 2 []
    else answer (modBrz t (fun b => { b with eid := some eid.toNat })) (mctpCmd 1) 0 [eid.toNat]) s
/-- GET_ENDPOINT_ID (16 R613). -/
def execGetEndpointId (s : State) : Res := whileUp breezeUp (fun t => answer t (mctpCmd 2) 0 [t.brz.eid.getD 0]) s
/-- GET_MCTP_VERSION_SUPPORT (16 R615). -/
def execGetMctpVersionSupport (mtype : Byte) (s : State) : Res :=
  whileUp breezeUp (fun t => if mtype = 0xFF ∨ mtype = 0 ∨ (messageTypes t).contains mtype.toNat then freeAnswer t (mgtVia t.brz) (mctpCmd 4) [] else answer t (mctpCmd 4) 0x80 []) s
/-- GET_MESSAGE_TYPE_SUPPORT (16 R615). -/
def execGetMessageTypeSupport (s : State) : Res := whileUp breezeUp (fun t => answer t (mctpCmd 5) 0 (messageTypes t)) s
/-- GET_VENDOR_DEFINED_MESSAGE_SUPPORT: one set, Dalard's enterprise number (16 R615). -/
def execGetVendorDefinedMessageSupport (selector : Byte) (s : State) : Res :=
  whileUp breezeUp (fun t => if selector = 0 ∧ breezeFull t then freeAnswer t (mgtVia t.brz) (mctpCmd 6) [0xFF] else answer t (mctpCmd 6) 2 []) s

/-! ## PLDM base and monitoring (16 R615 to R617) -/

/-- PLDM_BASE_DISCOVERY: SetTID, GetTID, GetPLDMVersion, GetPLDMTypes, GetPLDMCommands (16 R615). -/
def execPldmBaseDiscovery (command : Byte) (s : State) : Res :=
  whileUp breezeUp (fun t => if 1 ≤ command.toNat ∧ command.toNat ≤ 5 then freeAnswer t (mgtVia t.brz) (pldmCmd 0 command.toNat) [] else answer t (pldmCmd 0 command.toNat) 5 []) s

/-- The answer of a numeric sensor: a junction temperature as last read, a rail's current as a free value; data [1] where nothing has been read (16 R617). -/
def numericReading (s : State) (n : Nat) : State :=
  let cmd := pldmCmd 2 0x11
  if 1 ≤ n ∧ n ≤ 0x22 then
    match s.pwr.tj.find? (fun e => e.1 == n - 1) with
    | some e => answer s cmd 0 [0, (sfld e.2 0 16)]
    | none => answer s cmd 0 [1]
  else if 0x30 ≤ n ∧ n ≤ 0x38 then freeAnswer s (mgtVia s.brz) cmd [0]
  else answer s cmd 0x80 []

/-- GET_SENSOR_READING (16 R617). -/
def execGetSensorReading (sensor : BitVec 16) (s : State) : Res := whileUp breezeFull (fun t => numericReading t sensor.toNat) s

/-- The state of a state sensor; none where there is no such sensor (16 R617, R639). -/
def stateReading (s : State) (n : Nat) : Option (List Nat) :=
  if n = 0x40 then some [if s.time.trusted then 1 else if s.time.everTrusted then 2 else 0]
  else if 0x41 ≤ n ∧ n ≤ 0x50 then some [partCode (getPart s (n - 0x41)).state]
  else if n = 0x60 then some [s.brz.bstate, s.brz.pair.1, s.brz.pair.2.1, s.brz.pair.2.2.1, s.brz.pair.2.2.2]
  else none

/-- GET_STATE_SENSOR_READINGS (16 R617, R639). -/
def execGetStateSensorReadings (sensor : BitVec 16) (s : State) : Res :=
  whileUp breezeFull (fun t => match stateReading t sensor.toNat with
    | some d => answer t (pldmCmd 2 0x21) 0 d
    | none => answer t (pldmCmd 2 0x21) 0x80 []) s

/-- SET_EVENT_RECEIVER (16 R616). -/
def execSetEventReceiver (eid : Byte) (s : State) : Res :=
  whileUp breezeFull (fun t => answer (modBrz t (fun b => { b with receiver := some eid.toNat })) (pldmCmd 2 0x04) 0 []) s

/-! ## Firmware update (16 R648 to R651) -/

/-- The record type of a component (16 R648). -/
def componentType (n : Nat) : Option Nat :=
  match n with
  | 1 => some 1
  | 2 => some 2
  | 3 => some 6
  | 4 => some 7
  | 5 => some 9
  | _ => none

/-- The component may be updated in the state of Breeze: ROM recovery takes BREEZE_FW only (16 R636, R651). -/
def componentOk (s : State) (n size : Nat) : Option Nat :=
  match componentType n with
  | some t => if (breezeFull s || t == 1) && decide (size ≤ payloadRoom t) then some t else none
  | none => none

/-- PASS_COMPONENT_TABLE: a component that may not be updated, or that does not fit its record, is refused (16 R651; 02 R67). -/
def execPassComponentTable (component : BitVec 16) (size : Nat) (s : State) : Res :=
  whileUp breezeUp (fun t => match componentOk t component.toNat size with
    | some r => answer (modBrz t (fun b => { b with offered := r :: b.offered.filter (· != r) })) (pldmCmd 5 0x13) 0 [0]
    | none => answer t (pldmCmd 5 0x13) 0 [1]) s

/-- UPDATE_COMPONENT: the location of the copy not in force is erased, in its turn among the record writes (16 R622, R625, R649). -/
def execUpdateComponent (component : BitVec 16) (size : Nat) (s : State) : Res :=
  whileUp breezeUp (fun t => match componentOk t component.toNat size with
    | some r =>
      if t.brz.update.isSome ∨ !t.brz.offered.contains r then answer t (pldmCmd 5 0x14) 0x84 []
      else
        let t1 := modBrz t (fun b => { b with update := some { rtype := r, size := size } })
        answer (queueWrite t1 { rtype := r, body := .update, retries := 0, reply := none }) (pldmCmd 5 0x14) 0 [0]
    | none => answer t (pldmCmd 5 0x14) 0 [1]) s

/-- The update's write is the one in progress. -/
def updateInProgress (s : State) : Bool := match s.brz.writes with
  | w :: _ => w.body == .update
  | [] => false

/-- An update with more of its data programmed; the header follows the last of it (16 R622, R649). -/
def addData (s : State) (u : FwUpdate) (data : List Byte) : State :=
  let u1 := { u with bytes := u.bytes + data.length, data := u.data + 2 ^ (8 * u.bytes) * bytesNat data }
  let s1 := modBrz s (fun b => { b with update := some u1 })
  if u1.bytes = u1.size then programSpare s1 u.rtype (updatePayload u1) else s1

/-- FIRMWARE_DATA: at most 4,096 bytes, in order (16 R648, R649). -/
def execFirmwareData (offset : Nat) (data : List Byte) (s : State) : Res :=
  match s.brz.update with
  | some u =>
    if !updateInProgress s then .next s
    else if u.verified.isSome ∨ offset ≠ u.bytes ∨ 4096 < data.length ∨ u.size < offset + data.length then .next (answer s (pldmCmd 5 0x15) 0x83 [])
    else .next (addData s u data)
  | none => .next s

/-- The checks of R631 on the payload of an update: signature and floor for the components that carry them (16 R631, R649). -/
def payloadVerifies (s : State) (t : Nat) (v : FlashPayload) : Bool :=
  if t = 1 ∨ t = 2 then firmwareOk s.fwKey s.brz t v else if t = 6 ∨ t = 7 then recordSigned s.fwKey v else true

/-- VerifyResult of an update: 0x09 for the signature or the floor, 0x90 for an untested pairing (16 R649, R650). -/
def verifyResult (s : State) (t : Nat) (v : FlashPayload) : Nat :=
  let eddy := if s.brz.mainRuns then s.brz.ifEddy else eddyIfInForce s.brz
  if !payloadVerifies s t v then 0x09
  else if t = 1 then (if (untestedPair s (ifOf v) eddy).isSome then 0x90 else 0)
  else if t = 2 then (if (untestedPair s s.brz.ifBreeze (ifOf v)).isSome then 0x90 else 0)
  else 0

/-- VERIFY_COMPLETE, once the whole component has arrived (16 R649, R650). -/
def execVerifyComplete (s : State) : Res :=
  match s.brz.update with
  | some u =>
    if !updateInProgress s ∨ u.bytes ≠ u.size ∨ u.verified.isSome then .next s
    else
      let r := verifyResult s u.rtype (updatePayload u)
      .next (answer (modBrz s (fun b => { b with update := some { u with verified := some (r == 0) } })) (pldmCmd 5 0x18) r [])
  | none => .next s

/-- APPLY_COMPLETE: COMMIT is programmed only if verification passed, behind the read-back; the update ends (16 R622, R649, R650). -/
def execApplyComplete (s : State) : Res :=
  match s.brz.update with
  | some u =>
    match u.verified with
    | some ok =>
      if !updateInProgress s ∨ u.applying then .next s
      else if ok && !u.readBack then .next (modBrz s (fun b => { b with update := some { u with applying := true } }))
      else .next (endUpdate s u ok)
    | none => .next s
  | none => .next s

/-- ACTIVATE_FIRMWARE: self-contained activation for the components 3 to 5 only (16 R650). -/
def execActivateFirmware (component : BitVec 16) (selfContained : Bool) (s : State) : Res :=
  whileUp breezeUp (fun t => answer t (pldmCmd 5 0x1A) (if selfContained ∧ !(decide (3 ≤ component.toNat ∧ component.toNat ≤ 5)) then 0x86 else 0) []) s

/-! ## Dalard management commands (16 R652 to R657, R798) -/

/-- The number of a Dalard management command. -/
def dalard (code : Nat) : Nat := 0x7F00 + code

/-- The SPDM connection of the management port. -/
def mgtSpdm (s : State) : Spdm := mget {} s.brz.spdm 0
/-- The command came inside an SPDM session of the management port. -/
def anySession (s : State) (inSession : Bool) : Bool := inSession && (mgtSpdm s).session
/-- The session's requester is authenticated with a chain to the owner root in SETTINGS (16 R652). -/
def ownerSession (s : State) (inSession : Bool) : Bool :=
  anySession s inSession && (mgtSpdm s).root.isSome && (mgtSpdm s).root == (settingsOf s.brz).ownerRoot

/-- The first status other than success among several conditions (16 R798). -/
def firstStatus : List (Bool × Nat) → Nat
  | [] => 0
  | (b, n) :: r => if b then n else firstStatus r

/-- A Dalard command: it is answered with a status, and acts only on status 0 (16 R798). The conditions stand in the order 0x02, 0x03, 0x05, 0x04. -/
def dalardCmd (code : Nat) (conds : State → List (Bool × Nat)) (act : State → State) (s : State) : Res :=
  whileUp breezeFull (fun t =>
    let st := firstStatus (conds t)
    if st = 0 then act t else answer t (dalard code) st []) s

/-- A change of SETTINGS, answered once its copy is committed (16 R657). -/
def changeSettings (s : State) (code : Nat) (c : SettingsChange) : State := queueWrite s { rtype := 8, body := .change c, retries := 0, reply := some (dalard code) }

/-- GET_STATUS (16 R652). -/
def execGetStatus (s : State) : Res :=
  dalardCmd 0x01 (fun _ => []) (fun t =>
    let p := t.brz.pair
    answer t (dalard 0x01) 0 [bootStatus t.brz, 256 * p.2.1 + p.1, p.2.2.1, p.2.2.2, flashStatus t.brz]) s

/-- The bytes of a register of the device record (18 R696). -/
def regBytes : RegVal → List Nat
  | .w v => (natBytes 4 v).map BitVec.toNat
  | .q v => (natBytes 8 v.toNat).map BitVec.toNat

/-- GET_FIRST_FAULT: the 48 bytes of the device record without FLT_FF_CLEAR (18 R696). -/
def execGetFirstFault (s : State) : Res :=
  dalardCmd 0x02 (fun _ => []) (fun t => answer t (dalard 0x02) 0 (((ffRegs 0 t.ff).filter (fun e => e.1 != 0x30)).flatMap (fun e => regBytes e.2))) s

/-- GET_LOG: the entries from a sequence number on, oldest first (16 R646, R652). -/
def execGetLog (from_ : W32) (s : State) : Res :=
  dalardCmd 0x03 (fun _ => []) (fun t => answer t (dalard 0x03) 0
    ((t.brz.log.filter (fun e => decide (from_.toNat ≤ e.seq.toNat))).reverse.flatMap (fun e => [e.seq.toNat, e.time.toNat, e.index, e.digest, e.ident]))) s

/-- SET_PRIMARY: at once, and with PERSIST also in SETTINGS (15 R576; 16 R652). -/
def execSetPrimary (inSession : Bool) (port persist : Byte) (s : State) : Res :=
  dalardCmd 0x10 (fun t => [(decide (2 ≤ port.toNat ∨ 2 ≤ persist.toNat), 2), (!ownerSession t inSession, 3), (!t.brz.mainUp, 5)]) (fun t =>
    let t1 := { t with hp := { t.hp with primary := port.toNat } }
    if persist = 1 then changeSettings t1 0x10 (.primary port.toNat) else answer t1 (dalard 0x10) 0 []) s

/-- The vectors of a partition: its own and those of its rings (15 R598). -/
def partVectors (s : State) (p : Nat) : List Nat :=
  let x := getPart s p
  ([x.loadVec, x.pfVec, x.detVec, x.faultVec] ++ (clustersOf s p).flatMap (fun c => [0, 1, 2, 3].map (fun ch => (getRing s (ringOf c ch)).vector))).eraseDups

/-- A vector without the events of a partition; the events of other sources stay. -/
def withoutCause (p : Nat) (a : Vec) : Vec :=
  let rest := a.causes.erase (some p)
  { a with causes := rest, due := if rest.isEmpty then none else a.due }

/-- A vector that takes an event of a partition due at time `d`. -/
def withCause (p d : Nat) (b : Vec) : Vec :=
  { b with causes := some p :: b.causes.erase (some p), due := some (match b.due with | some e => min d e | none => d) }

/-- A partition's message whose moderation time has not yet come moves to the other port's table (15 R579). -/
def moveVector (p old new : Nat) (s : State) (v : Nat) : State :=
  let a : Vec := mget {} (getPort s old).vecs v
  match a.due with
  | some d =>
    if nowNs s < d ∧ a.causes.contains (some p) then
      let s1 := modPort s old (fun q => { q with vecs := mset q.vecs v (withoutCause p a) })
      modPort s1 new (fun q => { q with vecs := mset q.vecs v (withCause p d (mget {} q.vecs v)) })
    else s
  | none => s

/-- SET_OWNER: permissions and interrupts move at once; host-memory traffic at the next start (15 R579; 16 R652). -/
def execSetOwner (inSession : Bool) (part port : Byte) (s : State) : Res :=
  dalardCmd 0x11 (fun t => [(decide (16 ≤ part.toNat ∨ 2 ≤ port.toNat), 2), (!ownerSession t inSession, 3), (!t.brz.mainUp, 5)]) (fun t =>
    let old := (getPart t part.toNat).owner
    let t1 := if old = port.toNat then t else (partVectors t part.toNat).foldl (moveVector part.toNat old port.toNat) t
    answer (modPart t1 part.toNat (fun x => { x with owner := port.toNat })) (dalard 0x11) 0 []) s

/-- ENROL_IMAGE_KEY (16 R652, R654). -/
def execEnrolImageKey (inSession : Bool) (slot : Byte) (key : BitVec 456) (s : State) : Res :=
  dalardCmd 0x20 (fun t => [(decide (slot.toNat < 1 ∨ 7 < slot.toNat), 2), (!ownerSession t inSession, 3), ((settingsOf t.brz).revoked.contains (keyDigest key.toNat), 4)])
    (fun t => changeSettings t 0x20 (.enrol slot.toNat key.toNat)) s

/-- The key that a slot of SETTINGS holds (02 R43). -/
def settingsKey (s : State) (slot : Nat) : Option Nat := ((settingsOf s.brz).keys.find? (fun e => e.1 == slot)).map (·.2)

/-- REVOKE_IMAGE_KEY (16 R652, R654). -/
def execRevokeImageKey (inSession : Bool) (slot : Byte) (s : State) : Res :=
  dalardCmd 0x21 (fun t => [(decide (7 < slot.toNat), 2), (!ownerSession t inSession, 3),
      (slot == 0 || (settingsKey t slot.toNat).isNone || decide (16 ≤ (settingsOf t.brz).revoked.length), 4)])
    (fun t => changeSettings t 0x21 (.revoke slot.toNat (keyDigest ((settingsKey t slot.toNat).getD 0)))) s

/-- The floor in force of a slot or a firmware component (02 R44; 16 R631). -/
def floorInForce (s : State) : FloorTarget → Nat
  | .slot n => slotFloor s n.toNat
  | .component n => fwFloor s.brz n.toNat

/-- The target of RAISE_FLOOR does not exist: the slots are 0 to 7 (02 R43), and only components 1 and 2 have a security version (16 R631, R648). -/
def floorTargetBad : FloorTarget → Bool
  | .slot n => decide (7 < n.toNat)
  | .component n => !(n == 1 || n == 2)

/-- The change that RAISE_FLOOR makes. -/
def floorChange (value : Nat) : FloorTarget → SettingsChange
  | .slot n => .slotFloor n.toNat value
  | .component n => .fwFloor n.toNat value

/-- RAISE_FLOOR (16 R652, R654). -/
def execRaiseFloor (inSession : Bool) (target : FloorTarget) (value : W32) (s : State) : Res :=
  dalardCmd 0x22 (fun t => [(floorTargetBad target, 2), (!ownerSession t inSession, 3), (decide (value.toNat ≤ floorInForce t target), 4)])
    (fun t => changeSettings t 0x22 (floorChange value.toNat target)) s

/-- An association installed in a fabric port; its packet numbers start at 1 (PRESUMED, IEEE 802.1AE). A port stopped by R498 may send again on the new association (12 R498). -/
def installKey (x : FabPort) (an : MacsecAssoc) (a : Assoc) : FabPort :=
  match an with
  | .tx n =>
    let y := if n = 0 then { x with an0 := some a } else { x with an1 := some a }
    { y with anCur := if x.macsecStopped || (if x.anCur = 0 then x.an0 else x.an1).isNone then n.val else x.anCur, macsecStopped := false, downSince := if x.macsecStopped && x.linkUp then none else x.downSince }
  | .rx dev n => { x with rxAssoc := mset x.rxAssoc (2 * dev.val + n.val) a }

/-- MACSEC_KEY (12 R465; 16 R652, R656). -/
def execMacsecKey (inSession : Bool) (port : Byte) (an : MacsecAssoc) (sak : BitVec 256) (ssci : BitVec 32) (salt : BitVec 96) (s : State) : Res :=
  dalardCmd 0x30 (fun t => [(decide (4 ≤ port.toNat), 2), (!ownerSession t inSession, 3), (!t.brz.mainUp, 5)])
    (fun t => answer (pumpWindow (modFab t port.toNat (fun x => installKey x an { sak := sak, ssci := ssci, salt := salt, pn := 1 })) port.toNat) (dalard 0x30) 0 []) s

/-- A setting lies outside its range (16 R611, R798). -/
def settingBad : Setting → Bool
  | .mgtAddr v => v.getLsbD 7
  | .autoload v => decide (2 ≤ v.toNat)
  | .autoloadAddr _ => false
  | .holdMs v => decide (v.toNat < 1 ∨ 1000 < v.toNat)

/-- SET_SETTING (16 R652, R657). -/
def execSetSetting (inSession : Bool) (setting : Setting) (s : State) : Res :=
  dalardCmd 0x40 (fun t => [(settingBad setting, 2), (!ownerSession t inSession, 3)]) (fun t => changeSettings t 0x40 (.setting setting)) s

/-- ENROL_OWNER_ROOT: inside any session while no root is held, then only inside one authenticated with it (16 R653). -/
def execEnrolOwnerRoot (inSession : Bool) (root : Nat) (s : State) : Res :=
  dalardCmd 0x50 (fun t => [(!(if (settingsOf t.brz).ownerRoot.isNone then anySession t inSession else ownerSession t inSession), 3)])
    (fun t => changeSettings t 0x50 (.ownerRoot root)) s

/-- RESET_MAIN: an F reset of the main side, answered before it (16 R636, R652; 19 R726). -/
def execResetMain (inSession : Bool) (env : BootEnv) (s : State) : Res :=
  dalardCmd 0x60 (fun t => [(!ownerSession t inSession, 3)]) (fun t => fReset (answer t (dalard 0x60) 0 []) 3 env) s

end Sys2Proof.Machine
end

