-- ==== Sys2Proof/Machine/Attest.lean ====
section
/-! DEFINITION. The SPDM responder on the management port and on the DOE mailboxes of both host ports (16 R615, R636, R643 to R645). What a standard gives and the specification does not, such as a signature, is a free value. Codes of DSP0274 are PRESUMED. -/

namespace Sys2Proof.Machine

/-- The number of an SPDM request. -/
def spdmCmd (code : Nat) : Nat := 0x500 + code

/-- SPDM errors: InvalidRequest, UnexpectedRequest, UnsupportedRequest. -/
def spdmInvalid : Nat := 1
def spdmUnexpected : Nat := 4
def spdmUnsupported : Nat := 7

/-- The connection's transport answers: the management port, or the DOE mailbox of an open port whose link is up (16 R628, R643; 15 R574). -/
def connUp (s : State) (conn : Nat) : Bool := breezeFull s && (conn == 0 || (let p := getPort s (conn - 1); p.opened && p.linkUp))

/-- The way by which a connection's answers leave. -/
def connVia (s : State) (conn : Nat) : Via := if conn = 0 then mgtVia s.brz else .doe (conn - 1)

/-- The SPDM state of a connection. -/
def getConn (s : State) (conn : Nat) : Spdm := mget {} s.brz.spdm conn
/-- The state with a connection set. -/
def setConn (s : State) (conn : Nat) (x : Spdm) : State := modBrz s (fun b => { b with spdm := mset b.spdm conn x })

/-- An SPDM error answer. -/
def spdmError (s : State) (conn code err : Nat) : State := emit s (.answer (connVia s conn) (spdmCmd code) err [])

/-- A request: answered by Request Retry Status on a port not yet open, refused after boot codes 0x0101 and 0x0102, unexpected before its step of the negotiation, and otherwise served (16 R628, R636, R644). -/
def spdmReq (conn code need : Nat) (act : State → State) (s : State) : Res :=
  if conn ≠ 0 ∧ retries s (conn - 1) then .next (emit s (.retryStatus (conn - 1)))
  else if !connUp s conn then .next s
  else if s.brz.code = 0x0101 ∨ s.brz.code = 0x0102 then .next (spdmError s conn code spdmUnsupported)
  else if (getConn s conn).negotiated < need then .next (spdmError s conn code spdmUnexpected)
  else .next (act s)

/-- GET_VERSION: SPDM 1.2; the connection starts afresh (16 R615, R644). -/
def execGetVersion (conn : Fin 3) (s : State) : Res :=
  spdmReq conn.val 0x84 0 (fun t => emit (setConn t conn.val { negotiated := 1 }) (.answer (connVia t conn.val) (spdmCmd 0x84) 0 [0x12])) s

/-- GET_CAPABILITIES: CERT, CHAL, MEAS with signature, MEAS_FRESH, KEY_EX, MUT_AUTH, ENCRYPT, MAC, HBEAT, as the flag bits of DSP0274 (16 R644). -/
def execGetCapabilities (conn : Fin 3) (s : State) : Res :=
  spdmReq conn.val 0xE1 1 (fun t => freeAnswer (setConn t conn.val { getConn t conn.val with negotiated := max 2 (getConn t conn.val).negotiated }) (connVia t conn.val) (spdmCmd 0xE1) [0x23F6]) s

/-- NEGOTIATE_ALGORITHMS: the algorithms of R644, where the requester offers each of them; the answer selects DMTF, raw bit stream, Ed448, SHA3-512, secp384r1 and AES-256-GCM by the bits of DSP0274. -/
def execNegotiateAlgorithms (conn : Fin 3) (offer : SpdmOffer) (s : State) : Res :=
  spdmReq conn.val 0xE3 2 (fun t =>
    if offer.ed448 && offer.sha3_512 && offer.secp384r1 && offer.aes256Gcm then freeAnswer (setConn t conn.val { getConn t conn.val with negotiated := 3 }) (connVia t conn.val) (spdmCmd 0xE3) [1, 1, 0x800, 0x20, 0x10, 2]
    else spdmError t conn.val 0xE3 spdmInvalid) s

/-- GET_DIGESTS: of the one chain, slot 0 (16 R644). -/
def execGetDigests (conn : Fin 3) (s : State) : Res := spdmReq conn.val 0x81 3 (fun t => freeAnswer t (connVia t conn.val) (spdmCmd 0x81) [1]) s

/-- The CERT payload in force, as a number; 0 where there is none. -/
def certData (s : State) : Nat := ((recordInForce s.brz 5).map (fun v => bytesNat (payloadBytes v))).getD 0

/-- GET_CERTIFICATE: slot 0 only, the CERT certificate and the Dalard certificates above it (16 R644). -/
def execGetCertificate (conn : Fin 3) (slot : Fin 8) (s : State) : Res :=
  spdmReq conn.val 0x82 3 (fun t => if slot = 0 then freeAnswer t (connVia t conn.val) (spdmCmd 0x82) [0, certData t] else spdmError t conn.val 0x82 spdmInvalid) s

/-- CHALLENGE: signed with the identity key; slot 0 only (16 R644). -/
def execChallenge (conn : Fin 3) (slot : Fin 8) (nonce : BitVec 256) (s : State) : Res :=
  spdmReq conn.val 0x83 3 (fun t => if slot = 0 then freeAnswer t (connVia t conn.val) (spdmCmd 0x83) [0, nonce.toNat] else spdmError t conn.val 0x83 spdmInvalid) s

/-- The measurement indices (16 R645). -/
def measureIndices : List Nat := (List.range 8).map (· + 1) ++ (List.range 16).map (· + 16)

/-- The digest of an index; zero where it has nothing to measure (16 R645). -/
def measuredDigest (s : State) (i : Nat) : Nat := (mget (0, 0) s.brz.measured i).1

/-- The blocks that a request names: 0 their number, 0xFF all of them, otherwise one. -/
def measureBlocks (s : State) (index : Nat) : Option (List Nat) :=
  if index = 0 then some [measureIndices.length]
  else if index = 0xFF then some (measureIndices.flatMap (fun i => [i, measuredDigest s i]))
  else if measureIndices.contains index then some [index, measuredDigest s index]
  else none

/-- GET_MEASUREMENTS, signed and fresh (16 R644, R645). -/
def execGetMeasurements (conn : Fin 3) (index : Byte) (nonce : BitVec 256) (s : State) : Res :=
  spdmReq conn.val 0xE0 3 (fun t => match measureBlocks t index.toNat with
    | some d => freeAnswer t (connVia t conn.val) (spdmCmd 0xE0) (d ++ [nonce.toNat])
    | none => spdmError t conn.val 0xE0 spdmInvalid) s

/-- KEY_EXCHANGE: a session is being set up (16 R644). -/
def execKeyExchange (conn : Fin 3) (s : State) : Res :=
  spdmReq conn.val 0xE4 3 (fun t => freeAnswer (setConn t conn.val { getConn t conn.val with handshake := true, session := false, root := none }) (connVia t conn.val) (spdmCmd 0xE4) []) s

/-- FINISH: with its checks verified the session is established; a requester that authenticated itself mutually is known by the root of its chain (16 R644, R652). -/
def execFinish (conn : Fin 3) (verified : Bool) (root : Option Nat) (s : State) : Res :=
  spdmReq conn.val 0xE5 3 (fun t =>
    let x := getConn t conn.val
    if !x.handshake then spdmError t conn.val 0xE5 spdmUnexpected
    else if !verified then spdmError (setConn t conn.val { x with handshake := false }) conn.val 0xE5 spdmInvalid
    else freeAnswer (setConn t conn.val { x with handshake := false, session := true, root := root }) (connVia t conn.val) (spdmCmd 0xE5) []) s

/-- END_SESSION (16 R615). -/
def execEndSession (conn : Fin 3) (s : State) : Res :=
  spdmReq conn.val 0xEC 3 (fun t =>
    let x := getConn t conn.val
    if x.session then freeAnswer (setConn t conn.val { x with session := false, root := none }) (connVia t conn.val) (spdmCmd 0xEC) [] else spdmError t conn.val 0xEC spdmUnexpected) s

/-- HEARTBEAT: answered inside a session (16 R615, R644). -/
def execHeartbeat (conn : Fin 3) (s : State) : Res :=
  spdmReq conn.val 0xE8 3 (fun t => if (getConn t conn.val).session then freeAnswer t (connVia t conn.val) (spdmCmd 0xE8) [] else spdmError t conn.val 0xE8 spdmUnexpected) s

end Sys2Proof.Machine
end

