-- ==== Sys2Proof/Machine/Control.lean ====
section
/-! DEFINITION. The CTL slot and NOP (03 R79, R87 to R94, R111; 22 R772 to R774). -/

namespace Sys2Proof.Machine

/-- NOP in a slot of a word (03 R79): nothing. In the MAT slot it lets the row-stall lag fall, because the array executes a waiting operation and none joins (04 R173). -/
def nopOf (slot : Fin 8) : SlotOp :=
  match slot.val with
  | 0 => .ctl .nop
  | 1 => .sin .nop
  | 2 => .mat .nop
  | 3 => .vec .nop
  | 4 => .vec .nop
  | 5 => .red .nop
  | 6 => .mem .nop
  | _ => .msg .nop

/-- NOP (03 R79). -/
def execNop (k : CoreId) (slot : Fin 8) (s : State) : Res :=
  issueNamed k.num slot (nopOf slot) true s

/-- B (03 R88, R92, R93; 22 R772, R773). -/
def execB (k : CoreId) (cond : BitVec 3) (xs : BitVec 5) (target : BitVec 14) (s : State) : Res :=
  issueNamed k.num 0 (.ctl (.b cond xs target)) false s

/-- LOOP (03 R89 to R91). -/
def execLoop (k : CoreId) (xs : BitVec 5) (stop : BitVec 14) (s : State) : Res :=
  issueNamed k.num 0 (.ctl (.loop xs stop)) false s

/-- LOOPI (03 R89 to R91; 22 R772, R774). -/
def execLoopi (k : CoreId) (count : BitVec 16) (offset : BitVec 8) (s : State) : Res :=
  issueNamed k.num 0 (.ctl (.loopi count offset)) false s

/-- CALM (03 R111). -/
def execCalm (k : CoreId) (stepFlag : Bool) (index : BitVec 16) (s : State) : Res :=
  issueNamed k.num 0 (.ctl (.calm stepFlag index)) false s

/-- END (03 R94). -/
def execEnd (k : CoreId) (s : State) : Res :=
  issueNamed k.num 0 (.ctl .end_) false s

/-- XADD (22 R772). -/
def execXadd (k : CoreId) (xd xa xb : BitVec 5) (s : State) : Res :=
  issueNamed k.num 0 (.ctl (.x .add xd xa xb)) false s

/-- XSUB (22 R772). -/
def execXsub (k : CoreId) (xd xa xb : BitVec 5) (s : State) : Res :=
  issueNamed k.num 0 (.ctl (.x .sub xd xa xb)) false s

/-- XMUL (22 R772). -/
def execXmul (k : CoreId) (xd xa xb : BitVec 5) (s : State) : Res :=
  issueNamed k.num 0 (.ctl (.x .mul xd xa xb)) false s

/-- XAND (22 R772). -/
def execXand (k : CoreId) (xd xa xb : BitVec 5) (s : State) : Res :=
  issueNamed k.num 0 (.ctl (.x .and xd xa xb)) false s

/-- XOR (22 R772). -/
def execXor (k : CoreId) (xd xa xb : BitVec 5) (s : State) : Res :=
  issueNamed k.num 0 (.ctl (.x .or xd xa xb)) false s

/-- XXOR (22 R772). -/
def execXxor (k : CoreId) (xd xa xb : BitVec 5) (s : State) : Res :=
  issueNamed k.num 0 (.ctl (.x .xor xd xa xb)) false s

/-- XSHL (22 R772). -/
def execXshl (k : CoreId) (xd xa xb : BitVec 5) (s : State) : Res :=
  issueNamed k.num 0 (.ctl (.x .shl xd xa xb)) false s

/-- XSHR (22 R772). -/
def execXshr (k : CoreId) (xd xa xb : BitVec 5) (s : State) : Res :=
  issueNamed k.num 0 (.ctl (.x .shr xd xa xb)) false s

/-- XSRA (22 R772). -/
def execXsra (k : CoreId) (xd xa xb : BitVec 5) (s : State) : Res :=
  issueNamed k.num 0 (.ctl (.x .sra xd xa xb)) false s

/-- XADDI (22 R772). -/
def execXaddi (k : CoreId) (xd xa : BitVec 5) (imm : BitVec 14) (s : State) : Res :=
  issueNamed k.num 0 (.ctl (.xaddi xd xa imm)) false s

/-- XLI (22 R772). -/
def execXli (k : CoreId) (xd : BitVec 5) (kf : BitVec 2) (imm : BitVec 16) (s : State) : Res :=
  issueNamed k.num 0 (.ctl (.xli xd kf imm)) false s

end Sys2Proof.Machine
end

