-- ==== Sys2Proof/Machine/CoreEvents.lean ====
section
/-! DEFINITION. What happens to a core between its words: the stall deadline, late faults, the end of a STOP reaction, Lull and wake, the calm report (03 R106 to R109, R797; 09 R395; 18 R681, R682). -/

namespace Sys2Proof.Machine

/-- What a deadlock snapshot holds of a core (09 R395, R396). -/
def snapCore (c : Core) : SnapCore :=
  { state := coreState c, cause := causeCode c.cause, slot := c.slot, wait := c.waitIx, outq := c.outq.length, tq := (c.tq.map (fun q => q.2.entries.length)).sum }

/-- The lanes whose buffer is full at a router input, bit by lane code (09 R363, R395). -/
def fullLanes (s : State) (c inp : Nat) : W64 := BitVec.ofNat 64 (maskOf 64 (fun lane => decide (4 ≤ (laneBuf s c inp lane).length)))

/-- The deadlock snapshot of a cluster (09 R395). -/
def snapshotOf (s : State) (n : Nat) : Snapshot :=
  let c := clusOf n
  { pcore := pcoreOf n, time := s.time.now, step := stepOf s c, cores := (coresOf c).map (fun k => snapCore (getCore s k)), lanes := (List.range 5).map (fullLanes s c) }

/-- The word of a core has been frozen for STALL_DEADLINE_CC consecutive cc (03 R107; 11 R450). -/
def stallDue (s : State) (n : Nat) : Bool :=
  let c := getCore s n
  (c.state == .frozen || c.state == .lull) && canSpend s n && !debugFrozen s n && decide ((runOf s (clusOf n)).stallDeadline ≤ c.frozenFor)

/-- STALL_DEADLINE: the cluster's first one takes the snapshot, then the fault is raised, naming the slot and what it waits for (03 R107; 09 R395; 18 R681). -/
def execStallDeadline (k : CoreId) (s : State) : Res :=
  let n := k.num
  if !stallDue s n then .next s
  else
    let c := getCore s n
    let s1 := modClus s (clusOf n) (fun x => modMsg x (fun m => { m with snap := m.snap.put (snapshotOf s n) }))
    .next (calmCheckAt (faultCore s1 n c.slot 0x0108 c.pc c.issued (BitVec.ofNat 64 (c.waitIx % 65536)) .none_) (clusOf n))

/-- LATE_FAULT: a fault detected after its word has issued is taken (03 R797; 18 R681). -/
def execLateFault (k : CoreId) (s : State) : Res :=
  let n := k.num
  match (getCore s n).late with
  | [] => .next s
  | f :: rest =>
    let s1 := modCore s n (fun c => { c with late := rest })
    .next (calmCheckAt (faultCore s1 n f.slot f.code f.pc f.issue f.detail (coreFence n f.code)) (clusOf n))

/-- FAULT_STOP_COMPLETE: every cluster of the partition has stopped, and it is FAULTED (18 R682, R695; 17 R661). -/
def execFaultStopComplete (p : PartId) (s : State) : Res :=
  if !(getPart s p.val).faultStop then .next s
  else
    let s1 := (clustersOf s p.val).foldl stopCluster s
    .next (partEvent (modPart s1 p.val (fun x => { x with state := .faulted, faultStop := false, stopPending := false, kept := false })) p.val (·.faultVec))

/-- CORE_LULL: a core frozen for CORE_LULL_IDLE consecutive cc enters Lull (03 R108, R109). -/
def execCoreLull (k : CoreId) (s : State) : Res :=
  let n := k.num
  let c := getCore s n
  let idle := (getClus s (clusOf n)).coreLullIdle
  if c.state ≠ .frozen ∨ idle = 0 ∨ c.idleFor < idle then .next s
  else .next (modCore s n (fun c => { c with state := .lull, waking := false, stats := { c.stats with lullEntries := c.stats.lullEntries.bump } }))

/-- The cause of the freeze that led a core into Lull is released (03 R108). -/
def causeReleased (s : State) (n : Nat) : Bool :=
  let c := getCore s n
  if extFrozen s n then false
  else if c.cause == .calm then c.calm.isNone
  else match firstHold s n c (Decode.word (mget 0 c.imem c.pc)) with
    | some (slot, h) => slot != c.slot || h.cause != c.cause
    | none => true

/-- CORE_WAKE: a wake event has come, and the 24 cc of the wake have passed; they count as external and toward the deadline (03 R108, R109). -/
def execCoreWake (k : CoreId) (s : State) : Res :=
  let n := k.num
  let c := getCore s n
  if c.state ≠ .lull ∨ !(c.waking || causeReleased s n) then .next s
  else .next (modCore s n (fun c =>
    { c with state := .frozen, cause := .external, waking := false, ccs := c.ccs + 24, idleFor := 0, frozenFor := c.frozenFor + 24, stats := { c.stats with freezeExt := c.stats.freezeExt.add 24 } }))

/-! ## The report of a core (03 R111) -/

/-- The sender fields of a header: device, cluster and logical core (09 R350). -/
def sentBy (h : Header) (dev cluster lcore : Nat) : Bool :=
  hdrField h 52 12 == dev && hdrField h 47 5 == cluster && hdrField h 42 5 == lcore

/-- A message row of a core is on its way in the mesh, at a router, or at a fabric port and not yet acknowledged (03 R111). -/
def messageUnderWay (s : State) (n : Nat) : Bool :=
  let mine (h : Header) : Bool := sentBy h s.self (clusOf n) (lcoreNum (getCore s n))
  (List.range 32).any (fun c =>
    let m := (getClus s c).msg
    m.inject.any (fun r => r.kind == 0 && mine r.msg.header) ||
    m.bufs.any (fun b => b.2.any (fun r => r.kind == 0 && mine r.msg.header)) ||
    m.pendingOut.any (fun r => mine r.2.header) ||
    m.combine.any (fun e => e.2.inputs.any (fun i => i.2.any (fun r => mine r.header)))) ||
  [0, 1, 2, 3].any (fun f =>
    let x := getFab s f
    x.partial_.any (fun r => mine r.header) || x.txQueue.any (fun t => mine t.2.header) ||
    x.peers.any (fun q => q.2.kept.any (fun t => mine t.frame.header)))

/-- Everything that a core has issued has come to its end (03 R111; 08 R339). -/
def calmDrained (s : State) (n : Nat) : Bool :=
  let c := getCore s n
  c.inflight.isEmpty && c.mat.elastic.isEmpty && c.mat.debts.all (fun d => d.2 == 0) &&
    c.outq.isEmpty && !messageUnderWay s n &&
    streamsDrained s n &&
    c.mem.moves.isEmpty && c.mem.landing.isEmpty && c.mem.remote.isEmpty

/-- CALM_REPORT: a core in calm wait whose operations, messages, tags and moves have drained reports its calm index (03 R111, R113). -/
def execCalmReport (k : CoreId) (s : State) : Res :=
  let n := k.num
  let c := getCore s n
  match c.calm, partOfCluster s (clusOf n) with
  | some w, some p =>
    if w.reported || !calmDrained s n || !isParticipant s p n || (getPart s p).calmHeld then .next s
    else
      match (getPart s p).calm with
      | some (index, step) =>
        if index = w.index ∧ step = w.step then .next (calmCheck (setCore s n { c with calm := some { w with reported := true } }) p)
        else .next (calmCheckAt (faultCore s n 0 0x0107 w.pc c.issued 0 .none_) (clusOf n))
      | none =>
        let s1 := setCore s n { c with calm := some { w with reported := true } }
        .next (calmCheck (modPart s1 p (fun x => { x with calm := some (w.index, w.step) })) p)
  | _, _ => .next s

end Sys2Proof.Machine
end

