-- ==== Sys2Proof/Machine/HostPorts.lean ====
section
/-! DEFINITION. The host ports: MSI-X messages, the BAR2 window, H resets and holds, D3hot, IDE_KM (15 R574, R580, R581, R598 to R605; 19 R708). -/

namespace Sys2Proof.Machine

/-! ## MSI-X (15 R598 to R600) -/

/-- A vector changed. -/
def setVec (s : State) (h v : Nat) (x : Vec) : State := modPort s h (fun p => { p with vecs := mset p.vecs v x })

/-- The message of a vector leaves its port (15 R599). -/
def sendMsix (s : State) (h v : Nat) (x : Vec) : State :=
  emit (setVec s h v { x with due := none, causes := [], pba := false, last := some (nowNs s) }) (.msix h v x.addr x.data)

/-- MSIX_MESSAGE: an event of a vector whose moderation time has come is sent, or sets the PBA bit of a masked vector; it waits while the port may not send (15 R599, R600, R602, R605). -/
def execMsixMessage (h : Fin 2) (vector : Fin 2048) (s : State) : Res :=
  let p := getPort s h.val
  let v : Vec := mget {} p.vecs vector.val
  match v.due with
  | none => .next s
  | some d =>
    if nowNs s < d then .next s
    else if v.masked then .next (setVec s h.val vector.val { v with due := none, causes := [], pba := true })
    else if !hostOpen p then .next s
    else .next (sendMsix s h.val vector.val v)

/-- A vector is unmasked: a message kept by its PBA bit is sent, or waits for a port that may not send (15 R600, R602). -/
def unmask (s : State) (h vector : Nat) : State :=
  let p := getPort s h
  let v : Vec := { mget {} p.vecs vector with masked := false }
  if !v.pba then setVec s h vector v
  else if hostOpen p then sendMsix s h vector v
  else setVec s h vector { v with pba := false, due := some (nowNs s) }

/-- MSIX_UNMASK: the host unmasks a vector, and a message kept by its PBA bit is sent (15 R600). -/
def execMsixUnmask (h : Fin 2) (vector : Fin 2048) (s : State) : Res :=
  if portAnswers s h.val then .next (unmask s h.val vector.val) else .next s

/-! ## BAR4 (15 R575) -/

/-- The 32 bits of the MSI-X table or the PBA at an offset of BAR4; the entry's layout is that of PCIe (15 R575; PRESUMED). -/
def bar4At (p : Port) (o : Nat) : Nat :=
  let v : Vec := mget {} p.vecs (o / 16)
  if o < 0x8000 then
    match o % 16 / 4 with
    | 0 => (v.addr.extractLsb' 0 32).toNat
    | 1 => (v.addr.extractLsb' 32 32).toNat
    | 2 => v.data.toNat
    | _ => if v.masked then 1 else 0
  else if o < 0x8100 then maskOf 32 (fun i => (mget ({} : Vec) p.vecs (8 * (o - 0x8000) + i)).pba)
  else 0

/-- A read of `n` registers of BAR4. -/
def readBar4 (s : State) (h o : Nat) : Nat → Nat
  | 0 => 0
  | n + 1 => bar4At (getPort s h) o + 2 ^ 32 * readBar4 s h (o + 4) n

/-- The bytes of `new` whose enables are set, over `old`. -/
def mergeBytes (old new : W32) (enables : BitVec 4) : W32 :=
  let m := BitVec.ofNat 32 (maskOf 32 (fun i => enables.getLsbD (i / 8)))
  (old &&& ~~~m) ||| (new &&& m)

/-- A 4-byte write in BAR4: a field of a table entry; clearing the mask bit unmasks the vector; the PBA and the rest take no write (15 R575, R600; PRESUMED). -/
def writeBar4 (s : State) (h o : Nat) (data : W32) (enables : BitVec 4) : State :=
  if 0x8000 ≤ o then s
  else
    let i := o / 16
    let v : Vec := mget {} (getPort s h).vecs i
    let w := mergeBytes (BitVec.ofNat 32 (bar4At (getPort s h) o)) data enables
    match o % 16 / 4 with
    | 0 => setVec s h i { v with addr := v.addr.extractLsb' 32 32 ++ w }
    | 1 => setVec s h i { v with addr := w ++ v.addr.extractLsb' 0 32 }
    | 2 => setVec s h i { v with data := w }
    | _ => if w.getLsbD 0 then setVec s h i { v with masked := true } else unmask s h i

/-! ## BAR2 (15 R580, R581) -/

/-- The physical address of a BAR2 offset (15 R580). -/
def bar2Addr (p : Port) (offset : BitVec 36) : Nat := 68719476736 * p.win + offset.toNat

/-- A range meets one of the closed ranges: those of SAVE, DUMP and RESTORE, and the loader's staging range (02 R71; 11 R451). -/
def rangeClosed (s : State) (a n : Nat) : Bool :=
  s.closedRanges.any (fun r => rangesMeet a n r.2.1 r.2.2) || (match s.loader with | some l => rangesMeet a n l.addr l.len | none => false)

/-- A range meets the device memory of a partition that the port does not own (15 R581). -/
def rangeForeign (s : State) (h a n : Nat) : Bool :=
  (List.range 16).any (fun q => let x := getPart s q; x.state != .none && x.owner != h && rangesMeet a n x.dmBase (x.dmLimit - x.dmBase))

/-- A port may not access a range (15 R581). -/
def bar2Refused (s : State) (h a n : Nat) : Bool := rangeClosed s a n || rangeForeign s h a n || decide (dmEnd < a + n)

/-- A BAR2 access is refused: counted, the first address latched (15 R581, R607). -/
def refuseBar2 (s : State) (h a : Nat) : State :=
  modPort s h (fun p => { p with bar2Refused := p.bar2Refused.bump, err := p.err.put { code := 0x0001, addr := BitVec.ofNat 64 a } })

/-- A request lies in the 64 GiB of BAR2. -/
def inBar2 (offset : BitVec 36) (n : Nat) : Bool := decide (offset.toNat + n ≤ 68719476736)

/-- A range holds a row with an uncorrectable codeword (08 R343). -/
def rangeBad (s : State) (a n : Nat) : Bool := s.dmBad.any (fun b => b.2 && rangesMeet a n (512 * b.1) 512)

/-- What the error code shows of the one or two rows that a BAR2 read touches (08 R343). -/
def dmReadRange (s : State) (a n : Nat) (ecc0 ecc1 : DramEcc) : State :=
  let s1 := dmRead s a ecc0
  if (a + n - 1) / 512 = a / 512 then s1 else dmRead s1 (a + n - 1) ecc1

/-- BAR2_READ: bytes of device memory, or all ones where the access is refused; the corrected errors of the rows read are counted (15 R580, R581; 08 R343). -/
def execBar2Read (h : Fin 2) (offset : BitVec 36) (bytes : Fin 513) (ecc0 ecc1 : DramEcc) (s : State) : Res :=
  let n := bytes.val
  let a := bar2Addr (getPort s h.val) offset
  if !portAnswers s h.val ∨ !inBar2 offset n then .next s
  else if bar2Refused s h.val a n then .next (emit (refuseBar2 s h.val a) (.readData h.val n (2 ^ (8 * n) - 1)))
  else
    let s1 := dmReadRange s a n ecc0 ecc1
    if rangeBad s1 a n then .next (emit (useFree s1) (.readData h.val n (Config.bar2Bad s.free % 2 ^ (8 * n))))
    else .next (emit s1 (.readData h.val n (bytesNat (readBytes s.dmMem a n))))

/-- BAR2_WRITE: bytes of device memory; a refused write is discarded, and counted as a staging drop too where its range is closed (15 R580, R581; 02 R71). -/
def execBar2Write (h : Fin 2) (offset : BitVec 36) (data : List Byte) (s : State) : Res :=
  let n := data.length
  let a := bar2Addr (getPort s h.val) offset
  if !portAnswers s h.val ∨ !inBar2 offset n ∨ 512 < n then .next s
  else if bar2Refused s h.val a n then
    let s1 := refuseBar2 s h.val a
    .next (if rangeClosed s a n then { s1 with stagingDrops := s1.stagingDrops.bump } else s1)
  else .next { s with dmMem := writeBytes s.dmMem a data, dmBad := s.dmBad.filter (fun b => !decide (a ≤ 512 * b.1 ∧ 512 * b.1 + 512 ≤ a + n)) }

/-! ## H resets and holds (15 R601 to R604) -/

/-- A vector after an H reset: masked, its PBA bit clear; an event not yet sent stays an event (15 R601). -/
def resetVec (v : Vec) : Vec := { due := v.due, causes := v.causes, last := v.last }

/-- The fields of a port that an H reset restores (15 R601, R607; 00 R9; 20 R740). -/
def resetPortFields (p : Port) : Port :=
  { p with
    linkUp := false, flit := false, width := 0, d3 := false, ats := false, pri := false, pasid := false, busMaster := false, ide := false
    ideKeys := false, win := 0, latch := none, scratch := 0, vecs := p.vecs.map (fun e => (e.1, resetVec e.2)), atc := [], invalidating := [], aer := { info := (0, 0) } }

/-- An H reset of a port: it is counted, and the port holds from it on; a hold under way goes on (15 R601, R602, R604; 19 R728). -/
def hReset (s : State) (h : Nat) (cause : HCause) : State :=
  let s1 := startHold s h
  modPort s1 h (fun p => { resetPortFields p with hResets := p.hResets.bump, perst := p.perst || cause == .perst })

/-- H_RESET (15 R601). -/
def execHReset (h : Fin 2) (cause : HCause) (s : State) : Res := .next (hReset s h.val cause)

/-- The partitions whose host-memory traffic uses a port (15 R579). -/
def partsOn (s : State) (h : Nat) : List Nat := (List.range 16).filter (fun p => (getPart s p).hostPort == h && (getPart s p).state != .none)

/-- A stream's host accesses that have not completed are issued again (15 R602). -/
def reissueStream (h c : Nat) (s : State) (st : Nat) : State :=
  let t := getStream s c st
  match t.desc with
  | some d =>
    if d.farSpace ≠ 1 then s
    else
      let pasid := streamPasid s c d
      let s1 := t.tags.foldl (fun a g =>
        if (getClus s c).str.host.contains (st, g.j) || (!d.dirOut && (g.data.isSome || g.err != 0)) then a else emit a (hostReq s h c st g)) s
      match t.xlat with
        | some page => emit s1 (.atsRequest h pasid page)
        | none => s1
  | none => s

/-- The reads of a ring that had been sent, and its translation request, are issued again (15 R602). -/
def reissueRing (h : Nat) (s : State) (r : Nat) : State :=
  let x := getRing s r
  let s1 := if x.sent then rowReads s h x (x.polled.getD 0) else s
  match x.xlat with
  | some (page, _) => emit s1 (.atsRequest h x.pasid page)
  | none => s1

/-- The page requests and rows that have waited for a port leave it (08 R325, R336; 15 R602). -/
def reopen (s : State) (h : Nat) : State := pumpPort (pumpPri 512 s h) h

/-- What was outstanding at the reset is issued again (15 R602). -/
def reissueAll (s : State) (h : Nat) : State :=
  reopen ((partsOn s h).foldl (fun a p => (clustersOf a p).foldl (fun b c =>
    [0, 1, 2, 3].foldl (fun e ch => reissueRing h e (ringOf c ch)) ((boundStreams b c).foldl (reissueStream h c) b)) a) s) h

/-- The features enabled before the reset are enabled again (15 R602). -/
def featuresBack (p : Port) : Bool :=
  match p.before with
  | some (a, r, q, b) => (!a || p.ats) && (!r || p.pri) && (!q || p.pasid) && (!b || p.busMaster)
  | none => true

/-- A host has enabled a feature of the port through its configuration space. -/
def enumerated (p : Port) : Bool := p.busMaster || p.ats || p.pri || p.pasid

/-- A port whose link is up: the replays that the link has counted, and the width to which L0p has taken it (15 R574, R607). -/
def upPort (p : Port) (link : LinkState) : Port :=
  { p with replays := p.replays.add link.replays
           width := if p.flit ∧ [8, 4, 2].contains link.width.val then link.width.val else p.width }

/-- HOLD_END: a port's link comes up in a state, without features while the port is not open, since no configuration request succeeds before stage 8; one that is up counts replays and changes its width by L0p; the hold ends once every feature is enabled as before (15 R602, R604, R607; 16 R628). -/
def execHoldEnd (h : Fin 2) (link : LinkState) (s : State) : Res :=
  let p := getPort s h.val
  if p.refLost then .next s
  else if p.linkUp ∧ !p.hold ∧ (!p.opened ∨ enumerated p) then .next (setPort s h.val (upPort p link))
  else
    let on := p.opened
    let q := { p with replays := p.replays.add link.replays, linkUp := true, flit := link.flit, width := link.width.val, busMaster := on && link.busMaster, ats := on && link.ats, pri := on && link.pri, pasid := on && link.pasid, perst := false }
    if p.hold && featuresBack q then .next (reissueAll (setPort s h.val { q with hold := false, before := none, holdExpired := false }) h.val)
    else .next (reopen (setPort s h.val q) h.val)

/-- The rows of a stream that wait for its held port: the rows under way, or the row whose page is requested, or a row ready to issue (15 R602, R603). -/
def waitForPort (s : State) (c st : Nat) : List Nat :=
  let t := getStream s c st
  match t.desc with
  | some d =>
    if d.farSpace ≠ 1 then []
    else match t.tags.filter (fun g => d.dirOut || (g.data.isNone && g.err == 0)) with
      | g :: rest => (g :: rest).map (fun g => g.j)
      | [] =>
        if t.state == .halted && t.reason == 4 then [t.next]
        else if t.state == .running && decide (t.next < streamRows d) && decide (t.tags.length < d.tags) &&
            (if d.dirOut then sourceReady s c st t.next t d
             else !ownerCalm s c d && decide (t.next / tileRows d < consumerPos s c st t d / tileRows d + d.prefetch) && nearRoom s c st t.next t d) then [t.next]
        else []
  | none => []

/-- The page request of a stream that fails is over (15 R603). -/
def dropPri (s : State) (c st : Nat) : State :=
  let t := getStream s c st
  match partOfCluster s c, t.desc with
  | some p, some d => if t.state == .halted && t.reason == 4 then priOver s p (streamPasid s c d) (hostPage (farAddr t t.next)) else s
  | _, _ => s

/-- The waiting rows of a stream fail with reason 0x06 (15 R603; 08 R326). -/
def failWaiting (c : Nat) (s : State) (st : Nat) : State :=
  let js := waitForPort s c st
  js.foldl (fun a j => failRow a c st j 6 0x0143) (if js.isEmpty then s else dropPri s c st)

/-- A ring of a held port that is enabled, or that has a completion to post, enters STATE 5 (15 R603). -/
def failHeldRing (s : State) (r : Nat) : State :=
  let x := getRing s r
  if x.en || recordWaits (getChan s (r / 4) (r % 4)) then setRing s r { x with state := .error, polled := none, sent := false, xlat := none } else s

/-- The waiting rows of a port fail (15 R603). -/
def failHeld (s : State) (h : Nat) : State :=
  (partsOn s h).foldl (fun a p => calmCheck ((clustersOf a p).foldl (fun b c =>
    [0, 1, 2, 3].foldl (fun e ch => failHeldRing e (ringOf c ch)) ((boundStreams b c).foldl (failWaiting c) b)) a) p) s

/-- HOLD_EXPIRE: a hold has lasted longer than HP_HOLD_MS; its fault is raised once (15 R603, R605, R607). -/
def execHoldExpire (h : Fin 2) (s : State) : Res :=
  let p := getPort s h.val
  if !p.hold ∨ nowNs s ≤ p.holdSince + 1000000 * p.holdMs then .next s
  else
    let s1 := failHeld s h.val
    if p.holdExpired then .next s1
    else .next (raiseDevice (modPort s1 h.val (fun q => { q with holdExpired := true, err := q.err.put { code := 0x01A2, addr := 0 } }))
      { code := 0x01A2, kind := 12, index := h.val })

/-! ## D3hot (15 R605; 19 R708) -/

/-- D3HOT_ENTRY: the host places the function in D3hot; the port answers no BAR access and issues no request, and keeps every register (15 R605; 19 R708). -/
def execD3hotEntry (h : Fin 2) (s : State) : Res :=
  if retries s h.val then .next (emit s (.retryStatus h.val))
  else if (getPort s h.val).linkUp then .next (modPort s h.val (fun p => { p with d3 := true })) else .next s

/-- D0_RETURN: no H reset (19 R708). -/
def execD0Return (h : Fin 2) (s : State) : Res :=
  if retries s h.val then .next (emit s (.retryStatus h.val)) else .next (reopen (modPort s h.val (fun p => { p with d3 := false })) h.val)

/-! ## IDE_KM (15 R574, R607) -/

/-- The effect of an IDE_KM message on its port: keys are programmed, and an IDE stream goes or stops (15 R574, R607; the protocol is PRESUMED). -/
def takeIdeKm (p : Port) : IdeKm → Port
  | .query => p
  | .keyProg _ => { p with ideKeys := true }
  | .setGo => if p.ideKeys then { p with ide := true } else p
  | .setStop => { p with ide := false, ideKeys := false }

/-- IDE_KM_MESSAGE: the DOE mailbox of a port takes a message and answers (15 R574). -/
def execIdeKmMessage (h : Fin 2) (message : IdeKm) (s : State) : Res :=
  if retries s h.val then .next (emit s (.retryStatus h.val))
  else if !(getPort s h.val).linkUp then .next s
  else .next (emit (modPort (useFree s) h.val (fun p => takeIdeKm p message)) (.ideKm h.val (Config.ideKmAnswer s.free)))

end Sys2Proof.Machine
end

