-- ==== Sys2Proof/Machine/Intake.lean ====
section
/-! DEFINITION. The SIN slot (22 R775). -/

namespace Sys2Proof.Machine

/-- TRECV (09 R369). -/
def execTrecv (k : CoreId) (vd : BitVec 6) (tag : BitVec 5) (h : Bool) (xh : BitVec 5) (s : State) : Res :=
  issueNamed k.num 1 (.sin (.trecv vd tag h xh)) false s

/-- TRECVS (09 R369). -/
def execTrecvs (k : CoreId) (xr tag : BitVec 5) (inc : BitVec 8) (s : State) : Res :=
  issueNamed k.num 1 (.sin (.trecvs xr tag inc)) false s

/-- SRECV (08 R294, R295). -/
def execSrecv (k : CoreId) (vd : BitVec 6) (port : BitVec 2) (s : State) : Res :=
  issueNamed k.num 1 (.sin (.srecv vd port)) false s

/-- SGO (08 R297 to R300). -/
def execSgo (k : CoreId) (stream : BitVec 8) (xa : BitVec 5) (s : State) : Res :=
  issueNamed k.num 1 (.sin (.sgo stream xa)) false s

/-- GTAKE (10 R412, R415). -/
def execGtake (k : CoreId) (ch : BitVec 2) (xd : BitVec 5) (md : BitVec 4) (s : State) : Res :=
  issueNamed k.num 1 (.sin (.gtake ch xd md)) false s

/-- GRET (10 R413, R415, R416). -/
def execGret (k : CoreId) (ch : BitVec 2) (s : State) : Res :=
  issueNamed k.num 1 (.sin (.gret ch)) false s

end Sys2Proof.Machine
end

