-- ==== Sys2Proof/Machine/Jtag.lean ====
section
/-! DEFINITION. The TAP: its public instructions, the challenge state of the private ones, and its reset (16 R626; 21 R757 to R761). -/

namespace Sys2Proof.Machine

/-- The TAP of the state changed. -/
def modTap (s : State) (f : Tap → Tap) : State := { s with tap := f s.tap }

/-- An instruction comes into force: the pins that an earlier one drove are released, and the challenge state ends (21 R757). -/
def loadTap (s : State) (i : TapInstr) : State :=
  useFree (modTap s (fun t => { t with instr := i, captured := Config.tapCapture s.free, unlocked := false, driven := none, highz := false }))

/-- A public instruction: none acts while TRST_N is low (21 R761). -/
def tapCmd (act : State → State) (s : State) : Res := if s.tap.held then .next s else .next (act s)

/-- An instruction that the TAP refuses while MAIN_UP is set: BYPASS is selected, and the captured instruction register reads 0b000001 (21 R758). -/
def tapPins (i : TapInstr) (pins : Tap → Tap) (s : State) : State :=
  if s.brz.mainUp then modTap (loadTap s .bypass) (fun t => { t with captured := 1 }) else modTap (loadTap s i) pins

/-- BYPASS: the one-bit register captures 0 (21 R757; PRESUMED, IEEE 1149.1). -/
def execBypass (s : State) : Res := tapCmd (fun t => emit (loadTap t .bypass) (.tdo 1 0)) s

/-- IDCODE (21 R760). -/
def idcodeValue (b0 : Bool) : Nat := (if b0 then 1 else 0) <<< 28 ||| 0x8864 <<< 12 ||| 0xF <<< 8 ||| 0x6E <<< 1 ||| 1
/-- IDCODE (21 R757, R760). -/
def execIdcode (s : State) : Res := tapCmd (fun t => emit (loadTap t .idcode) (.tdo 32 (idcodeValue t.b0))) s

/-- SAMPLE/PRELOAD: the pins are captured and shifted out, and the boundary register takes what is shifted in (21 R757). -/
def execSamplePreload (pins : Nat) (load : Option Nat) (s : State) : Res :=
  tapCmd (fun t => emit (modTap (loadTap t .samplePreload) (fun x => { x with boundary := load.getD pins })) (.tdo 0 pins)) s

/-- EXTEST drives the boundary register on the pins (21 R757, R758). -/
def execExtest (s : State) : Res := tapCmd (tapPins .extest (fun x => { x with driven := some x.boundary })) s
/-- CLAMP drives the boundary register on the pins with BYPASS selected between TDI and TDO (21 R757, R758). -/
def execClamp (s : State) : Res := tapCmd (tapPins .clamp (fun x => { x with driven := some x.boundary })) s
/-- HIGHZ puts the outputs in high impedance (21 R757, R758). -/
def execHighz (s : State) : Res := tapCmd (tapPins .highz (fun x => { x with highz := true })) s

/-- The records that Dalard writes through JTAG, GRADE, PUF_HELPER and CERT, with a payload that fits (16 R618, R619, R626). -/
def jtagRecord (t n : Nat) : Bool := (t == 3 || t == 4 || t == 5) && decide (n ≤ payloadRoom t)

/-- The challenge state of a private instruction: its challenge leaves as the instruction comes into force, and stays while it is in force (21 R759). -/
def enterChallenge (s : State) (code : BitVec 6) : State :=
  if s.tap.instr = .challenge code then s
  else
    let c := Config.tapChallenge s.free
    emit (modTap (loadTap s (.challenge code)) (fun x => { x with challenge := c })) (.tdo 0 c)

/-- PRIVATE_INSTRUCTION: the challenge state; data is accepted only once the signed response has verified, and until then the TAP behaves as BYPASS (16 R626; 21 R759). -/
def execPrivateInstruction (code : BitVec 6) (response : Option (List Byte)) (write : Option (BitVec 4 × List Byte)) (s : State) : Res :=
  tapCmd (fun t =>
    let t1 := modTap (enterChallenge t code) (fun x => { x with unlocked := x.unlocked || (match response with | some r => Config.testVerifies x.challenge r | none => false) })
    match write with
    | some (r, v) =>
      if t1.tap.unlocked && jtagRecord r.toNat v.length then queueWrite t1 { rtype := r.toNat, body := .payload (.bytes v.length (bytesNat v)), retries := 0, reply := none } else t1
    | none => t1) s

/-- TAP_RESET: a low TRST_N holds the TAP in Test-Logic-Reset, where it has no effect on any pin or function (21 R761). -/
def execTapReset (low : Bool) (s : State) : Res := .next (modTap s (fun _ => { held := low }))

end Sys2Proof.Machine
end

