-- ==== Sys2Proof/Machine/Matrix.lean ====
section
/-! DEFINITION. The MAT slot, the drain offers and the row-stall array (22 R776 to R778). -/

namespace Sys2Proof.Machine

/-- MATCFG (04 R163, R164). -/
def execMatcfg (k : CoreId) (format : BitVec 4) (accmode : BitVec 2) (systolic : Bool) (xe : BitVec 5) (s : State) : Res :=
  issueNamed k.num 2 (.mat (.matcfg format accmode systolic xe)) false s

/-- WLD (04 R138 to R144). -/
def execWld (k : CoreId) (xr : BitVec 5) (inc : BitVec 8) (es : List (Fin 32768 × Ecc)) (s : State) : Res :=
  issueNamed k.num 2 (.mat (.wld xr inc)) false (strikes s k.num es)

/-- WSWAP (04 R141). -/
def execWswap (k : CoreId) (s : State) : Res :=
  issueNamed k.num 2 (.mat .wswap) false s

/-- MMUL (04 R145 to R162, R170 to R175). -/
def execMmul (k : CoreId) (e : BitVec 8) (zero swap : Bool) (src : BitVec 2) (source : BitVec 12) (s : State) : Res :=
  issueNamed k.num 2 (.mat (.mmul e zero swap src source)) false s

/-- LACCADD (04 R158). -/
def execLaccadd (k : CoreId) (e : BitVec 8) (n : BitVec 4) (s : State) : Res :=
  issueNamed k.num 2 (.mat (.laccadd e n)) false s

/-- ADRAIN (04 R167 to R169). -/
def execAdrain (k : CoreId) (e : BitVec 8) (port : BitVec 2) (bf : Bool) (part : BitVec 2) (last : Bool) (s : State) : Res :=
  issueNamed k.num 2 (.mat (.adrain e port bf part last)) false s

/-- A drain row at the head of its port's offers moves into the buffer; where both buffer rows are full it is discarded in bubble mode, with a slip and its late fault, and waits in row-stall mode (04 R169, R171, R172). -/
def offerRow (s : State) (n port : Nat) : State :=
  let c := getCore s n
  let p := getSw c port
  match p.offered with
  | [] => s
  | o :: rest =>
    if p.buffer.length < 2 then setCore s n (setSw c port { p with offered := rest, buffer := p.buffer ++ [o.row] })
    else if (runOf s (clusOf n)).rowStall then s
    else setCore s n (pushLate (modMat (setSw c port { p with offered := rest }) (fun m => { m with slips := m.slips.bump })) 2 0x0112 o.pc o.issue 0)

/-- DRAIN_ROW_OFFER (04 R169). -/
def execDrainRowOffer (k : CoreId) (port : Fin 4) (s : State) : Res := .next (offerRow s k.num port.val)

/-- ROW_STALL_EXECUTE: one waiting operation of the elastic buffer executes in a cc that is not frozen (04 R173 to R175). -/
def execRowStallExecute (k : CoreId) (s : State) : Res :=
  if arrayRuns s k.num then .next (runElastic s k.num) else .next s

end Sys2Proof.Machine
end

