-- ==== Sys2Proof/Machine/MemSlot.lean ====
section
/-! DEFINITION. The MEM slot (22 R789 to R792). -/

namespace Sys2Proof.Machine

/-- SPRD (07 R244, R258, R259). -/
def execSprd (k : CoreId) (vd : BitVec 6) (xr : BitVec 5) (c : Bool) (inc : BitVec 8) (es : List (Fin 32768 × Ecc)) (s : State) : Res :=
  issueNamed k.num 6 (.mem (.sprd vd xr c inc)) false (strikes s k.num es)

/-- SPWR (07 R244, R257). -/
def execSpwr (k : CoreId) (vs : BitVec 6) (xr : BitVec 5) (inc : BitVec 8) (s : State) : Res :=
  issueNamed k.num 6 (.mem (.spwr vs xr inc)) false s

/-- ROWCMP (07 R266). -/
def execRowcmp (k : CoreId) (w : BitVec 2) (xr : BitVec 5) (md : BitVec 4) (vc : BitVec 6) (xk2 : BitVec 4) (es : List (Fin 32768 × Ecc)) (s : State) : Res :=
  issueNamed k.num 6 (.mem (.rowcmp w xr md vc xk2)) false (strikes s k.num es)

/-- ROWCNT (07 R267 to R270). -/
def execRowcnt (k : CoreId) (xr : BitVec 5) (mm2 : BitVec 3) (xs : BitVec 5) (wrap rf : Bool) (md : BitVec 4) (ev : Bool) (es : List (Fin 32768 × Ecc)) (s : State) : Res :=
  issueNamed k.num 6 (.mem (.rowcnt xr mm2 xs wrap rf md ev)) false (strikes s k.num es)

/-- CMRD (07 R251, R252). -/
def execCmrd (k : CoreId) (xc xr : BitVec 5) (s : State) : Res :=
  issueNamed k.num 6 (.mem (.cmrd xc xr)) false s

/-- CMWR (07 R251, R252). -/
def execCmwr (k : CoreId) (xc xr : BitVec 5) (es : List (Fin 32768 × Ecc)) (s : State) : Res :=
  issueNamed k.num 6 (.mem (.cmwr xc xr)) false (strikes s k.num es)

/-- CMCNT (07 R251, R252). -/
def execCmcnt (k : CoreId) (xc : BitVec 5) (mm2 : BitVec 3) (xs : BitVec 5) (wrap ev : Bool) (s : State) : Res :=
  issueNamed k.num 6 (.mem (.cmcnt xc mm2 xs wrap ev)) false s

/-- RRD (07 R272, R273). -/
def execRrd (k : CoreId) (vd : BitVec 6) (xa : BitVec 5) (s : State) : Res :=
  issueNamed k.num 6 (.mem (.rrd vd xa)) false s

/-- RWR (07 R272, R273). -/
def execRwr (k : CoreId) (vs : BitVec 6) (xa : BitVec 5) (s : State) : Res :=
  issueNamed k.num 6 (.mem (.rwr vs xa)) false s

end Sys2Proof.Machine
end

