-- ==== Sys2Proof/Machine/Reduction.lean ====
section
/-! DEFINITION. The RED slot (22 R788). -/

namespace Sys2Proof.Machine

/-- RSUM (06 R237 to R239). -/
def execRsum (k : CoreId) (a : RD) (s : State) : Res :=
  issueNamed k.num 5 (.red (.red .sum a)) false s

/-- RSUMI (06 R237 to R239). -/
def execRsumi (k : CoreId) (a : RD) (s : State) : Res :=
  issueNamed k.num 5 (.red (.red .sumi a)) false s

/-- RMAX (06 R237 to R239). -/
def execRmax (k : CoreId) (a : RD) (s : State) : Res :=
  issueNamed k.num 5 (.red (.red .max a)) false s

/-- RMIN (06 R237 to R239). -/
def execRmin (k : CoreId) (a : RD) (s : State) : Res :=
  issueNamed k.num 5 (.red (.red .min a)) false s

/-- RARGMAX (06 R237 to R239). -/
def execRargmax (k : CoreId) (a : RD) (s : State) : Res :=
  issueNamed k.num 5 (.red (.red .argmax a)) false s

/-- RARGMIN (06 R237 to R239). -/
def execRargmin (k : CoreId) (a : RD) (s : State) : Res :=
  issueNamed k.num 5 (.red (.red .argmin a)) false s

/-- RCNT (06 R237 to R239). -/
def execRcnt (k : CoreId) (a : RD) (s : State) : Res :=
  issueNamed k.num 5 (.red (.red .cnt a)) false s

end Sys2Proof.Machine
end

