-- ==== Sys2Proof/Machine/Regs.lean ====
section
/-! DEFINITION. BAR0 register writes and reads: which bits a write may change, why it is rejected, what it does (00 R8 to R11; 18 R698; 20 R731 to R737; the register tables of every chapter). -/

namespace Sys2Proof.Machine

/-- What a register does with a write. -/
structure WriteRule where
  /-- the bits that a write may give -/
  mask : Nat
  /-- the bits that only read back: no reserved bits, a write leaves them (R11) -/
  ro : Nat := 0
  /-- the reason for which the port may not write -/
  perm : Option Nat := none
  /-- an RS field whose partition is not STOPPED -/
  rs : Bool := false
  /-- a field outside its stated range -/
  outside : Bool := false
  /-- a command register whose unit is busy -/
  busy : Bool := false
  /-- a state rule forbids the write -/
  forbidden : Bool := false
  /-- the effect of an accepted write -/
  act : State → State

/-- A field of the data of a write. -/
def dataField (data : W32) (lo w : Nat) : Nat := natBits data.toNat lo w
/-- A value outside a range. -/
def notIn (v lo hi : Nat) : Bool := decide (v < lo ∨ hi < v)
/-- One half of a 64-bit register written. -/
def putHalf (v : W64) (high : Bool) (data : W32) : W64 := if high then data ++ v.setWidth 32 else (v.extractLsb' 32 32) ++ data
/-- The low half of an address breaks its multiple. -/
def unaligned (high : Bool) (data : W32) (n : Nat) : Bool := !high && decide (data.toNat % n ≠ 0)

/-- A latch after a W1C write of VALID at bit 31 and OVERFLOW at bit 30 (03 R129; 18 R693). -/
def w1cLatch (l : Latch α) (data : W32) : Latch α :=
  { l with valid := l.valid && !data.getLsbD 31, overflow := l.overflow && !data.getLsbD 30 }

/-- A first-fault record after a W1C write of REFUSED (18 R701). -/
def w1cRefused (r : FfRecord) (data : W32) : FfRecord := if data.getLsbD 31 then { r with refused := false, cause := 0 } else r

/-! ## Device global block (02 R65 to R69; 20 R740, R741) -/

/-- A write of the image command registers of the device or a partition (02 R65, R68, R69). -/
def imgCmdAct (part : Option Nat) (data : W32) (s : State) : State :=
  let verify := dataField data 0 8 == 2
  if data.getLsbD 8 then takeDefault s verify false else takeLoad s part verify false false (imgRegsOf s part).len.toNat

/-- The registers of an image loader set at its offsets (02 R65). -/
def imgRule (s : State) (part : Option Nat) (perm : Option Nat) (o : Nat) (data : W32) : Option WriteRule :=
  if o = 0x100 ∨ o = 0x104 then some { mask := 0xFFFFFFFF, perm := perm, act := fun t => modImg t part (fun g => { g with addr := putHalf g.addr (o = 0x104) data }) }
  else if o = 0x108 then some { mask := 0xFFFFFFFF, perm := perm, act := fun t => modImg t part (fun g => { g with len := data }) }
  else if o = 0x110 then
    some { mask := 0x1FF, perm := perm, outside := notIn (dataField data 0 8) 1 2 || (part.isSome && data.getLsbD 8), busy := s.loader.isSome, act := imgCmdAct part data }
  else if o = 0x114 then
    some { mask := 0x10000, ro := 0x8000FFFF, perm := perm, act := fun t => modImg t part (fun g => { g with resultValid := g.resultValid && !data.getLsbD 16 }) }
  else none

/-- The device global block: DEV_SCRATCH_p is its own port's, the loader the primary port's (20 R740, R741; 15 R577). -/
def devRule (s : State) (h o : Nat) (data : W32) : Option WriteRule :=
  if o = 0x60 ∨ o = 0x64 then
    let q := (o - 0x60) / 4
    some { mask := 0xFFFFFFFF, perm := if h = q then none else some 4, act := fun t => modPort t q (fun p => { p with scratch := data }) }
  else imgRule s none (primaryDenied s h) o data

/-! ## Partition block -/

/-- The commands of PART_CMD (17 R676). -/
def partOp (p : Nat) (op : Nat) (s : State) : State := if op = 1 then startCmd s p else if op = 2 then stopCmd s p else abortCmd s p

/-- The commands of PART_DET_CMD (11 R446). -/
def detOp (p : Nat) (op : Nat) (s : State) : State :=
  match op with
  | 1 => detNow s p [0] (fun u => setPhase u p 1)
  | 2 => detNow s p [1, 2] (fun u => continuePart u p)
  | 3 => detNow s p [0, 1] (fun u => freezePart u p)
  | 4 => detNow s p [3] (fun u => thawPart u p)
  | 5 => savePart s p
  | 6 => dumpPart s p
  | _ => restorePart s p

/-- A change of a partition's save and pause block. -/
def modDet (s : State) (p : Nat) (f : Det → Det) : State := modPart s p (fun x => { x with det := f x.det })
/-- A change of a partition's twin comparator. -/
def modTwin (s : State) (p : Nat) (f : Twin → Twin) : State := modPart s p (fun x => { x with twin := f x.twin })
/-- A change of a partition's page-fault block. -/
def modPf (s : State) (p : Nat) (f : PageFaults → PageFaults) : State := modPart s p (fun x => { x with pf := f x.pf })

/-- A reaction field of PART_FLT_REACT holds no reaction of R678 (18 R703). -/
def badReact (data : W32) : Bool := (List.range 6).any (fun i => dataField data (2 * i) 2 == 3)

/-- The partition block from the page table on (08 R347; 10 R423). -/
def partRule2 (s : State) (p o : Nat) (perm : Option Nat) (data : W32) : Option WriteRule :=
  if o = 0x200 then some { mask := 0x7FFFF, perm := perm, outside := notIn data.toNat 0 393215 || !pageInside (getPart s p) data.toNat, act := fun t => modPf t p (fun x => { x with ptIndex := data.toNat }) }
  else if o = 0x204 then
    let page := (getPart s p).pf.ptIndex
    let st := dataField data 30 2
    let frame := dataField data 0 19
    some { mask := 0xC007FFFF, ro := 0x20000000, perm := perm, outside := pteDenied s p page st frame == some 2, forbidden := pteDenied s p page st frame == some 7,
           act := fun t => writePte t p page st frame }
  else if o = 0x208 then some { mask := 0xFFFFFF, perm := perm, outside := notIn data.toNat 100 1000000, act := fun t => modPf t p (fun x => { x with deadline := data.toNat }) }
  else if o = 0x214 then some { mask := 1, perm := perm, act := fun t => if data.getLsbD 0 then ackPage t p else t }
  else if o = 0x310 then some { mask := 0xFFFFFF, perm := perm, outside := notIn data.toNat 10000 10000000, act := fun t => modPart t p (fun x => { x with gatherDeadline := data.toNat }) }
  else none

/-- The determinism and twin registers (11 R463; 13 R544). -/
def partRule3 (s : State) (p o : Nat) (perm : Option Nat) (data : W32) : Option WriteRule :=
  let rs := (getPart s p).state != .stopped
  if o = 0x410 then some { mask := 0xFF, perm := perm, outside := notIn data.toNat 1 7, act := detOp p data.toNat }
  else if o = 0x414 then
    some { mask := 0x100000, ro := 0x800FFFFF, perm := perm, act := fun t => modDet t p (fun d => { d with resultValid := d.resultValid && !data.getLsbD 20 }) }
  else if o = 0x418 ∨ o = 0x41C then some { mask := 0xFFFFFFFF, perm := perm, act := fun t => modDet t p (fun d => { d with saveAddr := putHalf d.saveAddr (o = 0x41C) data }) }
  else if o = 0x710 then some { mask := 0xFFFFFFE0, perm := perm, rs := rs, act := fun t => modTwin t p (fun x => { x with cfg := data }) }
  else if o = 0x714 then
    some { mask := 0xFFFFFF, perm := perm, rs := rs, outside := notIn data.toNat 100 10000000, act := fun t => modTwin t p (fun x => { x with deadline := data.toNat }) }
  else if o = 0x730 then some { mask := 0xC0000000, ro := 0xFFFF, perm := perm, act := fun t => modTwin t p (fun x => { x with err := w1cLatch x.err data }) }
  else if o = 0x800 then
    some { mask := 0x107, perm := perm, outside := notIn (dataField data 0 3) 0 5,
           act := fun t => if data.getLsbD 8 then freqImmediate t p (dataField data 0 3) else freqCalm t p (dataField data 0 3) }
  else if o = 0x900 then some { mask := 0xFFF, perm := perm, rs := rs, outside := badReact data, act := fun t => modPart t p (fun x => { x with react := data.setWidth 12 }) }
  else none

/-- The writable registers of a partition block (20 R739): the owner port's (15 R578). -/
def partRule (s : State) (h p o : Nat) (data : W32) : Option WriteRule :=
  let perm := partDenied s h p
  if o = 0x00 then some { mask := 0xFF, perm := perm, outside := notIn data.toNat 1 3, act := partOp p data.toNat }
  else if o = 0x04 then
    some { mask := 0x8000, ro := 0xFFFF00DF, perm := perm, act := fun t => modPart t p (fun x => { x with resultValid := x.resultValid && !data.getLsbD 15 }) }
  else if o = 0x0C then some { mask := 0xFFFFFF, perm := perm, outside := notIn data.toNat 100 10000000, act := fun t => modPart t p (fun x => { x with stopDeadline := data.toNat }) }
  else if o < 0x200 then imgRule s (some p) perm o data
  else if o < 0x400 then partRule2 s p o perm data
  else partRule3 s p o perm data

/-! ## Faults, time, fabric (18 R701, R702; 14 R570; 12 R500) -/

/-- The faults block: the device record is the primary port's; a rejection latch is its port's, and the primary port may clear it too (DEDUCED). A write that sets bit 23 of FLT_WR_REJ_INFO_p is rejected like one that sets a reserved bit (DESIGN CHOICE). -/
def faultRule (s : State) (h o : Nat) (data : W32) : Option WriteRule :=
  if o = 0x30 then some { mask := 0xFFFF, perm := primaryDenied s h, act := fun t => clearDevice t data.toNat }
  else if o = 0x34 then some { mask := 0x80000000, ro := 0xFFFF, perm := primaryDenied s h, act := fun t => { t with ff := w1cRefused t.ff data } }
  else if o = 0x100 ∨ o = 0x120 then
    let q := (o - 0x100) / 0x20
    some { mask := 0xC0000000, ro := 0x0F7FFFFF, perm := if h = q ∨ s.hp.primary = h then none else some 4, act := fun t => modPort t q (fun p => { p with rej := w1cLatch p.rej data }) }
  else none

/-- FREE_RUN takes its new value: set with REFCLK present it makes the counter trusted; cleared, trust stays only where the servo's conditions hold (14 R561). -/
def writeFreeRun (s : State) (on : Bool) : State :=
  let s1 := modTime s (fun t => { t with freeRun := on })
  if on then checkTrust s1
  else if s.time.freeRun && !(s.time.slave.isSome && decide (8 ≤ s.time.goodSyncs)) then untrustTime s1
  else s1

/-- The time block: the primary port's (14 R570). -/
def timeRule (s : State) (h o : Nat) (data : W32) : Option WriteRule :=
  let perm := primaryDenied s h
  if o = 0x18 then some { mask := 3, perm := perm, act := fun t => settlePps (writeFreeRun (modTime t (fun x => { x with ppsEn := data.getLsbD 1 })) (data.getLsbD 0)) }
  else if o = 0x1C then some { mask := 0x3FF, perm := perm, outside := notIn data.toNat 1 1000, act := fun t => modTime t (fun x => { x with syncTimeout := data.toNat }) }
  else if o = 0x20 then
    some { mask := 0xFFFFFFFF, perm := perm, outside := dataField data 0 16 == 0 || dataField data 16 16 == 0,
           act := fun t => modTime t (fun x => { x with ppbSync := dataField data 0 16, ppbRef := dataField data 16 16 }) }
  else none

/-- ADMIN_DOWN takes its new value (12 R497, R500). -/
def writeAdminDown (s : State) (f : Nat) (down : Bool) : State :=
  if down then (if (getFab s f).adminDown then s else takeAdminDown s f) else modFab s f (fun x => { x with adminDown := false })

/-- The fabric block: the primary port's (12 R500). -/
def fabRule (s : State) (h o : Nat) (data : W32) : Option WriteRule :=
  let f := o / 0x10000
  let b := o % 0x10000
  let perm := primaryDenied s h
  if 0x40000 ≤ o then none
  else if b = 0x04 then some { mask := 1, perm := perm, act := fun t => writeAdminDown t f (data.getLsbD 0) }
  else if b = 0x60 then some { mask := 0xC0000000, ro := 0x03FFFFFF, perm := perm, act := fun t => modFab t f (fun x => { x with err := w1cLatch x.err data }) }
  else none

/-! ## Host ports and rings (15 R606 to R609) -/

/-- A register of a host port block (15 R607). -/
def portRule (s : State) (h q o : Nat) (data : W32) : Option WriteRule :=
  let own : Option Nat := if h = q then none else some 4
  if o = 0x04 then some { mask := 0xF, perm := own, outside := notIn data.toNat 0 11, act := fun t => modPort t q (fun p => { p with win := data.toNat }) }
  else if o = 0x08 then some { mask := 0x3FF, perm := primaryDenied s h, outside := notIn data.toNat 1 1000, act := fun t => modPort t q (fun p => { p with holdMs := data.toNat }) }
  else if o = 0x30 then some { mask := 0xC0000000, ro := 0xFFFF, perm := own, act := fun t => modPort t q (fun p => { p with err := w1cLatch p.err data }) }
  else none

/-- A register of a partition's interrupt block: the owner port's (15 R608). -/
def intRule (s : State) (h p o : Nat) (data : W32) : Option WriteRule :=
  let perm := partDenied s h p
  let lo := dataField data 0 11
  let hi := dataField data 16 11
  if o = 0x00 then some { mask := 0x07FF07FF, perm := perm, act := fun t => modPart t p (fun x => { x with loadVec := lo, pfVec := hi }) }
  else if o = 0x04 then some { mask := 0x07FF07FF, perm := perm, act := fun t => modPart t p (fun x => { x with detVec := lo, faultVec := hi }) }
  else if o = 0x08 then some { mask := 0xFFFFF, perm := perm, outside := notIn data.toNat 0 1000000, act := fun t => modPart t p (fun x => { x with msixMod := data.toNat }) }
  else none

/-- A register of a ring: the port of its cluster's owner, while EN is clear (15 R591, R609). -/
def ringRule (s : State) (h r o : Nat) (data : W32) : Option WriteRule :=
  let perm := clusDenied s h (r / 4)
  let x := getRing s r
  let hi := decide (o % 8 = 4)
  let rule (mask : Nat) (outside : Bool) (f : Ring → Ring) : Option WriteRule :=
    some { mask := mask, perm := perm, outside := outside, forbidden := x.en, act := fun t => setRing t r (f (getRing t r)) }
  if o = 0x08 then
    let out := notIn (dataField data 16 5) 6 20 || notIn (dataField data 0 7) 1 64
    some { mask := 0x801F007F, perm := perm, outside := out, forbidden := !out && (writeRingCtl s r data).isNone, act := fun t => (writeRingCtl t r data).getD t }
  else if o = 0x00 ∨ o = 0x04 then rule 0xFFFFFFFF (unaligned hi data 4096) (fun y => { y with wrBase := putHalf y.wrBase hi data })
  else if o = 0x0C then rule 0xFFFFF false (fun y => { y with pasid := data.toNat })
  else if o = 0x10 ∨ o = 0x14 then rule 0xFFFFFFFF false (fun y => { y with headSeq := putHalf y.headSeq hi data })
  else if o = 0x18 ∨ o = 0x1C then rule 0xFFFFFFFF (unaligned hi data 4096) (fun y => { y with crBase := putHalf y.crBase hi data })
  else if o = 0x20 then rule 0x001F07FF (notIn (dataField data 16 5) 6 20) (fun y => { y with crSizeLog2 := dataField data 16 5, vector := dataField data 0 11 })
  else if o = 0x28 ∨ o = 0x2C then rule 0xFFFFFFFF (unaligned hi data 8) (fun y => { y with consAddr := putHalf y.consAddr hi data })
  else if o = 0x30 ∨ o = 0x34 then rule 0xFFFFFFFF false (fun y => { y with cseq := putHalf y.cseq hi data })
  else if o = 0x38 ∨ o = 0x3C then rule 0xFFFFFFFF (unaligned hi data 4096) (fun y => { y with resBase := putHalf y.resBase hi data })
  else none

/-- The host-port blocks (20 R737). -/
def hostRule (s : State) (h o : Nat) (data : W32) : Option WriteRule :=
  if o = 0x08 then
    some { mask := 0x07FF07FF, perm := primaryDenied s h,
           act := fun t => { t with hp := { t.hp with devLoadVec := dataField data 0 11, devFaultVec := dataField data 16 11 } } }
  else if o < 0x1000 then none
  else if o < 0x3000 then portRule s h ((o - 0x1000) / 0x1000) (o % 0x1000) data
  else if o < 0x4000 then none
  else if o < 0x4400 then intRule s h ((o - 0x4000) / 0x40) (o % 0x40) data
  else if o < 0x10000 then none
  else if o < 0x14000 then ringRule s h ((o - 0x10000) / 0x80) (o % 0x80) data
  else none

/-! ## Cluster and core blocks (20 R738) -/

/-- A register of a core block (03 R126; 04 R179; 06 R240; 07 R285). -/
def coreRule (n o : Nat) (perm : Option Nat) (data : W32) : Option WriteRule :=
  let rule (mask ro : Nat) (f : Core → Core) : Option WriteRule := some { mask := mask, ro := ro, perm := perm, act := fun t => modCore t n f }
  if o = 0x3C then rule 3 0 (fun c => modMem c (fun m => { m with flags := m.flags &&& ~~~(data.setWidth _) }))
  else if o = 0x40 then rule 0xC0000000 0x0700FFFF (fun c => { c with fault := w1cLatch c.fault data })
  else if o = 0xB4 then some { mask := 0xFF, ro := 0x00FFFF00, perm := perm, act := fun t => writeSpOff t n (dataField data 0 8) }
  else if o = 0xC4 then rule 7 0 (fun c => modMat c (fun m => { m with flags := m.flags &&& ~~~(data.setWidth _) }))
  else if o = 0xDC then rule 0x3F 0 (fun c => { c with vecFlags := c.vecFlags &&& ~~~(data.setWidth _) })
  else none

/-- A register of a cluster block: the owner port's (15 R578). -/
def clusRule (s : State) (h c o : Nat) (data : W32) : Option WriteRule :=
  let perm := clusDenied s h c
  let rule (mask ro : Nat) (f : Cluster → Cluster) : Option WriteRule := some { mask := mask, ro := ro, perm := perm, act := fun t => modClus t c f }
  if o = 0x130 then some { mask := 0xFFFF, perm := perm, act := fun t => clearCluster t c data.toNat }
  else if o = 0x134 then rule 0x80000000 0xFFFF (fun x => { x with ff := w1cRefused x.ff data })
  else if o = 0x200 then rule 0xC0000000 0x3FFFFFFF (fun x => modCMem x (fun m => { m with coll := w1cLatch m.coll data }))
  else if o = 0x220 then some { mask := 0xFFFF, ro := 0xFFFF0000, perm := perm, act := fun t => writeCmOff t c (dataField data 0 16) }
  else if o = 0x230 then rule 0x80000000 0x7FFCFFFF (fun x => modCMem x (fun m => { m with unpwr := w1cLatch m.unpwr data }))
  else if o = 0x240 then rule 0x80000000 0x7FFC3FFF (fun x => modCMem x (fun m => { m with eccUe := w1cLatch m.eccUe data }))
  else if o = 0x3040 then rule 0xC0000000 0x00FF00FF (fun x => { x with str := { x.str with err := w1cLatch x.str.err data } })
  else if o = 0x6010 then rule 0xC0000000 0x0F1FFFFF (fun x => { x with msg := { x.msg with txDrop := w1cLatch x.msg.txDrop data } })
  else if o = 0x6040 then rule 0xC0000000 0x1F (fun x => { x with msg := { x.msg with snap := w1cLatch x.msg.snap data } })
  else if 0xE000 ≤ o ∧ o < 0xE100 ∧ o % 0x40 = 0x30 then
    let k := (o - 0xE000) / 0x40
    some { mask := 0xC0000000, ro := 0x7F, perm := perm, act := fun t => setChan t c k { getChan t c k with err := w1cLatch (getChan t c k).err data } }
  else if 0x1000 ≤ o ∧ o < 0x2800 then coreRule (24 * c + (o - 0x1000) / 0x100) (o % 0x100) perm data
  else none

/-- The reason for which a cluster block's offset takes no write: a Becalmed cluster's own blocks, a disabled core's block (20 R736; 18 R698). -/
def blockClosed (s : State) (c o : Nat) : Option Nat :=
  let calmed := decide ((0x1000 ≤ o ∧ o < 0x2800) ∨ (0x3000 ≤ o ∧ o < 0x6000) ∨ (0x8000 ≤ o ∧ o < 0xE100)) && (getClus s c).becalmed
  let off := decide (0x1000 ≤ o ∧ o < 0x2800) && (getClus s c).disabled.getLsbD ((o - 0x1000) / 0x100)
  if calmed then some 7 else if off then some 8 else none

/-! ## Writes (18 R698; 20 R733, R734, R737) -/

/-- What the register at a BAR0 offset does with a write; none where it has only RO fields. -/
def writeRule (s : State) (h o : Nat) (data : W32) : Option WriteRule :=
  if o < 0x10000 then devRule s h o data
  else if o < 0x20000 then partRule s h ((o - 0x10000) / 0x1000) (o % 0x1000) data
  else if o < 0x40000 then faultRule s h (o - 0x20000) data
  else if o < 0x48000 then timeRule s h (o - 0x40000) data
  else if o < 0x80000 then none
  else if o < 0x100000 then fabRule s h (o - 0x80000) data
  else if o < 0x1000000 then hostRule s h (o - 0x100000) data
  else if o < 0x1200000 then clusRule s h ((o - 0x1000000) / 0x10000) (o % 0x10000) data
  else none

/-- The first reason for which a rule rejects a write (18 R698). -/
def ruleDenied (w : WriteRule) (data : W32) : Option Nat :=
  let no (b : Bool) (r : Nat) : Option Nat := if b then some r else none
  firstDenied [no (data.toNat &&& (w.mask ||| w.ro) != data.toNat) 1, w.perm, no w.rs 5, no w.outside 2, no w.busy 6, no w.forbidden 7]

/-- A 4-byte write at a register's offset: its effect, or the reason of its rejection (18 R698). -/
def applyWrite (s : State) (h o : Nat) (data : W32) : State :=
  let closed := if 0x1000000 ≤ o ∧ o < 0x1200000 then blockClosed s ((o - 0x1000000) / 0x10000) (o % 0x10000) else none
  if (regAt s h o).isNone then reject s h 0xA o data
  else match closed, writeRule s h o data with
    | some r, _ => reject s h r o data
    | none, none => reject s h 9 o data
    | none, some w => match ruleDenied w data with
      | some r => reject s h r o data
      | none => w.act s

/-- REGISTER_WRITE: a 4-byte write; in BAR0 one with a byte enable clear, or off a 4-byte boundary, is out of range; in BAR4 it writes the MSI-X table (18 R698; 20 R731, R734; 15 R575). -/
def execRegisterWrite (h : Fin 2) (bar : RegBar) (offset : BitVec 25) (data : W32) (enables : BitVec 4) (s : State) : Res :=
  let o := offset.toNat
  if !portAnswers s h.val then .next s
  else if bar = .bar4 then .next (writeBar4 s h.val (o / 4 * 4) data enables)
  else if enables ≠ 0xF ∨ o % 4 ≠ 0 then .next (reject s h.val 2 o data)
  else .next (applyWrite s h.val o data)

/-! ## Reads (00 R9; 20 R731, R732, R735) -/

/-- One 4-byte read: what it returns, and what it leaves of the port's latch (00 R9). -/
def readReg (s : State) (h o : Nat) : Nat × State :=
  match regAt s h o with
  | none => (0, s)
  | some r => match r.pair with
    | none => (r.value, s)
    | some (v, true) => (r.value, modPort s h (fun p => { p with latch := some (v.extractLsb' 32 32, o) }))
    | some (_, false) => match (getPort s h).latch with
      | some (hi, a) => if a + 4 = o then (hi.toNat, modPort s h (fun p => { p with latch := none })) else (r.value, s)
      | none => (r.value, s)

/-- A read of `n` registers in ascending order, returned in one completion (20 R731). -/
def readRegs (s : State) (h o : Nat) : Nat → Nat × State
  | 0 => (0, s)
  | n + 1 =>
    let (v, s1) := readReg s h o
    let (w, s2) := readRegs s1 h (o + 4) n
    (v + 2 ^ 32 * w, s2)

/-- The completion of a read leaves its port. -/
def complete (h n : Nat) (r : Nat × State) : State := emit r.2 (.readData h (4 * n) r.1)

/-- The register that a read of any byte of it names (20 R734). -/
def readOffset (offset : BitVec 25) : Nat := offset.toNat / 4 * 4

/-- What a read of BAR4 returns, which changes nothing (15 R575). -/
def bar4Read (s : State) (h o n : Nat) : Nat × State := (readBar4 s h o n, s)

/-- LOW_HALF_READ: a 4-byte read; in BAR0, of the low half of a 64-bit value, it loads the port's latch; in BAR4 it reads the MSI-X table or the PBA (00 R9; 15 R575). -/
def execLowHalfRead (h : Fin 2) (bar : RegBar) (offset : BitVec 25) (s : State) : Res :=
  if !portAnswers s h.val then .next s
  else if bar = .bar4 then .next (complete h.val 1 (bar4Read s h.val (readOffset offset) 1))
  else .next (complete h.val 1 (readReg s h.val (readOffset offset)))

/-- HIGH_HALF_READ: a 4-byte read; of the high half of the value that the latch holds it returns the latched half and empties the latch (00 R9). -/
def execHighHalfRead (h : Fin 2) (offset : BitVec 25) (s : State) : Res :=
  if portAnswers s h.val then .next (complete h.val 1 (readReg s h.val (readOffset offset))) else .next s

/-- An aligned 8-byte read: both registers as one snapshot, the latch as it was (20 R732). -/
def readBoth (s : State) (h o : Nat) : Nat × State :=
  let at4 (o : Nat) : Nat := ((regAt s h o).map (·.value)).getD 0
  (at4 o + 2 ^ 32 * at4 (o + 4), s)

/-- WIDE_READ: an 8-byte read; in BAR0, off an 8-byte boundary, it is served as two 4-byte reads; in BAR4 it reads the MSI-X table or the PBA (20 R731, R732; 15 R575). -/
def execWideRead (h : Fin 2) (bar : RegBar) (offset : BitVec 25) (s : State) : Res :=
  let o := readOffset offset
  if !portAnswers s h.val then .next s
  else if bar = .bar4 then .next (complete h.val 2 (bar4Read s h.val o 2))
  else .next (complete h.val 2 (if o % 8 = 0 then readBoth s h.val o else readRegs s h.val o 2))

end Sys2Proof.Machine
end

