-- ==== Sys2Proof/Machine/Send.lean ====
section
/-! DEFINITION. The MSG slot (22 R793). -/

namespace Sys2Proof.Machine

/-- MSEND (09 R354 to R356). -/
def execMsend (k : CoreId) (n xd : BitVec 5) (len1 : BitVec 3) (route : BitVec 4) (group : BitVec 6) (s : State) : Res :=
  issueNamed k.num 7 (.msg (.msend n xd len1 route group)) false s

end Sys2Proof.Machine
end

