-- ==== Sys2Proof/Machine/Vector.lean ====
section
/-! DEFINITION. The VEC0 and VEC1 slots (22 R779 to R787). -/

namespace Sys2Proof.Machine

/-- The slot of a VEC operation: VEC0 or VEC1. -/
def vecSlot (u : Bool) : Fin 8 := if u then 4 else 3

/-- VRCP (06 R233, R234). -/
def execVrcp (k : CoreId) (u : Bool) (a : V3) (s : State) : Res :=
  issueNamed k.num (vecSlot u) (.vec (.fn .rcp a)) false s

/-- VSQRT (06 R233, R234). -/
def execVsqrt (k : CoreId) (u : Bool) (a : V3) (s : State) : Res :=
  issueNamed k.num (vecSlot u) (.vec (.fn .sqrt a)) false s

/-- VRSQRT (06 R233, R234). -/
def execVrsqrt (k : CoreId) (u : Bool) (a : V3) (s : State) : Res :=
  issueNamed k.num (vecSlot u) (.vec (.fn .rsqrt a)) false s

/-- VDIV (06 R233, R234). -/
def execVdiv (k : CoreId) (u : Bool) (a : V3) (s : State) : Res :=
  issueNamed k.num (vecSlot u) (.vec (.fn .div a)) false s

/-- VEXP (06 R233, R234). -/
def execVexp (k : CoreId) (u : Bool) (a : V3) (s : State) : Res :=
  issueNamed k.num (vecSlot u) (.vec (.fn .exp a)) false s

/-- VEXP2 (06 R233, R234). -/
def execVexp2 (k : CoreId) (u : Bool) (a : V3) (s : State) : Res :=
  issueNamed k.num (vecSlot u) (.vec (.fn .exp2 a)) false s

/-- VLOG (06 R233, R234). -/
def execVlog (k : CoreId) (u : Bool) (a : V3) (s : State) : Res :=
  issueNamed k.num (vecSlot u) (.vec (.fn .log a)) false s

/-- VLOG2 (06 R233, R234). -/
def execVlog2 (k : CoreId) (u : Bool) (a : V3) (s : State) : Res :=
  issueNamed k.num (vecSlot u) (.vec (.fn .log2 a)) false s

/-- VTANH (06 R233, R234). -/
def execVtanh (k : CoreId) (u : Bool) (a : V3) (s : State) : Res :=
  issueNamed k.num (vecSlot u) (.vec (.fn .tanh a)) false s

/-- VSIGM (06 R233, R234). -/
def execVsigm (k : CoreId) (u : Bool) (a : V3) (s : State) : Res :=
  issueNamed k.num (vecSlot u) (.vec (.fn .sigm a)) false s

/-- VERF (06 R233, R234). -/
def execVerf (k : CoreId) (u : Bool) (a : V3) (s : State) : Res :=
  issueNamed k.num (vecSlot u) (.vec (.fn .erf a)) false s

/-- VSIN (06 R233, R234). -/
def execVsin (k : CoreId) (u : Bool) (a : V3) (s : State) : Res :=
  issueNamed k.num (vecSlot u) (.vec (.fn .sin a)) false s

/-- VCOS (06 R233, R234). -/
def execVcos (k : CoreId) (u : Bool) (a : V3) (s : State) : Res :=
  issueNamed k.num (vecSlot u) (.vec (.fn .cos a)) false s

/-- VADD (06 R219, R224). -/
def execVadd (k : CoreId) (u : Bool) (rm : BitVec 3) (a : V3) (s : State) : Res :=
  issueNamed k.num (vecSlot u) (.vec (.arith .add rm a)) false s

/-- VSUB (06 R219, R224). -/
def execVsub (k : CoreId) (u : Bool) (rm : BitVec 3) (a : V3) (s : State) : Res :=
  issueNamed k.num (vecSlot u) (.vec (.arith .sub rm a)) false s

/-- VMUL (06 R219, R224). -/
def execVmul (k : CoreId) (u : Bool) (rm : BitVec 3) (a : V3) (s : State) : Res :=
  issueNamed k.num (vecSlot u) (.vec (.arith .mul rm a)) false s

/-- VFMA (06 R219, R224). -/
def execVfma (k : CoreId) (u : Bool) (a : VF) (s : State) : Res :=
  issueNamed k.num (vecSlot u) (.vec (.fused .fma a)) false s

/-- VFMS (06 R219, R224). -/
def execVfms (k : CoreId) (u : Bool) (a : VF) (s : State) : Res :=
  issueNamed k.num (vecSlot u) (.vec (.fused .fms a)) false s

/-- VFNMA (06 R219, R224). -/
def execVfnma (k : CoreId) (u : Bool) (a : VF) (s : State) : Res :=
  issueNamed k.num (vecSlot u) (.vec (.fused .fnma a)) false s

/-- VMIN (06 R219, R224). -/
def execVmin (k : CoreId) (u : Bool) (a : V3) (s : State) : Res :=
  issueNamed k.num (vecSlot u) (.vec (.lane .min a)) false s

/-- VMAX (06 R219, R224). -/
def execVmax (k : CoreId) (u : Bool) (a : V3) (s : State) : Res :=
  issueNamed k.num (vecSlot u) (.vec (.lane .max a)) false s

/-- VABS (06 R219; 22 R784). -/
def execVabs (k : CoreId) (u : Bool) (a : V3) (s : State) : Res :=
  issueNamed k.num (vecSlot u) (.vec (.lane .abs a)) false s

/-- VNEG (06 R219; 22 R784). -/
def execVneg (k : CoreId) (u : Bool) (a : V3) (s : State) : Res :=
  issueNamed k.num (vecSlot u) (.vec (.lane .neg a)) false s

/-- VMOV (06 R219; 22 R784). -/
def execVmov (k : CoreId) (u : Bool) (a : V3) (s : State) : Res :=
  issueNamed k.num (vecSlot u) (.vec (.lane .mov a)) false s

/-- VBCAST (06 R219; 22 R784). -/
def execVbcast (k : CoreId) (u : Bool) (a : V3) (s : State) : Res :=
  issueNamed k.num (vecSlot u) (.vec (.lane .bcast a)) false s

/-- VSEL (06 R219; 22 R784). -/
def execVsel (k : CoreId) (u : Bool) (a : V3) (s : State) : Res :=
  issueNamed k.num (vecSlot u) (.vec (.lane .sel a)) false s

/-- VPFMT (06 R795). -/
def execVpfmt (k : CoreId) (u : Bool) (f : Bool) (s : State) : Res :=
  issueNamed k.num (vecSlot u) (.vec (.pfmt f)) false s

/-- VIADD (06 R219; 22 R784). -/
def execViadd (k : CoreId) (u : Bool) (a : V3) (s : State) : Res :=
  issueNamed k.num (vecSlot u) (.vec (.lane .iadd a)) false s

/-- VISUB (06 R219; 22 R784). -/
def execVisub (k : CoreId) (u : Bool) (a : V3) (s : State) : Res :=
  issueNamed k.num (vecSlot u) (.vec (.lane .isub a)) false s

/-- VIMUL (06 R219; 22 R784). -/
def execVimul (k : CoreId) (u : Bool) (a : V3) (s : State) : Res :=
  issueNamed k.num (vecSlot u) (.vec (.lane .imul a)) false s

/-- VAND (06 R219; 22 R784). -/
def execVand (k : CoreId) (u : Bool) (a : V3) (s : State) : Res :=
  issueNamed k.num (vecSlot u) (.vec (.lane .and a)) false s

/-- VOR (06 R219; 22 R784). -/
def execVor (k : CoreId) (u : Bool) (a : V3) (s : State) : Res :=
  issueNamed k.num (vecSlot u) (.vec (.lane .or a)) false s

/-- VXOR (06 R219; 22 R784). -/
def execVxor (k : CoreId) (u : Bool) (a : V3) (s : State) : Res :=
  issueNamed k.num (vecSlot u) (.vec (.lane .xor a)) false s

/-- VSHL (06 R219; 22 R784). -/
def execVshl (k : CoreId) (u : Bool) (a : V3) (s : State) : Res :=
  issueNamed k.num (vecSlot u) (.vec (.lane .shl a)) false s

/-- VSHR (06 R219; 22 R784). -/
def execVshr (k : CoreId) (u : Bool) (a : V3) (s : State) : Res :=
  issueNamed k.num (vecSlot u) (.vec (.lane .shr a)) false s

/-- VSRA (06 R219; 22 R784). -/
def execVsra (k : CoreId) (u : Bool) (a : V3) (s : State) : Res :=
  issueNamed k.num (vecSlot u) (.vec (.lane .sra a)) false s

/-- VSHLI (06 R219; 22 R784). -/
def execVshli (k : CoreId) (u : Bool) (a : V3) (s : State) : Res :=
  issueNamed k.num (vecSlot u) (.vec (.lane .shli a)) false s

/-- VSHRI (06 R219; 22 R784). -/
def execVshri (k : CoreId) (u : Bool) (a : V3) (s : State) : Res :=
  issueNamed k.num (vecSlot u) (.vec (.lane .shri a)) false s

/-- VSRAI (06 R219; 22 R784). -/
def execVsrai (k : CoreId) (u : Bool) (a : V3) (s : State) : Res :=
  issueNamed k.num (vecSlot u) (.vec (.lane .srai a)) false s

/-- VCMP (06 R224). -/
def execVcmp (k : CoreId) (u : Bool) (cond : BitVec 3) (a : MD) (s : State) : Res :=
  issueNamed k.num (vecSlot u) (.vec (.cmp cond a)) false s

/-- VCLASS (06 R219; 22 R786). -/
def execVclass (k : CoreId) (u : Bool) (a : CL) (s : State) : Res :=
  issueNamed k.num (vecSlot u) (.vec (.cls a)) false s

/-- MAND (22 R784). -/
def execMand (k : CoreId) (u : Bool) (a : ML) (s : State) : Res :=
  issueNamed k.num (vecSlot u) (.vec (.mlogic .and a)) false s

/-- MOR (22 R784). -/
def execMor (k : CoreId) (u : Bool) (a : ML) (s : State) : Res :=
  issueNamed k.num (vecSlot u) (.vec (.mlogic .or a)) false s

/-- MXOR (22 R784). -/
def execMxor (k : CoreId) (u : Bool) (a : ML) (s : State) : Res :=
  issueNamed k.num (vecSlot u) (.vec (.mlogic .xor a)) false s

/-- MANDN (22 R784). -/
def execMandn (k : CoreId) (u : Bool) (a : ML) (s : State) : Res :=
  issueNamed k.num (vecSlot u) (.vec (.mlogic .andn a)) false s

/-- VACC (06 R225, R226; 04 R159). -/
def execVacc (k : CoreId) (u : Bool) (form : BitVec 3) (a : AC) (s : State) : Res :=
  issueNamed k.num (vecSlot u) (.vec (.acc form a)) false s

/-- VCVT (06 R227). -/
def execVcvt (k : CoreId) (u : Bool) (a : CV) (s : State) : Res :=
  issueNamed k.num (vecSlot u) (.vec (.cvt a)) false s

/-- VCVTN (06 R228). -/
def execVcvtn (k : CoreId) (u : Bool) (format : BitVec 4) (a : NArgs) (s : State) : Res :=
  issueNamed k.num (vecSlot u) (.vec (.cvtn format a)) false s

/-- VCVTW (06 R229). -/
def execVcvtw (k : CoreId) (u : Bool) (format : BitVec 4) (a : WArgs) (s : State) : Res :=
  issueNamed k.num (vecSlot u) (.vec (.cvtw format a)) false s

/-- VBIQ form 0 (13 R514). -/
def execVbiq (k : CoreId) (u : Bool) (sr : Bool) (a : BI) (s : State) : Res :=
  issueNamed k.num (vecSlot u) (.vec (.biq sr a)) false s

/-- VBIQ form 1 (13 R514). -/
def execVbiqMark (k : CoreId) (u : Bool) (a : BI) (s : State) : Res :=
  issueNamed k.num (vecSlot u) (.vec (.biqMark a)) false s

/-- VBIQ form 2 (13 R515). -/
def execVbiqScale (k : CoreId) (u : Bool) (a : V3) (s : State) : Res :=
  issueNamed k.num (vecSlot u) (.vec (.biqScale a)) false s

/-- VBIADD form 0 (13 R514). -/
def execVbiadd (k : CoreId) (u : Bool) (a : V3) (s : State) : Res :=
  issueNamed k.num (vecSlot u) (.vec (.biadd a)) false s

/-- VBIADD form 1 (13 R516). -/
def execVbiaddHeader (k : CoreId) (u : Bool) (a : V3) (s : State) : Res :=
  issueNamed k.num (vecSlot u) (.vec (.biaddHeader a)) false s

/-- VBIDQ (13 R514). -/
def execVbidq (k : CoreId) (u : Bool) (a : BI) (s : State) : Res :=
  issueNamed k.num (vecSlot u) (.vec (.bidq a)) false s

/-- VGUST (06 R232). -/
def execVgust (k : CoreId) (u : Bool) (seed : BitVec 4) (a : GU) (s : State) : Res :=
  issueNamed k.num (vecSlot u) (.vec (.gust seed a)) false s

end Sys2Proof.Machine
end

