-- ==== Sys2Proof/Machine/Dispatch.lean ====
section
/-! DEFINITION. One arm per command: its meaning, or its rejection by name. -/

namespace Sys2Proof.Machine

/-- The effect of one command on everything but the queue. -/
def exec (i : Instr) (s : State) : Host.Outcome State Fault Refusal :=
  match i with
  | .nop k slot => Sys2Proof.Machine.execNop k slot s
  | .b k cond xs target => Sys2Proof.Machine.execB k cond xs target s
  | .loop k xs stop => Sys2Proof.Machine.execLoop k xs stop s
  | .loopi k count offset => Sys2Proof.Machine.execLoopi k count offset s
  | .calm k stepFlag index => Sys2Proof.Machine.execCalm k stepFlag index s
  | .end_ k => Sys2Proof.Machine.execEnd k s
  | .xadd k xd xa xb => Sys2Proof.Machine.execXadd k xd xa xb s
  | .xsub k xd xa xb => Sys2Proof.Machine.execXsub k xd xa xb s
  | .xmul k xd xa xb => Sys2Proof.Machine.execXmul k xd xa xb s
  | .xand k xd xa xb => Sys2Proof.Machine.execXand k xd xa xb s
  | .xor k xd xa xb => Sys2Proof.Machine.execXor k xd xa xb s
  | .xxor k xd xa xb => Sys2Proof.Machine.execXxor k xd xa xb s
  | .xshl k xd xa xb => Sys2Proof.Machine.execXshl k xd xa xb s
  | .xshr k xd xa xb => Sys2Proof.Machine.execXshr k xd xa xb s
  | .xsra k xd xa xb => Sys2Proof.Machine.execXsra k xd xa xb s
  | .xaddi k xd xa imm => Sys2Proof.Machine.execXaddi k xd xa imm s
  | .xli k xd kf imm => Sys2Proof.Machine.execXli k xd kf imm s
  | .trecv k vd tag h xh => Sys2Proof.Machine.execTrecv k vd tag h xh s
  | .trecvs k xr tag inc => Sys2Proof.Machine.execTrecvs k xr tag inc s
  | .srecv k vd port => Sys2Proof.Machine.execSrecv k vd port s
  | .sgo k stream xa => Sys2Proof.Machine.execSgo k stream xa s
  | .gtake k ch xd md => Sys2Proof.Machine.execGtake k ch xd md s
  | .gret k ch => Sys2Proof.Machine.execGret k ch s
  | .matcfg k format accmode systolic xe => Sys2Proof.Machine.execMatcfg k format accmode systolic xe s
  | .wld k xr inc es => Sys2Proof.Machine.execWld k xr inc es s
  | .wswap k => Sys2Proof.Machine.execWswap k s
  | .mmul k e zero swap src source => Sys2Proof.Machine.execMmul k e zero swap src source s
  | .laccadd k e n => Sys2Proof.Machine.execLaccadd k e n s
  | .adrain k e port bf part last => Sys2Proof.Machine.execAdrain k e port bf part last s
  | .drainRowOffer k port => Sys2Proof.Machine.execDrainRowOffer k port s
  | .rowStallExecute k => Sys2Proof.Machine.execRowStallExecute k s
  | .vrcp k u a => Sys2Proof.Machine.execVrcp k u a s
  | .vsqrt k u a => Sys2Proof.Machine.execVsqrt k u a s
  | .vrsqrt k u a => Sys2Proof.Machine.execVrsqrt k u a s
  | .vdiv k u a => Sys2Proof.Machine.execVdiv k u a s
  | .vexp k u a => Sys2Proof.Machine.execVexp k u a s
  | .vexp2 k u a => Sys2Proof.Machine.execVexp2 k u a s
  | .vlog k u a => Sys2Proof.Machine.execVlog k u a s
  | .vlog2 k u a => Sys2Proof.Machine.execVlog2 k u a s
  | .vtanh k u a => Sys2Proof.Machine.execVtanh k u a s
  | .vsigm k u a => Sys2Proof.Machine.execVsigm k u a s
  | .verf k u a => Sys2Proof.Machine.execVerf k u a s
  | .vsin k u a => Sys2Proof.Machine.execVsin k u a s
  | .vcos k u a => Sys2Proof.Machine.execVcos k u a s
  | .vadd k u rm a => Sys2Proof.Machine.execVadd k u rm a s
  | .vsub k u rm a => Sys2Proof.Machine.execVsub k u rm a s
  | .vmul k u rm a => Sys2Proof.Machine.execVmul k u rm a s
  | .vfma k u a => Sys2Proof.Machine.execVfma k u a s
  | .vfms k u a => Sys2Proof.Machine.execVfms k u a s
  | .vfnma k u a => Sys2Proof.Machine.execVfnma k u a s
  | .vmin k u a => Sys2Proof.Machine.execVmin k u a s
  | .vmax k u a => Sys2Proof.Machine.execVmax k u a s
  | .vabs k u a => Sys2Proof.Machine.execVabs k u a s
  | .vneg k u a => Sys2Proof.Machine.execVneg k u a s
  | .vmov k u a => Sys2Proof.Machine.execVmov k u a s
  | .vbcast k u a => Sys2Proof.Machine.execVbcast k u a s
  | .vsel k u a => Sys2Proof.Machine.execVsel k u a s
  | .vpfmt k u f => Sys2Proof.Machine.execVpfmt k u f s
  | .viadd k u a => Sys2Proof.Machine.execViadd k u a s
  | .visub k u a => Sys2Proof.Machine.execVisub k u a s
  | .vimul k u a => Sys2Proof.Machine.execVimul k u a s
  | .vand k u a => Sys2Proof.Machine.execVand k u a s
  | .vor k u a => Sys2Proof.Machine.execVor k u a s
  | .vxor k u a => Sys2Proof.Machine.execVxor k u a s
  | .vshl k u a => Sys2Proof.Machine.execVshl k u a s
  | .vshr k u a => Sys2Proof.Machine.execVshr k u a s
  | .vsra k u a => Sys2Proof.Machine.execVsra k u a s
  | .vshli k u a => Sys2Proof.Machine.execVshli k u a s
  | .vshri k u a => Sys2Proof.Machine.execVshri k u a s
  | .vsrai k u a => Sys2Proof.Machine.execVsrai k u a s
  | .vcmp k u cond a => Sys2Proof.Machine.execVcmp k u cond a s
  | .vclass k u a => Sys2Proof.Machine.execVclass k u a s
  | .mand k u a => Sys2Proof.Machine.execMand k u a s
  | .mor k u a => Sys2Proof.Machine.execMor k u a s
  | .mxor k u a => Sys2Proof.Machine.execMxor k u a s
  | .mandn k u a => Sys2Proof.Machine.execMandn k u a s
  | .vacc k u form a => Sys2Proof.Machine.execVacc k u form a s
  | .vcvt k u a => Sys2Proof.Machine.execVcvt k u a s
  | .vcvtn k u format a => Sys2Proof.Machine.execVcvtn k u format a s
  | .vcvtw k u format a => Sys2Proof.Machine.execVcvtw k u format a s
  | .vbiq k u sr a => Sys2Proof.Machine.execVbiq k u sr a s
  | .vbiqMark k u a => Sys2Proof.Machine.execVbiqMark k u a s
  | .vbiqScale k u a => Sys2Proof.Machine.execVbiqScale k u a s
  | .vbiadd k u a => Sys2Proof.Machine.execVbiadd k u a s
  | .vbiaddHeader k u a => Sys2Proof.Machine.execVbiaddHeader k u a s
  | .vbidq k u a => Sys2Proof.Machine.execVbidq k u a s
  | .vgust k u seed a => Sys2Proof.Machine.execVgust k u seed a s
  | .rsum k a => Sys2Proof.Machine.execRsum k a s
  | .rsumi k a => Sys2Proof.Machine.execRsumi k a s
  | .rmax k a => Sys2Proof.Machine.execRmax k a s
  | .rmin k a => Sys2Proof.Machine.execRmin k a s
  | .rargmax k a => Sys2Proof.Machine.execRargmax k a s
  | .rargmin k a => Sys2Proof.Machine.execRargmin k a s
  | .rcnt k a => Sys2Proof.Machine.execRcnt k a s
  | .sprd k vd xr c inc es => Sys2Proof.Machine.execSprd k vd xr c inc es s
  | .spwr k vs xr inc => Sys2Proof.Machine.execSpwr k vs xr inc s
  | .rowcmp k w xr md vc xk2 es => Sys2Proof.Machine.execRowcmp k w xr md vc xk2 es s
  | .rowcnt k xr mm2 xs wrap rf md ev es => Sys2Proof.Machine.execRowcnt k xr mm2 xs wrap rf md ev es s
  | .cmrd k xc xr => Sys2Proof.Machine.execCmrd k xc xr s
  | .cmwr k xc xr es => Sys2Proof.Machine.execCmwr k xc xr es s
  | .cmcnt k xc mm2 xs wrap ev => Sys2Proof.Machine.execCmcnt k xc mm2 xs wrap ev s
  | .rrd k vd xa => Sys2Proof.Machine.execRrd k vd xa s
  | .rwr k vs xa => Sys2Proof.Machine.execRwr k vs xa s
  | .msend k n xd len1 route group => Sys2Proof.Machine.execMsend k n xd len1 route group s
  | .stallDeadline k => Sys2Proof.Machine.execStallDeadline k s
  | .faultStopComplete p => Sys2Proof.Machine.execFaultStopComplete p s
  | .lateFault k => Sys2Proof.Machine.execLateFault k s
  | .coreLull k => Sys2Proof.Machine.execCoreLull k s
  | .coreWake k => Sys2Proof.Machine.execCoreWake k s
  | .calmReport k => Sys2Proof.Machine.execCalmReport k s
  | .bankLull b cc => Sys2Proof.Machine.execBankLull b cc s
  | .bankWake b => Sys2Proof.Machine.execBankWake b s
  | .bankOff h b => Sys2Proof.Machine.execBankOff h b s
  | .bankPowerDown b => Sys2Proof.Machine.execBankPowerDown b s
  | .bankOn h b => Sys2Proof.Machine.execBankOn h b s
  | .bankReady b => Sys2Proof.Machine.execBankReady b s
  | .moveExecute k bank cc ecc => Sys2Proof.Machine.execMoveExecute k bank cc ecc s
  | .cmrdDestinationWrite k bank => Sys2Proof.Machine.execCmrdDestinationWrite k bank s
  | .remoteRequestServe c cc ecc => Sys2Proof.Machine.execRemoteRequestServe c cc ecc s
  | .remoteReply k => Sys2Proof.Machine.execRemoteReply k s
  | .streamRowIssue c stream cc ecc => Sys2Proof.Machine.execStreamRowIssue c stream cc ecc s
  | .streamRowDeliver c stream cc host marks => Sys2Proof.Machine.execStreamRowDeliver c stream cc host marks s
  | .streamRowAck c stream host => Sys2Proof.Machine.execStreamRowAck c stream host s
  | .gddr7Slot c chan ecc => Sys2Proof.Machine.execGddr7Slot c chan ecc s
  | .gddr7Refresh c chan => Sys2Proof.Machine.execGddr7Refresh c chan s
  | .pageZeroFill p page => Sys2Proof.Machine.execPageZeroFill p page s
  | .pageTableWrite h p data => Sys2Proof.Machine.execPageTableWrite h p data s
  | .pfAck h p data => Sys2Proof.Machine.execPfAck h p data s
  | .priResponse h c stream success => Sys2Proof.Machine.execPriResponse h c stream success s
  | .atsInvalidate h pasid page => Sys2Proof.Machine.execAtsInvalidate h pasid page s
  | .invalidateCompletion h pasid page => Sys2Proof.Machine.execInvalidateCompletion h pasid page s
  | .pfDeadline c stream => Sys2Proof.Machine.execPfDeadline c stream s
  | .meshRowForward c link cc => Sys2Proof.Machine.execMeshRowForward c link cc s
  | .staticRouteForward c input => Sys2Proof.Machine.execStaticRouteForward c input s
  | .messageEject c lcore marks => Sys2Proof.Machine.execMessageEject c lcore marks s
  | .dropReport c input lane => Sys2Proof.Machine.execDropReport c input lane s
  | .mcastMemberFence k group => Sys2Proof.Machine.execMcastMemberFence k group s
  | .combine c route => Sys2Proof.Machine.execCombine c route s
  | .combineTimeout c route => Sys2Proof.Machine.execCombineTimeout c route s
  | .ringPoll p reads => Sys2Proof.Machine.execRingPoll p reads s
  | .ringRowsDeliver r cc rows => Sys2Proof.Machine.execRingRowsDeliver r cc rows s
  | .gatherSlotWrite c ch cc => Sys2Proof.Machine.execGatherSlotWrite c ch cc s
  | .gatherDeadline c ch => Sys2Proof.Machine.execGatherDeadline c ch s
  | .batchRelease c ch cc => Sys2Proof.Machine.execBatchRelease c ch cc s
  | .batchReturn k ch => Sys2Proof.Machine.execBatchReturn k ch s
  | .completionPost c ch cc ok ecc => Sys2Proof.Machine.execCompletionPost c ch cc ok ecc s
  | .bufferFree c ch cc => Sys2Proof.Machine.execBufferFree c ch cc s
  | .msixMessage h vector => Sys2Proof.Machine.execMsixMessage h vector s
  | .msixUnmask h vector => Sys2Proof.Machine.execMsixUnmask h vector s
  | .bar2Read h offset bytes ecc0 ecc1 => Sys2Proof.Machine.execBar2Read h offset bytes ecc0 ecc1 s
  | .bar2Write h offset data => Sys2Proof.Machine.execBar2Write h offset data s
  | .ringEnable h r => Sys2Proof.Machine.execRingEnable h r s
  | .ringDisable h r => Sys2Proof.Machine.execRingDisable h r s
  | .hReset h cause => Sys2Proof.Machine.execHReset h cause s
  | .holdEnd h link => Sys2Proof.Machine.execHoldEnd h link s
  | .holdExpire h => Sys2Proof.Machine.execHoldExpire h s
  | .d3hotEntry h => Sys2Proof.Machine.execD3hotEntry h s
  | .d0Return h => Sys2Proof.Machine.execD0Return h s
  | .devImgLoad h => Sys2Proof.Machine.execDevImgLoad h s
  | .devImgVerify h => Sys2Proof.Machine.execDevImgVerify h s
  | .devImgDefaultLoad h => Sys2Proof.Machine.execDevImgDefaultLoad h s
  | .devImgDefaultVerify h => Sys2Proof.Machine.execDevImgDefaultVerify h s
  | .defaultImageCopyEnd => Sys2Proof.Machine.execDefaultImageCopyEnd s
  | .partImgLoad h p => Sys2Proof.Machine.execPartImgLoad h p s
  | .partImgVerify h p => Sys2Proof.Machine.execPartImgVerify h p s
  | .imageChecksEnd => Sys2Proof.Machine.execImageChecksEnd s
  | .imageApplyEnd => Sys2Proof.Machine.execImageApplyEnd s
  | .applyFailure code => Sys2Proof.Machine.execApplyFailure code s
  | .start h p => Sys2Proof.Machine.execStart h p s
  | .stop h p => Sys2Proof.Machine.execStop h p s
  | .stopDeadline p => Sys2Proof.Machine.execStopDeadline p s
  | .abort h p => Sys2Proof.Machine.execAbort h p s
  | .pause h p => Sys2Proof.Machine.execPause h p s
  | .continue_ h p => Sys2Proof.Machine.execContinue h p s
  | .freeze h p => Sys2Proof.Machine.execFreeze h p s
  | .thaw h p => Sys2Proof.Machine.execThaw h p s
  | .save h p => Sys2Proof.Machine.execSave h p s
  | .saveEnd p => Sys2Proof.Machine.execSaveEnd p s
  | .dump h p => Sys2Proof.Machine.execDump h p s
  | .dumpEnd p => Sys2Proof.Machine.execDumpEnd p s
  | .restore h p => Sys2Proof.Machine.execRestore h p s
  | .restoreEnd p => Sys2Proof.Machine.execRestoreEnd p s
  | .freqChangeCalm h p target => Sys2Proof.Machine.execFreqChangeCalm h p target s
  | .freqChangeImmediate h p target => Sys2Proof.Machine.execFreqChangeImmediate h p target s
  | .clockGate unit => Sys2Proof.Machine.execClockGate unit s
  | .clockRestart unit => Sys2Proof.Machine.execClockRestart unit s
  | .thermalSample sensor reading => Sys2Proof.Machine.execThermalSample sensor reading s
  | .ptpSync f offset => Sys2Proof.Machine.execPtpSync f offset s
  | .ptpFrame f slave => Sys2Proof.Machine.execPtpFrame f slave s
  | .syncTimeout => Sys2Proof.Machine.execSyncTimeout s
  | .referenceLoss ref => Sys2Proof.Machine.execReferenceLoss ref s
  | .referenceRestore ref => Sys2Proof.Machine.execReferenceRestore ref s
  | .generatorRelock c => Sys2Proof.Machine.execGeneratorRelock c s
  | .ppsOut => Sys2Proof.Machine.execPpsOut s
  | .timeCapture => Sys2Proof.Machine.execTimeCapture s
  | .linkUp f => Sys2Proof.Machine.execLinkUp f s
  | .linkDown f => Sys2Proof.Machine.execLinkDown f s
  | .linkHoldExpire f => Sys2Proof.Machine.execLinkHoldExpire f s
  | .adminDown h f => Sys2Proof.Machine.execAdminDown h f s
  | .fabricMessageComplete f lane => Sys2Proof.Machine.execFabricMessageComplete f lane s
  | .txSessionOpen f dev => Sys2Proof.Machine.execTxSessionOpen f dev s
  | .windowOpen f window => Sys2Proof.Machine.execWindowOpen f window s
  | .windowClose f window => Sys2Proof.Machine.execWindowClose f window s
  | .periodBoundary => Sys2Proof.Machine.execPeriodBoundary s
  | .windowsSuspend => Sys2Proof.Machine.execWindowsSuspend s
  | .dataFrameReceive f bytes corrected => Sys2Proof.Machine.execDataFrameReceive f bytes corrected s
  | .dropFrameReceive f bytes corrected => Sys2Proof.Machine.execDropFrameReceive f bytes corrected s
  | .ackFrameReceive f bytes corrected => Sys2Proof.Machine.execAckFrameReceive f bytes corrected s
  | .syncFrameReceive f bytes corrected => Sys2Proof.Machine.execSyncFrameReceive f bytes corrected s
  | .frameDiscard f why corrected => Sys2Proof.Machine.execFrameDiscard f why corrected s
  | .frameDeliver f dev => Sys2Proof.Machine.execFrameDeliver f dev s
  | .twinDeadline p => Sys2Proof.Machine.execTwinDeadline p s
  | .ffClear h rec code => Sys2Proof.Machine.execFfClear h rec code s
  | .registerWrite h bar offset data enables => Sys2Proof.Machine.execRegisterWrite h bar offset data enables s
  | .lowHalfRead h bar offset => Sys2Proof.Machine.execLowHalfRead h bar offset s
  | .highHalfRead h offset => Sys2Proof.Machine.execHighHalfRead h offset s
  | .wideRead h bar offset => Sys2Proof.Machine.execWideRead h bar offset s
  | .pReset env => Sys2Proof.Machine.execPReset env s
  | .fReset cause env => Sys2Proof.Machine.execFReset cause env s
  | .mReset env => Sys2Proof.Machine.execMReset env s
  | .clusterPowerUp c => Sys2Proof.Machine.execClusterPowerUp c s
  | .standbyEntry => Sys2Proof.Machine.execStandbyEntry s
  | .standbyExit env => Sys2Proof.Machine.execStandbyExit env s
  | .flashRecordCommit readBackOk => Sys2Proof.Machine.execFlashRecordCommit readBackOk s
  | .flashTimeout => Sys2Proof.Machine.execFlashTimeout s
  | .i3cEntry addr => Sys2Proof.Machine.execI3cEntry addr s
  | .rstact => Sys2Proof.Machine.execRstact s
  | .setEndpointId eid => Sys2Proof.Machine.execSetEndpointId eid s
  | .getEndpointId => Sys2Proof.Machine.execGetEndpointId s
  | .getMctpVersionSupport mtype => Sys2Proof.Machine.execGetMctpVersionSupport mtype s
  | .getMessageTypeSupport => Sys2Proof.Machine.execGetMessageTypeSupport s
  | .getVendorDefinedMessageSupport selector => Sys2Proof.Machine.execGetVendorDefinedMessageSupport selector s
  | .pldmBaseDiscovery command => Sys2Proof.Machine.execPldmBaseDiscovery command s
  | .getSensorReading sensor => Sys2Proof.Machine.execGetSensorReading sensor s
  | .getStateSensorReadings sensor => Sys2Proof.Machine.execGetStateSensorReadings sensor s
  | .setEventReceiver eid => Sys2Proof.Machine.execSetEventReceiver eid s
  | .passComponentTable component size => Sys2Proof.Machine.execPassComponentTable component size s
  | .updateComponent component size => Sys2Proof.Machine.execUpdateComponent component size s
  | .firmwareData offset data => Sys2Proof.Machine.execFirmwareData offset data s
  | .verifyComplete => Sys2Proof.Machine.execVerifyComplete s
  | .applyComplete => Sys2Proof.Machine.execApplyComplete s
  | .activateFirmware component selfContained => Sys2Proof.Machine.execActivateFirmware component selfContained s
  | .getVersion conn => Sys2Proof.Machine.execGetVersion conn s
  | .getCapabilities conn => Sys2Proof.Machine.execGetCapabilities conn s
  | .negotiateAlgorithms conn offer => Sys2Proof.Machine.execNegotiateAlgorithms conn offer s
  | .getDigests conn => Sys2Proof.Machine.execGetDigests conn s
  | .getCertificate conn slot => Sys2Proof.Machine.execGetCertificate conn slot s
  | .challenge conn slot nonce => Sys2Proof.Machine.execChallenge conn slot nonce s
  | .getMeasurements conn index nonce => Sys2Proof.Machine.execGetMeasurements conn index nonce s
  | .keyExchange conn => Sys2Proof.Machine.execKeyExchange conn s
  | .finish conn verified root => Sys2Proof.Machine.execFinish conn verified root s
  | .endSession conn => Sys2Proof.Machine.execEndSession conn s
  | .heartbeat conn => Sys2Proof.Machine.execHeartbeat conn s
  | .getStatus => Sys2Proof.Machine.execGetStatus s
  | .getFirstFault => Sys2Proof.Machine.execGetFirstFault s
  | .getLog from_ => Sys2Proof.Machine.execGetLog from_ s
  | .setPrimary inSession port persist => Sys2Proof.Machine.execSetPrimary inSession port persist s
  | .setOwner inSession part port => Sys2Proof.Machine.execSetOwner inSession part port s
  | .enrolImageKey inSession slot key => Sys2Proof.Machine.execEnrolImageKey inSession slot key s
  | .revokeImageKey inSession slot => Sys2Proof.Machine.execRevokeImageKey inSession slot s
  | .raiseFloor inSession target value => Sys2Proof.Machine.execRaiseFloor inSession target value s
  | .macsecKey inSession port an sak ssci salt => Sys2Proof.Machine.execMacsecKey inSession port an sak ssci salt s
  | .setSetting inSession setting => Sys2Proof.Machine.execSetSetting inSession setting s
  | .enrolOwnerRoot inSession root => Sys2Proof.Machine.execEnrolOwnerRoot inSession root s
  | .resetMain inSession env => Sys2Proof.Machine.execResetMain inSession env s
  | .bypass => Sys2Proof.Machine.execBypass s
  | .idcode => Sys2Proof.Machine.execIdcode s
  | .samplePreload pins load => Sys2Proof.Machine.execSamplePreload pins load s
  | .extest => Sys2Proof.Machine.execExtest s
  | .clamp => Sys2Proof.Machine.execClamp s
  | .highz => Sys2Proof.Machine.execHighz s
  | .privateInstruction code response write => Sys2Proof.Machine.execPrivateInstruction code response write s
  | .tapReset low => Sys2Proof.Machine.execTapReset low s
  | .atsTranslationCompletion h who result => Sys2Proof.Machine.execAtsTranslationCompletion h who result s
  | .completionTimeout h who => Sys2Proof.Machine.execCompletionTimeout h who s
  | .abortEnd p => Sys2Proof.Machine.execAbortEnd p s
  | .ideKmMessage h message => Sys2Proof.Machine.execIdeKmMessage h message s

end Sys2Proof.Machine
end

