-- ==== Sys2Proof/Safety.lean ====
section
/-! DEFINITION. What claims are stated in: the invariant of the memories, the command of a slot's operation, and when a core issues a word that holds one operation. -/

namespace Sys2Proof.Machine

/-- The three byte memories have their canonical form. -/
def State.memOk (s : State) : Prop := s.spMem.wf ∧ s.cmMem.wf ∧ s.dmMem.wf

/-! ## The command of an operation of a slot -/

/-- The command of a three-register operation of the CTL slot. -/
def xCommand (k : CoreId) (xd xa xb : BitVec 5) : XOp → Instr
  | .add => .xadd k xd xa xb
  | .sub => .xsub k xd xa xb
  | .mul => .xmul k xd xa xb
  | .and => .xand k xd xa xb
  | .or => .xor k xd xa xb
  | .xor => .xxor k xd xa xb
  | .shl => .xshl k xd xa xb
  | .shr => .xshr k xd xa xb
  | .sra => .xsra k xd xa xb

/-- The command of an operation of the CTL slot. -/
def ctlCommand (k : CoreId) : CtlOp → Instr
  | .nop => .nop k 0
  | .b cond xs target => .b k cond xs target
  | .loop xs stop => .loop k xs stop
  | .loopi count offset => .loopi k count offset
  | .calm stepFlag index => .calm k stepFlag index
  | .end_ => .end_ k
  | .x o xd xa xb => xCommand k xd xa xb o
  | .xaddi xd xa imm => .xaddi k xd xa imm
  | .xli xd kf imm => .xli k xd kf imm

/-- The command of an operation of the SIN slot. -/
def sinCommand (k : CoreId) : SinOp → Instr
  | .nop => .nop k 1
  | .trecv vd tag h xh => .trecv k vd tag h xh
  | .trecvs xr tag inc => .trecvs k xr tag inc
  | .srecv vd port => .srecv k vd port
  | .sgo st xa => .sgo k st xa
  | .gtake ch xd md => .gtake k ch xd md
  | .gret ch => .gret k ch

/-- The command of an operation of the MAT slot; no bit error strikes what it reads. -/
def matCommand (k : CoreId) : MatIns → Instr
  | .nop => .nop k 2
  | .matcfg format accmode systolic xe => .matcfg k format accmode systolic xe
  | .wld xr inc => .wld k xr inc []
  | .wswap => .wswap k
  | .mmul e zf swap src source => .mmul k e zf swap src source
  | .laccadd e n => .laccadd k e n
  | .adrain e port bf part last => .adrain k e port bf part last

/-- The command of a function of latency row 7. -/
def fnCommand (k : CoreId) (u : Bool) (a : V3) : VFn → Instr
  | .rcp => .vrcp k u a
  | .sqrt => .vsqrt k u a
  | .rsqrt => .vrsqrt k u a
  | .div => .vdiv k u a
  | .exp => .vexp k u a
  | .exp2 => .vexp2 k u a
  | .log => .vlog k u a
  | .log2 => .vlog2 k u a
  | .tanh => .vtanh k u a
  | .sigm => .vsigm k u a
  | .erf => .verf k u a
  | .sin => .vsin k u a
  | .cos => .vcos k u a

/-- The command of a lane operation of format V3. -/
def laneCommand (k : CoreId) (u : Bool) (a : V3) : VLane → Instr
  | .min => .vmin k u a
  | .max => .vmax k u a
  | .abs => .vabs k u a
  | .neg => .vneg k u a
  | .mov => .vmov k u a
  | .bcast => .vbcast k u a
  | .sel => .vsel k u a
  | .iadd => .viadd k u a
  | .isub => .visub k u a
  | .imul => .vimul k u a
  | .and => .vand k u a
  | .or => .vor k u a
  | .xor => .vxor k u a
  | .shl => .vshl k u a
  | .shr => .vshr k u a
  | .sra => .vsra k u a
  | .shli => .vshli k u a
  | .shri => .vshri k u a
  | .srai => .vsrai k u a

/-- The command of an operation of a VEC slot; `u` tells VEC1 from VEC0. -/
def vecCommand (k : CoreId) (u : Bool) : VecOp → Instr
  | .nop => .nop k (vecSlot u)
  | .fn f a => fnCommand k u a f
  | .arith .add rm a => .vadd k u rm a
  | .arith .sub rm a => .vsub k u rm a
  | .arith .mul rm a => .vmul k u rm a
  | .fused .fma a => .vfma k u a
  | .fused .fms a => .vfms k u a
  | .fused .fnma a => .vfnma k u a
  | .lane o a => laneCommand k u a o
  | .pfmt f => .vpfmt k u f
  | .cmp cond a => .vcmp k u cond a
  | .cls a => .vclass k u a
  | .mlogic .and a => .mand k u a
  | .mlogic .or a => .mor k u a
  | .mlogic .xor a => .mxor k u a
  | .mlogic .andn a => .mandn k u a
  | .acc form a => .vacc k u form a
  | .cvt a => .vcvt k u a
  | .cvtn format a => .vcvtn k u format a
  | .cvtw format a => .vcvtw k u format a
  | .biq sr a => .vbiq k u sr a
  | .biqMark a => .vbiqMark k u a
  | .biqScale a => .vbiqScale k u a
  | .biadd a => .vbiadd k u a
  | .biaddHeader a => .vbiaddHeader k u a
  | .bidq a => .vbidq k u a
  | .gust seed a => .vgust k u seed a

/-- The command of an operation of the RED slot. -/
def redCommand (k : CoreId) : RedOp → Instr
  | .nop => .nop k 5
  | .red .sum a => .rsum k a
  | .red .sumi a => .rsumi k a
  | .red .max a => .rmax k a
  | .red .min a => .rmin k a
  | .red .argmax a => .rargmax k a
  | .red .argmin a => .rargmin k a
  | .red .cnt a => .rcnt k a

/-- The command of an operation of the MEM slot; no bit error strikes what it reads. -/
def memCommand (k : CoreId) : MemOp → Instr
  | .nop => .nop k 6
  | .sprd vd xr c inc => .sprd k vd xr c inc []
  | .spwr vs xr inc => .spwr k vs xr inc
  | .rowcmp w xr md vc xk2 => .rowcmp k w xr md vc xk2 []
  | .rowcnt xr mm2 xs wrap rf md ev => .rowcnt k xr mm2 xs wrap rf md ev []
  | .cmrd xc xr => .cmrd k xc xr
  | .cmwr xc xr => .cmwr k xc xr []
  | .cmcnt xc mm2 xs wrap ev => .cmcnt k xc mm2 xs wrap ev
  | .rrd vd xa => .rrd k vd xa
  | .rwr vs xa => .rwr k vs xa

/-- The command of an operation of the MSG slot. -/
def msgCommand (k : CoreId) : MsgOp → Instr
  | .nop => .nop k 7
  | .msend n xd len1 route group => .msend k n xd len1 route group

/-- The slot of an operation, and its command; `u` tells VEC1 from VEC0. -/
def slotCommand (k : CoreId) (u : Bool) : SlotOp → Fin 8 × Instr
  | .ctl o => (0, ctlCommand k o)
  | .sin o => (1, sinCommand k o)
  | .mat o => (2, matCommand k o)
  | .vec o => (vecSlot u, vecCommand k u o)
  | .red o => (5, redCommand k o)
  | .mem o => (6, memCommand k o)
  | .msg o => (7, msgCommand k o)

/-! ## A core that issues a word with one operation -/

/-- The instruction word at a core's PC. -/
def wordAt (c : Core) : IWord := mget 0 c.imem c.pc

/-- The word whose slot `i` holds an operation and whose other slots hold NOP. -/
def loneWord (i : Fin 8) : SlotOp → WordOps
  | .ctl o => { ctl := o }
  | .sin o => { sin := o }
  | .mat o => { mat := o }
  | .vec o => if i = 4 then { vec1 := o } else { vec0 := o }
  | .red o => { red := o }
  | .mem o => { mem := o }
  | .msg o => { msg := o }

/-- Core `n` can spend a cc on the word at its PC: its clock runs, it holds a running task in a partition that runs, no freeze and no calm wait holds it, and no STOP reaction is under way in its cluster (03 R99, R105, R109; 18 R682). -/
structure Fetches (s : State) (n : Nat) : Prop where
  spends : canSpend s n = true
  issues : issuing (getCore s n) = true
  awake : (getCore s n).state ≠ .lull
  free : extFrozen s n = false
  going : (getCore s n).calm = none
  inProgram : (getCore s n).pc < (getCore s n).wordCount
  goesOn : (getClus s (clusOf n)).stopAt = none

/-- A weight load. -/
def isLoad (f : Flight) : Bool :=
  match f.eff with
  | .weights .. => true
  | _ => false

/-- No operation of the core lands in the cc, and no weight load is in flight. -/
def Still (c : Core) : Prop := ∀ f ∈ c.inflight, 1 < f.left ∧ isLoad f = false

/-- Slot `i` of the word at the PC of core `n` holds `o`, and every other slot holds NOP. -/
def Holds (c : Core) (i : Fin 8) (o : SlotOp) : Prop :=
  ∀ j : Fin 8, Decode.slot (wordAt c) j = some (if j = i then o else nopOf j)

/-- Every check of the word at the PC passes and no slot is held, so that it issues (03 R105). -/
structure Passes (s : State) (n : Nat) : Prop where
  checks : firstFail (wordFails s n (getCore s n) (wordAt (getCore s n)) (Decode.word (wordAt (getCore s n)))) = none
  ready : firstHold s n (getCore s n) (Decode.word (wordAt (getCore s n))) = none

/-- Core `n` issues in this cc a word whose slot `i` alone holds an operation, `o`. -/
structure Lone (s : State) (n : Nat) (i : Fin 8) (o : SlotOp) : Prop where
  fetches : Fetches s n
  still : Still (getCore s n)
  word : Holds (getCore s n) i o
  passes : Passes s n

/-- The ages of a core's queue entries after one cc (09 R370). -/
def agedQueues (q : SMap TagQueue) : SMap TagQueue :=
  q.map (fun e => (e.1, { e.2 with entries := e.2.entries.map (fun x => { x with age := x.age - 1 }) }))

/-- A core whose operations in flight have each come one stage nearer to their end (03 R85, R103; 04 R140; 07 R262). -/
def stageCore (c : Core) : Core :=
  { c with
    inflight := c.inflight.map (fun f => { f with left := f.left - 1 })
    mat := { c.mat with set0 := { c.mat.set0 with busy := c.mat.set0.busy - 1 }, set1 := { c.mat.set1 with busy := c.mat.set1.busy - 1 } }
    mem := { c.mem with cntWindows := c.mem.cntWindows.filterMap (fun w => if w.2.2.2 ≤ 1 then none else some (w.1, w.2.1, w.2.2.1, w.2.2.2 - 1)) } }

/-- A core at the end of a cc: its bank slots and its array are free again, and the entries of its queues have aged (04 R173; 07 R262; 09 R370). -/
def closeCc (c : Core) : Core :=
  { c with mat := { c.mat with ran := false }, mem := { c.mem with uses := [] }, tq := agedQueues c.tq }

/-- A core after the cc in which a word of it has issued, beside what the word's operations do: one stage, the end of the cc, the issue count, the next PC and the loop levels (03 R81, R105). -/
def afterWord (c : Core) (next : Nat × List LoopLevel) : Core :=
  let d := closeCc (stageCore c)
  { d with
    ccs := d.ccs + 1
    state := .running
    cause := .none
    slot := 0
    waitIx := 0
    frozenFor := 0
    idleFor := 0
    issued := d.issued + 1
    pc := next.1
    loops := next.2 }

/-- A core whose word has sent operations on their way from a slot: their latencies and effects (03 R85, R797). -/
def launched (c : Core) (slot : Nat) (es : Effs) : Core :=
  { c with inflight := c.inflight ++ es.map (fun e => { left := e.1, slot := slot, pc := c.pc, issue := c.issued, eff := e.2 }) }

/-- The next PC and loop levels after a word without a branch or a loop (03 R89). -/
def nextOf (c : Core) : Nat × List LoopLevel := endOfBody c.pc c.loops

/-- The effects by which a register pair takes a row (03 R84). -/
def pairEffs (vd : BitVec 6) (r : Row) : Effs :=
  [(latRow, .writeV vd.toNat (rowHalf r false) (BitVec.allOnes 64) false), (latRow, .writeV (vd.toNat + 1) (rowHalf r true) (BitVec.allOnes 64) false)]

/-- A core after the post-increment of an address register (22 R769). -/
def incremented (c : Core) (xr : BitVec 5) (inc : BitVec 8) : Core :=
  if inc = 0 then c else setX c xr.toNat (getX c xr.toNat + inc.signExtend 64)

/-- The row number that an X register of a core holds. -/
def rowIn (c : Core) (r : BitVec 5) : Nat := (getX c r.toNat).toNat

/-- A core after the head entry of a tag queue has been taken (09 R369, R388). -/
def entryTaken (c : Core) (t : Nat) : Core := setTq c t (settleQueue { getTq c t with entries := (getTq c t).entries.tail, taken := 0 })

/-- What the slots of the word at the PC of core `n` share. -/
def issueHere (s : State) (n : Nat) : Issue := { n := n, c := getCore s n, pc := (getCore s n).pc, at_ := (getCore s n).issued }

/-- What a VEC or RED operation of the word at the PC of core `n` reads, where no SR operation of the word precedes it (06 R231). -/
def vecSees (s : State) (n : Nat) : VecIn := vecIn s (issueHere s n) 0

/-- A core whose elastic buffer has one more operation, with the longest wait seen (04 R173, R179). -/
def delayed (c : Core) (op : MatOp) : Core :=
  let e : List Flight := c.mat.elastic ++ [{ left := 0, slot := 2, pc := c.pc, issue := c.issued, eff := .mat op }]
  { c with mat := { c.mat with elastic := e, lagMax := max c.mat.lagMax e.length } }

/-- A core after a MATCFG, WLD or WSWAP has taken its place in the elastic buffer, where operations wait there (04 R173). -/
def placed (c : Core) : Core := if c.mat.elastic.isEmpty then c else delayed c .place

/-- A row of a core's scratchpad can be read without an error and without a write of the same cc: its bank has power (07 R243, R278, R284). -/
def Readable (c : Core) (row : Nat) : Prop := mget {} c.mem.ecc row = {} ∧ c.mem.uses = [] ∧ (mget {} c.mem.banks (spBank row)).ready = true

/-- A core `n` after its word has read rows: their banks remember the cc of the use (07 R279). -/
def rowsRead (s : State) (n : Nat) (c : Core) (rows : List Nat) : Core :=
  { c with mem := { c.mem with lastUse := rows.foldl (fun m r => mset m (spBank r) (c.ccs + 1, (getClus s (clusOf n)).mem.cc)) c.mem.lastUse } }

end Sys2Proof.Machine
end

