-- ==== Sys2Proof/Certificates/Slice0/Obligations.lean ====
section
/-! DEFINITION. The statements for the provers. -/

open Sys2Proof Sys2Proof.Machine

/-- A command at the front of the queue is run on the state with the queue's rest. That the block takes its commands from one queue, first in first out, is the model's form (log entry 1). -/
def Obligations.StepRunsFront : Prop :=  ∀ (c : Instr) (rest : List Instr) (s : State), s.pending = c :: rest → step s = exec c { s with pending := rest }

/-- On an empty queue the block spends one 2 ns cycle of its time base: the counter goes up by 2 ns and the correction of TIME_ADJ, a pulse on PPS_OUT that is over falls, and nothing else changes. That the step without a command is such a cycle is the model's choice (log entry 1). -/
def Obligations.IdleStepTicks : Prop :=  ∀ (s : State), s.pending = [] → ∃ t, step s = .next (settlePps { s with time := t }) ∧ (s.pins.ppsHigh = false → step s = .next { s with time := t }) ∧
    t = { s.time with now := t.now, frac := t.frac } ∧
    ((t.now.toNat * 2 ^ 32 + t.frac.toNat : Nat) : Int) = (((s.time.now.toNat * 2 ^ 32 + s.time.frac.toNat : Nat) : Int) + 2 * 2 ^ 32 + s.time.adj) % 2 ^ 96

/-- Every command of the table answers a next state, from every state and for every operand: no command stops the block. -/
def Obligations.EveryCommandCompletes : Prop :=  ∀ (c : Instr) (s : State), ∃ t, exec c s = .next t

/-- No command touches the queue of waiting commands. -/
def Obligations.ExecKeepsQueue : Prop :=  ∀ (c : Instr) (s t : State), exec c s = .next t → t.pending = s.pending

/-- Every step keeps the canonical form of the three memories. -/
def Obligations.StepKeepsMemories : Prop :=  ∀ (s t : State), s.memOk → step s = .next t → t.memOk

/-- The memories have their canonical form at reset. -/
def Obligations.ResetMemories : Prop := State.reset.memOk

/-- Reset: nothing waits, memory is empty, every partition is NONE, no core has a task, every port is closed and holds no latch, the time counter is 0 and untrusted, and no fault is recorded. -/
def Obligations.ResetState : Prop :=  State.reset.pending = [] ∧ State.reset.spMem = [] ∧ State.reset.cmMem = [] ∧ State.reset.dmMem = [] ∧
    (∀ p, (getPart State.reset p).state = .none) ∧ (∀ n, (getCore State.reset n).state = .noTask ∧ ∀ r, getX (getCore State.reset n) r = 0) ∧
    (∀ c, (getClus State.reset c).ff.latch.valid = false) ∧ State.reset.ff.latch.valid = false ∧
    (∀ h, portAnswers State.reset h = false ∧ (getPort State.reset h).latch = none) ∧ State.reset.time.now = 0 ∧ State.reset.time.trusted = false ∧
    State.reset.loader = none ∧ State.reset.out = []

/-- Every word of a slot that decodes is the encoding of what it decodes to: no bit of a slot word is dropped. -/
def Obligations.SlotWordReencodes : Prop :=  ∀ (raw : IWord) (i : Fin 8) (o : SlotOp), Decode.slot raw i = some o → Decode.fits i o = true ∧ Decode.encSlot o = Decode.slotOf raw i

/-- Every operation that a slot can hold is decoded from its encoding, with every operand at every value. -/
def Obligations.SlotOpDecodes : Prop :=  ∀ (raw : IWord) (i : Fin 8) (o : SlotOp), Decode.fits i o = true → Decode.slotOf raw i = Decode.encSlot o → Decode.slot raw i = some o

/-- No row of an instruction slot writes device memory or cluster memory in its own cc, whatever its word holds. -/
def Obligations.CoreRowsKeepFarMemories : Prop :=  ∀ (s t : State) (k : CoreId) (u : Bool) (o : SlotOp), exec (slotCommand k u o).2 s = .next t → t.dmMem = s.dmMem ∧ t.cmMem = s.cmMem

/-- Every instruction row spends one cc of its core on the word at the PC, whatever the word's other slots hold: a failed check makes the word a fault of the core, a slot that is not ready freezes it, and otherwise all eight slots issue (03 R81, R102, R105). -/
def Obligations.EveryRowEvaluatesItsWord : Prop :=  ∀ (s : State) (k : CoreId) (u : Bool) (o : SlotOp), let c := getCore s k.num
    Fetches s k.num → Decode.slot (wordAt c) (slotCommand k u o).1 = some o →
    let w := Decode.word (wordAt c)
    let t := startCc s k.num
    let i := issueHere t k.num
    exec (slotCommand k u o).2 s = .next (stopLate (match firstFail (wordFails s k.num c (wordAt c) w) with
      | some f => failWord t i w f
      | none => match firstHold s k.num c w with
        | some (slot, h) => freezeWord t i w slot h
        | none => issueWord t i w) k.num)

/-- A result on its way reaches its register in the cc in which its latency has passed: under its mask for V and M registers; a row written to a bank without power changes nothing there (03 R85, R103; 06 R213; 07 R283, R284). -/
def Obligations.ResultsLand : Prop :=  ∀ (s : State) (k : CoreId) (i : Fin 8) (f : Flight), let c := getCore s k.num
    c.inflight = [f] → f.left = 1 → c.mat.elastic = [] → Fetches s k.num → Holds c i (nopOf i) → Passes s k.num →
    let d : Core := { c with inflight := [] }
    match f.eff with
    | .writeV r v m zm => exec (.nop k i) s = .next (setCore s k.num (afterWord (setV d r (mergeLanes (getV c r) v m zm)) (nextOf c)))
    | .mergeV r v keep => exec (.nop k i) s = .next (setCore s k.num (afterWord (setV d r ((getV c r &&& keep) ||| (v &&& ~~~keep))) (nextOf c)))
    | .writeM r v m zm => exec (.nop k i) s = .next (setCore s k.num (afterWord (setM d r (mergeMask (getM c r) v m zm)) (nextOf c)))
    | .writeX r v => exec (.nop k i) s = .next (setCore s k.num (afterWord (setX d r v) (nextOf c)))
    | .vecEvents ev => exec (.nop k i) s = .next (setCore s k.num (afterWord (vecFlagEvents d ev) (nextOf c)))
    | .accClear => exec (.nop k i) s = .next (setCore s k.num (afterWord { d with mat := { d.mat with acc := [] } } (nextOf c)))
    | .rowWrite row v produce => ((mget {} c.mem.banks (spBank row)).ready = false → ∃ t, exec (.nop k i) s = .next t ∧ t.spMem = s.spMem) ∧
        ((mget {} c.mem.banks (spBank row)).ready = true → ∃ t, exec (.nop k i) s = .next t ∧ spRow t k.num row = v ∧ mget false (getCore t k.num).mem.ovf row = false ∧
        (produce = true → mget false (getCore t k.num).mem.valid row = true) ∧
        (∀ a, (a < spAddr k.num row ∨ spAddr k.num row + 512 ≤ a) → readByte t.spMem a = readByte s.spMem a) ∧ t.cmMem = s.cmMem ∧ t.dmMem = s.dmMem)
    | _ => True

/-- The integer and logical operations on V registers, lane by lane: the result goes to its register under its mask after three issue positions (06 R219; 03 R95). -/
def Obligations.IntegerLanes : Prop :=  ∀ (i : VecIn) (o : VLane) (a : V3), a.x0 = false → o ∈ [VLane.iadd, .isub, .imul, .and, .or, .xor, .shl, .shr, .sra, .shli, .shri, .srai, .mov, .sel] →
    ∃ v ev, evalVec i (.lane o a) = [(3, .writeV a.vd.toNat v (if o = .sel then BitVec.allOnes 64 else getM i.c a.mm.toNat) a.zm), (3, .vecEvents ev)] ∧
      ev = 0 ∧ ∀ k, k < 64 → (o = .sel ∨ (getM i.c a.mm.toNat).getLsbD k = true) → let x : BitVec 32 := (getV i.c a.va.toNat).extractLsb' (32 * k) 32
        let y : BitVec 32 := (getV i.c a.vb.toNat).extractLsb' (32 * k) 32
        let n := y.toNat % 32
        let m := a.vb.toNat % 32
        v.extractLsb' (32 * k) 32 = (match o with
          | .iadd => x + y
          | .isub => x - y
          | .imul => x * y
          | .and => x &&& y
          | .or => x ||| y
          | .xor => x ^^^ y
          | .shl => x <<< n
          | .shr => x >>> n
          | .sra => x.sshiftRight n
          | .shli => x <<< m
          | .shri => x >>> m
          | .srai => x.sshiftRight m
          | .sel => if (getM i.c a.mm.toNat).getLsbD k then x else y
          | _ => x)

/-- A word with a fault does not issue: no register, no memory of the core and no later word is touched; the fault is latched (03 R105, R106, R129). -/
def Obligations.FaultedWordsDoNotIssue : Prop :=  ∀ (s : State) (k : CoreId) (u : Bool) (o : SlotOp) (f : Fail), let c := getCore s k.num
    Fetches s k.num → Decode.slot (wordAt c) (slotCommand k u o).1 = some o → c.inflight = [] → c.mat.elastic = [] → c.fault.valid = false →
    firstFail (wordFails s k.num c (wordAt c) (Decode.word (wordAt c))) = some f →
    ∃ t, exec (slotCommand k u o).2 s = .next t ∧ (getCore t k.num).pc = c.pc ∧ (getCore t k.num).issued = c.issued ∧ (getCore t k.num).x = c.x ∧
      (getCore t k.num).v = c.v ∧ (getCore t k.num).m = c.m ∧ (getCore t k.num).fault.valid = true ∧ (getCore t k.num).fault.info.code = f.code ∧
      (getCore t k.num).fault.info.pc = c.pc ∧ (getCore t k.num).fault.info.slot = f.slot

/-- CORE_FAULT_INFO latches the core's first fault; a later fault increments CORE_FAULTS and sets OVERFLOW, and leaves the other fields unchanged. -/
def Obligations.FirstFaultIsKept : Prop :=  ∀ (s : State) (n slot code pc : Nat) (issue detail : W64) (u : FUnit), let before := getCore s n
    let after := getCore (faultCore s n slot code pc issue detail u) n
    after.stats.faults = before.stats.faults.bump ∧
    (before.fault.valid = true → after.fault = { before.fault with overflow := true }) ∧
    (before.fault.valid = false → after.fault = { valid := true, overflow := before.fault.overflow, info := { slot := slot, code := code, pc := pc, issue := issue, step := stepOf s (clusOf n), detail := detail } })

/-- A statistic counts every event up to 0xFFFF_FFFF_FFFF; the first event that it cannot record sets PINNED, bit 63 of its 64 bits, and bits 62 to 48 read 0; several events at once count as that many single ones. -/
def Obligations.StatisticsSaturate : Prop :=  ∀ (t : Stat), (t.count ≠ BitVec.allOnes 48 → t.bump = { count := t.count + 1, pinned := t.pinned }) ∧
    (t.count = BitVec.allOnes 48 → t.bump = { count := t.count, pinned := true }) ∧
    (t.add 0 = t ∧ ∀ n, t.add (n + 1) = (t.add n).bump) ∧ t.bits.getLsbD 63 = t.pinned ∧ t.bits.extractLsb' 48 15 = 0 ∧ t.bits.extractLsb' 0 48 = t.count

/-- XADD, XSUB, XMUL, XAND, XOR, XXOR, XSHL, XSHR, XSRA, XADDI, XLI: the destination X register takes the result, and nothing of the state changes beside the core's cc (22 R772). B, LOOP, LOOPI and NOP in every slot: the next PC and the loop levels, and nothing else beside the core's cc (03 R79, R88 to R92; 22 R773). -/
def Obligations.ControlRows : Prop :=
  (∀ (s : State) (k : CoreId) (xd xa xb : BitVec 5), let c := getCore s k.num
    (∀ o : XOp, Lone s k.num 0 (.ctl (.x o xd xa xb)) →
      exec (xCommand k xd xa xb o) s = .next (setCore s k.num (afterWord (setX c xd.toNat (xResult o (getX c xa.toNat) (getX c xb.toNat))) (nextOf c)))) ∧
    (∀ imm, Lone s k.num 0 (.ctl (.xaddi xd xa imm)) →
      exec (.xaddi k xd xa imm) s = .next (setCore s k.num (afterWord (setX c xd.toNat (getX c xa.toNat + imm.signExtend 64)) (nextOf c)))) ∧
    (∀ kf imm, Lone s k.num 0 (.ctl (.xli xd kf imm)) →
      exec (.xli k xd kf imm) s = .next (setCore s k.num (afterWord (setX c xd.toNat (xliResult (getX c xd.toNat) kf imm)) (nextOf c))))) ∧
  (∀ (s : State) (k : CoreId), let c := getCore s k.num
    (∀ cond xs target, Lone s k.num 0 (.ctl (.b cond xs target)) →
      exec (.b k cond xs target) s = .next (setCore s k.num (afterWord c
        (if branchTaken cond (getX c xs.toNat) then (target.toNat, keepLoops target.toNat c.loops) else nextOf c)))) ∧
    (∀ xs stop, Lone s k.num 0 (.ctl (.loop xs stop)) →
      exec (.loop k xs stop) s = .next (setCore s k.num (afterWord c
        (if (getX c xs.toNat).setWidth 32 = (0 : BitVec 32) then (stop.toNat + 1, c.loops)
         else (c.pc + 1, { count := (getX c xs.toNat).setWidth 32, start := c.pc + 1, stop := stop.toNat } :: c.loops))))) ∧
    (∀ count offset, Lone s k.num 0 (.ctl (.loopi count offset)) →
      exec (.loopi k count offset) s = .next (setCore s k.num (afterWord c
        (if count = 0 then (c.pc + offset.toNat + 1, c.loops)
         else (c.pc + 1, { count := count.setWidth 32, start := c.pc + 1, stop := c.pc + offset.toNat } :: c.loops))))) ∧
    (∀ i : Fin 8, Lone s k.num i (nopOf i) → exec (.nop k i) s = .next (setCore s k.num (afterWord c (nextOf c)))))

/-- CALM and END: a CALM leaves its core waiting for its calm point; an END leaves it ended and in Lull, with its queues closed and emptied (03 R94, R109 to R111; 09 R377). The END clause takes a core with nothing in flight and a partition that forms no calm point and has no pending stop. -/
def Obligations.CalmAndEnd : Prop :=  ∀ (s : State) (k : CoreId), let c := getCore s k.num
    (∀ step index, Lone s k.num 0 (.ctl (.calm step index)) →
      exec (.calm k step index) s = .next (setCore s k.num
        { afterWord c (nextOf c) with
          calm := some { index := index, step := step, pc := c.pc, reported := false, issue := c.issued }
          state := .frozen, cause := .calm, waitIx := index.toNat })) ∧
    (Lone s k.num 0 (.ctl .end_) → c.inflight = [] → c.mat.elastic = [] →
      (∀ p, partOfCluster s (clusOf k.num) = some p → (getPart s p).calm = none ∧ (getPart s p).stopPending = false) →
      exec (.end_ k) s = .next (emptyQueues (setCore s k.num
        { afterWord c (nextOf c) with state := .ended, ending := false, stats := { c.stats with lullEntries := c.stats.lullEntries.bump } }) k.num .closed))

/-- Every row of the VEC slots: its results go on their way with their latency; VPFMT sets the packed format at once, and an SR operation counts up GCOUNT (06 R219 to R231, R795; 13 R514). RSUM, RSUMI, RMAX, RMIN, RARGMAX, RARGMIN, RCNT: the results go on their way with their latency (06 R237 to R239). -/
def Obligations.LaneRows : Prop :=
  (∀ (s : State) (k : CoreId) (u : Bool) (o : VecOp), Lone s k.num (vecSlot u) (.vec o) → let c := getCore s k.num
    exec (vecCommand k u o) s = .next (setCore s k.num (afterWord
      { launched c (vecSlot u).val (evalVec (vecSees s k.num) o) with
        packedFp16 := match o with | .pfmt f => f | _ => c.packedFp16
        gcount := if usesSr o then c.gcount + 1 else c.gcount } (nextOf c)))) ∧
  (∀ (s : State) (k : CoreId) (o : RedName) (a : RD), Lone s k.num 5 (.red (.red o a)) → let c := getCore s k.num
    exec (redCommand k (.red o a)) s = .next (setCore s k.num (afterWord (launched c 5 (evalRed (vecSees s k.num) o a)) (nextOf c))))

/-- MATCFG, WLD and WSWAP: the mode, the inactive weight set, the current set; bit errors that come with a WLD strike their rows before it reads them (04 R138 to R144, R163, R164; 07 R276). LACCADD and ADRAIN: they start in the array, or wait in the elastic buffer; an ADRAIN writes its part of the open drain row, and its last part sends the row to its port (04 R158, R167 to R169, R173). -/
def Obligations.ArrayRows : Prop :=
  (∀ (s : State) (k : CoreId), let c := getCore s k.num
    (∀ format accmode systolic xe, Lone s k.num 2 (.mat (.matcfg format accmode systolic xe)) →
      exec (.matcfg k format accmode systolic xe) s = .next (setCore s k.num (afterWord (placed { c with mat := { c.mat with
        mode := { format := format.toNat, accmode := accmode.toNat, systolic := systolic, eLo := signedOf 10 (getX c xe.toNat).toNat }
        acc := if accmode.toNat ≠ c.mat.mode.accmode then [] else c.mat.acc } }) (nextOf c)))) ∧
    (∀ xr inc, Lone s k.num 2 (.mat (.wld xr inc)) → (∀ r ∈ firstRows (rowIn c xr), Readable c r) →
      let lat := 3 + (arrayFmt c.mat.mode.format).cycles
      exec (.wld k xr inc []) s = .next (setCore s k.num (afterWord (launched
        (placed (incremented (rowsRead s k.num { c with mat := modSet c.mat (1 - c.mat.cur) (fun w => { w with busy := lat }) } (firstRows (rowIn c xr))) xr inc)) 2
        [(lat, .weights (1 - c.mat.cur) c.mat.mode.format (rowIn c xr) ((firstRows (rowIn c xr)).map (spRow s k.num)))]) (nextOf c)))) ∧
    (∀ xr inc es, exec (.wld k xr inc es) s = exec (.wld k xr inc []) (strikes s k.num es)) ∧
    (Lone s k.num 2 (.mat .wswap) →
      exec (.wswap k) s = .next (setCore s k.num (afterWord (placed { c with mat := { c.mat with cur := 1 - c.mat.cur } }) (nextOf c))))) ∧
  (∀ (s : State) (k : CoreId), let c := getCore s k.num
    (∀ e n, Lone s k.num 2 (.mat (.laccadd e n)) →
      let addend := laccAddend (getV c (4 * n.toNat)) (getV c (4 * n.toNat + 1)) (getV c (4 * n.toNat + 2)) (getV c (4 * n.toNat + 3))
      exec (.laccadd k e n) s = .next (setCore s k.num (afterWord
        (if mustWait s (issueHere s k.num) then delayed c (.laccadd e.toNat c.mat.mode addend)
         else launched c 2 [(latMat false, .mat (.laccadd e.toNat c.mat.mode addend))]) (nextOf c)))) ∧
    (∀ e port bf part last, Lone s k.num 2 (.mat (.adrain e port bf part last)) →
      let op : MatOp := .adrain e.toNat port.toNat bf part.toNat last c.mat.mode
      exec (.adrain k e port bf part last) s = .next (setCore s k.num (afterWord
        (if mustWait s (issueHere s k.num) || ((runOf s (clusOf k.num)).rowStall && drainBlocked c port.toNat) then delayed c op
         else execDrain c (matFlight (issueHere s k.num) op) e.toNat port.toNat bf part.toNat last c.mat.mode) (nextOf c)))))

/-- MMUL: it starts in the array when its vector is there and the array is free; where the vector comes from a port, the vector is taken from it (04 R141, R142, R145, R146). MMUL whose vector has not come, or that the array does not take at once: in row-stall mode it joins the elastic buffer; in bubble mode it issues a bubble, owes its port a vector, counts a slip and leaves 0x0112 to be found, and a vector that its port has accepted already pays the debt (04 R170, R172, R173). -/
def Obligations.MmulRows : Prop :=
  (∀ (s : State) (k : CoreId) (e : BitVec 8) (zf swap : Bool) (src : BitVec 2) (source : BitVec 12),
    Lone s k.num 2 (.mat (.mmul e zf swap src source)) → mustWait s (issueHere s k.num) = false →
    let c := getCore s k.num
    let ws := (curSet c.mat).rows
    let done (t : State) (vec : Option (Row × Nat)) : State :=
      let d := getCore t k.num
      setCore t k.num (afterWord (launched { d with mat := { d.mat with cur := if swap then 1 - d.mat.cur else d.mat.cur } } 2
        [(latMat c.mat.mode.systolic, .mat (.mmul e.toNat zf c.mat.mode c.mat.cur ws vec none))]) (nextOf c))
    match mmulPort src source with
    | none => exec (.mmul k e zf swap src source) s =
        .next (done s (some (pairRow c (2 * (source.extractLsb' 7 5).toNat), (source.extractLsb' 4 3).toNat)))
    | some port => vecReady c port = true → exec (.mmul k e zf swap src source) s =
        .next (done (takeVec s k.num c.mat.mode.format port).2 (takeVec s k.num c.mat.mode.format port).1)) ∧
  (∀ (s : State) (k : CoreId) (e : BitVec 8) (zf swap : Bool) (src : BitVec 2) (source : BitVec 12) (port : Nat),
    Lone s k.num 2 (.mat (.mmul e zf swap src source)) → mmulPort src source = some port →
    let c := getCore s k.num
    let ws := (curSet c.mat).rows
    let flip (d : Core) : Core := { d with mat := { d.mat with cur := if swap then 1 - d.mat.cur else d.mat.cur } }
    ((runOf s (clusOf k.num)).rowStall = true → (mustWait s (issueHere s k.num) = true ∨ vecReady c port = false) →
      exec (.mmul k e zf swap src source) s = .next (setCore s k.num (afterWord
        (flip (delayed c (.mmul e.toNat zf c.mat.mode c.mat.cur ws none (some port)))) (nextOf c)))) ∧
    ((runOf s (clusOf k.num)).rowStall = false → vecReady c port = false →
      let t := payDebts 64 (setCore s k.num (pushLate
        (launched { c with mat := { c.mat with debts := mmod 0 c.mat.debts port (· + 1), slips := c.mat.slips.bump } } 2
          [(latMat c.mat.mode.systolic, .mat (.mmul e.toNat zf c.mat.mode c.mat.cur ws none none))]) 2 0x0112 c.pc c.issued 0)) k.num port
      exec (.mmul k e zf swap src source) s = .next (setCore t k.num (afterWord (flip (getCore t k.num)) (nextOf c)))))

/-- DRAIN_ROW_OFFER and ROW_STALL_EXECUTE: a drain row enters its port's buffer, or is lost with a slip in bubble mode where both places are full; the head of the elastic buffer starts in the array in a cc that is not frozen, with 0x0111 or 0x0103 to be found where its delay has made it meet another operation of its entry (04 R169, R171 to R173, R175). -/
def Obligations.ArrayEvents : Prop :=  ∀ (s : State) (k : CoreId), let c := getCore s k.num
    (∀ (port : Fin 4) (o : OfferedRow) (rest : List OfferedRow), let p := getSw c port.val
      p.offered = o :: rest →
      (p.buffer.length < 2 → exec (.drainRowOffer k port) s =
        .next (setCore s k.num (setSw c port.val { p with offered := rest, buffer := p.buffer ++ [o.row] }))) ∧
      (2 ≤ p.buffer.length → (runOf s (clusOf k.num)).rowStall = false → exec (.drainRowOffer k port) s =
        .next (setCore s k.num (pushLate { setSw c port.val { p with offered := rest } with mat := { c.mat with slips := c.mat.slips.bump } } 2 0x0112 o.pc o.issue 0))) ∧
      (2 ≤ p.buffer.length → (runOf s (clusOf k.num)).rowStall = true → exec (.drainRowOffer k port) s = .next s)) ∧
    (∀ (f : Flight) (rest : List Flight) (op : MatOp), c.mat.elastic = f :: rest → f.eff = .mat op → c.mat.ran = false → matReady c op = true →
      arrayRuns s k.num = true → let d : Core := { c with mat := { c.mat with elastic := rest } }
      (delayedFault c f op = none → exec (.rowStallExecute k) s = .next (startMat (setCore s k.num d) k.num f op)) ∧
      (delayedFault c f op = some 0x0111 → exec (.rowStallExecute k) s = .next (startMat (setCore s k.num (pushLate d 2 0x0111 f.pc f.issue 0)) k.num f op)) ∧
      (∀ e, matEntry op = some e → delayedFault c f op = some 0x0103 →
        exec (.rowStallExecute k) s = .next (startMat (setCore s k.num (pushLate d 2 0x0103 f.pc f.issue (BitVec.ofNat 64 (e + 0x300)))) k.num f op))) ∧
    (arrayRuns s k.num = false → exec (.rowStallExecute k) s = .next s)

/-- TRECV, TRECVS and SRECV: the row at the head of the queue or port is taken and goes on its way to its registers or its scratchpad row (08 R294, R302; 09 R369; 22 R769). SGO starts its stream afresh; GTAKE takes a batch and tells where it lies; GRET gives the batch back once the moves queued before it are done (08 R297; 10 R404, R412, R413). -/
def Obligations.SinRows : Prop :=
  (∀ (s : State) (k : CoreId), let c := getCore s k.num
    (∀ vd tag h xh, Lone s k.num 1 (.sin (.trecv vd tag h xh)) →
      let e := headEntry c tag.toNat
      exec (.trecv k vd tag h xh) s = .next (setCore s k.num (afterWord (launched (entryTaken c tag.toNat) 1
        (pairEffs vd (e.row.getD 0) ++ if h then [(latRow, .writeX xh.toNat (headerWord e.header))] else [])) (nextOf c)))) ∧
    (∀ xr tag inc, Lone s k.num 1 (.sin (.trecvs xr tag inc)) →
      exec (.trecvs k xr tag inc) s = .next (setCore s k.num (afterWord (incremented (launched (entryTaken c tag.toNat) 1
        [(3, .rowWrite (rowIn c xr) ((headEntry c tag.toNat).row.getD 0) (ownGuard s k.num c (rowIn c xr)).isSome)]) xr inc) (nextOf c)))) ∧
    (∀ vd port r b rest, Lone s k.num 1 (.sin (.srecv vd port)) → let p := getSp c port.toNat
      p.rows = (r, b) :: rest →
      exec (.srecv k vd port) s = .next (consumeStream (setCore s k.num (afterWord
        (launched (setSp c port.toNat { p with rows := rest, taken := 0 }) 1 (pairEffs vd r)) (nextOf c))) (clusOf k.num) p.stream rest.length))) ∧
  (∀ (s : State) (k : CoreId), let c := getCore s k.num
    let cl := clusOf k.num
    (∀ st xa d, Lone s k.num 1 (.sin (.sgo st xa)) → (getStream s cl st.toNat).desc = some d →
      exec (.sgo k st xa) s = .next (setStream (setCore s k.num (afterWord c (nextOf c))) cl st.toNat
        { getStream s cl st.toNat with state := .running, reason := 0, next := 0, base := sgoBase d (getX c xa.toNat),
                                       delivered := 0, consumed := 0, tags := [], resumed := false, xlat := none })) ∧
    (∀ ch xd md b, Lone s k.num 1 (.sin (.gtake ch xd md)) → let h := getChan s cl ch.toNat
      takeBuf h (lcoreNum c) (getClus s cl).mem.cc = some b →
      exec (.gtake k ch xd md) s = .next (setCore (setChan s cl ch.toNat
          (modBuf h b (fun x => { x with state := .held, taken := x.taken ||| BitVec.ofNat 24 (2 ^ lcoreNum c) }))) k.num
        (afterWord (launched c 1 [(latRow, .writeX xd.toNat (batchDescriptor h b (getBuf h b))),
          (latRow, .writeM md.toNat (batchMask (getBuf h b)) (BitVec.allOnes 64) false)]) (nextOf c)))) ∧
    (∀ ch b, Lone s k.num 1 (.sin (.gret ch)) → let h := getChan s cl ch.toNat
      heldBuf h (lcoreNum c) = some b →
      exec (.gret k ch) s = .next (setCore (setChan s cl ch.toNat
          (modBuf h b (fun x => { x with gret := mset x.gret (lcoreNum c) c.mem.moveSeq }))) k.num (afterWord c (nextOf c)))))

/-- SPRD, SPWR, ROWCMP and ROWCNT: the scratchpad row is read at issue and its results go on their way; a write is on its way to its row; SPRD with C consumes a guarded row; bit errors that come with a read strike their rows before it (07 R276, R243, R244, R257, R259, R266, R267). CMRD, CMWR and CMCNT join the move queue of their core; CMWR takes its row as it stands at issue, with the bit errors that strike it (07 R251, R252, R276). -/
def Obligations.MemRows : Prop :=
  (∀ (s : State) (k : CoreId), let c := getCore s k.num
    (∀ vd xr cons inc, Lone s k.num 6 (.mem (.sprd vd xr cons inc)) → Readable c (rowIn c xr) →
      let t := setCore s k.num (afterWord (incremented (launched (rowsRead s k.num c [rowIn c xr]) 6 (pairEffs vd (spRow s k.num (rowIn c xr)))) xr inc) (nextOf c))
      exec (.sprd k vd xr cons inc []) s = .next (if cons then consumeRow t k.num (rowIn c xr) else t)) ∧
    (∀ vs xr inc, Lone s k.num 6 (.mem (.spwr vs xr inc)) →
      exec (.spwr k vs xr inc) s = .next (setCore s k.num (afterWord (incremented (launched c 6
        [(3, .rowWrite (rowIn c xr) (pairRow c vs.toNat) (ownGuard s k.num c (rowIn c xr)).isSome)]) xr inc) (nextOf c)))) ∧
    (∀ w xr md vc xk2, Lone s k.num 6 (.mem (.rowcmp w xr md vc xk2)) → Readable c (rowIn c xr) →
      let ms := cmpMatches (spRow s k.num (rowIn c xr)) w (getX c (2 * xk2.toNat)) (getX c (2 * xk2.toNat + 1))
      exec (.rowcmp k w xr md vc xk2 []) s = .next (setCore s k.num (afterWord (launched (rowsRead s k.num c [rowIn c xr]) 6
        ((List.range (4 / 2 ^ w.toNat)).map (fun j => (latCnt, .writeM (md.toNat + j)
            (BitVec.ofNat 64 ((ms.filter (fun x => x / 64 == j)).foldl (fun a x => a ||| 2 ^ (x % 64)) 0)) (BitVec.allOnes 64) false)) ++
          [(latCnt, .writeV vc.toNat (everyLane false ms.length) (BitVec.allOnes 64) false)])) (nextOf c)))) ∧
    (∀ xr mm2 xs wrap rf md ev, Lone s k.num 6 (.mem (.rowcnt xr mm2 xs wrap rf md ev)) → Readable c (rowIn c xr) →
      let r := countRow (spRow s k.num (rowIn c xr)) (countMask c mm2) ((getX c xs.toNat).setWidth 32) wrap
      let d := rowsRead s k.num c [rowIn c xr]
      exec (.rowcnt k xr mm2 xs wrap rf md ev []) s = .next (setCore s k.num (afterWord
        { launched d 6 [(latCnt, .countWrite (rowIn c xr) r.1 r.2 ev (if rf then some md.toNat else none))] with
          mem := { d.mem with cntWindows := c.mem.cntWindows ++ [(rowIn c xr, c.pc, c.issued.toNat, latCnt)] } } (nextOf c)))) ∧
    (∀ es vd xr cons inc, exec (.sprd k vd xr cons inc es) s = exec (.sprd k vd xr cons inc []) (strikes s k.num es)) ∧
    (∀ es w xr md vc xk2, exec (.rowcmp k w xr md vc xk2 es) s = exec (.rowcmp k w xr md vc xk2 []) (strikes s k.num es)) ∧
    (∀ es xr mm2 xs wrap rf md ev, exec (.rowcnt k xr mm2 xs wrap rf md ev es) s = exec (.rowcnt k xr mm2 xs wrap rf md ev []) (strikes s k.num es))) ∧
  (∀ (s : State) (k : CoreId), let c := getCore s k.num
    let queued (c : Core) (m : Move) : Core := { c with mem := { c.mem with moves := c.mem.moves ++ [(c.mem.moveSeq, m)], moveSeq := c.mem.moveSeq + 1 } }
    (∀ xc xr, Lone s k.num 6 (.mem (.cmrd xc xr)) →
      exec (.cmrd k xc xr) s = .next (setCore s k.num (afterWord (queued c (.cmrd (rowIn c xc) (rowIn c xr))) (nextOf c)))) ∧
    (∀ xc xr, Lone s k.num 6 (.mem (.cmwr xc xr)) → Readable c (rowIn c xr) →
      exec (.cmwr k xc xr []) s = .next (setCore s k.num (afterWord (queued (rowsRead s k.num c [rowIn c xr]) (.cmwr (rowIn c xc) (spRow s k.num (rowIn c xr)))) (nextOf c)))) ∧
    (∀ es xc xr, exec (.cmwr k xc xr es) s = exec (.cmwr k xc xr []) (strikes s k.num es)) ∧
    (∀ xc mm2 xs wrap ev, Lone s k.num 6 (.mem (.cmcnt xc mm2 xs wrap ev)) →
      exec (.cmcnt k xc mm2 xs wrap ev) s = .next (setCore s k.num (afterWord
        (queued c (.cmcnt (rowIn c xc) (countMask c mm2) ((getX c xs.toNat).setWidth 32) wrap ev)) (nextOf c)))))

/-- RRD takes the row of its reply; RWR sends its row on its way and counts among the remote rows outstanding (07 R272 to R274). MSEND puts its rows with their headers at the end of the outbound queue, counts up SEQ and the cluster's rows sent (09 R350 to R355). -/
def Obligations.RemoteAndSendRows : Prop :=
  (∀ (s : State) (k : CoreId), let c := getCore s k.num
    (∀ vd xa r, Lone s k.num 6 (.mem (.rrd vd xa)) → c.mem.reply = some r →
      exec (.rrd k vd xa) s = .next (setCore s k.num (afterWord
        { launched c 6 (pairEffs vd r.val) with mem := { c.mem with reply := none, rrdSent := false } } (nextOf c)))) ∧
    (∀ vs xa, Lone s k.num 6 (.mem (.rwr vs xa)) →
      let q := remoteReq (issueHere s k.num) (getX c xa.toNat) (some (pairRow c vs.toNat))
      exec (.rwr k vs xa) s = .next (sendRemote (setCore s k.num (afterWord
        { c with mem := { c.mem with remote := c.mem.remote ++ [q] } } (nextOf c))) q))) ∧
  (∀ (s : State) (k : CoreId) (n xd : BitVec 5) (len1 : BitVec 3) (route : BitVec 4) (group : BitVec 6),
    Lone s k.num 7 (.msg (.msend n xd len1 route group)) → let c := getCore s k.num
    exec (.msend k n xd len1 route group) s = .next (modClus (setCore s k.num (afterWord
        { c with outq := c.outq ++ sendRows s (issueHere (startCc s k.num) k.num) n xd len1 route group, seq := c.seq + 1 } (nextOf c))) (clusOf k.num)
      (fun x => { x with msg := { x.msg with rowsTx := x.msg.rowsTx.add (len1.toNat + 1) } })))

/-- STALL_DEADLINE and LATE_FAULT: the fault is taken by the one operation that takes a core's faults, with the slot, code, PC and issue position of its word; the first stall of a cluster leaves the snapshot (03 R107, R797; 09 R395; 18 R681). CORE_LULL and CORE_WAKE: a core frozen long enough sleeps, and a core whose cause is released wakes after 24 cc, which count as external (03 R108, R109). -/
def Obligations.CoreFaultAndSleep : Prop :=
  (∀ (s : State) (k : CoreId), let c := getCore s k.num
    (stallDue s k.num = true →
      exec (.stallDeadline k) s = .next (calmCheckAt (faultCore
        (modClus s (clusOf k.num) (fun x => { x with msg := { x.msg with snap := x.msg.snap.put (snapshotOf s k.num) } }))
        k.num c.slot 0x0108 c.pc c.issued (BitVec.ofNat 64 (c.waitIx % 65536)) .none_) (clusOf k.num))) ∧
    (∀ f rest, c.late = f :: rest →
      exec (.lateFault k) s = .next (calmCheckAt (faultCore (setCore s k.num { c with late := rest })
        k.num f.slot f.code f.pc f.issue f.detail (coreFence k.num f.code)) (clusOf k.num)))) ∧
  (∀ (s : State) (k : CoreId), let c := getCore s k.num
    let idle := (getClus s (clusOf k.num)).coreLullIdle
    (c.state = .frozen → idle ≠ 0 → idle ≤ c.idleFor →
      exec (.coreLull k) s = .next (setCore s k.num { c with state := .lull, waking := false, stats := { c.stats with lullEntries := c.stats.lullEntries.bump } })) ∧
    (c.state = .lull → (c.waking || causeReleased s k.num) = true →
      exec (.coreWake k) s = .next (setCore s k.num { c with state := .frozen, cause := .external, waking := false, ccs := c.ccs + 24, idleFor := 0, frozenFor := c.frozenFor + 24, stats := { c.stats with freezeExt := c.stats.freezeExt.add 24 } })))

/-- CALM_REPORT: a core in calm wait whose work has drained reports its index; a report that does not match the calm point being formed is 0x0107 (03 R111, R113). FAULT_STOP_COMPLETE: the partition is FAULTED, without a start point, and no core of its clusters issues any more (17 R661; 18 R682). -/
def Obligations.CalmAndStopEvents : Prop :=
  (∀ (s : State) (k : CoreId) (w : CalmWait) (p : Nat), let c := getCore s k.num
    c.calm = some w → partOfCluster s (clusOf k.num) = some p → w.reported = false → calmDrained s k.num = true →
    isParticipant s p k.num = true → (getPart s p).calmHeld = false →
    let t := setCore s k.num { c with calm := some { w with reported := true } }
    ((getPart s p).calm = none → exec (.calmReport k) s = .next (calmCheck (setPart t p { getPart s p with calm := some (w.index, w.step) }) p)) ∧
    ((getPart s p).calm = some (w.index, w.step) → exec (.calmReport k) s = .next (calmCheck t p)) ∧
    (∀ i f, (getPart s p).calm = some (i, f) → (i ≠ w.index ∨ f ≠ w.step) →
      exec (.calmReport k) s = .next (calmCheckAt (faultCore s k.num 0 0x0107 w.pc c.issued 0 .none_) (clusOf k.num)))) ∧
  (∀ (s : State) (p : PartId), (getPart s p.val).faultStop = true → ∃ t, exec (.faultStopComplete p) s = .next t ∧
    (getPart t p.val).state = .faulted ∧ (getPart t p.val).faultStop = false ∧ (getPart t p.val).kept = false ∧
    (∀ n ∈ partCores s p.val, issuing (getCore t n) = false) ∧ t.cmMem = s.cmMem ∧ t.dmMem = s.dmMem)

/-- BANK_LULL and BANK_WAKE: a powered bank that no party has used for BANK_LULL_IDLE cc and that nothing waits for sleeps, and a bank whose wake has begun is awake again; no memory and no other bank changes (07 R279, R280). BANK_OFF, BANK_ON and BANK_POWER_DOWN: the named bank alone changes its power state; OFF leaves its contents until it powers off, and then its rows are lost (07 R281, R282, R284). BANK_READY: a bank that is powered on and not yet ready becomes ready with every byte of its rows 0; every byte of every other row is as before (07 R284). -/
def Obligations.BankRows : Prop :=
  (∀ (s : State), (∀ (k : CoreId) (b : Fin 8), let p := spPower s k.num b.val
    (∀ cc s1, enterCc s k.cluster.val cc = some s1 → (getClus s k.cluster.val).bankLullIdle ≠ 0 → spBankBusy (getCore s k.num) b.val = false →
      p.ready = true → p.lull = false → exec (.bankLull (.sp k b) cc) s = .next (if (getClus s k.cluster.val).bankLullIdle ≤ spIdle s1 k.num b.val
        then modSpPower s1 k.num b.val (fun q => { q with lull := true, wake := 0 }) else s1)) ∧
    (p.lull = true → p.wake = 1 → exec (.bankWake (.sp k b)) s = .next (modSpPower s k.num b.val (fun q => { q with lull := false, wake := 0 })))) ∧
  (∀ (c : ClusterId) (b : Fin 16), let p := cmPower s c.val b.val
    (∀ cc s1, enterCc s c.val cc = some s1 → (getClus s c.val).bankLullIdle ≠ 0 → cmBankBusy s c.val b.val = false →
      p.ready = true → p.lull = false → exec (.bankLull (.cm c b) cc) s = .next (if (getClus s c.val).bankLullIdle ≤ cmIdle s1 c.val b.val
        then modCmPower s1 c.val b.val (fun q => { q with lull := true, wake := 0 }) else s1)) ∧
    (p.lull = true → p.wake = 1 → exec (.bankWake (.cm c b)) s = .next (modCmPower s c.val b.val (fun q => { q with lull := false, wake := 0 }))))) ∧
  (∀ (s : State) (h : Fin 2), portAnswers s h.val = true →
    (∀ (k : CoreId) (b : Fin 8) (off : Bool), spPwrDenied s h.val k.num = none →
      ∃ t, exec (if off then .bankOff h (.sp k b) else .bankOn h (.sp k b)) s = .next t ∧
        spPower t k.num b.val = setOff off (spPower s k.num b.val) ∧
        (∀ b' : Fin 8, b' ≠ b → spPower t k.num b'.val = spPower s k.num b'.val) ∧ (∀ n, n ≠ k.num → getCore t n = getCore s n) ∧
        t.clus = s.clus ∧ t.spMem = s.spMem) ∧
    (∀ (c : ClusterId) (b : Fin 16) (off : Bool), clusDenied s h.val c.val = none →
      ∃ t, exec (if off then .bankOff h (.cm c b) else .bankOn h (.cm c b)) s = .next t ∧
        cmPower t c.val b.val = setOff off (cmPower s c.val b.val) ∧
        (∀ b' : Fin 16, b' ≠ b → cmPower t c.val b'.val = cmPower s c.val b'.val) ∧ (∀ c', c' ≠ c.val → getClus t c' = getClus s c') ∧
        t.cores = s.cores ∧ t.cmMem = s.cmMem) ∧
    (∀ (k : CoreId) (b : Fin 8), (spPower s k.num b.val).pend = true → tagTargets s k.cluster.val (.sp k b) = false →
      exec (.bankPowerDown (.sp k b)) s = .next (modSpPower (wipeSp s k.num b.val) k.num b.val (fun p => { p with pend := false, ready := false, lull := false, wake := 0 }))) ∧
    (∀ (c : ClusterId) (b : Fin 16), (cmPower s c.val b.val).pend = true → tagTargets s c.val (.cm c b) = false →
      exec (.bankPowerDown (.cm c b)) s = .next (modCmPower (wipeCm s c.val b.val) c.val b.val (fun p => { p with pend := false, ready := false, lull := false, wake := 0 })))) ∧
  (∀ (s : State) (k : CoreId) (b : Fin 8), (spPower s k.num b.val).off = false → (spPower s k.num b.val).ready = false →
    ∃ t, exec (.bankReady (.sp k b)) s = .next t ∧ (spPower t k.num b.val).ready = true ∧
      (∀ row i, row < 32768 → i < 512 → readByte t.spMem (spAddr k.num row + i) =
        if spBank row = b.val then 0 else readByte s.spMem (spAddr k.num row + i)) ∧
      (∀ n row i, n ≠ k.num → row < 32768 → i < 512 → readByte t.spMem (spAddr n row + i) = readByte s.spMem (spAddr n row + i)) ∧
      t.cmMem = s.cmMem ∧ t.dmMem = s.dmMem)

/-- MOVE_EXECUTE and CMRD_DESTINATION_WRITE on raw rows: a CMWR writes its cluster-memory row, a CMCNT writes the counted row, a CMRD reads its row and lands it in the scratchpad in a later write slot; bit errors that come with a read strike its row before it (07 R250, R252, R267, R276). CMRD_DESTINATION_WRITE, REMOTE_REQUEST_SERVE and REMOTE_REPLY: a landing row is written, the first request that can be served is, and a reply without an error reaches the landing buffer (07 R247, R252, R273, R274). -/
def Obligations.MoveEvents : Prop :=
  (∀ (s : State) (k : CoreId) (bank : Fin 16) (cc num : Nat), let n := k.num
    let c := k.cluster.val
    let d := getCore s n
    clusterStopped s c = false → (getClus s c).mem.cc = cc → slotOwner s c bank.val cc = lcoreNum d → cmUsed s c true bank.val = false → cmAnswer s c bank.val = .ready →
    (∀ dst v, firstMove d.mem.moves bank.val = some (num, .cmwr dst v) → guardAt s (clusOf n) true 0 dst = none →
      ∀ ecc, exec (.moveExecute k bank cc ecc) s = .next (moveDone (writeCm s (clusOf n) dst v (moveParty d) none) n num)) ∧
    (∀ src dst, firstMove d.mem.moves bank.val = some (num, .cmrd src dst) → guardAt s (clusOf n) true 0 src = none →
      guardAt s (clusOf n) false (lcoreNum d) dst = none → cmBad s (clusOf n) src = false → cmUsed s c false bank.val = false →
      ∃ t, exec (.moveExecute k bank cc {}) s = .next t ∧ (getCore t n).mem.landing = d.mem.landing ++ [{ dst := dst, val := cmRow s (clusOf n) src }] ∧
        (getCore t n).mem.moves = d.mem.moves.filter (fun e => e.1 != num) ∧ t.spMem = s.spMem ∧ t.cmMem = s.cmMem ∧ t.dmMem = s.dmMem) ∧
    (∀ row mask inc wrap, firstMove d.mem.moves bank.val = some (num, .cmcnt row mask inc wrap false) → cmBad s (clusOf n) row = false → cmUsed s c false bank.val = false →
      ∃ t, exec (.moveExecute k bank cc {}) s = .next t ∧ cmRow t (clusOf n) row = (countRow (cmRow s (clusOf n) row) mask inc wrap).1 ∧
        (getCore t n).mem.moves = d.mem.moves.filter (fun e => e.1 != num) ∧ t.spMem = s.spMem ∧ t.dmMem = s.dmMem) ∧
    (∀ m ecc, firstMove d.mem.moves bank.val = some (num, m) → cmUsed s c false bank.val = false →
      (match m with | .cmwr .. => False | .cmrd src dst => guardAt s (clusOf n) true 0 src = none ∧ cmrdGate s n dst = .raw | .cmcnt .. => True) →
      exec (.moveExecute k bank cc ecc) s = exec (.moveExecute k bank cc {}) (strikeCm s c (moveRow m) ecc))) ∧
  (∀ (s : State) (k : CoreId), let n := k.num
    let c := getCore s n
    (∀ (bank : Fin 8) l, c.mem.landing.find? (fun l => spBank l.dst == bank.val) = some l → clusterStopped s k.cluster.val = false →
      remoteSlot c true bank.val = true → spAnswer s n bank.val = .ready → guardAt s (clusOf n) false (lcoreNum c) l.dst = none →
      exec (.cmrdDestinationWrite k bank) s = .next (modCore (elasticWriteSp s n l.dst l.val (moveParty c) none) n
        (fun d => { d with mem := { d.mem with landing := d.mem.landing.erase l } }))) ∧
    (∀ (cl : ClusterId) (cc : Nat) (ecc : Ecc) s1, enterCc s cl.val cc = some s1 →
      exec (.remoteRequestServe cl cc ecc) s = .next (calmCheckAt
        (serveFirst (wakeForRemote s1 cl.val (getClus s1 cl.val).remoteIn) cl.val cc ecc [] (getClus s1 cl.val).remoteIn) cl.val)) ∧
    (∀ r, c.mem.arriving = some r → r.err = 0 → clusterStopped s k.cluster.val = false →
      exec (.remoteReply k) s = .next (setCore s n { c with mem := { c.mem with arriving := none, reply := some r, remote := match c.mem.remote.find? (fun q => q.val.isNone) with | some q => c.mem.remote.erase q | none => c.mem.remote } })))

/-- STREAM_ROW_ISSUE: the ready stream whose turn it is issues its next row; a translation that cannot be used halts it, an unpowered near end faults it, and a missing host translation is asked for while the port has room for a request (08 R303, R304, R307, R309, R326). -/
def Obligations.StreamRowsIssue : Prop :=  ∀ (s : State) (cl : ClusterId) (stream : Fin 256) (cc p : Nat) (ecc : Ecc) (d : StreamDesc), let c := cl.val
    let st := stream.val
    let t := getStream s c st
    let near := nearPower s c (nearOf s c st t.next t d)
    clusterStopped s c = false → (getClus s c).mem.cc = cc → partOfCluster s c = some p → partIssues (getPart s p) = true →
    t.desc = some d → t.state = .running → t.next < streamRows d →
    (∀ addr, translate s c st = .ok addr → near.ready = true → mightIssue s c st cc = true → near.lull = false →
      (getClus s c).str.issueCc ≠ some cc → (classPattern (getClus s c).str).getD (cc % 8) 3 = streamClass d → (streamClass d = 2 → ringLeft s c cc = 0) → aheadOf s c (streamClass d) st cc = [] →
      exec (.streamRowIssue cl stream cc ecc) s = .next (calmCheckAt (issueRow s c st cc addr d ecc) c)) ∧
    (∀ addr, translate s c st = .ok addr → near.ready = false → mightIssue s c st cc = true →
      exec (.streamRowIssue cl stream cc ecc) s = .next (calmCheckAt (unpoweredHalt s c st (nearOf s c st t.next t d)) c)) ∧
    (∀ reason page, translate s c st = .halt reason page → mightIssue s c st cc = true →
      exec (.streamRowIssue cl stream cc ecc) s = .next (calmCheckAt (if reason = 3 then faultStream s c st 3 0x0140 else haltStream s c st reason page) c)) ∧
    (∀ page, translate s c st = .ask page → mightIssue s c st cc = true → tagFree s (getPart s p).hostPort = true →
      exec (.streamRowIssue cl stream cc ecc) s =
        .next (emit (setStream s c st { t with xlat := some page }) (.atsRequest (getPart s p).hostPort (streamPasid s c d) page)))

/-- STREAM_ROW_DELIVER: a row that has come back is written at its near end, here an unguarded scratchpad row whose bank is awake and whose slot is free: the row holds the data, its stream has delivered one more row, and no other memory changes (08 R301, R304, R305). STREAM_ROW_DELIVER with an error, and STREAM_ROW_ACK: a host error faults the stream at that row with reason 6 and code 0x0143; an error of the far end faults it with its own reason; an acknowledgement frees the tag of the row that it names, or of the oldest row that its device or cluster memory has served, and a failure of the far end faults the stream there (08 R304, R305, R326, R327). -/
def Obligations.StreamRowsMove : Prop :=
  (∀ (s : State) (cl : ClusterId) (stream : Fin 256) (cc n row : Nat) (d : StreamDesc) (g : StrTag) (rest : List StrTag) (r : Row) (marks : BitVec 8), let c := cl.val
    let st := stream.val
    let t := getStream s c st
    clusterStopped s c = false → (getClus s c).mem.cc = cc → t.desc = some d → t.tags = g :: rest → d.dirOut = false → d.farSpace ≠ 1 →
    g.served = true → g.err = 0 → g.data = some r → t.state ≠ .faulted → nearOf s c st g.j t d = .sp n row → clusOf n = c →
    guardAt s c false (lcoreNum (getCore s n)) row = none → spAnswer s n (spBank row) = .ready → streamSlot (getCore s n) true (spBank row) = true →
    (getCore s n).mem.uses = [] → (getCore s n).mem.cntWindows = [] →
    ∃ u, exec (.streamRowDeliver cl stream cc .error marks) s = .next u ∧ spRow u n row = r ∧ (getStream u c st).tags = freeTag t g.j ∧
      (getStream u c st).delivered = t.delivered + 1 ∧ (∀ a, (a < spAddr n row ∨ spAddr n row + 512 ≤ a) → readByte u.spMem a = readByte s.spMem a) ∧
      u.cmMem = s.cmMem ∧ u.dmMem = s.dmMem ∧ (∀ m, m ≠ n → physOf s c d.nearLcore ≠ some m → getCore u m = getCore s m)) ∧
  (∀ (s : State) (cl : ClusterId) (stream : Fin 256) (cc : Nat) (d : StreamDesc) (g : StrTag) (rest : List StrTag), let c := cl.val
    let st := stream.val
    let t := getStream s c st
    clusterStopped s c = false → (getClus s c).mem.cc = cc → t.desc = some d → t.tags = g :: rest →
    (∀ marks, d.dirOut = false → d.farSpace = 1 → (getClus s c).str.host.contains (st, g.j) = false →
      exec (.streamRowDeliver cl stream cc .error marks) s = .next (pumpFor (failRow s c st g.j 6 0x0143) c)) ∧
    (∀ h marks, d.dirOut = false → d.farSpace ≠ 1 → g.served = true → g.err ≠ 0 →
      exec (.streamRowDeliver cl stream cc h marks) s = .next (failRow s c st g.j g.err (if g.err = 9 then 0x0132 else reasonCode g.err))) ∧
    (d.dirOut = true → d.farSpace = 1 → ∀ (j : Nat) (e : StrTag), tagOfRow t j = some e → (getClus s c).str.host.contains (st, j) = false →
      exec (.streamRowAck cl stream (.hostError j)) s = .next (calmCheckAt (failRow s c st e.j 6 0x0143) c) ∧
      (e.err = 0 → t.state ≠ .faulted → exec (.streamRowAck cl stream (.hostDone j)) s = .next (calmCheckAt (countMoved (setStream s c st
        (endStream { t with tags := freeTag t e.j, delivered := t.delivered + 1 })) c d) c))) ∧
    (d.dirOut = true → d.farSpace ≠ 1 → ∀ e : StrTag, t.tags.find? (fun x => x.served) = some e →
      (e.err ≠ 0 → exec (.streamRowAck cl stream .inner) s = .next (calmCheckAt (failRow s c st e.j e.err (reasonCode e.err)) c)) ∧
      (e.err = 0 → t.state ≠ .faulted → exec (.streamRowAck cl stream .inner) s = .next (calmCheckAt (countMoved (setStream s c st
        (endStream { t with tags := freeTag t e.j, delivered := t.delivered + 1 })) c d) c))))

/-- GDDR7_SLOT and GDDR7_REFRESH: the oldest request of the cluster for the channel is served; a write puts its row into device memory and a read takes it from there, its corrected errors counted, an uncorrectable one faulting its stream; in a refresh the slot is lost and counted (08 R312, R313, R341 to R343). -/
def Obligations.DeviceMemoryServes : Prop :=  ∀ (s : State) (cl : ClusterId) (chan : Fin 32) (st j : Nat) (g : StrTag), let c := cl.val
    oldestFor s c chan.val = some (st, j) → tagOfRow (getStream s c st) j = some g →
    let s1 := modClus s c (fun x => { x with str := { x.str with gddr := x.str.gddr.erase (st, j) } })
    (∀ ecc r, g.data = some r → exec (.gddr7Slot cl chan ecc) s = .next (tagServed (setDmRow s1 g.addr r) c st j none 0) ∧
      readRow (tagServed (setDmRow s1 g.addr r) c st j none 0).dmMem g.addr = r ∧
      ∀ a, (a < g.addr ∨ g.addr + 512 ≤ a) → readByte (tagServed (setDmRow s1 g.addr r) c st j none 0).dmMem a = readByte s.dmMem a) ∧
    (g.data = none → ∀ ecc : DramEcc, let s2 := dmRead s1 g.addr ecc
      mget {} s2.dmCorr chan.val = Stat.add (mget {} s.dmCorr chan.val) ecc.corrected ∧
      (dmIsBad s g.addr = false → ecc.uncorrectable = false → exec (.gddr7Slot cl chan ecc) s = .next (tagServed s2 c st j (some (readRow s.dmMem g.addr)) 0)) ∧
      ((dmIsBad s g.addr = true ∨ ecc.uncorrectable = true) → ∃ t, exec (.gddr7Slot cl chan ecc) s = .next t ∧ t.dmMem = s.dmMem ∧ dmIsBad t g.addr = true ∧
        (getStream t c st).state = .faulted)) ∧
    exec (.gddr7Refresh cl chan) s = .next (modClus s c (fun x => { x with str := { x.str with refreshLost := x.str.refreshLost.bump } }))

/-- PAGE_ZERO_FILL: the frame of the page under resolution reads 0 at every byte, every other byte of device memory is as before, the page is PRESENT and its resolution has ended; the streams that waited for it run again (08 R330, R332). PAGE_TABLE_WRITE, PF_ACK and PF_DEADLINE: the owner's write of an entry takes effect and ends a host fill; an acknowledgement with bit 0 set removes the head request, and pages that waited for room enter the queue; a deadline that has passed ends its resolution with reason 0x0A, of a host page as of a device page (08 R319, R320, R330, R331, R333, R347, R348). -/
def Obligations.PageRows : Prop :=
  (∀ (s : State) (p : PartId) (page : Fin 393216), resolvingFor (getPart s p.val) page.val = some 1 → let e := getPte s page.val
    ∃ t, exec (.pageZeroFill p page) s = .next t ∧
      (∀ i, i < 2097152 → readByte t.dmMem (e.frame * 2097152 + i) = 0) ∧
      (∀ a, (a < e.frame * 2097152 ∨ e.frame * 2097152 + 2097152 ≤ a) → readByte t.dmMem a = readByte s.dmMem a) ∧
      getPte t page.val = { e with state := 1 } ∧ (∀ q, q ≠ page.val → getPte t q = getPte s q) ∧
      resolvingFor (getPart t p.val) page.val = none ∧ t.spMem = s.spMem ∧ t.cmMem = s.cmMem ∧
      (∀ c i, i ∈ boundStreams s c → c ∈ clustersOf s p.val → waitsOn (getStream s c i) page.val = true → (getStream t c i).state = .running)) ∧
  (∀ (s : State) (p : PartId), let x := getPart s p.val
    (∀ (h : Fin 2) (data : W32), portAnswers s h.val = true → h.val = x.owner → x.state ≠ .none →
      (data.toNat / 2 ^ 19 % 2 ^ 10 = 0 → pteDenied s p.val x.pf.ptIndex (data.toNat / 2 ^ 30) (data.toNat % 2 ^ 19) = none →
        exec (.pageTableWrite h p data) s = .next (writePte s p.val x.pf.ptIndex (data.toNat / 2 ^ 30) (data.toNat % 2 ^ 19))) ∧
      (data = 1 → exec (.pfAck h p data) s = .next (refillQueue 64 (modPart s p.val (fun y => { y with pf := { y.pf with queue := y.pf.queue.tail } })) p.val)) ∧
      (data = 0 → exec (.pfAck h p data) s = .next s)) ∧
    (∀ a : State, (getPart a p.val).pf.overflow = [] → refillQueue 64 a p.val = a) ∧
    (∀ (cl : ClusterId) (stream : Fin 256) (d : StreamDesc), let t := getStream s cl.val stream.val
      partOfCluster s cl.val = some p.val → t.desc = some d → t.state = .halted → x.det.phase ≠ 3 → x.det.phase ≠ 6 → t.haltTime + 1000 * x.pf.deadline ≤ nowNs s →
      exec (.pfDeadline cl stream) s = .next (if t.reason = 4 then calmCheck (failHostPage s p.val (streamPasid s cl.val d) (hostPage (farAddr t t.next)) 0x0A) p.val
        else endResolution s p.val (farAddr t t.next / 2097152) 0x0A)))

/-- PRI_RESPONSE and ATS_TRANSLATION_COMPLETION, at a port that may issue: a success asks for the translation of the halted stream again and the page request is granted, a failure faults every stream that waits for the page with reason 5; a granted translation is kept by the port, and with a halted stream every stream that waits for the page goes on, counted once; a denied one halts or faults the stream, or puts the ring that asked into STATE 5 with 0x01A0, or 0x01A1 for a completion (08 R322, R326, R330, R331, R332; 15 R590, R597). ATS_INVALIDATE and INVALIDATE_COMPLETION: an invalidated translation leaves the cache and is under invalidation; the completion is sent once no row issued under it is outstanding (08 R324). -/
def Obligations.TranslationRows : Prop :=
  (∀ (s : State) (h : Fin 2) (cl : ClusterId) (stream : Fin 256) (p : Nat) (d : StreamDesc), let c := cl.val
    let st := stream.val
    let t := getStream s c st
    let pasid := streamPasid s c d
    partOfCluster s c = some p → t.desc = some d → (getPart s p).hostPort = h.val → hostOpen (getPort s h.val) = true →
    (∀ r : PriReq, let page := hostPage (farAddr t t.next)
      t.state = .halted → t.reason = 4 → priFor (getPart s p) pasid page = some r → r.st = .sent →
      exec (.priResponse h cl stream true) s = .next (emit (setStream (pumpPri 512 (modPart s p (fun x => { x with pf := { x.pf with
          pri := x.pf.pri.map (fun q => if q = r then { r with st := .granted } else q) } })) h.val) c st { t with resumed := true, xlat := some page })
        (.atsRequest h.val pasid page)) ∧
      exec (.priResponse h cl stream false) s = .next (calmCheck (failHostPage s p pasid page 5) p)) ∧
    (∀ page, t.xlat = some page → let u := setStream s c st { t with xlat := none, resumed := false }
      (∀ frame, t.state ≠ .halted → exec (.atsTranslationCompletion h (.stream cl stream) (some frame)) s = .next (pumpFor (keepXlat u h.val pasid page frame) c)) ∧
      (∀ frame, t.state = .halted → exec (.atsTranslationCompletion h (.stream cl stream) (some frame)) s =
        .next (pumpFor (calmCheck (grantHostPage (keepXlat u h.val pasid page frame) p pasid page) p) c)) ∧
      exec (.atsTranslationCompletion h (.stream cl stream) none) s = .next (if t.resumed then calmCheck (failHostPage u p pasid page 5) p
        else if (getPort s h.val).pri then calmCheck (haltStream u c st 4 page) p else calmCheck (faultStream (countHalt u c) c st 4 0x0140) p)) ∧
    (∀ (r : Fin 128) (page : Nat) (post : Bool), r.val / 4 = c → (getRing s r.val).xlat = some (page, post) → let x := getRing s r.val
      (∀ frame, exec (.atsTranslationCompletion h (.ring r) (some frame)) s =
        .next (pumpFor (keepXlat (setRing s r.val { x with xlat := none }) h.val x.pasid page frame) c)) ∧
      exec (.atsTranslationCompletion h (.ring r) none) s = .next (ringFault s r.val (if post then 0x01A1 else 0x01A0))) ∧
    (∀ (a : State) (page frame q : Nat), (getPort (keepXlat a h.val pasid page frame) h.val).atc.find? (fun e => e.1 == pasid && e.2.1 == page) = some (pasid, page, frame) ∧
      (q ≠ h.val → getPort (keepXlat a h.val pasid page frame) q = getPort a q))) ∧
  (∀ (s : State) (h : Fin 2) (pasid : BitVec 20) (page : Nat), let key := (pasid.toNat, page)
    ((getPort s h.val).ats = true → ∃ t, exec (.atsInvalidate h pasid page) s = .next t ∧
      (getPort t h.val).atc.find? (fun e => e.1 == pasid.toNat && e.2.1 == page) = none ∧ key ∈ (getPort t h.val).invalidating ∧
      (∀ q, q ≠ h.val → getPort t q = getPort s q) ∧ t.clus = s.clus ∧ t.parts = s.parts) ∧
    (key ∈ (getPort s h.val).invalidating → rowsUnder s h.val pasid.toNat page = false →
      exec (.invalidateCompletion h pasid page) s = .next (emit (modPort s h.val (fun q => { q with invalidating := q.invalidating.erase key })) (.invalidateDone h.val pasid.toNat page))))

/-- MESH_ROW_FORWARD: the first row of the lane that owns the cc moves to the next router where there is room, or leaves by the I/O die for its fabric port, which sends what it may; a static row leaves by its link; link 4 brings a row in from the I/O die (09 R359 to R363). MESSAGE_EJECT and DROP_REPORT: of the rows that wait for the ejection port, in the order in which they came, the first that its queue takes or discards leaves where it waited, its vectors marked as the command says; a refused one waits and does not hold the next; a static row among them takes its step; a report is counted and the first is latched (09 R370, R371, R373, R379, R396). -/
def Obligations.MeshRows : Prop :=
  (∀ (s : State) (cl : ClusterId) (cc : Nat), let c := cl.val
    routerStopped s c = false →
    (∀ (link : Fin 4) lane d w r, slotLane s c link.val cc = lane → (lane < 0x20 ∨ (0x30 ≤ lane ∧ lane ≠ 0xFF)) →
      (laneHeads s c lane).find? (fun e => nextLink s c e.2 == some link.val) = some (w, r) →
      leavesMesh c link.val = false → neighbour c link.val = some d → (laneBuf s d (inputOf link.val) lane).length < 4 →
      exec (.meshRowForward cl ⟨link.val, by omega⟩ cc) s = .next (arriveRow (leaveWaiting s c w) d (inputOf link.val) lane r)) ∧
    (∀ (link : Fin 4) lane w r, slotLane s c link.val cc = lane → (lane < 0x20 ∨ (0x30 ≤ lane ∧ lane ≠ 0xFF)) →
      (laneHeads s c lane).find? (fun e => nextLink s c e.2 == some link.val) = some (w, r) →
      leavesMesh c link.val = true → portRoom s r.msg.fabPort r.msg.header = true →
      exec (.meshRowForward cl ⟨link.val, by omega⟩ cc) s = .next (pumpAfter (sendOnLink (leaveWaiting s c w) c link.val lane r) c link.val)) ∧
    (∀ (link : Fin 4) e, slotLane s c link.val cc = staticLane s c → staticLane s c < 0x30 →
      (getClus s c).msg.pendingOut.find? (fun r => r.1 == link.val) = some e →
      exec (.meshRowForward cl ⟨link.val, by omega⟩ cc) s = .next (pumpAfter (sendOnLink
        (modClus s c (fun x => { x with msg := { x.msg with pendingOut := x.msg.pendingOut.erase e } })) c link.val (staticLane s c)
        { msg := e.2, kind := 0, reason := 0, remote := none }) c link.val)) ∧
    (∀ lane e, slotLane s c 4 cc = lane → lane ≠ 0xFF → (getClus s c).msg.ioIn.find? (fun r => r.1 == lane) = some e → (laneBuf s c 4 lane).length < 4 →
      exec (.meshRowForward cl 4 cc) s = .next (arriveRow (modClus s c (fun x => { x with msg := { x.msg with ioIn := x.msg.ioIn.erase e } })) c 4 lane e.2))) ∧
  (∀ (s : State) (cl : ClusterId), let c := cl.val
    routerStopped s c = false →
    (∀ (lcore : Fin 32) (marks : BitVec 8) (before : List EjectHead) (e : EjectHead) rest,
      markRows marks (ejectHeads s c lcore.val) = before ++ e :: rest → (∀ b ∈ before, ejectOne s c lcore.val b = none) →
      let from_ := leaveWaiting s c e.place
      let offer := queueOffer from_ c lcore.val (rowTag e.row.header) e.row
      (∀ s1, e.entry = none → offer = .taken s1 → exec (.messageEject cl lcore marks) s = .next (calmCheckAt s1 c)) ∧
      (∀ reason, e.entry = none → offer = .discard reason →
        exec (.messageEject cl lcore marks) s = .next (calmCheckAt (discardAt from_ c lcore.val (rowTag e.row.header) reason e.row) c)) ∧
      (e.entry = none → offer = .wait → ejectOne s c lcore.val e = none) ∧
      (∀ s1, e.entry ≠ none → ejectOne s c lcore.val e = some s1 → exec (.messageEject cl lcore marks) s = .next (calmCheckAt s1 c))) ∧
    (∀ (input : Fin 5) (lane : Fin 64) r rest, laneBuf s c input.val lane.val = r :: rest → r.kind = 1 → nextLink s c r = none →
      ∃ t, exec (.dropReport cl ⟨input.val, by omega⟩ lane) s = .next t ∧ laneBuf t c input.val lane.val = rest ∧
        (getClus t c).msg.txDropEvents = (getClus s c).msg.txDropEvents.bump ∧
        ((getClus s c).msg.txDrop.valid = true → (getClus t c).msg.txDrop.info = (getClus s c).msg.txDrop.info) ∧
        (∀ d, d ≠ c → getClus t d = getClus s d) ∧ t.cores = s.cores))

/-- STATIC_ROUTE_FORWARD: the first static row of an input, one of each lane, that can takes its step, and a row that waits holds its own lane only: a row whose route has no entry is discarded with reason 7; of an entry that is no combine it is copied to the links and the local queues of the entry when every one can take it and its turn has come (09 R371, R373, R378, R383, R386, R387). COMBINE, COMBINE_TIMEOUT and MCAST_MEMBER_FENCE: one row of every input is combined and sent on, or the combine stops with the fault of its operands; an input that is late stops it with 0x0151; a member that refuses for DEADLINE_US is fenced with 0x0150 (09 R388 to R394). -/
def Obligations.GroupRows : Prop :=
  (∀ (s : State) (cl : ClusterId) (input : Fin 30) (h : StaticHead) (rest : List StaticHead), let c := cl.val
    let s1 := leaveWaiting s c h.place
    routerStopped s c = false → staticHeads s c input.val = h :: rest →
    (staticStep s c input.val h = none → exec (.staticRouteForward cl input) s = .next (calmCheckAt (forwardFirst (noteWaiting s c h) c input.val rest) c)) ∧
    (getRoute s c (routeOf s h.row.header) = none → exec (.staticRouteForward cl input) s = .next (calmCheckAt (discardRow s1 c 7 h.row) c)) ∧
    (∀ e, getRoute s c (routeOf s h.row.header) = some e → rowRoute h.row.header = 1 → (getCombine s c (routeOf s h.row.header)).stopped = false → e.kind ≠ 3 →
      linksReady s c e h.row.header = true → ((localCores e).all (fun l => offerOpen (queueOffer s c l e.tag h.row))) = true → turnOf s c e h.place = true →
      exec (.staticRouteForward cl input) s = .next (calmCheckAt ((localCores e).foldl (fun a l => deliverLocal a c l e.tag h.row)
        (copyToLinks (dropRefusals s1 c (rowGroup h.row.header) e) c e h.row)) c))) ∧
  (∀ (s : State) (cl : ClusterId), let c := cl.val
    (∀ (route : Fin 64) e, let w := getCombine s c route.val
      getRoute s c route.val = some e → w.stopped = false →
      (∀ r rest, routerStopped s c = false → e.kind = 3 → combineRows w e = some (r :: rest) →
        let rows := (r :: rest).map (fun x => rowLanes x.row)
        let answer := combineOp (getGroup s (rowGroup r.header)).op ((r :: rest).map (fun x => rowHdr x.header)) rows
        (∀ code, answer = .error code → exec (.combine cl route) s = .next (calmCheckAt (stopCombine s c route.val code (rowGroup r.header)) c)) ∧
        (∀ v s2, answer = .ok v → sendCombined (setCombine s c route.val { w with inputs := [], firstTime := none, seq := w.seq + 1 }) c e
            { header := combinedHeader s c r.header w.seq, row := v, fabPort := e.fabPort } = some s2 →
          exec (.combine cl route) s = .next (calmCheckAt s2 c))) ∧
      (∀ t, w.firstTime = some t → deadlinesHeld s c = false → combineRows w e = none → t + 1000 * (getGroup s (combineGroup w)).deadlineUs ≤ nowNs s →
        exec (.combineTimeout cl route) s = .next (calmCheckAt (stopCombine s c route.val 0x0151 (combineGroup w)) c))) ∧
    (∀ (k : CoreId) (group : Fin 64) (since : Nat), let key := 64 * lcoreNum (getCore s k.num) + group.val
      let m := (getClus s k.cluster.val).msg
      deadlinesHeld s k.cluster.val = false → mget false m.members key = false → refusedSince s k.num group.val = some since →
      since + 1000 * (getGroup s group.val).deadlineUs ≤ nowNs s →
      exec (.mcastMemberFence k group) s = .next (calmCheckAt (fenceMember s k.num group.val) k.cluster.val)))

/-- RING_ENABLE, RING_DISABLE, RING_POLL, RING_ROWS_DELIVER and COMPLETION_TIMEOUT: EN and the ring's state; a poll at a multiple of RING_POLL_NS; the rows read, whose requests have gone out in remote-class positions, go to their channel in SEQ order; a read that fails, or that is not answered in time, leaves the ring in error, and the port logs the timeout (08 R326; 15 R574, R588 to R592). -/
def Obligations.WorkRings : Prop :=  ∀ (s : State) (r : Fin 128) (cc : Nat), let x := getRing s r.val
    let c := r.val / 4
    (∀ h : Fin 2, portAnswers s h.val = true → clusDenied s h.val (r.val / 4) = none → 6 ≤ x.sizeLog2 → x.sizeLog2 ≤ 20 → 1 ≤ x.burst → x.burst ≤ 64 →
      (x.en = false → (getChan s (r.val / 4) (r.val % 4)).en = true → exec (.ringEnable h r) s = .next (setRing s r.val { x with en := true, state := .polling })) ∧
      (exec (.ringDisable h r) s = .next (setRing s r.val { x with en := false, state := .off }))) ∧
    (∀ (p : PartId) reads, let y := getPart s p.val
      partServes y = true → y.run.ringPoll ≠ 0 → atMultiple s y.run.ringPoll = true → exec (.ringPoll p reads) s = .next (pollAll s p.val reads)) ∧
    (∀ p n, partOfCluster s c = some p → x.polled = some n → x.sent = true →
      (hostOpen (getPort s (getPart s p).hostPort) = true → partServes (getPart s p) = true → clusterStopped s c = false → (getClus s c).mem.cc = cc → ringLeft s c cc = 0 →
        (∀ rows : List Row, rows.length = n → accepting (getPart s p) = true →
          exec (.ringRowsDeliver r cc (some rows)) s = .next (pumpFor (deliverRows (setRing s r.val { x with polled := none, sent := false }) r.val rows) c)) ∧
        (exec (.ringRowsDeliver r cc none) s = .next (pumpFor (ringFault s r.val 0x01A0) c))) ∧
      (∀ h : Fin 2, (getPart s p).hostPort = h.val → exec (.completionTimeout h (.ring r)) s = .next (pumpPort (ringFault (logTimeout s h.val) r.val 0x01A0) h.val))) ∧
    (∀ (h : Fin 2) (cl : ClusterId) (st : Fin 256) p j, partOfCluster s cl.val = some p → hostWaiting s cl.val st.val = some j →
      (getPart s p).hostPort = h.val → exec (.completionTimeout h (.stream cl st)) s = .next (pumpPort (calmCheck (failRow (logTimeout s h.val) cl.val st.val j 6 0x0143) p) h.val))

/-- GATHER_SLOT_WRITE, GATHER_DEADLINE and BATCH_RELEASE: an accepted row is written to its slot of the batch; a batch whose deadline has passed closes; a batch with every row written is released with its header row, its sequence number, step and time (10 R403, R404, R406, R407, R796). BATCH_RETURN, COMPLETION_POST and BUFFER_FREE: a core's return counts once its moves are done; each completion of a returned batch is written to host memory in slot order, once the completion ring has space and its addresses have translations; then its rows are zeroed, one in each slot of the row's bank, and with the last the buffer is free (10 R413, R414, R796; 15 R574, R593 to R597; 17 R668). -/
def Obligations.BatchRows : Prop :=
  (∀ (s : State) (cl : ClusterId) (ch : Fin 4) (cc p : Nat), let c := cl.val
    let h := getChan s c ch.val
    partOfCluster s c = some p → clusterStopped s c = false → (getClus s c).mem.cc = cc → (getClus s c).mem.uses = [] →
    (∀ k i row, (∀ n b, (cmPower s n b).lull = false) → nextSlotWrite s c cc h = some (k, i, row) → cmAnswer s c (cmBank (requestRow h k i)) = .ready →
      guardAt s c true 0 (requestRow h k i) = none →
      ∃ t, exec (.gatherSlotWrite cl ch cc) s = .next t ∧ cmRow t c (requestRow h k i) = row ∧
        getChan t c ch.val = modBuf h k (fun b => { b with waiting := b.waiting.filter (fun w => w.1 != i) }) ∧
        (∀ a, (a < cmAddr c (requestRow h k i) ∨ cmAddr c (requestRow h k i) + 512 ≤ a) → readByte t.cmMem a = readByte s.cmMem a) ∧ t.spMem = s.spMem ∧ t.dmMem = s.dmMem) ∧
    ((getPart s p).run.deadlineFlush = true → accepting (getPart s p) = true → h.buf0.state = .forming → h.buf0.refs.length < h.batch →
      h.buf0.runFrom + h.buf0.deadline ≤ nowNs s → h.buf1.state ≠ .forming →
      exec (.gatherDeadline cl ch) s = .next (setChan s c ch.val { h with buf0 := { h.buf0 with flush := true } })) ∧
    (h.buf0.state = .forming → h.buf1.state = .free → releasable h ((getPart s p).run.deadlineFlush && accepting (getPart s p)) (nowNs s) h.buf0 = true →
      cmAnswer s c (cmBank (batchBase h 0)) = .ready → gatherSlot s c cc (batchBase h 0) true = true → guardAt s c true 0 (batchBase h 0) = none → partPosts (getPart s p) = true →
      ∃ t, exec (.batchRelease cl ch cc) s = .next t ∧
        cmRow t c (batchBase h 0) = headerRow { h.buf0 with flush := h.buf0.refs.length != h.batch } h.seq (getPart s p).step s.time.now ∧
        (getChan t c ch.val).buf0.state = .released ∧ (getChan t c ch.val).buf0.batchSeq = h.seq ∧ (getChan t c ch.val).buf0.step = (getPart s p).step ∧
        (getChan t c ch.val).buf0.tRelease = s.time.now ∧ (getChan t c ch.val).seq = h.seq + 1 ∧ (getChan t c ch.val).buf1 = h.buf1 ∧ t.spMem = s.spMem ∧ t.dmMem = s.dmMem)) ∧
  (∀ (s : State) (cl : ClusterId) (ch : Fin 4) (cc k : Nat), let c := cl.val
    let h := getChan s c ch.val
    (∀ n : CoreId, n.cluster = cl → ∃ t, exec (.batchReturn n ch) s = .next t ∧ t.cores = s.cores ∧ t.cmMem = s.cmMem ∧
      (getChan t c ch.val).buf0 = (if gretDue s n.num h.buf0 then { h.buf0 with
        returned := h.buf0.returned ||| BitVec.ofNat 24 (2 ^ lcoreNum (getCore s n.num)), gret := mdel h.buf0.gret (lcoreNum (getCore s n.num)) } else h.buf0) ∧
      (getChan t c ch.val).buf1 = returnBuf s n.num h.buf1) ∧
    (clusterStopped s c = false → (getClus s c).mem.cc = cc →
      (∀ p (ok : Bool) (ecc : Ecc), let x := getRing s (ringOf c ch.val)
        let b := getBuf h k
        let host := (getPart s p).hostPort
        partOfCluster s c = some p → postingBuf h = some k → x.state ≠ .error → partPosts (getPart s p) = true → hostOpen (getPort s host) = true →
        (crSpace x = false → exec (.completionPost cl ch cc ok ecc) s = .next (setRing s (ringOf c ch.val) { x with state := .waitSpace })) ∧
        (∀ page, crSpace x = true → ringMiss s host x [(postAddrs x b).1, (postAddrs x b).2] = some page →
          exec (.completionPost cl ch cc ok ecc) s = .next (askRing s host (ringOf c ch.val) page true)) ∧
        (crSpace x = true → ringMiss s host x [(postAddrs x b).1, (postAddrs x b).2] = none →
          gatherSlot s c cc (resultRow h k b.posted) false = true → gatherAsleep s c (resultRow h k b.posted) = false →
          exec (.completionPost cl ch cc ok ecc) s = .next (if ok then postSlot s p c ch.val k ecc else ringFault s (ringOf c ch.val) 0x01A1))) ∧
      (∀ o, let left := (getBuf h k).toZero.getD bufferOffsets
        let row := batchBase h k + o
        zeroingBuf h = some k → (∀ q ∈ left, gatherAsleep s c (batchBase h k + q) = false) →
        left.find? (fun q => gatherSlot s c cc (batchBase h k + q) true) = some o → cmAnswer s c (cmBank row) = .ready → (getClus s c).mem.uses = [] →
        guardAt s c true 0 row = none →
        ∃ t, exec (.bufferFree cl ch cc) s = .next t ∧ cmRow t c row = 0 ∧
          getBuf (getChan t c ch.val) k = (if (left.erase o).isEmpty then {} else { getBuf h k with toZero := some (left.erase o) }) ∧
          (∀ a, (a < cmAddr c row ∨ cmAddr c row + 512 ≤ a) → readByte t.cmMem a = readByte s.cmMem a) ∧ t.spMem = s.spMem ∧ t.dmMem = s.dmMem)))

/-- MSIX_MESSAGE and MSIX_UNMASK: an event whose time has come is sent by an open port with the address and data of its table entry, and sets the PBA bit of a masked vector; unmasking sends a message kept by its PBA bit, which waits for a port that may not send (15 R575, R599, R600, R602). -/
def Obligations.MsixRows : Prop :=  ∀ (s : State) (h : Fin 2) (vector : Fin 2048), let v : Vec := mget {} (getPort s h.val).vecs vector.val
    (∀ d, v.due = some d → d ≤ nowNs s → v.masked = true →
      exec (.msixMessage h vector) s = .next (setVec s h.val vector.val { v with due := none, causes := [], pba := true })) ∧
    (∀ d, v.due = some d → d ≤ nowNs s → v.masked = false → hostOpen (getPort s h.val) = true →
      exec (.msixMessage h vector) s = .next (emit (setVec s h.val vector.val { v with due := none, causes := [], pba := false, last := some (nowNs s) }) (.msix h.val vector.val v.addr v.data))) ∧
    (portAnswers s h.val = true → v.pba = false → exec (.msixUnmask h vector) s = .next (setVec s h.val vector.val { v with masked := false })) ∧
    (portAnswers s h.val = true → v.pba = true → hostOpen (getPort s h.val) = true → exec (.msixUnmask h vector) s =
      .next (emit (setVec s h.val vector.val { v with masked := false, due := none, causes := [], pba := false, last := some (nowNs s) }) (.msix h.val vector.val v.addr v.data))) ∧
    (portAnswers s h.val = true → v.pba = true → hostOpen (getPort s h.val) = false → exec (.msixUnmask h vector) s =
      .next (setVec s h.val vector.val { v with masked := false, pba := false, due := some (nowNs s) }))

/-- BAR2_READ and BAR2_WRITE: device memory through the window; a read answers the bytes and counts the corrected errors of the rows that it reads, and changes no byte; of a row with an uncorrectable error it answers a value that no rule states; a write changes the bytes it names and no other; a refused access is counted, reads all ones and writes nothing (15 R580, R581; 08 R343). -/
def Obligations.Bar2Rows : Prop :=  ∀ (s : State) (h : Fin 2) (offset : BitVec 36), portAnswers s h.val = true → let a := bar2Addr (getPort s h.val) offset
    (∀ n : Fin 513, offset.toNat + n.val ≤ 2 ^ 36 → bar2Refused s h.val a n.val = false → ∀ ecc0 ecc1 : DramEcc, let s1 := dmReadRange s a n.val ecc0 ecc1
      s1.dmMem = s.dmMem ∧
      (rangeBad s1 a n.val = false → exec (.bar2Read h offset n ecc0 ecc1) s = .next (emit s1 (.readData h.val n.val (bytesNat (readBytes s.dmMem a n.val))))) ∧
      (rangeBad s1 a n.val = true → ∃ v, exec (.bar2Read h offset n ecc0 ecc1) s = .next (emit (useFree s1) (.readData h.val n.val v)))) ∧
    (∀ n : Fin 513, offset.toNat + n.val ≤ 2 ^ 36 → bar2Refused s h.val a n.val = true → ∀ ecc0 ecc1 : DramEcc,
      exec (.bar2Read h offset n ecc0 ecc1) s = .next (emit (refuseBar2 s h.val a) (.readData h.val n.val (2 ^ (8 * n.val) - 1)))) ∧
    (∀ data : List Byte, data.length ≤ 512 → offset.toNat + data.length ≤ 2 ^ 36 → bar2Refused s h.val a data.length = false →
      ∃ t, exec (.bar2Write h offset data) s = .next t ∧ (∀ i, (hi : i < data.length) → readByte t.dmMem (a + i) = data[i]) ∧
        (∀ b, (b < a ∨ a + data.length ≤ b) → readByte t.dmMem b = readByte s.dmMem b) ∧
        t.spMem = s.spMem ∧ t.cmMem = s.cmMem ∧ t.hp = s.hp ∧ t.parts = s.parts ∧ t.clus = s.clus ∧ t.cores = s.cores ∧ t.out = s.out) ∧
    (∀ data : List Byte, data.length ≤ 512 → offset.toNat + data.length ≤ 2 ^ 36 → bar2Refused s h.val a data.length = true →
      ∃ t, exec (.bar2Write h offset data) s = .next t ∧ t.dmMem = s.dmMem ∧ (getPort t h.val).bar2Refused = (getPort s h.val).bar2Refused.bump ∧
        t.stagingDrops = if rangeClosed s a data.length then s.stagingDrops.bump else s.stagingDrops)

/-- H_RESET, HOLD_END, HOLD_EXPIRE, D3HOT_ENTRY, D0_RETURN and IDE_KM_MESSAGE: a reset masks every vector, clears the AER log, closes the link and begins a hold, from which on the page requests sent wait to be sent again; the hold ends once the features are enabled as before, which an open port's configuration requests do, or expires with 0x01A2; D3hot closes the port and D0 opens it again; a request to a port that is not yet open is answered with Request Retry Status (08 R336; 15 R574, R601 to R605; 16 R628; 19 R708). -/
def Obligations.HostLinkRows : Prop :=  ∀ (s : State) (h : Fin 2), let p := getPort s h.val
    (∀ cause, ∃ t, exec (.hReset h cause) s = .next t ∧ (getPort t h.val).hResets = p.hResets.bump ∧ (getPort t h.val).linkUp = false ∧
      (getPort t h.val).busMaster = false ∧ (getPort t h.val).win = 0 ∧ (getPort t h.val).hold = true ∧ (getPort t h.val).aer = { info := (0, 0) } ∧ (∀ v : Nat, (mget {} (getPort t h.val).vecs v).masked = true ∧ (mget {} (getPort t h.val).vecs v).pba = false) ∧
      (∀ q, q ≠ h.val → getPort t q = getPort s q) ∧ t.parts = (recallPri s h.val).parts ∧ t.clus = s.clus ∧ t.cores = s.cores ∧ t.dmMem = s.dmMem) ∧
    (∀ link : LinkState, p.refLost = false → (p.hold = true ∨ p.linkUp = false) →
      let on := p.opened
      let q := { p with replays := p.replays.add link.replays, linkUp := true, flit := link.flit, width := link.width.val, busMaster := on && link.busMaster, ats := on && link.ats, pri := on && link.pri, pasid := on && link.pasid, perst := false }
      exec (.holdEnd h link) s = .next (if p.hold && featuresBack q then reissueAll (setPort s h.val { q with hold := false, before := none, holdExpired := false }) h.val
        else reopen (setPort s h.val q) h.val)) ∧
    (∀ link : LinkState, p.refLost = false → p.hold = false → p.linkUp = true → (p.opened = false ∨ enumerated p = true) → exec (.holdEnd h link) s = .next (setPort s h.val (upPort p link))) ∧
    (p.hold = true → p.holdSince + 1000000 * p.holdMs < nowNs s → p.holdExpired = false →
      exec (.holdExpire h) s = .next (raiseDevice (modPort (failHeld s h.val) h.val (fun q => { q with holdExpired := true, err := q.err.put { code := 0x01A2, addr := 0 } }))
        { code := 0x01A2, kind := 12, index := h.val })) ∧
    (p.linkUp = true → p.opened = true → exec (.d3hotEntry h) s = .next (setPort s h.val { p with d3 := true }) ∧ portAnswers (setPort s h.val { p with d3 := true }) h.val = false) ∧
    (p.linkUp = true → p.opened = true → exec (.d0Return h) s = .next (reopen (setPort s h.val { p with d3 := false }) h.val)) ∧
    (p.linkUp = true → p.opened = false → exec (.d3hotEntry h) s = .next (emit s (.retryStatus h.val)) ∧ exec (.d0Return h) s = .next (emit s (.retryStatus h.val)) ∧
      ∀ message, exec (.ideKmMessage h message) s = .next (emit s (.retryStatus h.val))) ∧
    (p.linkUp = true → p.opened = true → ∀ message, exec (.ideKmMessage h message) s =
      .next (emit (modPort (useFree s) h.val (fun q => takeIdeKm q message)) (.ideKm h.val (Config.ideKmAnswer s.free))))

/-- DEV_IMG_LOAD, DEV_IMG_VERIFY, DEV_IMG_DEFAULT_LOAD, DEV_IMG_DEFAULT_VERIFY, PART_IMG_LOAD and PART_IMG_VERIFY: an allowed command whose own checks pass sets the loader going over its staged range, and changes nothing else; one that fails a check ends at once with its code (02 R65, R66, R68, R69, R74). DEFAULT_IMAGE_COPY_END, IMAGE_CHECKS_END, IMAGE_APPLY_END and APPLY_FAILURE: the payload stands in device memory; the first check that fails refuses the image, a VERIFY ends, a load begins its apply; a full apply ends with code 0; a failed apply leaves its partitions FAULTED (02 R66, R73 to R77; 17 R661). -/
def Obligations.LoaderRows : Prop :=
  (∀ (s : State) (h : Fin 2), portAnswers s h.val = true → s.loader = none →
    (h.val = s.hp.primary → ∀ v : Bool, let c := if v then Instr.devImgVerify h else .devImgLoad h
      (commandFail s none s.img.addr.toNat s.img.len.toNat = none →
        exec c s = .next { s with loader := some { part := none, verify := v, copying := false, autoload := false, applying := false, addr := s.img.addr.toNat, len := s.img.len.toNat, image := 0 } }) ∧
      (∀ f, commandFail s none s.img.addr.toNat s.img.len.toNat = some f → exec c s = .next (loadEnd s none v false f))) ∧
    (h.val = s.hp.primary → ∀ v : Bool, let c := if v then Instr.devImgDefaultVerify h else .devImgDefaultLoad h
      (∀ len bytes, recordInForce s.brz 9 = some (.bytes len bytes) → commandFail s none s.img.addr.toNat len = none →
        exec c s = .next { s with loader := some { part := none, verify := v, copying := true, autoload := false, applying := false, addr := s.img.addr.toNat, len := len, image := 0 } }) ∧
      (recordInForce s.brz 9 = none → exec c s = .next (loadEnd s none v false (headFail 0x0013)))) ∧
    (∀ p : PartId, partDenied s h.val p.val = none → ∀ v : Bool, let c := if v then Instr.partImgVerify h p else .partImgLoad h p
      let g := (getPart s p.val).img
      (commandFail s (some p.val) g.addr.toNat g.len.toNat = none →
        exec c s = .next { s with loader := some { part := some p.val, verify := v, copying := false, autoload := false, applying := false, addr := g.addr.toNat, len := g.len.toNat, image := 0 } }) ∧
      (∀ f, commandFail s (some p.val) g.addr.toNat g.len.toNat = some f → exec c s = .next (loadEnd s (some p.val) v false f)))) ∧
  (∀ (s : State) (r : LoaderRun), s.loader = some r →
    (∀ len bytes, r.copying = true → recordInForce s.brz 9 = some (.bytes len bytes) →
      exec .defaultImageCopyEnd s = .next { s with dmMem := writeBytes s.dmMem r.addr (natBytes len bytes), img := { s.img with len := BitVec.ofNat 32 len },
                                                   loader := some { r with copying := false, len := len } }) ∧
    (r.copying = false → r.applying = false →
      exec .imageChecksEnd s = .next (match checksFail s r with
        | some f => loadEnd s r.part r.verify r.autoload f
        | none => if r.verify then loadEnd s r.part true r.autoload passed else beginApply s r)) ∧
    (r.applying = true → s.pwr.stagger = [] → exec .imageApplyEnd s = .next (finishLoad s r) ∧ (finishLoad s r).loader = none ∧
      (imgRegsOf (finishLoad s r) r.part).resultValid = true ∧ (imgRegsOf (finishLoad s r) r.part).code = 0) ∧
    (r.applying = true → ∀ code, ∃ t, exec (.applyFailure code) s = .next t ∧ t.loader = none ∧ (imgRegsOf t r.part).code = 0x0070 ∧
      (∀ q ∈ (imgEnv s r.part r.image).parts, (getPart t q.num).state = .faulted)))

/-- START, STOP, STOP_DEADLINE, ABORT and ABORT_END, each in every state and PHASE: START sets a STOPPED partition with a task RUNNING, from a FRESH start point each task at its ENTRY_PC, from a KEPT one each core at its PC; STOP makes a stop pending, and one that finds the partition paused or without participants stops it at once; a stop that has not taken effect within PART_STOP_DEADLINE ends with 0x00A2 and the partition stays as it is; ABORT lets the issued operations complete and applies the T reset, and its end scrubs the partition's memories and ends with 0x0000; a command that the state or the PHASE does not allow ends with 0x00A0, 0x00A1, 0x00A3 or 0x00A4 and changes nothing else (17 R661, R663, R664, R666, R668 to R670). -/
def Obligations.PartitionCommands : Prop :=  ∀ (s : State) (p : PartId), let x := getPart s p.val
    let ends (code : Nat) : State := modPart s p.val (fun y => { y with resultValid := true, code := code })
    (∀ h : Fin 2, portAnswers s h.val = true → partDenied s h.val p.val = none →
      (phaseBusy x = true → exec (.start h p) s = .next (ends 0x00A4) ∧ exec (.stop h p) s = .next (ends 0x00A4)) ∧
      (phaseBusy x = false → (x.state ≠ .stopped ∨ x.aborting = true) → exec (.start h p) s = .next (ends 0x00A0)) ∧
      (phaseBusy x = false → x.state = .stopped → x.aborting = false → (∀ n ∈ partCores s p.val, (getCore s n).task = none) → exec (.start h p) s = .next (ends 0x00A1)) ∧
      (phaseBusy x = false → x.state = .stopped → x.aborting = false → (∃ n ∈ partCores s p.val, (getCore s n).task.isSome = true) →
        ∃ t, exec (.start h p) s = .next t ∧ (getPart t p.val).state = .running ∧ (getPart t p.val).hostPort = x.owner ∧ (getPart t p.val).kept = false ∧
          (getPart t p.val).starts = x.starts.bump ∧ (getPart t p.val).resultValid = true ∧ (getPart t p.val).code = 0 ∧
          t.spMem = s.spMem ∧ t.cmMem = s.cmMem ∧ t.dmMem = s.dmMem ∧
          (∀ n ∈ partCores s p.val, (getCore s n).state = .stopped → (getCore s n).task.isSome = true → (getCore t n).state = .running ∧
            (getCore t n).pc = (if x.kept then (getCore s n).pc else (taskOf (getCore s n)).entry))) ∧
      (phaseBusy x = false → x.state = .stopping → x.faultStop = false → exec (.stop h p) s = .next (ends 0)) ∧
      (phaseBusy x = false → ((x.state ≠ .running ∧ x.state ≠ .stopping) ∨ x.faultStop = true) → exec (.stop h p) s = .next (ends 0x00A0)) ∧
      (phaseBusy x = false → x.state = .running → x.faultStop = false →
        let pends := modPart (wakePart s p.val) p.val (fun y => { y with state := .stopping, stopPending := true, stopTime := some (nowNs s), det := { y.det with phase := 0 } })
        (x.det.phase ≠ 2 → participants pends p.val ≠ [] → exec (.stop h p) s = .next pends) ∧
        ((x.det.phase = 2 ∨ participants pends p.val = []) → exec (.stop h p) s = .next (takeStop pends p.val) ∧
          (x.freq.pending = none → let y := getPart (takeStop pends p.val) p.val
            y.state = .stopped ∧ y.kept = true ∧ y.stopPending = false ∧ y.resultValid = true ∧ y.code = 0))) ∧
      (x.det.phase = 3 → exec (.abort h p) s = .next (ends 0x00A4)) ∧
      (x.det.phase ≠ 3 → (x.state = .none ∨ x.state = .loading) → exec (.abort h p) s = .next (ends 0x00A0)) ∧
      (x.det.phase ≠ 3 → x.state = .faulted → recordsValid s p.val = true → exec (.abort h p) s = .next (ends 0x00A3)) ∧
      (x.det.phase ≠ 3 → x.state ≠ .none → x.state ≠ .loading → (x.state = .faulted → recordsValid s p.val = false) →
        let still := (partCores s p.val).foldl (fun a n => drainCore drainStages a n) ((clustersOf s p.val).foldl stopCluster s)
        exec (.abort h p) s = .next (modPart (resetPartition still p.val) p.val (fun y => { y with state := if x.det.phase = 5 then .faulted else .stopped, aborting := true })))) ∧
    (∀ a : State, let t := resetPartition a p.val
      (getPart t p.val).step = (getPart a p.val).run.stepInit ∧ (getPart t p.val).degraded = false ∧ (getPart t p.val).det.phase = 0 ∧ (getPart t p.val).stopPending = false ∧
      (∀ n ∈ partCores a p.val, issuing (getCore t n) = false ∧ ∀ q ∈ (getCore t n).tq, q.2.state = .closed ∧ q.2.entries = []) ∧
      (∀ c ∈ clustersOf a p.val, (∀ i, (getStream t c i).state = .idle) ∧ ∀ ch : Fin 4, (getRing t (ringOf c ch.val)).en = false)) ∧
    (x.stopTime = none → exec (.stopDeadline p) s = .next s) ∧
    (∀ t, x.stopTime = some t →
      (nowNs s < t + 1000 * x.stopDeadline → exec (.stopDeadline p) s = .next s) ∧
      (t + 1000 * x.stopDeadline ≤ nowNs s → exec (.stopDeadline p) s = .next (setPart s p.val { x with stopTime := none, resultValid := true, code := 0x00A2 }))) ∧
    (x.aborting = false → exec (.abortEnd p) s = .next s) ∧
    (x.aborting = true → let t := modPart (scrubPart s p.val) p.val (fun y => { y with aborting := false, resultValid := true, code := 0 })
      exec (.abortEnd p) s = .next (if x.state = .faulted then partEvent t p.val (·.faultVec) else t)) ∧
    (∀ n ∈ partCores s p.val, ∀ i, i < 16777216 → readByte (scrubPart s p.val).spMem (spAddr n 0 + i) = 0) ∧
    (∀ c ∈ clustersOf s p.val, ∀ i, i < 134217728 → readByte (scrubPart s p.val).cmMem (cmAddr c 0 + i) = 0) ∧ (scrubPart s p.val).dmMem = s.dmMem

/-- PAUSE, CONTINUE, FREEZE and THAW: a pause becomes pending, a continue cancels it or completes the calm point, a freeze keeps the phase it came from and makes good the stops of its clocks, a thaw returns to it and extends the deadlines by the freeze; each ends with code 0x0080 where the PHASE or the partition's state does not allow it, and with 0x0089 in a FAULTED partition (11 R446, R449, R450, R457). SAVE, SAVE_END, DUMP, DUMP_END, RESTORE and RESTORE_END: a save, dump or restore closes its range of device memory while it runs; at the end of a save or dump the rows of the saved state stand there, the corrected errors of the rows read counted, and the partition's phase is as before; a restore that fails a check leaves the partition FAULTED (11 R451, R452, R454, R457). -/
def Obligations.DeterminismRows : Prop :=
  (∀ (s : State) (h : Fin 2) (p : PartId), portAnswers s h.val = true → partDenied s h.val p.val = none → let x := getPart s p.val
    (partIsUp x = true →
      (x.det.phase = 0 → exec (.pause h p) s = .next (detEnd (setPhase s p.val 1) p.val 0)) ∧
      (x.det.phase = 1 → exec (.continue_ h p) s = .next (detEnd (setPhase s p.val 0) p.val 0)) ∧
      (x.det.phase = 2 → exec (.continue_ h p) s = .next (detEnd (finishCalm (restartBatches (setPhase s p.val 0) p.val) p.val) p.val 0)) ∧
      (x.det.phase ≤ 1 → exec (.freeze h p) s = .next (detEnd (modPart (settleStops s p.val true) p.val (fun y => { y with det := { y.det with
        phase := 3, backPhase := y.det.phase, freezeTime := nowNs s, excFreeze := y.det.excFreeze.bump } })) p.val 0)) ∧
      (x.det.phase = 3 → exec (.thaw h p) s = .next (detEnd (thawPart s p.val) p.val 0))) ∧
    (partIsUp x = false → x.state ≠ .faulted → exec (.pause h p) s = .next (detEnd s p.val 0x0080) ∧ exec (.continue_ h p) s = .next (detEnd s p.val 0x0080) ∧
      exec (.freeze h p) s = .next (detEnd s p.val 0x0080) ∧ exec (.thaw h p) s = .next (detEnd s p.val 0x0080)) ∧
    (x.state = .faulted → (x.det.phase = 0 → exec (.pause h p) s = .next (detEnd s p.val 0x0089)) ∧ (x.det.phase ≤ 1 → exec (.freeze h p) s = .next (detEnd s p.val 0x0089)) ∧
      (x.det.phase = 3 → exec (.thaw h p) s = .next (detEnd s p.val 0x0089)) ∧ (x.det.phase = 1 ∨ x.det.phase = 2 → exec (.continue_ h p) s = .next (detEnd s p.val 0x0089))) ∧
    (x.det.phase ≠ 0 → exec (.pause h p) s = .next (detEnd s p.val 0x0080)) ∧
    (x.det.phase ≠ 1 → x.det.phase ≠ 2 → exec (.continue_ h p) s = .next (detEnd s p.val 0x0080)) ∧
    (1 < x.det.phase → exec (.freeze h p) s = .next (detEnd s p.val 0x0080)) ∧
    (x.det.phase ≠ 3 → exec (.thaw h p) s = .next (detEnd s p.val 0x0080))) ∧
  (∀ (s : State) (p : PartId), let x := getPart s p.val
    (∀ h : Fin 2, portAnswers s h.val = true → partDenied s h.val p.val = none →
      (x.det.phase = 2 → x.state ≠ .faulted → saveRangeBad s p.val x.det.saveRows = false → exec (.save h p) s = .next (beginRows s p.val 4 x.det.saveRows)) ∧
      (x.det.phase = 3 → x.state ≠ .faulted → saveRangeBad s p.val (x.det.saveRows + dumpExtra s p.val) = false →
        exec (.dump h p) s = .next (beginRows s p.val 6 (x.det.saveRows + dumpExtra s p.val))) ∧
      (detBusy x.det = false → x.state = .stopped → x.aborting = false → s.loaded.lsize ≠ 0 → s.loader = none → saveRangeBad s p.val x.det.saveRows = false →
        exec (.restore h p) s = .next (beginRows s p.val 5 x.det.saveRows))) ∧
    (x.det.phase = 4 → partBad s p.val = false → exec (.saveEnd p) s =
      .next (endRows (countSaved (writeRows s x.det.saveAddr.toNat (savedState s p.val false)) p.val) p.val x.det.backPhase 0)) ∧
    (x.det.phase = 6 → partBad s p.val = false → exec (.dumpEnd p) s =
      .next (endRows (countSaved (writeRows s x.det.saveAddr.toNat (savedState s p.val true)) p.val) p.val 3 0)) ∧
    (x.det.phase = 5 → match restoreError s p.val with
      | none => exec (.restoreEnd p) s = .next (endRows (restoreState s p.val x.det.saveAddr.toNat) p.val 0 0)
      | some code => ∃ t, exec (.restoreEnd p) s = .next t ∧ (getPart t p.val).state = .faulted ∧ (getPart t p.val).det.phase = 0 ∧ (getPart t p.val).det.code = code))

/-- FREQ_CHANGE_CALM, FREQ_CHANGE_IMMEDIATE, CLOCK_GATE, CLOCK_RESTART and GENERATOR_RELOCK: a change waits for a calm point or begins at once; the clocks of a partition, or of one cluster in a switch of its own, are gated, and each other partition with a row held at one of their routers counts a link pause once; they restart at the new step, a throttled cluster at step 5; a generator that has relocked no longer holds over (14 R550 to R552, R555, R567, R571; 19 R715 to R718). THERMAL_SAMPLE: the reading is kept; 105 °C throttles its cluster, 100 °C or less for 10 ms ends it, 115 °C trips the device: every clock is gated and THERMTRIP_N falls (19 R714 to R720). -/
def Obligations.ClockAndThermal : Prop :=
  (∀ (s : State) (p : PartId), let q := (getPart s p.val).freq
    (∀ (h : Fin 2) (target : BitVec 3), portAnswers s h.val = true → partDenied s h.val p.val = none → target.toNat < 6 →
      ((q.pending.isSome = true ∨ target.toNat ≠ q.current) → exec (.freqChangeCalm h p target) s =
        .next (setPart s p.val { getPart s p.val with freq := { q with pending := some target.toNat, waitRelock := false } })) ∧
      (q.switching = false → holdsOver s p.val = false → exec (.freqChangeImmediate h p target) s =
        .next (setPart s p.val { getPart s p.val with freq := { q with
          pending := none, switching := true, gated := false, target := target.toNat, calmMode := false, stopAfter := false, waitRelock := false, byReset := false, current := target.toNat } }))) ∧
    (q.switching = true → q.gated = false → let t := gatePart s p.val
      exec (.clockGate (.part p)) s = .next t ∧ (getPart t p.val).freq.gated = true ∧ (getPart t p.val).freq.gatedAt = nowNs s ∧
      (∀ o, (getPart t o).freq.linkPause = if o ∈ pausedBy s (switchClusters s p.val) then (getPart s o).freq.linkPause.bump else (getPart s o).freq.linkPause) ∧
      t.clus = s.clus ∧ t.cores = s.cores) ∧
    (∀ cl : ClusterId, (getClus s cl.val).own.isSome = true → (getClus s cl.val).gated = none → let t := gateCluster s cl.val
      exec (.clockGate (.cluster cl)) s = .next t ∧ (getClus t cl.val).gated = some (nowNs s) ∧ (∀ d, d ≠ cl.val → getClus t d = getClus s d) ∧ t.cores = s.cores ∧
      (∀ o, (getPart t o).freq.linkPause = if o ∈ pausedBy s [cl.val] then (getPart s o).freq.linkPause.bump else (getPart s o).freq.linkPause)) ∧
    (∀ (cl : ClusterId) (down : Bool) (since : Nat), (getClus s cl.val).own = some down → (getClus s cl.val).gated = some since → (getClus s cl.val).throttleWait = none →
      ∃ t, exec (.clockRestart (.cluster cl)) s = .next t ∧ (getClus t cl.val).own = none ∧ (getClus t cl.val).gated = none ∧
        (down = true → (getClus t cl.val).step = 5) ∧ (∀ o, down = false → partOfCluster s cl.val = some o → (getClus t cl.val).step = (getPart s o).freq.current)) ∧
    (q.gated = true → q.pending = none → q.byReset = false → (∀ c ∈ clustersOf s p.val, (getClus s c).throttleWait = none) →
      ∃ t, exec (.clockRestart (.part p)) s = .next t ∧ (getPart t p.val).freq.switching = false ∧ (getPart t p.val).freq.gated = false ∧
        (∀ c ∈ clustersOf s p.val, (getClus t c).step = if switchesWith (getClus s c) then q.target else (getClus s c).step) ∧
        (q.calmMode = true → q.stopAfter = false → (getPart t p.val).calmHeld = false ∧ ∀ n ∈ partCores s p.val, (getCore t n).calm = none)) ∧
    (∀ cl : ClusterId, s.time.refclkLost = false → (getClus s cl.val).holdover = true → partOfCluster s cl.val = none →
      exec (.generatorRelock cl) s = .next (modClus s cl.val (fun x => { x with holdover := false })))) ∧
  (∀ (s : State) (sensor : Fin 34) (reading : BitVec 16), let v := reading.toInt
    ∃ t, exec (.thermalSample sensor reading) s = .next t ∧ mget 0 t.pwr.tj sensor.val = v ∧
      (s.pwr.railsGood = true → sensor.val < 32 → (getClus s sensor.val).throttled = false → clusterSwitching s sensor.val = false →
        (getClus t sensor.val).throttled = decide (1050 ≤ v)) ∧
      (∀ since, s.pwr.railsGood = true → sensor.val < 32 → (getClus s sensor.val).throttled = true → clusterSwitching s sensor.val = false →
        (getClus s sensor.val).coolSince = some since → v ≤ 1000 → since + 10000000 ≤ nowNs s → (getClus t sensor.val).throttled = false) ∧
      (s.pwr.railsGood = true → 1150 ≤ v → s.pwr.thermtrip = false → t.pwr.thermtrip = true ∧ t.pins.thermtripLow = true ∧ ∀ c, c < 32 → (getClus t c).tripGated = true) ∧
      (s.pwr.railsGood = true → v < 1150 → t.pwr.thermtrip = s.pwr.thermtrip ∧ ∀ c, (getClus t c).tripGated = (getClus s c).tripGated))

/-- PTP_SYNC, PTP_FRAME, SYNC_TIMEOUT, REFERENCE_LOSS and REFERENCE_RESTORE, each in every state: a Sync on the port that holds the SlavePort role, without FREE_RUN, gives the offset, an ADJ of at most 200 ppm and perhaps a step where R560 allows one; beyond 1 µs the counter is untrusted, and the eighth in a row within 100 ns makes it trusted while REFCLK is present. A PTP frame puts the SlavePort role where the port state machines have it. Without a Sync for TIME_SYNC_TIMEOUT a trusted counter is untrusted. Each transition to untrusted is counted with fault 0x0193. The loss of a reference is held and raises 0x0190, 0x0191 or 0x0192, and with REFCLK every generator holds over and the counter is untrusted, with the reference of a host port its link goes down and the port holds; a reference restored is no longer lost, and with REFCLK the counter is trusted where the other conditions hold (14 R559 to R562, R565 to R567; 15 R602). PPS_OUT and TIME_CAPTURE, each in every state: the pin rises at a whole second of the counter, within 10 ns and once, while PPS_EN is set, DRIFT is below 1 µs and the main side runs; at any other time a pin that is high falls where its 100 µs are over, PPS_EN is clear, DRIFT has reached 1 µs or the main side does not run, and stays as it is otherwise; an edge latches the counter, and of edges closer than 1 µs only the first does (14 R568, R569; 21 R754). -/
def Obligations.TimeRows : Prop :=
  (∀ (s : State), let now := s.time.now.toNat
    (∀ (f : Fin 4) (offset : BitVec 64), let off := offset.toInt
      ((s.time.slave ≠ some f.val ∨ s.time.freeRun = true) → exec (.ptpSync f offset) s = .next s) ∧
      (s.time.slave = some f.val → s.time.freeRun = false → ∃ t, exec (.ptpSync f offset) s = .next t ∧
        t.time.offset = max (-2147483648) (min 2147483647 off) ∧ -1717986 ≤ t.time.adj ∧ t.time.adj ≤ 1717986 ∧ t.time.lastSync = t.time.now.toNat ∧
        t.time.goodSyncs = (if off.natAbs ≤ 100 then s.time.goodSyncs + 1 else 0) ∧
        ((t.time.now = s.time.now ∧ t.time.steps = s.time.steps ∧ t.time.lastStep = s.time.lastStep) ∨
          (mayStep s off = true ∧ t.time.now = BitVec.ofInt 64 ((now : Int) - off) ∧ t.time.steps = s.time.steps.bump ∧ t.time.lastStep = -off)) ∧
        (1000 < off.natAbs → t.time.trusted = false ∧ t.time.untrustCount = (if s.time.trusted then s.time.untrustCount.bump else s.time.untrustCount)) ∧
        (1000 < off.natAbs → s.time.trusted = true → s.ff.latch.valid = false → t.ff.latch.valid = true ∧ t.ff.latch.info.code = 0x0193) ∧
        (off.natAbs ≤ 1000 → s.time.trusted = true → t.time.trusted = true) ∧
        (off.natAbs ≤ 100 → 7 ≤ s.time.goodSyncs → s.time.refclkLost = false → t.time.trusted = true ∧ t.time.everTrusted = true ∨ s.time.trusted = true) ∧
        (s.time.trusted = false → (100 < off.natAbs ∨ s.time.goodSyncs < 7 ∨ s.time.refclkLost = true) → t.time.trusted = false) ∧
        t.cores = s.cores ∧ t.clus = s.clus ∧ t.parts = s.parts ∧ t.dmMem = s.dmMem)) ∧
    (∀ (f : Fin 4) (slave : Option (Fin 4)), let x := getFab s f.val
      let s1 := setFab s f.val { x with ptpQueue := x.ptpQueue + 1 }
      ((x.ptp = false ∨ x.linkUp = false) → exec (.ptpFrame f slave) s = .next s) ∧
      (x.ptp = true → x.linkUp = true →
        (slave = none → exec (.ptpFrame f slave) s = .next (setSlave s1 none)) ∧
        (∀ g, slave = some g → (getFab s g.val).ptp = true → exec (.ptpFrame f slave) s = .next (setSlave s1 (some g.val))) ∧
        (∀ g, slave = some g → (getFab s g.val).ptp = false → exec (.ptpFrame f slave) s = .next s1))) ∧
    (∀ (a : State) (slave : Option Nat), let t := setSlave a slave
      t.time.slave = slave ∧ (∀ f : Fin 4, (getFab t f.val).ptpSlave = (slave == some f.val)) ∧
      (slave = none → a.time.freeRun = false → a.time.slave ≠ none → t.time.trusted = false)) ∧
    ((s.time.trusted = false ∨ s.time.freeRun = true ∨ s.time.slave = none ∨ s.time.since s.time.lastSync < 1000000 * s.time.syncTimeout) →
      exec .syncTimeout s = .next s) ∧
    (s.time.trusted = true → s.time.freeRun = false → s.time.slave ≠ none → 1000000 * s.time.syncTimeout ≤ s.time.since s.time.lastSync →
      exec .syncTimeout s = .next (untrustTime s)) ∧
    (∀ a : State, a.time.trusted = true → let t := untrustTime a
      t.time.trusted = false ∧ t.time.untrustCount = a.time.untrustCount.bump ∧ t.time.untrustedSince = a.time.now.toNat ∧ t.time.goodSyncs = 0 ∧
      (a.ff.latch.valid = false → t.ff.latch.valid = true ∧ t.ff.latch.info.code = 0x0193)) ∧
    (∀ (a : State) (code index : Nat) (detail : W64), let t := timeFault a code index detail
      t.ff.faults = a.ff.faults.bump ∧ t.ff.latch.valid = true ∧ (a.ff.latch.valid = false → t.ff.latch.info.code = code ∧ t.ff.latch.info.index = index) ∧
      (a.ff.latch.valid = true → t.ff.latch.info = a.ff.latch.info)) ∧
    (s.time.refclkLost = true → exec (.referenceLoss .refclk) s = .next s) ∧
    (s.time.refclkLost = false → let t := untrustTime (timeFault (holdOver (modTime s (fun t => { t with refclkLost := true }))) 0x0190 0 0)
      exec (.referenceLoss .refclk) s = .next t ∧ t.time.refclkLost = true ∧ t.time.trusted = false ∧ (∀ c, c < 32 → (getClus t c).holdover = true) ∧
      (s.ff.latch.valid = false → t.ff.latch.valid = true ∧ t.ff.latch.info.code = 0x0190)) ∧
    (s.hp.p0.refLost = true → exec (.referenceLoss .h0) s = .next s) ∧
    (s.hp.p0.refLost = false → exec (.referenceLoss .h0) s = .next (timeFault (loseHostRef s 0) 0x0191 1 0) ∧
      (getPort (loseHostRef s 0) 0).refLost = true ∧ (getPort (loseHostRef s 0) 0).linkUp = false ∧ (getPort (loseHostRef s 0) 0).hold = true) ∧
    (s.hp.p1.refLost = true → exec (.referenceLoss .h1) s = .next s) ∧
    (s.hp.p1.refLost = false → exec (.referenceLoss .h1) s = .next (timeFault (loseHostRef s 1) 0x0191 2 1) ∧
      (getPort (loseHostRef s 1) 1).refLost = true ∧ (getPort (loseHostRef s 1) 1).linkUp = false ∧ (getPort (loseHostRef s 1) 1).hold = true) ∧
    (s.time.xtalLost = true → exec (.referenceLoss .xtal) s = .next s) ∧
    (s.time.xtalLost = false → exec (.referenceLoss .xtal) s = .next (timeFault (modTime s (fun t => { t with xtalLost := true })) 0x0192 3 0)) ∧
    (s.time.refclkLost = false → exec (.referenceRestore .refclk) s = .next s) ∧
    (s.time.refclkLost = true → let s1 := modTime s (fun t => { t with refclkLost := false })
      (mayTrust s1.time = true → exec (.referenceRestore .refclk) s = .next (trustTime s1) ∧ (trustTime s1).time.trusted = true ∧ (trustTime s1).time.refclkLost = false) ∧
      (mayTrust s1.time = false → exec (.referenceRestore .refclk) s = .next s1)) ∧
    exec (.referenceRestore .h0) s = .next (modPort s 0 (fun p => { p with refLost := false })) ∧
    exec (.referenceRestore .h1) s = .next (modPort s 1 (fun p => { p with refLost := false })) ∧
    exec (.referenceRestore .xtal) s = .next (modTime s (fun t => { t with xtalLost := false }))) ∧
  (∀ (s : State), let r := s.time.now.toNat % 1000000000
    let driven := s.brz.mainRuns = true ∧ s.time.ppsEn = true ∧ drift s.time < 1000
    let whole := (r ≤ 10 ∨ 999999990 ≤ r) ∧ ∀ t, s.pins.pps = some t → 20 < s.time.since t
    let lasts := ∃ t, s.pins.pps = some t ∧ s.time.since t < 100000
    (driven → whole → exec .ppsOut s = .next (emit { s with pins := { s.pins with ppsHigh := true, pps := some s.time.now.toNat } } (.pin 0 true))) ∧
    (¬(driven ∧ whole) → s.pins.ppsHigh = true → ¬(driven ∧ lasts) → exec .ppsOut s = .next (emit { s with pins := { s.pins with ppsHigh := false } } (.pin 0 false))) ∧
    (¬(driven ∧ whole) → (s.pins.ppsHigh = false ∨ (driven ∧ lasts)) → exec .ppsOut s = .next s) ∧
    ((∀ e, s.time.lastEdge = some e → 1000 ≤ s.time.since e) →
      exec .timeCapture s = .next { s with time := { s.time with capture := s.time.now, captureSeq := s.time.captureSeq + 1, lastEdge := some s.time.now.toNat } }) ∧
    (∀ e, s.time.lastEdge = some e → s.time.since e < 1000 → exec .timeCapture s = .next s))

/-- LINK_UP, LINK_DOWN, ADMIN_DOWN, LINK_HOLD_EXPIRE, WINDOW_OPEN, WINDOW_CLOSE, PERIOD_BOUNDARY and WINDOWS_SUSPEND: the link and its hold, at whose end every open context is fenced; a window opens at its place and sends, and closes when its time has passed; each boundary of the period, once, ages the frames or counts a suspended period (12 R486, R491 to R497, R500). -/
def Obligations.FabricPorts : Prop :=  ∀ (s : State) (f : Fin 4), let x := getFab s f.val
    (x.mode ≠ 0 → x.adminDown = false → exec (.linkUp f) s = .next (pumpWindow (setFab s f.val { x with
      linkUp := true, laneLock := 15, downSince := if x.macsecStopped then x.downSince else none, holdFenced := false }) f.val)) ∧
    (x.linkUp = true → ∃ t, exec (.linkDown f) s = .next t ∧ (getFab t f.val).linkUp = false ∧ (getFab t f.val).downSince.isSome = true ∧ (getFab t f.val).peers = x.peers ∧
      (getFab t f.val).txQueue = x.txQueue ∧ (s.time.slave = some f.val → t.time.slave = none)) ∧
    (∀ h : Fin 2, portAnswers s h.val = true → h.val = s.hp.primary → ∃ t, exec (.adminDown h f) s = .next t ∧ (getFab t f.val).adminDown = true ∧ (getFab t f.val).linkUp = false) ∧
    (∀ since, x.downSince = some since → since + 1000000 * x.linkHoldMs ≤ nowNs s →
      ∃ t, exec (.linkHoldExpire f) s = .next t ∧ (getFab t f.val).downSince = none ∧ (getFab t f.val).holdFenced = true ∧
        ∀ dev, (getPeer s f.val dev).state = .open_ → (getPeer t f.val dev).state = .fenced) ∧
    (∀ (window : Fin 1024) (v : Window), x.windows[window.val]? = some v →
      (s.fab.active = true → s.fab.suspended = false → x.open_ = none → s.fab.period ≠ 0 → v.start ≤ nowNs s % s.fab.period → nowNs s % s.fab.period < v.start + v.len →
        exec (.windowOpen f window) s = .next (pumpWith true (setFab s f.val { x with
          open_ := some (window.val, 100 * nowNs s, nowNs s - nowNs s % s.fab.period + v.start + v.len) }) f.val)) ∧
      (∀ busy close, x.open_ = some (window.val, busy, close) → close ≤ nowNs s →
        exec (.windowClose f window) s = .next (setFab s f.val { x with open_ := none, slips := if slipped s f.val v then x.slips.bump else x.slips }))) ∧
    (s.fab.active = true → s.fab.suspended = true → s.time.trusted = false → boundaryDue s = true →
      exec .periodBoundary s = .next { s with fab := { s.fab with boundary := some (nowNs s / s.fab.period), suspPeriods := s.fab.suspPeriods.bump } }) ∧
    (boundaryDue s = false → exec .periodBoundary s = .next s) ∧
    (s.fab.active = true → s.time.trusted = true → boundaryDue s = true →
      exec .periodBoundary s = .next ([0, 1, 2, 3].foldl (fun a g => (peerDevs a g).foldl (fun b dev => ageFrames b g dev (getFab b g).retxTimeout) a)
        { s with fab := { s.fab with boundary := some (nowNs s / s.fab.period), suspended := false, holdover := false } })) ∧
    (s.fab.active = true → s.fab.suspended = false → s.time.trusted = false → 1000 ≤ drift s.time →
      ∃ t, exec .windowsSuspend s = .next t ∧ t.fab.suspended = true ∧ t.fab.suspensions = s.fab.suspensions.bump)

/-- FABRIC_MESSAGE_COMPLETE and TX_SESSION_OPEN: a whole message is queued on its context, or discarded with reason 8 or 9; a context that waits takes the next session of its port (12 R474 to R476, R485). DATA_FRAME_RECEIVE, DROP_FRAME_RECEIVE, ACK_FRAME_RECEIVE, SYNC_FRAME_RECEIVE, FRAME_DISCARD and FRAME_DELIVER: the bytes that come are one frame, a bad frame, or one to discard; the corrected codewords are counted, and so are bad and discarded frames; a frame for another device, or of a context that does not take it, is discarded; any other gives its acknowledgement and then its own effect; the frame in sequence enters the mesh (12 R465 to R467, R472, R473, R477 to R484). -/
def Obligations.FabricFrames : Prop :=
  (∀ (s : State) (f : Fin 4), let x := getFab s f.val
    (∀ (lane : Fin 64) (r : MsgRow) (rest : List MsgRow), completeMessage x lane.val = some (r :: rest) →
      let s1 := modFab s f.val (fun x => { x with partial_ := (r :: rest).foldl (fun a m => a.erase m) x.partial_ })
      let dev := rowDev r.header
      ((getPeer s f.val dev).state = .absent → exec (.fabricMessageComplete f lane) s = .next (dropAtPort s1 f.val 8 r.header)) ∧
      ((getPeer s f.val dev).state = .fenced → exec (.fabricMessageComplete f lane) s = .next (dropAtPort s1 f.val 9 r.header)) ∧
      ((getPeer s f.val dev).state ≠ .absent → (getPeer s f.val dev).state ≠ .fenced →
        exec (.fabricMessageComplete f lane) s = .next (pumpWindow (modFab s1 f.val (fun x => { x with txQueue := x.txQueue ++
          [(dev, { ftype := 1, src := s.self, srcPort := f.val, dst := dev, header := withRow r.header 0, rows := (r :: rest).map (fun m => m.row) })] })) f.val))) ∧
    (∀ dev : Fin 1024, let p := getPeer s f.val dev.val
      p.state = .syncing → p.wantSession = true → x.linkUp = true → x.macsecStopped = false → s.fab.active = true → s.time.trusted = true → x.seeded = true →
      exec (.txSessionOpen f dev) s = .next (pumpWindow (modFab (setPeer s f.val dev.val { p with wantSession := false, txSession := x.session, syncs := 0, acked := false }) f.val
        (fun y => { y with session := y.session + 1 })) f.val))) ∧
  (∀ (s : State) (f : Fin 4), (getFab s f.val).linkUp = true →
    (∀ (bytes : List Byte) (corrected : Nat), let counted (t : State) : State := modFab t f.val (fun x => { x with fecCorr := x.fecCorr.add corrected })
      let discarded (t : State) : State := modFab t f.val (fun x => { x with rxDiscard := x.rxDiscard.bump })
      let bad (t : State) : State := modFab t f.val (fun x => { x with rxBad := x.rxBad.bump })
      (∀ fr y, arrived f.val (getFab s f.val) bytes = .frame fr y →
        let s1 := counted (setFab s f.val y)
        let s2 := modFab s1 f.val (fun x => { x with rxFrames := x.rxFrames.bump })
        let p := getPeer s1 f.val fr.src
        let c : Option (Instr × (State → State)) := match fr.ftype with
          | 1 => some (.dataFrameReceive f bytes corrected, fun t => sequenceFrame t f.val fr.src fr)
          | 2 => some (.ackFrameReceive f bytes corrected, id)
          | 3 => some (.syncFrameReceive f bytes corrected, fun t => takeSync t f.val fr.src fr)
          | 4 => some (.dropFrameReceive f bytes corrected, fun t => sequenceFrame t f.val fr.src fr)
          | _ => none
        ∀ i act, c = some (i, act) →
          (fr.dst ≠ s.self → exec i s = .next (discarded s1)) ∧
          (fr.dst = s.self → (p.state = .absent ∨ p.state = .fenced) → exec i s = .next (discarded s2)) ∧
          (fr.dst = s.self → p.state ≠ .absent → p.state ≠ .fenced → exec i s = .next (act (takeAck s2 f.val fr.src fr)))) ∧
      (∀ i ∈ [Instr.dataFrameReceive f bytes corrected, .dropFrameReceive f bytes corrected, .ackFrameReceive f bytes corrected, .syncFrameReceive f bytes corrected,
          .frameDiscard f (.wire bytes) corrected],
        (arrived f.val (getFab s f.val) bytes = .bad → exec i s = .next (bad (counted s))) ∧
        (arrived f.val (getFab s f.val) bytes = .discard → exec i s = .next (discarded (counted s)))) ∧
      (∀ more, exec (.frameDiscard f (.fecUncorrectable more) corrected) s =
        .next (bad (modFab (counted s) f.val (fun x => { x with fecUncorr := x.fecUncorr.add (more + 1) }))))) ∧
    (∀ (dev : Fin 1024) (fr : Frame) (rest : List Frame), let p := getPeer s f.val dev.val
      p.ready = fr :: rest → p.state ≠ .absent → p.state ≠ .fenced →
      (∀ q, fr.ftype ≠ 4 → partOfCluster s (rowCluster fr.header) = some q → ingressOpen s f.val q (rowCluster fr.header) = true →
        exec (.frameDeliver f dev) s = .next (advanceRx (fr.rows.zipIdx.foldl (fun a e => enterIngress a f.val q (rowCluster fr.header) (frameRow f.val fr.header e.2 e.1)) s) f.val dev.val)) ∧
      (fr.ftype ≠ 4 → partOfCluster s (rowCluster fr.header) = none → portFree s f.val = true →
        exec (.frameDeliver f dev) s = .next (pumpWindow (advanceRx (queueDrop s f.val fr.src 1 fr.header) f.val dev.val) f.val)) ∧
      (∀ q, fr.ftype = 4 → partOfCluster s (rowSrcCluster fr.header) = some q → ingressOpen s f.val q (rowSrcCluster fr.header) = true →
        exec (.frameDeliver f dev) s = .next (advanceRx (reportDrop s f.val fr.reason fr.header) f.val dev.val))))

/-- TWIN_DEADLINE and FF_CLEAR: records that stayed unmatched for the deadline are discarded; the code of a valid record clears it and its VALID, another code is refused with CAUSE 0xFFFF, and a device record whose cause persists is refused with that cause (13 R541; 18 R690, R691, R694). -/
def Obligations.TwinAndClear : Prop :=  ∀ (s : State),
    (∀ p : PartId, let t := (getPart s p.val).twin
      ∃ u, exec (.twinDeadline p) s = .next u ∧ (getPart u p.val).twin.localRecs = t.localRecs.filter (fun r => !decide (r.time + 1000 * t.deadline ≤ nowNs s)) ∧
        (getPart u p.val).twin.remoteRecs = t.remoteRecs.filter (fun r => !decide (r.time + 1000 * t.deadline ≤ nowNs s))) ∧
    (∀ (h : Fin 2) (code : W32), portAnswers s h.val = true → code.toNat < 65536 →
      (h.val = s.hp.primary → s.ff.latch.valid = true →
        (code.toNat = s.ff.latch.info.code → persistingCodes s = [] →
          exec (.ffClear h none code) s = .next { s with ff := { s.ff with latch := { s.ff.latch with valid := false, overflow := false }, refused := false, cause := 0 } }) ∧
        (code.toNat ≠ s.ff.latch.info.code →
          exec (.ffClear h none code) s = .next (platformEvent { s with ff := { s.ff with refused := true, cause := 0xFFFF } } 1 s.ff.latch.info.code)) ∧
        (∀ c rest, code.toNat = s.ff.latch.info.code → persistingCodes s = c :: rest →
          exec (.ffClear h none code) s = .next (platformEvent { s with ff := { s.ff with refused := true, cause := c } } 1 s.ff.latch.info.code))) ∧
      (∀ c : ClusterId, clusDenied s h.val c.val = none → (getClus s c.val).ff.latch.valid = true →
        (code.toNat = (getClus s c.val).ff.latch.info.code → ∃ u, exec (.ffClear h (some c) code) s = .next u ∧ (getClus u c.val).ff.latch.valid = false ∧
          (∀ n ∈ coresOf c.val, (getCore u n).fault.valid = false)) ∧
        (code.toNat ≠ (getClus s c.val).ff.latch.info.code →
          exec (.ffClear h (some c) code) s = .next (modClus s c.val (fun x => { x with ff := { x.ff with refused := true, cause := 0xFFFF } })))))

/-- REGISTER_WRITE: in BAR0 a write with a byte enable clear or off a register, to no register, to a register with RO fields only, or that a rule denies is rejected with its reason, and changes nothing but FLT_WR_REJ of its port; any other has its register's effect; in BAR4 a write sets the field of the MSI-X table entry that it names, and clearing the mask bit unmasks the vector (15 R575, R600; 18 R698; the layout of an entry is the model's choice, log entry 116). -/
def Obligations.RegisterWrites : Prop :=  ∀ (s : State) (h : Fin 2) (offset : BitVec 25) (data : W32) (enables : BitVec 4), portAnswers s h.val = true → let o := offset.toNat
    let i := Instr.registerWrite h .bar0 offset data enables
    let closed : Option Nat := if 0x1000000 ≤ o ∧ o < 0x1200000 then blockClosed s ((o - 0x1000000) / 0x10000) (o % 0x10000) else none
    ((enables ≠ 0xF ∨ o % 4 ≠ 0) → exec i s = .next (reject s h.val 2 o data)) ∧
    (enables = 0xF → o % 4 = 0 →
      (regAt s h.val o = none → exec i s = .next (reject s h.val 0xA o data)) ∧
      (∀ r, regAt s h.val o ≠ none → closed = some r → exec i s = .next (reject s h.val r o data)) ∧
      (regAt s h.val o ≠ none → closed = none → writeRule s h.val o data = none → exec i s = .next (reject s h.val 9 o data)) ∧
      (∀ w r, regAt s h.val o ≠ none → closed = none → writeRule s h.val o data = some w → ruleDenied w data = some r → exec i s = .next (reject s h.val r o data)) ∧
      (∀ w, regAt s h.val o ≠ none → closed = none → writeRule s h.val o data = some w → ruleDenied w data = none → exec i s = .next (w.act s))) ∧
    (∀ vector : Fin 2048, let v : Vec := mget {} (getPort s h.val).vecs vector.val
      let b := Instr.registerWrite h .bar4 offset data 0xF
      (o = 16 * vector.val → exec b s = .next (setVec s h.val vector.val { v with addr := v.addr.extractLsb' 32 32 ++ data })) ∧
      (o = 16 * vector.val + 4 → exec b s = .next (setVec s h.val vector.val { v with addr := data ++ v.addr.extractLsb' 0 32 })) ∧
      (o = 16 * vector.val + 8 → exec b s = .next (setVec s h.val vector.val { v with data := data })) ∧
      (o = 16 * vector.val + 12 → exec b s = .next (if data.getLsbD 0 then setVec s h.val vector.val { v with masked := true } else unmask s h.val vector.val)))

/-- LOW_HALF_READ, HIGH_HALF_READ and WIDE_READ: a read of the low half of a 64-bit value keeps its high half in the port's latch; the read of the high half that follows returns it, whatever the register holds by then, and empties the latch; a read of 8 bytes is one snapshot and leaves the latch; in BAR4 a read returns the MSI-X table and changes nothing (00 R9; 15 R575; 20 R731, R732; the layout of an entry is the model's choice, log entry 116). -/
def Obligations.RegisterReads : Prop :=  ∀ (s : State) (h : Fin 2) (offset : BitVec 25), portAnswers s h.val = true → offset.toNat % 4 = 0 → let o := offset.toNat
    (∀ r v, regAt s h.val o = some r → r.pair = some (v, true) → exec (.lowHalfRead h .bar0 offset) s =
      .next (emit (modPort s h.val (fun p => { p with latch := some (v.extractLsb' 32 32, o) })) (.readData h.val 4 r.value))) ∧
    (∀ r v hi a, regAt s h.val o = some r → r.pair = some (v, false) → (getPort s h.val).latch = some (hi, a) → a + 4 = o → exec (.highHalfRead h offset) s =
      .next (emit (modPort s h.val (fun p => { p with latch := none })) (.readData h.val 4 hi.toNat))) ∧
    (regAt s h.val o = none → exec (.lowHalfRead h .bar0 offset) s = .next (emit s (.readData h.val 4 0)) ∧ exec (.highHalfRead h offset) s = .next (emit s (.readData h.val 4 0))) ∧
    (∀ r, regAt s h.val o = some r → r.pair = none →
      exec (.lowHalfRead h .bar0 offset) s = .next (emit s (.readData h.val 4 r.value)) ∧ exec (.highHalfRead h offset) s = .next (emit s (.readData h.val 4 r.value))) ∧
    (∀ r q, o % 8 = 0 → regAt s h.val o = some r → regAt s h.val (o + 4) = some q →
      exec (.wideRead h .bar0 offset) s = .next (emit s (.readData h.val 8 (r.value + 2 ^ 32 * q.value)))) ∧
    (exec (.lowHalfRead h .bar4 offset) s = .next (emit s (.readData h.val 4 (bar4At (getPort s h.val) o)))) ∧
    (exec (.wideRead h .bar4 offset) s = .next (emit s (.readData h.val 8 (bar4At (getPort s h.val) o + 2 ^ 32 * bar4At (getPort s h.val) (o + 4)))))

/-- No BAR0 read has a side effect other than the latch of R9; a read of a field that a write clears returns its value and clears nothing. -/
def Obligations.ReadsHaveNoSideEffect : Prop :=  ∀ (s : State) (h : Fin 2) (offset : BitVec 25), portAnswers s h.val = true →
    ∀ c ∈ [Instr.lowHalfRead h .bar0 offset, .highHalfRead h offset, .wideRead h .bar0 offset],
      ∃ (l : Option (BitVec 32 × Nat)) (n v : Nat), exec c s = .next (emit (modPort s h.val (fun p => { p with latch := l })) (.readData h.val n v)) ∧
        (∀ r, regAt s h.val (readOffset offset) = some r → r.pair = none → v % 2 ^ 32 = r.value % 2 ^ 32)

/-- A port that does not answer takes no command and no access: nothing changes (15 R605; 16 R628). -/
def Obligations.ClosedPortsAreSilent : Prop :=  ∀ (s : State) (h : Fin 2), portAnswers s h.val = false →
    ∀ (b : BankId) (p : PartId) (r : Fin 128) (f : Fin 4) (w : W32) (v : Fin 2048) (o : BitVec 25) (t : BitVec 3) (rec : Option ClusterId) (e : BitVec 4)
      (o2 : BitVec 36) (n : Fin 513) (d : List Byte) (bar : RegBar) (e0 e1 : DramEcc),
      ∀ c ∈ [Instr.bankOff h b, .bankOn h b, .pageTableWrite h p w, .pfAck h p w, .ringEnable h r, .ringDisable h r, .devImgLoad h, .devImgVerify h, .devImgDefaultLoad h,
        .devImgDefaultVerify h, .partImgLoad h p, .partImgVerify h p, .start h p, .stop h p, .abort h p, .pause h p, .continue_ h p, .freeze h p, .thaw h p, .save h p, .dump h p,
        .restore h p, .freqChangeCalm h p t, .freqChangeImmediate h p t, .adminDown h f, .ffClear h rec w, .registerWrite h bar o w e, .lowHalfRead h bar o, .highHalfRead h o, .wideRead h bar o,
        .msixUnmask h v, .bar2Read h o2 n e0 e1, .bar2Write h o2 d], exec c s = .next s

/-- A partition command from a port that is not the partition's is rejected with reason 3 or 4 and counted, and changes nothing else (15 R577, R578; 18 R698). -/
def Obligations.OnlyTheOwnerCommands : Prop :=  ∀ (s : State) (h : Fin 2) (p : PartId) (r : Nat) (t : BitVec 3), portAnswers s h.val = true → partDenied s h.val p.val = some r →
    (r = 3 ∨ r = 4) ∧
    ∀ c ∈ [Instr.start h p, .stop h p, .abort h p, .pause h p, .continue_ h p, .freeze h p, .thaw h p, .save h p, .dump h p, .restore h p, .freqChangeCalm h p t,
      .freqChangeImmediate h p t, .partImgLoad h p, .partImgVerify h p], ∃ off data, exec c s = .next (reject s h.val r off data)

/-- P_RESET, F_RESET, M_RESET, CLUSTER_POWER_UP, STANDBY_ENTRY and STANDBY_EXIT: a P or F reset and Standby keep flash and leave every memory and partition at its reset value; an M reset beside a running main side leaves the main side as it is, MAIN_UP reporting it where stages 1 to 4 pass; beside one that does not run the boot starts again at stage 1; a cluster is powered in its turn, and behind the last one the boot goes on (16 R627, R635; 19 R710, R722, R725 to R729). -/
def Obligations.DeviceResets : Prop :=  ∀ (s : State) (env : BootEnv), let fresh (t : State) : Prop := t.brz.flash = s.brz.flash ∧ t.spMem = [] ∧ t.cmMem = [] ∧
      (∀ p, (getPart t p).state = .none) ∧ (∀ n, (getCore t n).state = .noTask ∨ (getCore t n).state = .disabled)
    (∃ t, exec (.pReset env) s = .next t ∧ fresh t ∧ t.pwr.kind = 0 ∧ t.pwr.cause = 0) ∧
    (∀ cause, ∃ t, exec (.fReset cause env) s = .next t ∧ fresh t ∧ t.pwr.kind = 1 ∧ t.pwr.cause = (match cause with | .devReset => 1 | .bothPerst => 2) ∧
      t.ff.latch = s.ff.latch) ∧
    (s.brz.mainRuns = true → let u := modBrz { s with time := { s.time with xtalLost := false } } breezeAtM
      ∃ t, exec (.mReset env) s = .next t ∧ t.brz.flash = s.brz.flash ∧ t.brz.mainRuns = true ∧ t.brz.mainUp = (bootBreeze env u).2 ∧ t.cores = s.cores ∧ t.clus = s.clus ∧ t.parts = s.parts ∧
      t.hp = s.hp ∧ t.fab = s.fab ∧ t.spMem = s.spMem ∧ t.cmMem = s.cmMem ∧ t.dmMem = s.dmMem ∧ t.pwr = s.pwr) ∧
    (s.brz.mainRuns = false → exec (.mReset env) s = .next (bootAll env { s with time := { s.time with xtalLost := false }, pwr := { s.pwr with stagger := [] }, brz := breezeFresh s.brz })) ∧
    (∀ (cl : ClusterId) rest, s.pwr.stagger = cl.val :: rest →
      exec (.clusterPowerUp cl) s = .next (bootOn (modClus { s with pwr := { s.pwr with stagger := rest } } cl.val (fun x => { x with powered := true })))) ∧
    (s.pwr.railsGood = true → ∃ t, exec .standbyEntry s = .next t ∧ fresh t ∧ t.pwr.railsGood = false ∧ t.brz.bstate = 4) ∧
    (s.pwr.railsGood = false → ∃ t, exec (.standbyExit env) s = .next t ∧ fresh t ∧ t.pwr.kind = 1 ∧ t.pwr.cause = 4)

/-- FLASH_RECORD_COMMIT and FLASH_TIMEOUT: the write at the head of the queue is committed when its data reads back, that of an update once ApplyComplete has come; it is repeated once on a mismatch, and then or after a timeout abandoned with 0x01B0, the record in force unchanged (16 R622, R624, R625, R649; 18 R700). -/
def Obligations.FlashWrites : Prop :=  ∀ (s : State) (w : FlashWrite) (rest : List FlashWrite), s.brz.writes = w :: rest →
    (∀ v, w.body = .payload v → exec (.flashRecordCommit true) s = .next (endWrite (replyWrite (commitRecord s w.rtype v) w 0))) ∧
    (∀ c, w.body = .change c → exec (.flashRecordCommit true) s = .next (endWrite (replyWrite (commitRecord s w.rtype (.settings (applyChange (settingsOf s.brz) c))) w 0))) ∧
    (∀ u, w.body = .update → s.brz.update = some u → u.bytes = u.size → u.readBack = false → exec (.flashRecordCommit true) s =
      .next (if u.applying then endUpdate s u true else { s with brz := { s.brz with update := some { u with readBack := true } } })) ∧
    (∀ ok, writeWhole s w = false → exec (.flashRecordCommit ok) s = .next s) ∧
    (writeWhole s w = true → w.retries = 0 → exec (.flashRecordCommit false) s = .next { s with brz := { s.brz with writes := { w with retries := 1 } :: rest } }) ∧
    (writeWhole s w = true → w.retries ≠ 0 → exec (.flashRecordCommit false) s = .next (abandonWrite s w)) ∧
    exec .flashTimeout s = .next (abandonWrite s w) ∧ (abandonWrite s w).brz.flashErr = true ∧ (abandonWrite s w).brz.writes = rest ∧
    (s.ff.latch.valid = false → (abandonWrite s w).ff.latch.info.code = 0x01B0) ∧ (∀ r, recordInForce (abandonWrite s w).brz r = recordInForce s.brz r)

/-- I3C_ENTRY, RSTACT, SET_ENDPOINT_ID, GET_ENDPOINT_ID, GET_MCTP_VERSION_SUPPORT, GET_MESSAGE_TYPE_SUPPORT, GET_VENDOR_DEFINED_MESSAGE_SUPPORT, PLDM_BASE_DISCOVERY, GET_SENSOR_READING, GET_STATE_SENSOR_READINGS and SET_EVENT_RECEIVER: what the management port sets and answers; before the boot begins it answers nothing (16 R611 to R617, R636, R639). The content that a standard alone gives is a free value. PASS_COMPONENT_TABLE, UPDATE_COMPONENT, FIRMWARE_DATA, VERIFY_COMPLETE, APPLY_COMPLETE and ACTIVATE_FIRMWARE: a firmware update from its offer to its commit: its bytes come in order and are programmed behind one another, the header with the last of them; it commits only a payload that has verified and been read back (16 R622, R648 to R651). -/
def Obligations.ManagementRows : Prop :=
  (∀ (s : State),
    (breezeUp s = false → ∀ a n m e, exec (.i3cEntry a) s = .next s ∧ exec (.setEndpointId e) s = .next s ∧ exec (.getSensorReading n) s = .next s ∧
      exec (.getStateSensorReadings m) s = .next s ∧ exec .getEndpointId s = .next s) ∧
    (breezeUp s = true →
      (∀ a, exec (.i3cEntry a) s = .next { s with brz := { s.brz with i3c := true, i3cAddr := some a.toNat } }) ∧
      exec .rstact s = .next { s with brz := { s.brz with i3c := false, i3cAddr := none } } ∧
      (∀ e : Byte, e ≠ 0 → e ≠ 0xFF → exec (.setEndpointId e) s = .next (answer { s with brz := { s.brz with eid := some e.toNat } } (mctpCmd 1) 0 [e.toNat])) ∧
      (∀ e : Byte, (e = 0 ∨ e = 0xFF) → exec (.setEndpointId e) s = .next (answer s (mctpCmd 1) 2 [])) ∧
      exec .getEndpointId s = .next (answer s (mctpCmd 2) 0 [s.brz.eid.getD 0]) ∧
      (∀ m : Byte, m.toNat ∈ [0, 1, 0xFF] → exec (.getMctpVersionSupport m) s = .next (freeAnswer s (mgtVia s.brz) (mctpCmd 4) [])) ∧
      exec .getMessageTypeSupport s = .next (answer s (mctpCmd 5) 0 (if s.brz.bstate = 1 then [1] else [1, 5, 6, 0x7F])) ∧
      (∀ n : Byte, 1 ≤ n.toNat → n.toNat ≤ 5 → exec (.pldmBaseDiscovery n) s = .next (freeAnswer s (mgtVia s.brz) (pldmCmd 0 n.toNat) []))) ∧
    (breezeFull s = true →
      exec (.getVendorDefinedMessageSupport 0) s = .next (freeAnswer s (mgtVia s.brz) (mctpCmd 6) [0xFF]) ∧
      (∀ (n : BitVec 16) e, 1 ≤ n.toNat → n.toNat ≤ 0x22 → s.pwr.tj.find? (fun e => e.1 == n.toNat - 1) = some e →
        exec (.getSensorReading n) s = .next (answer s (pldmCmd 2 0x11) 0 [0, sfld e.2 0 16])) ∧
      (∀ n : BitVec 16, 0x30 ≤ n.toNat → n.toNat ≤ 0x38 → exec (.getSensorReading n) s = .next (freeAnswer s (mgtVia s.brz) (pldmCmd 2 0x11) [0])) ∧
      exec (.getStateSensorReadings 0x40) s = .next (answer s (pldmCmd 2 0x21) 0 [if s.time.trusted then 1 else if s.time.everTrusted then 2 else 0]) ∧
      (∀ p : PartId, exec (.getStateSensorReadings (BitVec.ofNat 16 (0x41 + p.val))) s = .next (answer s (pldmCmd 2 0x21) 0 [partCode (getPart s p.val).state])) ∧
      (∀ e : Byte, exec (.setEventReceiver e) s = .next (answer { s with brz := { s.brz with receiver := some e.toNat } } (pldmCmd 2 0x04) 0 [])))) ∧
  (∀ (s : State), breezeUp s = true →
    (∀ (component : BitVec 16) (size r : Nat), componentOk s component.toNat size = some r →
      exec (.passComponentTable component size) s = .next (answer { s with brz := { s.brz with offered := r :: s.brz.offered.filter (· != r) } } (pldmCmd 5 0x13) 0 [0]) ∧
      (s.brz.update = none → r ∈ s.brz.offered → exec (.updateComponent component size) s = .next (answer (queueWrite
        { s with brz := { s.brz with update := some { rtype := r, size := size } } }
        { rtype := r, body := .update, retries := 0, reply := none }) (pldmCmd 5 0x14) 0 [0]))) ∧
    (∀ (component : BitVec 16) (size : Nat), componentOk s component.toNat size = none →
      exec (.passComponentTable component size) s = .next (answer s (pldmCmd 5 0x13) 0 [1]) ∧ exec (.updateComponent component size) s = .next (answer s (pldmCmd 5 0x14) 0 [1])) ∧
    (∀ u, s.brz.update = some u → updateInProgress s = true →
      (∀ data : List Byte, u.verified = none → data.length ≤ 4096 → u.bytes + data.length ≤ u.size →
        let u1 := { u with bytes := u.bytes + data.length, data := u.data + 2 ^ (8 * u.bytes) * bytesNat data }
        let s1 := { s with brz := { s.brz with update := some u1 } }
        exec (.firmwareData u.bytes data) s = .next (if u1.bytes = u1.size then programSpare s1 u.rtype (.bytes u.size u1.data) else s1)) ∧
      (∀ offset (data : List Byte), offset ≠ u.bytes → exec (.firmwareData offset data) s = .next (answer s (pldmCmd 5 0x15) 0x83 [])) ∧
      (u.verified = none → u.bytes = u.size → let r := verifyResult s u.rtype (.bytes u.size u.data)
        exec .verifyComplete s = .next (answer { s with brz := { s.brz with update := some { u with verified := some (r == 0) } } } (pldmCmd 5 0x18) r [])) ∧
      (u.applying = false →
        (u.verified = some true → u.readBack = false → exec .applyComplete s = .next { s with brz := { s.brz with update := some { u with applying := true } } }) ∧
        (u.verified = some true → u.readBack = true → exec .applyComplete s = .next (endUpdate s u true)) ∧
        (u.verified = some false → exec .applyComplete s = .next (endUpdate s u false) ∧ (endUpdate s u false).brz.update = none ∧
          ∀ r, recordInForce (endUpdate s u false).brz r = recordInForce s.brz r))) ∧
    (∀ component : BitVec 16, exec (.activateFirmware component false) s = .next (answer s (pldmCmd 5 0x1A) 0 [])))

/-- GET_VERSION, GET_CAPABILITIES, NEGOTIATE_ALGORITHMS, GET_DIGESTS, GET_CERTIFICATE, CHALLENGE, GET_MEASUREMENTS, KEY_EXCHANGE, FINISH, END_SESSION and HEARTBEAT: the negotiation and the session of a connection, in their order; what a standard alone gives of an answer is a free value (16 R615, R636, R643 to R645). -/
def Obligations.SpdmRows : Prop :=  ∀ (s : State) (conn : Fin 3), connUp s conn.val = true → s.brz.code ≠ 0x0101 → s.brz.code ≠ 0x0102 → let x := getConn s conn.val
    let c := conn.val
    let v := connVia s c
    exec (.getVersion conn) s = .next (emit (setConn s c { negotiated := 1 }) (.answer v (spdmCmd 0x84) 0 [0x12])) ∧
    (1 ≤ x.negotiated → exec (.getCapabilities conn) s = .next (freeAnswer (setConn s c { x with negotiated := max 2 x.negotiated }) v (spdmCmd 0xE1) [0x23F6])) ∧
    (2 ≤ x.negotiated → ∀ o : SpdmOffer, exec (.negotiateAlgorithms conn o) s = .next (if o.ed448 && o.sha3_512 && o.secp384r1 && o.aes256Gcm then
        freeAnswer (setConn s c { x with negotiated := 3 }) v (spdmCmd 0xE3) [1, 1, 0x800, 0x20, 0x10, 2] else spdmError s c 0xE3 spdmInvalid)) ∧
    (x.negotiated < 3 → exec (.getDigests conn) s = .next (spdmError s c 0x81 spdmUnexpected) ∧ exec (.keyExchange conn) s = .next (spdmError s c 0xE4 spdmUnexpected)) ∧
    (3 ≤ x.negotiated →
      exec (.getDigests conn) s = .next (freeAnswer s v (spdmCmd 0x81) [1]) ∧
      exec (.getCertificate conn 0) s = .next (freeAnswer s v (spdmCmd 0x82) [0, certData s]) ∧
      (∀ nonce, exec (.challenge conn 0 nonce) s = .next (freeAnswer s v (spdmCmd 0x83) [0, nonce.toNat])) ∧
      (∀ (i : Byte) nonce, i.toNat ∈ measureIndices → exec (.getMeasurements conn i nonce) s =
        .next (freeAnswer s v (spdmCmd 0xE0) [i.toNat, measuredDigest s i.toNat, nonce.toNat])) ∧
      exec (.keyExchange conn) s = .next (freeAnswer (setConn s c { x with handshake := true, session := false, root := none }) v (spdmCmd 0xE4) []) ∧
      (x.handshake = true → ∀ root, exec (.finish conn true root) s = .next (freeAnswer (setConn s c { x with handshake := false, session := true, root := root }) v (spdmCmd 0xE5) []) ∧
        exec (.finish conn false root) s = .next (spdmError (setConn s c { x with handshake := false }) c 0xE5 spdmInvalid)) ∧
      (x.session = true → exec (.endSession conn) s = .next (freeAnswer (setConn s c { x with session := false, root := none }) v (spdmCmd 0xEC) []) ∧
        exec (.heartbeat conn) s = .next (freeAnswer s v (spdmCmd 0xE8) [])))

/-- The Dalard management commands (16 R652 to R657, R798): a command outside an owner session is answered with status 0x03 and changes nothing else; inside one each has its effect, and a change of SETTINGS is queued and answered once it is committed. -/
def Obligations.DalardCommands : Prop :=  ∀ (s : State), breezeFull s = true →
    (∃ d, exec .getStatus s = .next (answer s (dalard 0x01) 0 d)) ∧ (∃ d, exec .getFirstFault s = .next (answer s (dalard 0x02) 0 d)) ∧
    (∀ n, ∃ d, exec (.getLog n) s = .next (answer s (dalard 0x03) 0 d)) ∧
    (∀ b, ownerSession s b = false →
      (∀ p q : Byte, p.toNat < 2 → q.toNat < 2 → exec (.setPrimary b p q) s = .next (answer s (dalard 0x10) 3 [])) ∧
      (∀ p q : Byte, p.toNat < 16 → q.toNat < 2 → exec (.setOwner b p q) s = .next (answer s (dalard 0x11) 3 [])) ∧
      (∀ n : Byte, 1 ≤ n.toNat → n.toNat ≤ 7 → (∀ k, exec (.enrolImageKey b n k) s = .next (answer s (dalard 0x20) 3 [])) ∧ exec (.revokeImageKey b n) s = .next (answer s (dalard 0x21) 3 [])) ∧
      (∀ g v, floorTargetBad g = false → exec (.raiseFloor b g v) s = .next (answer s (dalard 0x22) 3 [])) ∧
      (∀ p : Byte, p.toNat < 4 → ∀ an sak ssci salt, exec (.macsecKey b p an sak ssci salt) s = .next (answer s (dalard 0x30) 3 [])) ∧
      (∀ g, settingBad g = false → exec (.setSetting b g) s = .next (answer s (dalard 0x40) 3 [])) ∧
      (∀ env, exec (.resetMain b env) s = .next (answer s (dalard 0x60) 3 []))) ∧
    (∀ b, ownerSession s b = true →
      (s.brz.mainUp = true → ∀ p : Byte, p.toNat < 2 →
        exec (.setPrimary b p 0) s = .next (answer { s with hp := { s.hp with primary := p.toNat } } (dalard 0x10) 0 []) ∧
        exec (.setPrimary b p 1) s = .next (changeSettings { s with hp := { s.hp with primary := p.toNat } } 0x10 (.primary p.toNat)) ∧
        (∀ q : PartId, (getPart s q.val).owner ≠ p.toNat → ∃ t, exec (.setOwner b (BitVec.ofNat 8 q.val) p) s = .next t ∧ (getPart t q.val).owner = p.toNat ∧ t.cores = s.cores)) ∧
      (∀ (n : Byte) (k : BitVec 456), 1 ≤ n.toNat → n.toNat ≤ 7 → (settingsOf s.brz).revoked.contains (keyDigest k.toNat) = false →
        exec (.enrolImageKey b n k) s = .next (changeSettings s 0x20 (.enrol n.toNat k.toNat))) ∧
      (∀ (n : Byte) (k : Nat), 1 ≤ n.toNat → n.toNat ≤ 7 → settingsKey s n.toNat = some k → (settingsOf s.brz).revoked.length < 16 →
        exec (.revokeImageKey b n) s = .next (changeSettings s 0x21 (.revoke n.toNat (keyDigest k)))) ∧
      (∀ (g : FloorTarget) (v : W32), floorTargetBad g = false → floorInForce s g < v.toNat → exec (.raiseFloor b g v) s = .next (changeSettings s 0x22 (floorChange v.toNat g))) ∧
      (s.brz.mainUp = true → ∀ (f : Fin 4) an sak ssci salt, exec (.macsecKey b (BitVec.ofNat 8 f.val) an sak ssci salt) s =
        .next (answer (pumpWindow (modFab s f.val (fun x => installKey x an { sak := sak, ssci := ssci, salt := salt, pn := 1 })) f.val) (dalard 0x30) 0 [])) ∧
      (∀ g, settingBad g = false → exec (.setSetting b g) s = .next (changeSettings s 0x40 (.setting g))) ∧
      (∀ env, exec (.resetMain b env) s = .next (fReset (answer s (dalard 0x60) 0 []) 3 env))) ∧
    (∀ b root, (if (settingsOf s.brz).ownerRoot.isNone then anySession s b else ownerSession s b) = true →
      exec (.enrolOwnerRoot b root) s = .next (changeSettings s 0x50 (.ownerRoot root)))

/-- BYPASS, IDCODE, SAMPLE_PRELOAD, EXTEST, CLAMP, HIGHZ, PRIVATE_INSTRUCTION and TAP_RESET: the instruction in force and what it does to the pins; EXTEST, CLAMP and HIGHZ are refused while the main side is up; a private instruction gives its challenge and accepts no record before a response has verified; nothing acts while TRST_N is low (16 R626; 21 R757 to R761). -/
def Obligations.TapRows : Prop :=  ∀ (s : State),
    (s.tap.held = true → exec .bypass s = .next s ∧ exec .idcode s = .next s ∧ (∀ p l, exec (.samplePreload p l) s = .next s) ∧ exec .extest s = .next s ∧
      exec .clamp s = .next s ∧ exec .highz s = .next s ∧ ∀ c v w, exec (.privateInstruction c v w) s = .next s) ∧
    (s.tap.held = false →
      exec .bypass s = .next (emit (loadTap s .bypass) (.tdo 1 0)) ∧
      exec .idcode s = .next (emit (loadTap s .idcode) (.tdo 32 (if s.b0 then 0x18864FDD else 0x08864FDD))) ∧
      (∀ p l, ∃ t, exec (.samplePreload p l) s = .next t ∧ t.tap.boundary = l.getD p ∧ t.tap.instr = .samplePreload) ∧
      (s.brz.mainUp = false → ∃ t, exec .extest s = .next t ∧ t.tap.instr = .extest ∧ t.tap.driven = some s.tap.boundary) ∧
      (s.brz.mainUp = false → ∃ t, exec .clamp s = .next t ∧ t.tap.instr = .clamp ∧ t.tap.driven = some s.tap.boundary) ∧
      (s.brz.mainUp = false → ∃ t, exec .highz s = .next t ∧ t.tap.instr = .highz ∧ t.tap.highz = true) ∧
      (s.brz.mainUp = true → ∀ i ∈ [Instr.extest, .clamp, .highz], ∃ t, exec i s = .next t ∧ t.tap.instr = .bypass ∧ t.tap.captured = 1 ∧ t.tap.driven = none ∧ t.tap.highz = false) ∧
      (∀ (c : BitVec 6) (w : Option (BitVec 4 × List Byte)), let u := enterChallenge s c
        (s.tap.instr ≠ .challenge c → u.tap.instr = .challenge c ∧ u.tap.challenge = Config.tapChallenge s.free ∧ u.tap.unlocked = false ∧ u.brz = s.brz) ∧
        (s.tap.instr = .challenge c → u = s) ∧
        (u.tap.unlocked = false → exec (.privateInstruction c none w) s = .next u) ∧
        (∀ r, u.tap.unlocked = false → Config.testVerifies u.tap.challenge r = false → exec (.privateInstruction c (some r) w) s = .next u) ∧
        (∀ r, (u.tap.unlocked = true ∨ Config.testVerifies u.tap.challenge r = true) → let v := { u with tap := { u.tap with unlocked := true } }
          exec (.privateInstruction c (some r) none) s = .next v ∧
          (∀ (n : BitVec 4) (data : List Byte), exec (.privateInstruction c (some r) (some (n, data))) s =
            .next (if jtagRecord n.toNat data.length then queueWrite v { rtype := n.toNat, body := .payload (.bytes data.length (bytesNat data)), retries := 0, reply := none } else v))))) ∧
    (∀ low, exec (.tapReset low) s = .next { s with tap := { held := low } })
end

