-- ==== Sys2Proof/Laws/Maps.lean ====
section
/-! SUPPORT. The laws of the tables and of the byte memories: a read after a write, and that every operation keeps the canonical form. -/

namespace Sys2Proof.Machine

/-! ## Tables -/

/-- A key reads as what was set under it. -/
@[simp] theorem mget_mset_same (d : α) (m : SMap α) (k : Nat) (v : α) : mget d (mset m k v) k = v := by
  induction m with
  | nil => simp [mset, mget]
  | cons e r ih =>
    obtain ⟨i, w⟩ := e
    by_cases h1 : k < i
    · simp [mset, mget, h1]
    · by_cases h2 : i = k
      · simp [mset, mget, h2]
      · simp [mset, mget, h1, h2, ih]

/-- Every other key reads as before. -/
theorem mget_mset_other (d : α) (m : SMap α) (k j : Nat) (v : α) (h : j ≠ k) : mget d (mset m k v) j = mget d m j := by
  induction m with
  | nil => simp [mset, mget, Ne.symm h]
  | cons e r ih =>
    obtain ⟨i, w⟩ := e
    by_cases h1 : k < i
    · simp [mset, mget, h1, Ne.symm h]
    · by_cases h2 : i = k
      · subst h2; simp [mset, mget, Ne.symm h]
      · simp [mset, mget, h1, h2, ih]

/-- Of two writes of one key the second stays. -/
@[simp] theorem mset_mset (m : SMap α) (k : Nat) (v w : α) : mset (mset m k v) k w = mset m k w := by
  induction m with
  | nil => simp [mset]
  | cons e r ih =>
    obtain ⟨i, u⟩ := e
    by_cases h1 : k < i
    · simp [mset, h1]
    · by_cases h2 : i = k
      · subst h2; simp [mset]
      · simp [mset, h1, h2, ih]

/-! ## Memories -/

/-- The cells of a run lie in it and hold no 0. -/
theorem cellsFrom_mem (bs : List Byte) (a : Nat) : ∀ c ∈ cellsFrom a bs, a ≤ c.1 ∧ c.1 < a + bs.length ∧ c.2 ≠ 0 := by
  induction bs generalizing a with
  | nil => simp [cellsFrom]
  | cons b r ih =>
    intro c hc
    by_cases hb : b = unlisted
    · simp only [cellsFrom, hb, if_true] at hc
      obtain ⟨h1, h2, h3⟩ := ih (a + 1) c hc
      simp only [List.length_cons]
      exact ⟨by omega, by omega, h3⟩
    · simp only [cellsFrom, hb, if_false, List.mem_cons] at hc
      rcases hc with rfl | hc
      · exact ⟨Nat.le_refl _, by simp, hb⟩
      · obtain ⟨h1, h2, h3⟩ := ih (a + 1) c hc
        simp only [List.length_cons]
        exact ⟨by omega, by omega, h3⟩

/-- The cells of a run rise. -/
theorem cellsFrom_rise (bs : List Byte) (a : Nat) : (cellsFrom a bs).Pairwise (fun x y => x.1 < y.1) := by
  induction bs generalizing a with
  | nil => simp [cellsFrom]
  | cons b r ih =>
    by_cases hb : b = unlisted
    · simpa [cellsFrom, hb] using ih (a + 1)
    · simp only [cellsFrom, hb, if_false, List.pairwise_cons]
      exact ⟨fun c hc => by have := cellsFrom_mem r (a + 1) c hc; show a < c.1; omega, ih (a + 1)⟩

/-- A run of bytes written keeps the canonical form. -/
theorem writeBytes_wf (m : Mem) (a : Nat) (bs : List Byte) (h : m.wf) : (writeBytes m a bs).wf := by
  obtain ⟨hp, hz⟩ := h
  constructor
  · rw [writeBytes, List.pairwise_append, List.pairwise_append]
    refine ⟨⟨hp.filter _, cellsFrom_rise bs a, ?_⟩, hp.filter _, ?_⟩
    · intro x hx y hy
      have := cellsFrom_mem bs a y hy
      simp only [List.mem_filter, decide_eq_true_eq] at hx
      omega
    · intro x hx y hy
      simp only [List.mem_filter, decide_eq_true_eq] at hy
      rcases List.mem_append.1 hx with hx | hx
      · simp only [List.mem_filter, decide_eq_true_eq] at hx
        omega
      · have := cellsFrom_mem bs a x hx
        omega
  · intro c hc
    simp only [writeBytes, List.mem_append, List.mem_filter] at hc
    rcases hc with (hc | hc) | hc
    · exact hz c hc.1
    · exact (cellsFrom_mem bs a c hc).2.2
    · exact hz c hc.1

/-- A part of a memory keeps the canonical form. -/
theorem filter_wf (m : Mem) (p : Nat × Byte → Bool) (h : m.wf) : Mem.wf (m.filter p) :=
  ⟨h.1.filter p, fun c hc => h.2 c (List.mem_filter.1 hc).1⟩

/-- A row written keeps the canonical form. -/
theorem writeRow_wf (m : Mem) (a : Nat) (r : Row) (h : m.wf) : (writeRow m a r).wf := writeBytes_wf m a _ h

/-- A range cleared keeps the canonical form. -/
theorem clearRange_wf (m : Mem) (a n : Nat) (h : m.wf) : (clearRange m a n).wf := filter_wf m _ h

/-- A key that no entry holds reads as the default. -/
theorem mget_absent (d : α) (m : SMap α) (k : Nat) (h : ∀ c ∈ m, c.1 ≠ k) : mget d m k = d := by
  induction m with
  | nil => rfl
  | cons e r ih =>
    obtain ⟨i, w⟩ := e
    have hi : i ≠ k := h (i, w) (by simp)
    simp only [mget, hi, if_false]
    exact ih fun c hc => h c (by simp [hc])

/-- A key that the first of two lists does not hold is read in the second. -/
theorem mget_append_right (d : α) (m l : SMap α) (k : Nat) (h : ∀ c ∈ m, c.1 ≠ k) : mget d (m ++ l) k = mget d l k := by
  induction m with
  | nil => rfl
  | cons e r ih =>
    obtain ⟨i, w⟩ := e
    have hi : i ≠ k := h (i, w) (by simp)
    simp only [List.cons_append, mget, hi, if_false]
    exact ih fun c hc => h c (by simp [hc])

/-- A key that the second of two lists does not hold is read in the first. -/
theorem mget_append_left (d : α) (m l : SMap α) (k : Nat) (h : ∀ c ∈ l, c.1 ≠ k) : mget d (m ++ l) k = mget d m k := by
  induction m with
  | nil => simpa [mget] using mget_absent d l k h
  | cons e r ih =>
    obtain ⟨i, w⟩ := e
    by_cases hi : i = k
    · simp [mget, hi]
    · simp only [List.cons_append, mget, hi, if_false]
      exact ih

/-- A filter that keeps every entry of a key reads it as before. -/
theorem mget_filter (d : α) (m : SMap α) (p : Nat × α → Bool) (k : Nat) (h : ∀ c ∈ m, c.1 = k → p c = true) : mget d (m.filter p) k = mget d m k := by
  induction m with
  | nil => rfl
  | cons e r ih =>
    obtain ⟨i, w⟩ := e
    have hr := ih fun c hc => h c (by simp [hc])
    by_cases hi : i = k
    · subst hi
      have hp : p (i, w) = true := h (i, w) (by simp) rfl
      simp [hp, mget]
    · by_cases hp : p (i, w) = true
      · simp [hp, mget, hi, hr]
      · simp [hp, mget, hi, hr]

/-- A byte outside a run that is written reads as before. -/
theorem readByte_writeBytes_other (m : Mem) (a : Nat) (bs : List Byte) (x : Nat) (h : x < a ∨ a + bs.length ≤ x) :
    readByte (writeBytes m a bs) x = readByte m x := by
  unfold readByte writeBytes
  rcases h with h | h
  · rw [mget_append_left, mget_append_left, mget_filter]
    · intro c _ hc; simp [hc, h]
    · intro c hc; have := cellsFrom_mem bs a c hc; omega
    · intro c hc; simp only [List.mem_filter, decide_eq_true_eq] at hc; omega
  · rw [List.append_assoc, mget_append_right, mget_append_right, mget_filter]
    · intro c _ hc; simp [hc, h]
    · intro c hc; have := cellsFrom_mem bs a c hc; omega
    · intro c hc; simp only [List.mem_filter, decide_eq_true_eq] at hc; omega

/-- The cells of a run read as its bytes. -/
theorem mget_cellsFrom (bs : List Byte) (a i : Nat) : mget unlisted (cellsFrom a bs) (a + i) = bs.getD i unlisted := by
  induction bs generalizing a i with
  | nil => simp [cellsFrom, mget]
  | cons b r ih =>
    have step : ∀ j, mget unlisted (cellsFrom (a + 1) r) (a + (j + 1)) = r.getD j unlisted := fun j => by
      have := ih (a + 1) j
      rwa [show a + 1 + j = a + (j + 1) by omega] at this
    cases i with
    | zero =>
      by_cases hb : b = unlisted
      · simp only [cellsFrom, hb, if_true]
        rw [mget_absent]
        · simp
        · intro c hc; have := cellsFrom_mem r (a + 1) c hc; omega
      · simp [cellsFrom, hb, mget]
    | succ j =>
      by_cases hb : b = unlisted
      · simp only [cellsFrom, hb, if_true]
        rw [step j]
        simp
      · have hne : ¬ a = a + (j + 1) := by omega
        simp only [cellsFrom, hb, if_false, mget, hne]
        rw [step j]
        simp

/-- A byte of a run that is written reads as written. -/
theorem readByte_writeBytes_same (m : Mem) (a : Nat) (bs : List Byte) (i : Nat) (h : i < bs.length) :
    readByte (writeBytes m a bs) (a + i) = bs.getD i unlisted := by
  unfold readByte writeBytes
  rw [mget_append_left, mget_append_right, mget_cellsFrom]
  · intro c hc; simp only [List.mem_filter, decide_eq_true_eq] at hc; omega
  · intro c hc; simp only [List.mem_filter, decide_eq_true_eq] at hc; omega

end Sys2Proof.Machine
end

