-- ==== Sys2Proof/Laws/State.lean ====
section
/-! SUPPORT. The laws of the state's accessors: one lemma per field and update, and what a unit reads as after a unit is set. -/

namespace Sys2Proof.Machine

/-! ## Units: read after write -/

@[simp] theorem getCore_setCore_same (s : State) (n : Nat) (c : Core) : getCore (setCore s n c) n = c := mget_mset_same ..
theorem getCore_setCore_other (s : State) (n m : Nat) (c : Core) (h : m ≠ n) : getCore (setCore s n c) m = getCore s m := mget_mset_other _ _ _ _ _ h
@[simp] theorem setCore_setCore (s : State) (n : Nat) (c d : Core) : setCore (setCore s n c) n d = setCore s n d := by simp [setCore]
@[simp] theorem getCore_modCore_same (s : State) (n : Nat) (f : Core → Core) : getCore (modCore s n f) n = f (getCore s n) := mget_mset_same ..
theorem getCore_modCore_other (s : State) (n m : Nat) (f : Core → Core) (h : m ≠ n) : getCore (modCore s n f) m = getCore s m := mget_mset_other _ _ _ _ _ h
@[simp] theorem getClus_setClus_same (s : State) (n : Nat) (c : Cluster) : getClus (setClus s n c) n = c := mget_mset_same ..
theorem getClus_setClus_other (s : State) (n m : Nat) (c : Cluster) (h : m ≠ n) : getClus (setClus s n c) m = getClus s m := mget_mset_other _ _ _ _ _ h
@[simp] theorem setClus_setClus (s : State) (n : Nat) (c d : Cluster) : setClus (setClus s n c) n d = setClus s n d := by simp [setClus]
@[simp] theorem getClus_modClus_same (s : State) (n : Nat) (f : Cluster → Cluster) : getClus (modClus s n f) n = f (getClus s n) := mget_mset_same ..
theorem getClus_modClus_other (s : State) (n m : Nat) (f : Cluster → Cluster) (h : m ≠ n) : getClus (modClus s n f) m = getClus s m := mget_mset_other _ _ _ _ _ h
@[simp] theorem getPart_setPart_same (s : State) (n : Nat) (c : Part) : getPart (setPart s n c) n = c := mget_mset_same ..
theorem getPart_setPart_other (s : State) (n m : Nat) (c : Part) (h : m ≠ n) : getPart (setPart s n c) m = getPart s m := mget_mset_other _ _ _ _ _ h
@[simp] theorem setPart_setPart (s : State) (n : Nat) (c d : Part) : setPart (setPart s n c) n d = setPart s n d := by simp [setPart]
@[simp] theorem getPart_modPart_same (s : State) (n : Nat) (f : Part → Part) : getPart (modPart s n f) n = f (getPart s n) := mget_mset_same ..
theorem getPart_modPart_other (s : State) (n m : Nat) (f : Part → Part) (h : m ≠ n) : getPart (modPart s n f) m = getPart s m := mget_mset_other _ _ _ _ _ h
@[simp] theorem getCore_setClus (s : State) (n m : Nat) (c : Cluster) : getCore (setClus s n c) m = getCore s m := rfl
@[simp] theorem getCore_modClus (s : State) (n m : Nat) (f : Cluster → Cluster) : getCore (modClus s n f) m = getCore s m := rfl
@[simp] theorem getCore_setPart (s : State) (n m : Nat) (c : Part) : getCore (setPart s n c) m = getCore s m := rfl
@[simp] theorem getCore_modPart (s : State) (n m : Nat) (f : Part → Part) : getCore (modPart s n f) m = getCore s m := rfl
@[simp] theorem getClus_setCore (s : State) (n m : Nat) (c : Core) : getClus (setCore s n c) m = getClus s m := rfl
@[simp] theorem getClus_modCore (s : State) (n m : Nat) (f : Core → Core) : getClus (modCore s n f) m = getClus s m := rfl
@[simp] theorem getClus_setPart (s : State) (n m : Nat) (c : Part) : getClus (setPart s n c) m = getClus s m := rfl
@[simp] theorem getClus_modPart (s : State) (n m : Nat) (f : Part → Part) : getClus (modPart s n f) m = getClus s m := rfl
@[simp] theorem getPart_setCore (s : State) (n m : Nat) (c : Core) : getPart (setCore s n c) m = getPart s m := rfl
@[simp] theorem getPart_modCore (s : State) (n m : Nat) (f : Core → Core) : getPart (modCore s n f) m = getPart s m := rfl
@[simp] theorem getPart_setClus (s : State) (n m : Nat) (c : Cluster) : getPart (setClus s n c) m = getPart s m := rfl
@[simp] theorem getPart_modClus (s : State) (n m : Nat) (f : Cluster → Cluster) : getPart (modClus s n f) m = getPart s m := rfl
@[simp] theorem getStream_setStream_same (s : State) (c i : Nat) (t : Stream) : getStream (setStream s c i t) c i = t := by
  simp [getStream, setStream]
@[simp] theorem getChan_setChan_same (s : State) (c i : Nat) (h : Channel) : getChan (setChan s c i h) c i = h := by
  simp [getChan, setChan]
@[simp] theorem getRing_setRing_same (s : State) (r : Nat) (x : Ring) : getRing (setRing s r x) r = x := mget_mset_same ..
@[simp] theorem getFab_setFab_same (s : State) (f : Nat) (x : FabPort) : getFab (setFab s f x) f = x := mget_mset_same ..
@[simp] theorem getTq_setTq_same (c : Core) (t : Nat) (q : TagQueue) : getTq (setTq c t q) t = q := mget_mset_same ..
@[simp] theorem getSp_setSp_same (c : Core) (i : Nat) (p : SpPort) : getSp (setSp c i p) i = p := mget_mset_same ..
@[simp] theorem getSw_setSw_same (c : Core) (i : Nat) (p : SwPort) : getSw (setSw c i p) i = p := mget_mset_same ..
/-- Two changes of one core are one. -/
theorem modCore_modCore (s : State) (n : Nat) (f g : Core → Core) : modCore (modCore s n f) n g = modCore s n (fun c => g (f c)) := by
  simp [modCore]
/-- Two changes of one cluster are one. -/
theorem modClus_modClus (s : State) (n : Nat) (f g : Cluster → Cluster) : modClus (modClus s n f) n g = modClus s n (fun c => g (f c)) := by
  simp [modClus]
/-- Two changes of one partition are one. -/
theorem modPart_modPart (s : State) (n : Nat) (f g : Part → Part) : modPart (modPart s n f) n g = modPart s n (fun c => g (f c)) := by
  simp [modPart]
/-- The partition of a cluster depends on the partitions alone. -/
theorem partOfCluster_congr (s t : State) (h : s.parts = t.parts) (c : Nat) : partOfCluster s c = partOfCluster t c := by
  simp only [partOfCluster, getPart, h]

/-! ## Fields that an update leaves alone -/

@[simp] theorem setCore_pending (s : State) (n : Nat) (c : Core) : (setCore s n c).pending = s.pending := rfl
@[simp] theorem setCore_free (s : State) (n : Nat) (c : Core) : (setCore s n c).free = s.free := rfl
@[simp] theorem setCore_b0 (s : State) (n : Nat) (c : Core) : (setCore s n c).b0 = s.b0 := rfl
@[simp] theorem setCore_ifRom (s : State) (n : Nat) (c : Core) : (setCore s n c).ifRom = s.ifRom := rfl
@[simp] theorem setCore_dalardKey (s : State) (n : Nat) (c : Core) : (setCore s n c).dalardKey = s.dalardKey := rfl
@[simp] theorem setCore_fwKey (s : State) (n : Nat) (c : Core) : (setCore s n c).fwKey = s.fwKey := rfl
@[simp] theorem setCore_img (s : State) (n : Nat) (c : Core) : (setCore s n c).img = s.img := rfl
@[simp] theorem setCore_loader (s : State) (n : Nat) (c : Core) : (setCore s n c).loader = s.loader := rfl
@[simp] theorem setCore_loaded (s : State) (n : Nat) (c : Core) : (setCore s n c).loaded = s.loaded := rfl
@[simp] theorem setCore_self (s : State) (n : Nat) (c : Core) : (setCore s n c).self = s.self := rfl
@[simp] theorem setCore_groups (s : State) (n : Nat) (c : Core) : (setCore s n c).groups = s.groups := rfl
@[simp] theorem setCore_parts (s : State) (n : Nat) (c : Core) : (setCore s n c).parts = s.parts := rfl
@[simp] theorem setCore_clus (s : State) (n : Nat) (c : Core) : (setCore s n c).clus = s.clus := rfl
@[simp] theorem setCore_spMem (s : State) (n : Nat) (c : Core) : (setCore s n c).spMem = s.spMem := rfl
@[simp] theorem setCore_cmMem (s : State) (n : Nat) (c : Core) : (setCore s n c).cmMem = s.cmMem := rfl
@[simp] theorem setCore_dmMem (s : State) (n : Nat) (c : Core) : (setCore s n c).dmMem = s.dmMem := rfl
@[simp] theorem setCore_dmBad (s : State) (n : Nat) (c : Core) : (setCore s n c).dmBad = s.dmBad := rfl
@[simp] theorem setCore_dmCorr (s : State) (n : Nat) (c : Core) : (setCore s n c).dmCorr = s.dmCorr := rfl
@[simp] theorem setCore_ptes (s : State) (n : Nat) (c : Core) : (setCore s n c).ptes = s.ptes := rfl
@[simp] theorem setCore_ptIdentity (s : State) (n : Nat) (c : Core) : (setCore s n c).ptIdentity = s.ptIdentity := rfl
@[simp] theorem setCore_closedRanges (s : State) (n : Nat) (c : Core) : (setCore s n c).closedRanges = s.closedRanges := rfl
@[simp] theorem setCore_time (s : State) (n : Nat) (c : Core) : (setCore s n c).time = s.time := rfl
@[simp] theorem setCore_pwr (s : State) (n : Nat) (c : Core) : (setCore s n c).pwr = s.pwr := rfl
@[simp] theorem setCore_ff (s : State) (n : Nat) (c : Core) : (setCore s n c).ff = s.ff := rfl
@[simp] theorem setCore_stagingDrops (s : State) (n : Nat) (c : Core) : (setCore s n c).stagingDrops = s.stagingDrops := rfl
@[simp] theorem setCore_hp (s : State) (n : Nat) (c : Core) : (setCore s n c).hp = s.hp := rfl
@[simp] theorem setCore_fab (s : State) (n : Nat) (c : Core) : (setCore s n c).fab = s.fab := rfl
@[simp] theorem setCore_brz (s : State) (n : Nat) (c : Core) : (setCore s n c).brz = s.brz := rfl
@[simp] theorem setCore_tap (s : State) (n : Nat) (c : Core) : (setCore s n c).tap = s.tap := rfl
@[simp] theorem setCore_pins (s : State) (n : Nat) (c : Core) : (setCore s n c).pins = s.pins := rfl
@[simp] theorem setCore_out (s : State) (n : Nat) (c : Core) : (setCore s n c).out = s.out := rfl

@[simp] theorem modCore_pending (s : State) (n : Nat) (f : Core → Core) : (modCore s n f).pending = s.pending := rfl
@[simp] theorem modCore_free (s : State) (n : Nat) (f : Core → Core) : (modCore s n f).free = s.free := rfl
@[simp] theorem modCore_b0 (s : State) (n : Nat) (f : Core → Core) : (modCore s n f).b0 = s.b0 := rfl
@[simp] theorem modCore_ifRom (s : State) (n : Nat) (f : Core → Core) : (modCore s n f).ifRom = s.ifRom := rfl
@[simp] theorem modCore_dalardKey (s : State) (n : Nat) (f : Core → Core) : (modCore s n f).dalardKey = s.dalardKey := rfl
@[simp] theorem modCore_fwKey (s : State) (n : Nat) (f : Core → Core) : (modCore s n f).fwKey = s.fwKey := rfl
@[simp] theorem modCore_img (s : State) (n : Nat) (f : Core → Core) : (modCore s n f).img = s.img := rfl
@[simp] theorem modCore_loader (s : State) (n : Nat) (f : Core → Core) : (modCore s n f).loader = s.loader := rfl
@[simp] theorem modCore_loaded (s : State) (n : Nat) (f : Core → Core) : (modCore s n f).loaded = s.loaded := rfl
@[simp] theorem modCore_self (s : State) (n : Nat) (f : Core → Core) : (modCore s n f).self = s.self := rfl
@[simp] theorem modCore_groups (s : State) (n : Nat) (f : Core → Core) : (modCore s n f).groups = s.groups := rfl
@[simp] theorem modCore_parts (s : State) (n : Nat) (f : Core → Core) : (modCore s n f).parts = s.parts := rfl
@[simp] theorem modCore_clus (s : State) (n : Nat) (f : Core → Core) : (modCore s n f).clus = s.clus := rfl
@[simp] theorem modCore_spMem (s : State) (n : Nat) (f : Core → Core) : (modCore s n f).spMem = s.spMem := rfl
@[simp] theorem modCore_cmMem (s : State) (n : Nat) (f : Core → Core) : (modCore s n f).cmMem = s.cmMem := rfl
@[simp] theorem modCore_dmMem (s : State) (n : Nat) (f : Core → Core) : (modCore s n f).dmMem = s.dmMem := rfl
@[simp] theorem modCore_dmBad (s : State) (n : Nat) (f : Core → Core) : (modCore s n f).dmBad = s.dmBad := rfl
@[simp] theorem modCore_dmCorr (s : State) (n : Nat) (f : Core → Core) : (modCore s n f).dmCorr = s.dmCorr := rfl
@[simp] theorem modCore_ptes (s : State) (n : Nat) (f : Core → Core) : (modCore s n f).ptes = s.ptes := rfl
@[simp] theorem modCore_ptIdentity (s : State) (n : Nat) (f : Core → Core) : (modCore s n f).ptIdentity = s.ptIdentity := rfl
@[simp] theorem modCore_closedRanges (s : State) (n : Nat) (f : Core → Core) : (modCore s n f).closedRanges = s.closedRanges := rfl
@[simp] theorem modCore_time (s : State) (n : Nat) (f : Core → Core) : (modCore s n f).time = s.time := rfl
@[simp] theorem modCore_pwr (s : State) (n : Nat) (f : Core → Core) : (modCore s n f).pwr = s.pwr := rfl
@[simp] theorem modCore_ff (s : State) (n : Nat) (f : Core → Core) : (modCore s n f).ff = s.ff := rfl
@[simp] theorem modCore_stagingDrops (s : State) (n : Nat) (f : Core → Core) : (modCore s n f).stagingDrops = s.stagingDrops := rfl
@[simp] theorem modCore_hp (s : State) (n : Nat) (f : Core → Core) : (modCore s n f).hp = s.hp := rfl
@[simp] theorem modCore_fab (s : State) (n : Nat) (f : Core → Core) : (modCore s n f).fab = s.fab := rfl
@[simp] theorem modCore_brz (s : State) (n : Nat) (f : Core → Core) : (modCore s n f).brz = s.brz := rfl
@[simp] theorem modCore_tap (s : State) (n : Nat) (f : Core → Core) : (modCore s n f).tap = s.tap := rfl
@[simp] theorem modCore_pins (s : State) (n : Nat) (f : Core → Core) : (modCore s n f).pins = s.pins := rfl
@[simp] theorem modCore_out (s : State) (n : Nat) (f : Core → Core) : (modCore s n f).out = s.out := rfl

@[simp] theorem setClus_pending (s : State) (n : Nat) (c : Cluster) : (setClus s n c).pending = s.pending := rfl
@[simp] theorem setClus_free (s : State) (n : Nat) (c : Cluster) : (setClus s n c).free = s.free := rfl
@[simp] theorem setClus_b0 (s : State) (n : Nat) (c : Cluster) : (setClus s n c).b0 = s.b0 := rfl
@[simp] theorem setClus_ifRom (s : State) (n : Nat) (c : Cluster) : (setClus s n c).ifRom = s.ifRom := rfl
@[simp] theorem setClus_dalardKey (s : State) (n : Nat) (c : Cluster) : (setClus s n c).dalardKey = s.dalardKey := rfl
@[simp] theorem setClus_fwKey (s : State) (n : Nat) (c : Cluster) : (setClus s n c).fwKey = s.fwKey := rfl
@[simp] theorem setClus_img (s : State) (n : Nat) (c : Cluster) : (setClus s n c).img = s.img := rfl
@[simp] theorem setClus_loader (s : State) (n : Nat) (c : Cluster) : (setClus s n c).loader = s.loader := rfl
@[simp] theorem setClus_loaded (s : State) (n : Nat) (c : Cluster) : (setClus s n c).loaded = s.loaded := rfl
@[simp] theorem setClus_self (s : State) (n : Nat) (c : Cluster) : (setClus s n c).self = s.self := rfl
@[simp] theorem setClus_groups (s : State) (n : Nat) (c : Cluster) : (setClus s n c).groups = s.groups := rfl
@[simp] theorem setClus_parts (s : State) (n : Nat) (c : Cluster) : (setClus s n c).parts = s.parts := rfl
@[simp] theorem setClus_cores (s : State) (n : Nat) (c : Cluster) : (setClus s n c).cores = s.cores := rfl
@[simp] theorem setClus_spMem (s : State) (n : Nat) (c : Cluster) : (setClus s n c).spMem = s.spMem := rfl
@[simp] theorem setClus_cmMem (s : State) (n : Nat) (c : Cluster) : (setClus s n c).cmMem = s.cmMem := rfl
@[simp] theorem setClus_dmMem (s : State) (n : Nat) (c : Cluster) : (setClus s n c).dmMem = s.dmMem := rfl
@[simp] theorem setClus_dmBad (s : State) (n : Nat) (c : Cluster) : (setClus s n c).dmBad = s.dmBad := rfl
@[simp] theorem setClus_dmCorr (s : State) (n : Nat) (c : Cluster) : (setClus s n c).dmCorr = s.dmCorr := rfl
@[simp] theorem setClus_ptes (s : State) (n : Nat) (c : Cluster) : (setClus s n c).ptes = s.ptes := rfl
@[simp] theorem setClus_ptIdentity (s : State) (n : Nat) (c : Cluster) : (setClus s n c).ptIdentity = s.ptIdentity := rfl
@[simp] theorem setClus_closedRanges (s : State) (n : Nat) (c : Cluster) : (setClus s n c).closedRanges = s.closedRanges := rfl
@[simp] theorem setClus_time (s : State) (n : Nat) (c : Cluster) : (setClus s n c).time = s.time := rfl
@[simp] theorem setClus_pwr (s : State) (n : Nat) (c : Cluster) : (setClus s n c).pwr = s.pwr := rfl
@[simp] theorem setClus_ff (s : State) (n : Nat) (c : Cluster) : (setClus s n c).ff = s.ff := rfl
@[simp] theorem setClus_stagingDrops (s : State) (n : Nat) (c : Cluster) : (setClus s n c).stagingDrops = s.stagingDrops := rfl
@[simp] theorem setClus_hp (s : State) (n : Nat) (c : Cluster) : (setClus s n c).hp = s.hp := rfl
@[simp] theorem setClus_fab (s : State) (n : Nat) (c : Cluster) : (setClus s n c).fab = s.fab := rfl
@[simp] theorem setClus_brz (s : State) (n : Nat) (c : Cluster) : (setClus s n c).brz = s.brz := rfl
@[simp] theorem setClus_tap (s : State) (n : Nat) (c : Cluster) : (setClus s n c).tap = s.tap := rfl
@[simp] theorem setClus_pins (s : State) (n : Nat) (c : Cluster) : (setClus s n c).pins = s.pins := rfl
@[simp] theorem setClus_out (s : State) (n : Nat) (c : Cluster) : (setClus s n c).out = s.out := rfl

@[simp] theorem modClus_pending (s : State) (n : Nat) (f : Cluster → Cluster) : (modClus s n f).pending = s.pending := rfl
@[simp] theorem modClus_free (s : State) (n : Nat) (f : Cluster → Cluster) : (modClus s n f).free = s.free := rfl
@[simp] theorem modClus_b0 (s : State) (n : Nat) (f : Cluster → Cluster) : (modClus s n f).b0 = s.b0 := rfl
@[simp] theorem modClus_ifRom (s : State) (n : Nat) (f : Cluster → Cluster) : (modClus s n f).ifRom = s.ifRom := rfl
@[simp] theorem modClus_dalardKey (s : State) (n : Nat) (f : Cluster → Cluster) : (modClus s n f).dalardKey = s.dalardKey := rfl
@[simp] theorem modClus_fwKey (s : State) (n : Nat) (f : Cluster → Cluster) : (modClus s n f).fwKey = s.fwKey := rfl
@[simp] theorem modClus_img (s : State) (n : Nat) (f : Cluster → Cluster) : (modClus s n f).img = s.img := rfl
@[simp] theorem modClus_loader (s : State) (n : Nat) (f : Cluster → Cluster) : (modClus s n f).loader = s.loader := rfl
@[simp] theorem modClus_loaded (s : State) (n : Nat) (f : Cluster → Cluster) : (modClus s n f).loaded = s.loaded := rfl
@[simp] theorem modClus_self (s : State) (n : Nat) (f : Cluster → Cluster) : (modClus s n f).self = s.self := rfl
@[simp] theorem modClus_groups (s : State) (n : Nat) (f : Cluster → Cluster) : (modClus s n f).groups = s.groups := rfl
@[simp] theorem modClus_parts (s : State) (n : Nat) (f : Cluster → Cluster) : (modClus s n f).parts = s.parts := rfl
@[simp] theorem modClus_cores (s : State) (n : Nat) (f : Cluster → Cluster) : (modClus s n f).cores = s.cores := rfl
@[simp] theorem modClus_spMem (s : State) (n : Nat) (f : Cluster → Cluster) : (modClus s n f).spMem = s.spMem := rfl
@[simp] theorem modClus_cmMem (s : State) (n : Nat) (f : Cluster → Cluster) : (modClus s n f).cmMem = s.cmMem := rfl
@[simp] theorem modClus_dmMem (s : State) (n : Nat) (f : Cluster → Cluster) : (modClus s n f).dmMem = s.dmMem := rfl
@[simp] theorem modClus_dmBad (s : State) (n : Nat) (f : Cluster → Cluster) : (modClus s n f).dmBad = s.dmBad := rfl
@[simp] theorem modClus_dmCorr (s : State) (n : Nat) (f : Cluster → Cluster) : (modClus s n f).dmCorr = s.dmCorr := rfl
@[simp] theorem modClus_ptes (s : State) (n : Nat) (f : Cluster → Cluster) : (modClus s n f).ptes = s.ptes := rfl
@[simp] theorem modClus_ptIdentity (s : State) (n : Nat) (f : Cluster → Cluster) : (modClus s n f).ptIdentity = s.ptIdentity := rfl
@[simp] theorem modClus_closedRanges (s : State) (n : Nat) (f : Cluster → Cluster) : (modClus s n f).closedRanges = s.closedRanges := rfl
@[simp] theorem modClus_time (s : State) (n : Nat) (f : Cluster → Cluster) : (modClus s n f).time = s.time := rfl
@[simp] theorem modClus_pwr (s : State) (n : Nat) (f : Cluster → Cluster) : (modClus s n f).pwr = s.pwr := rfl
@[simp] theorem modClus_ff (s : State) (n : Nat) (f : Cluster → Cluster) : (modClus s n f).ff = s.ff := rfl
@[simp] theorem modClus_stagingDrops (s : State) (n : Nat) (f : Cluster → Cluster) : (modClus s n f).stagingDrops = s.stagingDrops := rfl
@[simp] theorem modClus_hp (s : State) (n : Nat) (f : Cluster → Cluster) : (modClus s n f).hp = s.hp := rfl
@[simp] theorem modClus_fab (s : State) (n : Nat) (f : Cluster → Cluster) : (modClus s n f).fab = s.fab := rfl
@[simp] theorem modClus_brz (s : State) (n : Nat) (f : Cluster → Cluster) : (modClus s n f).brz = s.brz := rfl
@[simp] theorem modClus_tap (s : State) (n : Nat) (f : Cluster → Cluster) : (modClus s n f).tap = s.tap := rfl
@[simp] theorem modClus_pins (s : State) (n : Nat) (f : Cluster → Cluster) : (modClus s n f).pins = s.pins := rfl
@[simp] theorem modClus_out (s : State) (n : Nat) (f : Cluster → Cluster) : (modClus s n f).out = s.out := rfl

@[simp] theorem setPart_pending (s : State) (n : Nat) (c : Part) : (setPart s n c).pending = s.pending := rfl
@[simp] theorem setPart_free (s : State) (n : Nat) (c : Part) : (setPart s n c).free = s.free := rfl
@[simp] theorem setPart_b0 (s : State) (n : Nat) (c : Part) : (setPart s n c).b0 = s.b0 := rfl
@[simp] theorem setPart_ifRom (s : State) (n : Nat) (c : Part) : (setPart s n c).ifRom = s.ifRom := rfl
@[simp] theorem setPart_dalardKey (s : State) (n : Nat) (c : Part) : (setPart s n c).dalardKey = s.dalardKey := rfl
@[simp] theorem setPart_fwKey (s : State) (n : Nat) (c : Part) : (setPart s n c).fwKey = s.fwKey := rfl
@[simp] theorem setPart_img (s : State) (n : Nat) (c : Part) : (setPart s n c).img = s.img := rfl
@[simp] theorem setPart_loader (s : State) (n : Nat) (c : Part) : (setPart s n c).loader = s.loader := rfl
@[simp] theorem setPart_loaded (s : State) (n : Nat) (c : Part) : (setPart s n c).loaded = s.loaded := rfl
@[simp] theorem setPart_self (s : State) (n : Nat) (c : Part) : (setPart s n c).self = s.self := rfl
@[simp] theorem setPart_groups (s : State) (n : Nat) (c : Part) : (setPart s n c).groups = s.groups := rfl
@[simp] theorem setPart_clus (s : State) (n : Nat) (c : Part) : (setPart s n c).clus = s.clus := rfl
@[simp] theorem setPart_cores (s : State) (n : Nat) (c : Part) : (setPart s n c).cores = s.cores := rfl
@[simp] theorem setPart_spMem (s : State) (n : Nat) (c : Part) : (setPart s n c).spMem = s.spMem := rfl
@[simp] theorem setPart_cmMem (s : State) (n : Nat) (c : Part) : (setPart s n c).cmMem = s.cmMem := rfl
@[simp] theorem setPart_dmMem (s : State) (n : Nat) (c : Part) : (setPart s n c).dmMem = s.dmMem := rfl
@[simp] theorem setPart_dmBad (s : State) (n : Nat) (c : Part) : (setPart s n c).dmBad = s.dmBad := rfl
@[simp] theorem setPart_dmCorr (s : State) (n : Nat) (c : Part) : (setPart s n c).dmCorr = s.dmCorr := rfl
@[simp] theorem setPart_ptes (s : State) (n : Nat) (c : Part) : (setPart s n c).ptes = s.ptes := rfl
@[simp] theorem setPart_ptIdentity (s : State) (n : Nat) (c : Part) : (setPart s n c).ptIdentity = s.ptIdentity := rfl
@[simp] theorem setPart_closedRanges (s : State) (n : Nat) (c : Part) : (setPart s n c).closedRanges = s.closedRanges := rfl
@[simp] theorem setPart_time (s : State) (n : Nat) (c : Part) : (setPart s n c).time = s.time := rfl
@[simp] theorem setPart_pwr (s : State) (n : Nat) (c : Part) : (setPart s n c).pwr = s.pwr := rfl
@[simp] theorem setPart_ff (s : State) (n : Nat) (c : Part) : (setPart s n c).ff = s.ff := rfl
@[simp] theorem setPart_stagingDrops (s : State) (n : Nat) (c : Part) : (setPart s n c).stagingDrops = s.stagingDrops := rfl
@[simp] theorem setPart_hp (s : State) (n : Nat) (c : Part) : (setPart s n c).hp = s.hp := rfl
@[simp] theorem setPart_fab (s : State) (n : Nat) (c : Part) : (setPart s n c).fab = s.fab := rfl
@[simp] theorem setPart_brz (s : State) (n : Nat) (c : Part) : (setPart s n c).brz = s.brz := rfl
@[simp] theorem setPart_tap (s : State) (n : Nat) (c : Part) : (setPart s n c).tap = s.tap := rfl
@[simp] theorem setPart_pins (s : State) (n : Nat) (c : Part) : (setPart s n c).pins = s.pins := rfl
@[simp] theorem setPart_out (s : State) (n : Nat) (c : Part) : (setPart s n c).out = s.out := rfl

@[simp] theorem modPart_pending (s : State) (n : Nat) (f : Part → Part) : (modPart s n f).pending = s.pending := rfl
@[simp] theorem modPart_free (s : State) (n : Nat) (f : Part → Part) : (modPart s n f).free = s.free := rfl
@[simp] theorem modPart_b0 (s : State) (n : Nat) (f : Part → Part) : (modPart s n f).b0 = s.b0 := rfl
@[simp] theorem modPart_ifRom (s : State) (n : Nat) (f : Part → Part) : (modPart s n f).ifRom = s.ifRom := rfl
@[simp] theorem modPart_dalardKey (s : State) (n : Nat) (f : Part → Part) : (modPart s n f).dalardKey = s.dalardKey := rfl
@[simp] theorem modPart_fwKey (s : State) (n : Nat) (f : Part → Part) : (modPart s n f).fwKey = s.fwKey := rfl
@[simp] theorem modPart_img (s : State) (n : Nat) (f : Part → Part) : (modPart s n f).img = s.img := rfl
@[simp] theorem modPart_loader (s : State) (n : Nat) (f : Part → Part) : (modPart s n f).loader = s.loader := rfl
@[simp] theorem modPart_loaded (s : State) (n : Nat) (f : Part → Part) : (modPart s n f).loaded = s.loaded := rfl
@[simp] theorem modPart_self (s : State) (n : Nat) (f : Part → Part) : (modPart s n f).self = s.self := rfl
@[simp] theorem modPart_groups (s : State) (n : Nat) (f : Part → Part) : (modPart s n f).groups = s.groups := rfl
@[simp] theorem modPart_clus (s : State) (n : Nat) (f : Part → Part) : (modPart s n f).clus = s.clus := rfl
@[simp] theorem modPart_cores (s : State) (n : Nat) (f : Part → Part) : (modPart s n f).cores = s.cores := rfl
@[simp] theorem modPart_spMem (s : State) (n : Nat) (f : Part → Part) : (modPart s n f).spMem = s.spMem := rfl
@[simp] theorem modPart_cmMem (s : State) (n : Nat) (f : Part → Part) : (modPart s n f).cmMem = s.cmMem := rfl
@[simp] theorem modPart_dmMem (s : State) (n : Nat) (f : Part → Part) : (modPart s n f).dmMem = s.dmMem := rfl
@[simp] theorem modPart_dmBad (s : State) (n : Nat) (f : Part → Part) : (modPart s n f).dmBad = s.dmBad := rfl
@[simp] theorem modPart_dmCorr (s : State) (n : Nat) (f : Part → Part) : (modPart s n f).dmCorr = s.dmCorr := rfl
@[simp] theorem modPart_ptes (s : State) (n : Nat) (f : Part → Part) : (modPart s n f).ptes = s.ptes := rfl
@[simp] theorem modPart_ptIdentity (s : State) (n : Nat) (f : Part → Part) : (modPart s n f).ptIdentity = s.ptIdentity := rfl
@[simp] theorem modPart_closedRanges (s : State) (n : Nat) (f : Part → Part) : (modPart s n f).closedRanges = s.closedRanges := rfl
@[simp] theorem modPart_time (s : State) (n : Nat) (f : Part → Part) : (modPart s n f).time = s.time := rfl
@[simp] theorem modPart_pwr (s : State) (n : Nat) (f : Part → Part) : (modPart s n f).pwr = s.pwr := rfl
@[simp] theorem modPart_ff (s : State) (n : Nat) (f : Part → Part) : (modPart s n f).ff = s.ff := rfl
@[simp] theorem modPart_stagingDrops (s : State) (n : Nat) (f : Part → Part) : (modPart s n f).stagingDrops = s.stagingDrops := rfl
@[simp] theorem modPart_hp (s : State) (n : Nat) (f : Part → Part) : (modPart s n f).hp = s.hp := rfl
@[simp] theorem modPart_fab (s : State) (n : Nat) (f : Part → Part) : (modPart s n f).fab = s.fab := rfl
@[simp] theorem modPart_brz (s : State) (n : Nat) (f : Part → Part) : (modPart s n f).brz = s.brz := rfl
@[simp] theorem modPart_tap (s : State) (n : Nat) (f : Part → Part) : (modPart s n f).tap = s.tap := rfl
@[simp] theorem modPart_pins (s : State) (n : Nat) (f : Part → Part) : (modPart s n f).pins = s.pins := rfl
@[simp] theorem modPart_out (s : State) (n : Nat) (f : Part → Part) : (modPart s n f).out = s.out := rfl

@[simp] theorem setStream_pending (s : State) (c i : Nat) (t : Stream) : (setStream s c i t).pending = s.pending := rfl
@[simp] theorem setStream_free (s : State) (c i : Nat) (t : Stream) : (setStream s c i t).free = s.free := rfl
@[simp] theorem setStream_b0 (s : State) (c i : Nat) (t : Stream) : (setStream s c i t).b0 = s.b0 := rfl
@[simp] theorem setStream_ifRom (s : State) (c i : Nat) (t : Stream) : (setStream s c i t).ifRom = s.ifRom := rfl
@[simp] theorem setStream_dalardKey (s : State) (c i : Nat) (t : Stream) : (setStream s c i t).dalardKey = s.dalardKey := rfl
@[simp] theorem setStream_fwKey (s : State) (c i : Nat) (t : Stream) : (setStream s c i t).fwKey = s.fwKey := rfl
@[simp] theorem setStream_img (s : State) (c i : Nat) (t : Stream) : (setStream s c i t).img = s.img := rfl
@[simp] theorem setStream_loader (s : State) (c i : Nat) (t : Stream) : (setStream s c i t).loader = s.loader := rfl
@[simp] theorem setStream_loaded (s : State) (c i : Nat) (t : Stream) : (setStream s c i t).loaded = s.loaded := rfl
@[simp] theorem setStream_self (s : State) (c i : Nat) (t : Stream) : (setStream s c i t).self = s.self := rfl
@[simp] theorem setStream_groups (s : State) (c i : Nat) (t : Stream) : (setStream s c i t).groups = s.groups := rfl
@[simp] theorem setStream_parts (s : State) (c i : Nat) (t : Stream) : (setStream s c i t).parts = s.parts := rfl
@[simp] theorem setStream_cores (s : State) (c i : Nat) (t : Stream) : (setStream s c i t).cores = s.cores := rfl
@[simp] theorem setStream_spMem (s : State) (c i : Nat) (t : Stream) : (setStream s c i t).spMem = s.spMem := rfl
@[simp] theorem setStream_cmMem (s : State) (c i : Nat) (t : Stream) : (setStream s c i t).cmMem = s.cmMem := rfl
@[simp] theorem setStream_dmMem (s : State) (c i : Nat) (t : Stream) : (setStream s c i t).dmMem = s.dmMem := rfl
@[simp] theorem setStream_dmBad (s : State) (c i : Nat) (t : Stream) : (setStream s c i t).dmBad = s.dmBad := rfl
@[simp] theorem setStream_dmCorr (s : State) (c i : Nat) (t : Stream) : (setStream s c i t).dmCorr = s.dmCorr := rfl
@[simp] theorem setStream_ptes (s : State) (c i : Nat) (t : Stream) : (setStream s c i t).ptes = s.ptes := rfl
@[simp] theorem setStream_ptIdentity (s : State) (c i : Nat) (t : Stream) : (setStream s c i t).ptIdentity = s.ptIdentity := rfl
@[simp] theorem setStream_closedRanges (s : State) (c i : Nat) (t : Stream) : (setStream s c i t).closedRanges = s.closedRanges := rfl
@[simp] theorem setStream_time (s : State) (c i : Nat) (t : Stream) : (setStream s c i t).time = s.time := rfl
@[simp] theorem setStream_pwr (s : State) (c i : Nat) (t : Stream) : (setStream s c i t).pwr = s.pwr := rfl
@[simp] theorem setStream_ff (s : State) (c i : Nat) (t : Stream) : (setStream s c i t).ff = s.ff := rfl
@[simp] theorem setStream_stagingDrops (s : State) (c i : Nat) (t : Stream) : (setStream s c i t).stagingDrops = s.stagingDrops := rfl
@[simp] theorem setStream_hp (s : State) (c i : Nat) (t : Stream) : (setStream s c i t).hp = s.hp := rfl
@[simp] theorem setStream_fab (s : State) (c i : Nat) (t : Stream) : (setStream s c i t).fab = s.fab := rfl
@[simp] theorem setStream_brz (s : State) (c i : Nat) (t : Stream) : (setStream s c i t).brz = s.brz := rfl
@[simp] theorem setStream_tap (s : State) (c i : Nat) (t : Stream) : (setStream s c i t).tap = s.tap := rfl
@[simp] theorem setStream_pins (s : State) (c i : Nat) (t : Stream) : (setStream s c i t).pins = s.pins := rfl
@[simp] theorem setStream_out (s : State) (c i : Nat) (t : Stream) : (setStream s c i t).out = s.out := rfl

@[simp] theorem setChan_pending (s : State) (c i : Nat) (h : Channel) : (setChan s c i h).pending = s.pending := rfl
@[simp] theorem setChan_free (s : State) (c i : Nat) (h : Channel) : (setChan s c i h).free = s.free := rfl
@[simp] theorem setChan_b0 (s : State) (c i : Nat) (h : Channel) : (setChan s c i h).b0 = s.b0 := rfl
@[simp] theorem setChan_ifRom (s : State) (c i : Nat) (h : Channel) : (setChan s c i h).ifRom = s.ifRom := rfl
@[simp] theorem setChan_dalardKey (s : State) (c i : Nat) (h : Channel) : (setChan s c i h).dalardKey = s.dalardKey := rfl
@[simp] theorem setChan_fwKey (s : State) (c i : Nat) (h : Channel) : (setChan s c i h).fwKey = s.fwKey := rfl
@[simp] theorem setChan_img (s : State) (c i : Nat) (h : Channel) : (setChan s c i h).img = s.img := rfl
@[simp] theorem setChan_loader (s : State) (c i : Nat) (h : Channel) : (setChan s c i h).loader = s.loader := rfl
@[simp] theorem setChan_loaded (s : State) (c i : Nat) (h : Channel) : (setChan s c i h).loaded = s.loaded := rfl
@[simp] theorem setChan_self (s : State) (c i : Nat) (h : Channel) : (setChan s c i h).self = s.self := rfl
@[simp] theorem setChan_groups (s : State) (c i : Nat) (h : Channel) : (setChan s c i h).groups = s.groups := rfl
@[simp] theorem setChan_parts (s : State) (c i : Nat) (h : Channel) : (setChan s c i h).parts = s.parts := rfl
@[simp] theorem setChan_cores (s : State) (c i : Nat) (h : Channel) : (setChan s c i h).cores = s.cores := rfl
@[simp] theorem setChan_spMem (s : State) (c i : Nat) (h : Channel) : (setChan s c i h).spMem = s.spMem := rfl
@[simp] theorem setChan_cmMem (s : State) (c i : Nat) (h : Channel) : (setChan s c i h).cmMem = s.cmMem := rfl
@[simp] theorem setChan_dmMem (s : State) (c i : Nat) (h : Channel) : (setChan s c i h).dmMem = s.dmMem := rfl
@[simp] theorem setChan_dmBad (s : State) (c i : Nat) (h : Channel) : (setChan s c i h).dmBad = s.dmBad := rfl
@[simp] theorem setChan_dmCorr (s : State) (c i : Nat) (h : Channel) : (setChan s c i h).dmCorr = s.dmCorr := rfl
@[simp] theorem setChan_ptes (s : State) (c i : Nat) (h : Channel) : (setChan s c i h).ptes = s.ptes := rfl
@[simp] theorem setChan_ptIdentity (s : State) (c i : Nat) (h : Channel) : (setChan s c i h).ptIdentity = s.ptIdentity := rfl
@[simp] theorem setChan_closedRanges (s : State) (c i : Nat) (h : Channel) : (setChan s c i h).closedRanges = s.closedRanges := rfl
@[simp] theorem setChan_time (s : State) (c i : Nat) (h : Channel) : (setChan s c i h).time = s.time := rfl
@[simp] theorem setChan_pwr (s : State) (c i : Nat) (h : Channel) : (setChan s c i h).pwr = s.pwr := rfl
@[simp] theorem setChan_ff (s : State) (c i : Nat) (h : Channel) : (setChan s c i h).ff = s.ff := rfl
@[simp] theorem setChan_stagingDrops (s : State) (c i : Nat) (h : Channel) : (setChan s c i h).stagingDrops = s.stagingDrops := rfl
@[simp] theorem setChan_hp (s : State) (c i : Nat) (h : Channel) : (setChan s c i h).hp = s.hp := rfl
@[simp] theorem setChan_fab (s : State) (c i : Nat) (h : Channel) : (setChan s c i h).fab = s.fab := rfl
@[simp] theorem setChan_brz (s : State) (c i : Nat) (h : Channel) : (setChan s c i h).brz = s.brz := rfl
@[simp] theorem setChan_tap (s : State) (c i : Nat) (h : Channel) : (setChan s c i h).tap = s.tap := rfl
@[simp] theorem setChan_pins (s : State) (c i : Nat) (h : Channel) : (setChan s c i h).pins = s.pins := rfl
@[simp] theorem setChan_out (s : State) (c i : Nat) (h : Channel) : (setChan s c i h).out = s.out := rfl

@[simp] theorem setRing_pending (s : State) (r : Nat) (x : Ring) : (setRing s r x).pending = s.pending := rfl
@[simp] theorem setRing_free (s : State) (r : Nat) (x : Ring) : (setRing s r x).free = s.free := rfl
@[simp] theorem setRing_b0 (s : State) (r : Nat) (x : Ring) : (setRing s r x).b0 = s.b0 := rfl
@[simp] theorem setRing_ifRom (s : State) (r : Nat) (x : Ring) : (setRing s r x).ifRom = s.ifRom := rfl
@[simp] theorem setRing_dalardKey (s : State) (r : Nat) (x : Ring) : (setRing s r x).dalardKey = s.dalardKey := rfl
@[simp] theorem setRing_fwKey (s : State) (r : Nat) (x : Ring) : (setRing s r x).fwKey = s.fwKey := rfl
@[simp] theorem setRing_img (s : State) (r : Nat) (x : Ring) : (setRing s r x).img = s.img := rfl
@[simp] theorem setRing_loader (s : State) (r : Nat) (x : Ring) : (setRing s r x).loader = s.loader := rfl
@[simp] theorem setRing_loaded (s : State) (r : Nat) (x : Ring) : (setRing s r x).loaded = s.loaded := rfl
@[simp] theorem setRing_self (s : State) (r : Nat) (x : Ring) : (setRing s r x).self = s.self := rfl
@[simp] theorem setRing_groups (s : State) (r : Nat) (x : Ring) : (setRing s r x).groups = s.groups := rfl
@[simp] theorem setRing_parts (s : State) (r : Nat) (x : Ring) : (setRing s r x).parts = s.parts := rfl
@[simp] theorem setRing_clus (s : State) (r : Nat) (x : Ring) : (setRing s r x).clus = s.clus := rfl
@[simp] theorem setRing_cores (s : State) (r : Nat) (x : Ring) : (setRing s r x).cores = s.cores := rfl
@[simp] theorem setRing_spMem (s : State) (r : Nat) (x : Ring) : (setRing s r x).spMem = s.spMem := rfl
@[simp] theorem setRing_cmMem (s : State) (r : Nat) (x : Ring) : (setRing s r x).cmMem = s.cmMem := rfl
@[simp] theorem setRing_dmMem (s : State) (r : Nat) (x : Ring) : (setRing s r x).dmMem = s.dmMem := rfl
@[simp] theorem setRing_dmBad (s : State) (r : Nat) (x : Ring) : (setRing s r x).dmBad = s.dmBad := rfl
@[simp] theorem setRing_dmCorr (s : State) (r : Nat) (x : Ring) : (setRing s r x).dmCorr = s.dmCorr := rfl
@[simp] theorem setRing_ptes (s : State) (r : Nat) (x : Ring) : (setRing s r x).ptes = s.ptes := rfl
@[simp] theorem setRing_ptIdentity (s : State) (r : Nat) (x : Ring) : (setRing s r x).ptIdentity = s.ptIdentity := rfl
@[simp] theorem setRing_closedRanges (s : State) (r : Nat) (x : Ring) : (setRing s r x).closedRanges = s.closedRanges := rfl
@[simp] theorem setRing_time (s : State) (r : Nat) (x : Ring) : (setRing s r x).time = s.time := rfl
@[simp] theorem setRing_pwr (s : State) (r : Nat) (x : Ring) : (setRing s r x).pwr = s.pwr := rfl
@[simp] theorem setRing_ff (s : State) (r : Nat) (x : Ring) : (setRing s r x).ff = s.ff := rfl
@[simp] theorem setRing_stagingDrops (s : State) (r : Nat) (x : Ring) : (setRing s r x).stagingDrops = s.stagingDrops := rfl
@[simp] theorem setRing_fab (s : State) (r : Nat) (x : Ring) : (setRing s r x).fab = s.fab := rfl
@[simp] theorem setRing_brz (s : State) (r : Nat) (x : Ring) : (setRing s r x).brz = s.brz := rfl
@[simp] theorem setRing_tap (s : State) (r : Nat) (x : Ring) : (setRing s r x).tap = s.tap := rfl
@[simp] theorem setRing_pins (s : State) (r : Nat) (x : Ring) : (setRing s r x).pins = s.pins := rfl
@[simp] theorem setRing_out (s : State) (r : Nat) (x : Ring) : (setRing s r x).out = s.out := rfl

@[simp] theorem setFab_pending (s : State) (f : Nat) (x : FabPort) : (setFab s f x).pending = s.pending := rfl
@[simp] theorem setFab_free (s : State) (f : Nat) (x : FabPort) : (setFab s f x).free = s.free := rfl
@[simp] theorem setFab_b0 (s : State) (f : Nat) (x : FabPort) : (setFab s f x).b0 = s.b0 := rfl
@[simp] theorem setFab_ifRom (s : State) (f : Nat) (x : FabPort) : (setFab s f x).ifRom = s.ifRom := rfl
@[simp] theorem setFab_dalardKey (s : State) (f : Nat) (x : FabPort) : (setFab s f x).dalardKey = s.dalardKey := rfl
@[simp] theorem setFab_fwKey (s : State) (f : Nat) (x : FabPort) : (setFab s f x).fwKey = s.fwKey := rfl
@[simp] theorem setFab_img (s : State) (f : Nat) (x : FabPort) : (setFab s f x).img = s.img := rfl
@[simp] theorem setFab_loader (s : State) (f : Nat) (x : FabPort) : (setFab s f x).loader = s.loader := rfl
@[simp] theorem setFab_loaded (s : State) (f : Nat) (x : FabPort) : (setFab s f x).loaded = s.loaded := rfl
@[simp] theorem setFab_self (s : State) (f : Nat) (x : FabPort) : (setFab s f x).self = s.self := rfl
@[simp] theorem setFab_groups (s : State) (f : Nat) (x : FabPort) : (setFab s f x).groups = s.groups := rfl
@[simp] theorem setFab_parts (s : State) (f : Nat) (x : FabPort) : (setFab s f x).parts = s.parts := rfl
@[simp] theorem setFab_clus (s : State) (f : Nat) (x : FabPort) : (setFab s f x).clus = s.clus := rfl
@[simp] theorem setFab_cores (s : State) (f : Nat) (x : FabPort) : (setFab s f x).cores = s.cores := rfl
@[simp] theorem setFab_spMem (s : State) (f : Nat) (x : FabPort) : (setFab s f x).spMem = s.spMem := rfl
@[simp] theorem setFab_cmMem (s : State) (f : Nat) (x : FabPort) : (setFab s f x).cmMem = s.cmMem := rfl
@[simp] theorem setFab_dmMem (s : State) (f : Nat) (x : FabPort) : (setFab s f x).dmMem = s.dmMem := rfl
@[simp] theorem setFab_dmBad (s : State) (f : Nat) (x : FabPort) : (setFab s f x).dmBad = s.dmBad := rfl
@[simp] theorem setFab_dmCorr (s : State) (f : Nat) (x : FabPort) : (setFab s f x).dmCorr = s.dmCorr := rfl
@[simp] theorem setFab_ptes (s : State) (f : Nat) (x : FabPort) : (setFab s f x).ptes = s.ptes := rfl
@[simp] theorem setFab_ptIdentity (s : State) (f : Nat) (x : FabPort) : (setFab s f x).ptIdentity = s.ptIdentity := rfl
@[simp] theorem setFab_closedRanges (s : State) (f : Nat) (x : FabPort) : (setFab s f x).closedRanges = s.closedRanges := rfl
@[simp] theorem setFab_time (s : State) (f : Nat) (x : FabPort) : (setFab s f x).time = s.time := rfl
@[simp] theorem setFab_pwr (s : State) (f : Nat) (x : FabPort) : (setFab s f x).pwr = s.pwr := rfl
@[simp] theorem setFab_ff (s : State) (f : Nat) (x : FabPort) : (setFab s f x).ff = s.ff := rfl
@[simp] theorem setFab_stagingDrops (s : State) (f : Nat) (x : FabPort) : (setFab s f x).stagingDrops = s.stagingDrops := rfl
@[simp] theorem setFab_hp (s : State) (f : Nat) (x : FabPort) : (setFab s f x).hp = s.hp := rfl
@[simp] theorem setFab_brz (s : State) (f : Nat) (x : FabPort) : (setFab s f x).brz = s.brz := rfl
@[simp] theorem setFab_tap (s : State) (f : Nat) (x : FabPort) : (setFab s f x).tap = s.tap := rfl
@[simp] theorem setFab_pins (s : State) (f : Nat) (x : FabPort) : (setFab s f x).pins = s.pins := rfl
@[simp] theorem setFab_out (s : State) (f : Nat) (x : FabPort) : (setFab s f x).out = s.out := rfl

@[simp] theorem setSpRow_pending (s : State) (n row : Nat) (v : Row) : (setSpRow s n row v).pending = s.pending := rfl
@[simp] theorem setSpRow_free (s : State) (n row : Nat) (v : Row) : (setSpRow s n row v).free = s.free := rfl
@[simp] theorem setSpRow_b0 (s : State) (n row : Nat) (v : Row) : (setSpRow s n row v).b0 = s.b0 := rfl
@[simp] theorem setSpRow_ifRom (s : State) (n row : Nat) (v : Row) : (setSpRow s n row v).ifRom = s.ifRom := rfl
@[simp] theorem setSpRow_dalardKey (s : State) (n row : Nat) (v : Row) : (setSpRow s n row v).dalardKey = s.dalardKey := rfl
@[simp] theorem setSpRow_fwKey (s : State) (n row : Nat) (v : Row) : (setSpRow s n row v).fwKey = s.fwKey := rfl
@[simp] theorem setSpRow_img (s : State) (n row : Nat) (v : Row) : (setSpRow s n row v).img = s.img := rfl
@[simp] theorem setSpRow_loader (s : State) (n row : Nat) (v : Row) : (setSpRow s n row v).loader = s.loader := rfl
@[simp] theorem setSpRow_loaded (s : State) (n row : Nat) (v : Row) : (setSpRow s n row v).loaded = s.loaded := rfl
@[simp] theorem setSpRow_self (s : State) (n row : Nat) (v : Row) : (setSpRow s n row v).self = s.self := rfl
@[simp] theorem setSpRow_groups (s : State) (n row : Nat) (v : Row) : (setSpRow s n row v).groups = s.groups := rfl
@[simp] theorem setSpRow_parts (s : State) (n row : Nat) (v : Row) : (setSpRow s n row v).parts = s.parts := rfl
@[simp] theorem setSpRow_clus (s : State) (n row : Nat) (v : Row) : (setSpRow s n row v).clus = s.clus := rfl
@[simp] theorem setSpRow_cores (s : State) (n row : Nat) (v : Row) : (setSpRow s n row v).cores = s.cores := rfl
@[simp] theorem setSpRow_cmMem (s : State) (n row : Nat) (v : Row) : (setSpRow s n row v).cmMem = s.cmMem := rfl
@[simp] theorem setSpRow_dmMem (s : State) (n row : Nat) (v : Row) : (setSpRow s n row v).dmMem = s.dmMem := rfl
@[simp] theorem setSpRow_dmBad (s : State) (n row : Nat) (v : Row) : (setSpRow s n row v).dmBad = s.dmBad := rfl
@[simp] theorem setSpRow_dmCorr (s : State) (n row : Nat) (v : Row) : (setSpRow s n row v).dmCorr = s.dmCorr := rfl
@[simp] theorem setSpRow_ptes (s : State) (n row : Nat) (v : Row) : (setSpRow s n row v).ptes = s.ptes := rfl
@[simp] theorem setSpRow_ptIdentity (s : State) (n row : Nat) (v : Row) : (setSpRow s n row v).ptIdentity = s.ptIdentity := rfl
@[simp] theorem setSpRow_closedRanges (s : State) (n row : Nat) (v : Row) : (setSpRow s n row v).closedRanges = s.closedRanges := rfl
@[simp] theorem setSpRow_time (s : State) (n row : Nat) (v : Row) : (setSpRow s n row v).time = s.time := rfl
@[simp] theorem setSpRow_pwr (s : State) (n row : Nat) (v : Row) : (setSpRow s n row v).pwr = s.pwr := rfl
@[simp] theorem setSpRow_ff (s : State) (n row : Nat) (v : Row) : (setSpRow s n row v).ff = s.ff := rfl
@[simp] theorem setSpRow_stagingDrops (s : State) (n row : Nat) (v : Row) : (setSpRow s n row v).stagingDrops = s.stagingDrops := rfl
@[simp] theorem setSpRow_hp (s : State) (n row : Nat) (v : Row) : (setSpRow s n row v).hp = s.hp := rfl
@[simp] theorem setSpRow_fab (s : State) (n row : Nat) (v : Row) : (setSpRow s n row v).fab = s.fab := rfl
@[simp] theorem setSpRow_brz (s : State) (n row : Nat) (v : Row) : (setSpRow s n row v).brz = s.brz := rfl
@[simp] theorem setSpRow_tap (s : State) (n row : Nat) (v : Row) : (setSpRow s n row v).tap = s.tap := rfl
@[simp] theorem setSpRow_pins (s : State) (n row : Nat) (v : Row) : (setSpRow s n row v).pins = s.pins := rfl
@[simp] theorem setSpRow_out (s : State) (n row : Nat) (v : Row) : (setSpRow s n row v).out = s.out := rfl

@[simp] theorem setCmRow_pending (s : State) (c row : Nat) (v : Row) : (setCmRow s c row v).pending = s.pending := rfl
@[simp] theorem setCmRow_free (s : State) (c row : Nat) (v : Row) : (setCmRow s c row v).free = s.free := rfl
@[simp] theorem setCmRow_b0 (s : State) (c row : Nat) (v : Row) : (setCmRow s c row v).b0 = s.b0 := rfl
@[simp] theorem setCmRow_ifRom (s : State) (c row : Nat) (v : Row) : (setCmRow s c row v).ifRom = s.ifRom := rfl
@[simp] theorem setCmRow_dalardKey (s : State) (c row : Nat) (v : Row) : (setCmRow s c row v).dalardKey = s.dalardKey := rfl
@[simp] theorem setCmRow_fwKey (s : State) (c row : Nat) (v : Row) : (setCmRow s c row v).fwKey = s.fwKey := rfl
@[simp] theorem setCmRow_img (s : State) (c row : Nat) (v : Row) : (setCmRow s c row v).img = s.img := rfl
@[simp] theorem setCmRow_loader (s : State) (c row : Nat) (v : Row) : (setCmRow s c row v).loader = s.loader := rfl
@[simp] theorem setCmRow_loaded (s : State) (c row : Nat) (v : Row) : (setCmRow s c row v).loaded = s.loaded := rfl
@[simp] theorem setCmRow_self (s : State) (c row : Nat) (v : Row) : (setCmRow s c row v).self = s.self := rfl
@[simp] theorem setCmRow_groups (s : State) (c row : Nat) (v : Row) : (setCmRow s c row v).groups = s.groups := rfl
@[simp] theorem setCmRow_parts (s : State) (c row : Nat) (v : Row) : (setCmRow s c row v).parts = s.parts := rfl
@[simp] theorem setCmRow_clus (s : State) (c row : Nat) (v : Row) : (setCmRow s c row v).clus = s.clus := rfl
@[simp] theorem setCmRow_cores (s : State) (c row : Nat) (v : Row) : (setCmRow s c row v).cores = s.cores := rfl
@[simp] theorem setCmRow_spMem (s : State) (c row : Nat) (v : Row) : (setCmRow s c row v).spMem = s.spMem := rfl
@[simp] theorem setCmRow_dmMem (s : State) (c row : Nat) (v : Row) : (setCmRow s c row v).dmMem = s.dmMem := rfl
@[simp] theorem setCmRow_dmBad (s : State) (c row : Nat) (v : Row) : (setCmRow s c row v).dmBad = s.dmBad := rfl
@[simp] theorem setCmRow_dmCorr (s : State) (c row : Nat) (v : Row) : (setCmRow s c row v).dmCorr = s.dmCorr := rfl
@[simp] theorem setCmRow_ptes (s : State) (c row : Nat) (v : Row) : (setCmRow s c row v).ptes = s.ptes := rfl
@[simp] theorem setCmRow_ptIdentity (s : State) (c row : Nat) (v : Row) : (setCmRow s c row v).ptIdentity = s.ptIdentity := rfl
@[simp] theorem setCmRow_closedRanges (s : State) (c row : Nat) (v : Row) : (setCmRow s c row v).closedRanges = s.closedRanges := rfl
@[simp] theorem setCmRow_time (s : State) (c row : Nat) (v : Row) : (setCmRow s c row v).time = s.time := rfl
@[simp] theorem setCmRow_pwr (s : State) (c row : Nat) (v : Row) : (setCmRow s c row v).pwr = s.pwr := rfl
@[simp] theorem setCmRow_ff (s : State) (c row : Nat) (v : Row) : (setCmRow s c row v).ff = s.ff := rfl
@[simp] theorem setCmRow_stagingDrops (s : State) (c row : Nat) (v : Row) : (setCmRow s c row v).stagingDrops = s.stagingDrops := rfl
@[simp] theorem setCmRow_hp (s : State) (c row : Nat) (v : Row) : (setCmRow s c row v).hp = s.hp := rfl
@[simp] theorem setCmRow_fab (s : State) (c row : Nat) (v : Row) : (setCmRow s c row v).fab = s.fab := rfl
@[simp] theorem setCmRow_brz (s : State) (c row : Nat) (v : Row) : (setCmRow s c row v).brz = s.brz := rfl
@[simp] theorem setCmRow_tap (s : State) (c row : Nat) (v : Row) : (setCmRow s c row v).tap = s.tap := rfl
@[simp] theorem setCmRow_pins (s : State) (c row : Nat) (v : Row) : (setCmRow s c row v).pins = s.pins := rfl
@[simp] theorem setCmRow_out (s : State) (c row : Nat) (v : Row) : (setCmRow s c row v).out = s.out := rfl

@[simp] theorem emit_pending (s : State) (o : Out) : (emit s o).pending = s.pending := rfl
@[simp] theorem emit_free (s : State) (o : Out) : (emit s o).free = s.free := rfl
@[simp] theorem emit_b0 (s : State) (o : Out) : (emit s o).b0 = s.b0 := rfl
@[simp] theorem emit_ifRom (s : State) (o : Out) : (emit s o).ifRom = s.ifRom := rfl
@[simp] theorem emit_dalardKey (s : State) (o : Out) : (emit s o).dalardKey = s.dalardKey := rfl
@[simp] theorem emit_fwKey (s : State) (o : Out) : (emit s o).fwKey = s.fwKey := rfl
@[simp] theorem emit_img (s : State) (o : Out) : (emit s o).img = s.img := rfl
@[simp] theorem emit_loader (s : State) (o : Out) : (emit s o).loader = s.loader := rfl
@[simp] theorem emit_loaded (s : State) (o : Out) : (emit s o).loaded = s.loaded := rfl
@[simp] theorem emit_self (s : State) (o : Out) : (emit s o).self = s.self := rfl
@[simp] theorem emit_groups (s : State) (o : Out) : (emit s o).groups = s.groups := rfl
@[simp] theorem emit_parts (s : State) (o : Out) : (emit s o).parts = s.parts := rfl
@[simp] theorem emit_clus (s : State) (o : Out) : (emit s o).clus = s.clus := rfl
@[simp] theorem emit_cores (s : State) (o : Out) : (emit s o).cores = s.cores := rfl
@[simp] theorem emit_spMem (s : State) (o : Out) : (emit s o).spMem = s.spMem := rfl
@[simp] theorem emit_cmMem (s : State) (o : Out) : (emit s o).cmMem = s.cmMem := rfl
@[simp] theorem emit_dmMem (s : State) (o : Out) : (emit s o).dmMem = s.dmMem := rfl
@[simp] theorem emit_dmBad (s : State) (o : Out) : (emit s o).dmBad = s.dmBad := rfl
@[simp] theorem emit_dmCorr (s : State) (o : Out) : (emit s o).dmCorr = s.dmCorr := rfl
@[simp] theorem emit_ptes (s : State) (o : Out) : (emit s o).ptes = s.ptes := rfl
@[simp] theorem emit_ptIdentity (s : State) (o : Out) : (emit s o).ptIdentity = s.ptIdentity := rfl
@[simp] theorem emit_closedRanges (s : State) (o : Out) : (emit s o).closedRanges = s.closedRanges := rfl
@[simp] theorem emit_time (s : State) (o : Out) : (emit s o).time = s.time := rfl
@[simp] theorem emit_pwr (s : State) (o : Out) : (emit s o).pwr = s.pwr := rfl
@[simp] theorem emit_ff (s : State) (o : Out) : (emit s o).ff = s.ff := rfl
@[simp] theorem emit_stagingDrops (s : State) (o : Out) : (emit s o).stagingDrops = s.stagingDrops := rfl
@[simp] theorem emit_hp (s : State) (o : Out) : (emit s o).hp = s.hp := rfl
@[simp] theorem emit_fab (s : State) (o : Out) : (emit s o).fab = s.fab := rfl
@[simp] theorem emit_brz (s : State) (o : Out) : (emit s o).brz = s.brz := rfl
@[simp] theorem emit_tap (s : State) (o : Out) : (emit s o).tap = s.tap := rfl
@[simp] theorem emit_pins (s : State) (o : Out) : (emit s o).pins = s.pins := rfl

@[simp] theorem useFree_pending (s : State) : (useFree s).pending = s.pending := rfl
@[simp] theorem useFree_b0 (s : State) : (useFree s).b0 = s.b0 := rfl
@[simp] theorem useFree_ifRom (s : State) : (useFree s).ifRom = s.ifRom := rfl
@[simp] theorem useFree_dalardKey (s : State) : (useFree s).dalardKey = s.dalardKey := rfl
@[simp] theorem useFree_fwKey (s : State) : (useFree s).fwKey = s.fwKey := rfl
@[simp] theorem useFree_img (s : State) : (useFree s).img = s.img := rfl
@[simp] theorem useFree_loader (s : State) : (useFree s).loader = s.loader := rfl
@[simp] theorem useFree_loaded (s : State) : (useFree s).loaded = s.loaded := rfl
@[simp] theorem useFree_self (s : State) : (useFree s).self = s.self := rfl
@[simp] theorem useFree_groups (s : State) : (useFree s).groups = s.groups := rfl
@[simp] theorem useFree_parts (s : State) : (useFree s).parts = s.parts := rfl
@[simp] theorem useFree_clus (s : State) : (useFree s).clus = s.clus := rfl
@[simp] theorem useFree_cores (s : State) : (useFree s).cores = s.cores := rfl
@[simp] theorem useFree_spMem (s : State) : (useFree s).spMem = s.spMem := rfl
@[simp] theorem useFree_cmMem (s : State) : (useFree s).cmMem = s.cmMem := rfl
@[simp] theorem useFree_dmMem (s : State) : (useFree s).dmMem = s.dmMem := rfl
@[simp] theorem useFree_dmBad (s : State) : (useFree s).dmBad = s.dmBad := rfl
@[simp] theorem useFree_dmCorr (s : State) : (useFree s).dmCorr = s.dmCorr := rfl
@[simp] theorem useFree_ptes (s : State) : (useFree s).ptes = s.ptes := rfl
@[simp] theorem useFree_ptIdentity (s : State) : (useFree s).ptIdentity = s.ptIdentity := rfl
@[simp] theorem useFree_closedRanges (s : State) : (useFree s).closedRanges = s.closedRanges := rfl
@[simp] theorem useFree_time (s : State) : (useFree s).time = s.time := rfl
@[simp] theorem useFree_pwr (s : State) : (useFree s).pwr = s.pwr := rfl
@[simp] theorem useFree_ff (s : State) : (useFree s).ff = s.ff := rfl
@[simp] theorem useFree_stagingDrops (s : State) : (useFree s).stagingDrops = s.stagingDrops := rfl
@[simp] theorem useFree_hp (s : State) : (useFree s).hp = s.hp := rfl
@[simp] theorem useFree_fab (s : State) : (useFree s).fab = s.fab := rfl
@[simp] theorem useFree_brz (s : State) : (useFree s).brz = s.brz := rfl
@[simp] theorem useFree_tap (s : State) : (useFree s).tap = s.tap := rfl
@[simp] theorem useFree_pins (s : State) : (useFree s).pins = s.pins := rfl
@[simp] theorem useFree_out (s : State) : (useFree s).out = s.out := rfl

@[simp] theorem setPort_pending (s : State) (h : Nat) (p : Port) : (setPort s h p).pending = s.pending := by unfold setPort; split <;> rfl
@[simp] theorem setPort_free (s : State) (h : Nat) (p : Port) : (setPort s h p).free = s.free := by unfold setPort; split <;> rfl
@[simp] theorem setPort_b0 (s : State) (h : Nat) (p : Port) : (setPort s h p).b0 = s.b0 := by unfold setPort; split <;> rfl
@[simp] theorem setPort_ifRom (s : State) (h : Nat) (p : Port) : (setPort s h p).ifRom = s.ifRom := by unfold setPort; split <;> rfl
@[simp] theorem setPort_dalardKey (s : State) (h : Nat) (p : Port) : (setPort s h p).dalardKey = s.dalardKey := by unfold setPort; split <;> rfl
@[simp] theorem setPort_fwKey (s : State) (h : Nat) (p : Port) : (setPort s h p).fwKey = s.fwKey := by unfold setPort; split <;> rfl
@[simp] theorem setPort_img (s : State) (h : Nat) (p : Port) : (setPort s h p).img = s.img := by unfold setPort; split <;> rfl
@[simp] theorem setPort_loader (s : State) (h : Nat) (p : Port) : (setPort s h p).loader = s.loader := by unfold setPort; split <;> rfl
@[simp] theorem setPort_loaded (s : State) (h : Nat) (p : Port) : (setPort s h p).loaded = s.loaded := by unfold setPort; split <;> rfl
@[simp] theorem setPort_self (s : State) (h : Nat) (p : Port) : (setPort s h p).self = s.self := by unfold setPort; split <;> rfl
@[simp] theorem setPort_groups (s : State) (h : Nat) (p : Port) : (setPort s h p).groups = s.groups := by unfold setPort; split <;> rfl
@[simp] theorem setPort_parts (s : State) (h : Nat) (p : Port) : (setPort s h p).parts = s.parts := by unfold setPort; split <;> rfl
@[simp] theorem setPort_clus (s : State) (h : Nat) (p : Port) : (setPort s h p).clus = s.clus := by unfold setPort; split <;> rfl
@[simp] theorem setPort_cores (s : State) (h : Nat) (p : Port) : (setPort s h p).cores = s.cores := by unfold setPort; split <;> rfl
@[simp] theorem setPort_spMem (s : State) (h : Nat) (p : Port) : (setPort s h p).spMem = s.spMem := by unfold setPort; split <;> rfl
@[simp] theorem setPort_cmMem (s : State) (h : Nat) (p : Port) : (setPort s h p).cmMem = s.cmMem := by unfold setPort; split <;> rfl
@[simp] theorem setPort_dmMem (s : State) (h : Nat) (p : Port) : (setPort s h p).dmMem = s.dmMem := by unfold setPort; split <;> rfl
@[simp] theorem setPort_dmBad (s : State) (h : Nat) (p : Port) : (setPort s h p).dmBad = s.dmBad := by unfold setPort; split <;> rfl
@[simp] theorem setPort_dmCorr (s : State) (h : Nat) (p : Port) : (setPort s h p).dmCorr = s.dmCorr := by unfold setPort; split <;> rfl
@[simp] theorem setPort_ptes (s : State) (h : Nat) (p : Port) : (setPort s h p).ptes = s.ptes := by unfold setPort; split <;> rfl
@[simp] theorem setPort_ptIdentity (s : State) (h : Nat) (p : Port) : (setPort s h p).ptIdentity = s.ptIdentity := by unfold setPort; split <;> rfl
@[simp] theorem setPort_closedRanges (s : State) (h : Nat) (p : Port) : (setPort s h p).closedRanges = s.closedRanges := by unfold setPort; split <;> rfl
@[simp] theorem setPort_time (s : State) (h : Nat) (p : Port) : (setPort s h p).time = s.time := by unfold setPort; split <;> rfl
@[simp] theorem setPort_pwr (s : State) (h : Nat) (p : Port) : (setPort s h p).pwr = s.pwr := by unfold setPort; split <;> rfl
@[simp] theorem setPort_ff (s : State) (h : Nat) (p : Port) : (setPort s h p).ff = s.ff := by unfold setPort; split <;> rfl
@[simp] theorem setPort_stagingDrops (s : State) (h : Nat) (p : Port) : (setPort s h p).stagingDrops = s.stagingDrops := by unfold setPort; split <;> rfl
@[simp] theorem setPort_fab (s : State) (h : Nat) (p : Port) : (setPort s h p).fab = s.fab := by unfold setPort; split <;> rfl
@[simp] theorem setPort_brz (s : State) (h : Nat) (p : Port) : (setPort s h p).brz = s.brz := by unfold setPort; split <;> rfl
@[simp] theorem setPort_tap (s : State) (h : Nat) (p : Port) : (setPort s h p).tap = s.tap := by unfold setPort; split <;> rfl
@[simp] theorem setPort_pins (s : State) (h : Nat) (p : Port) : (setPort s h p).pins = s.pins := by unfold setPort; split <;> rfl
@[simp] theorem setPort_out (s : State) (h : Nat) (p : Port) : (setPort s h p).out = s.out := by unfold setPort; split <;> rfl

/-- A host port reads as it was set. -/
@[simp] theorem getPort_setPort_same (s : State) (h : Nat) (p : Port) : getPort (setPort s h p) h = p := by
  unfold getPort setPort; split <;> rfl

/-- A statistic that stands at its maximum stays there and is marked PINNED (03 R127). -/
theorem Stat.bump_full (t : Stat) (h : t.count = BitVec.allOnes 48) : t.bump = { t with pinned := true } := if_pos h

/-- Below its maximum a statistic counts up by one (03 R127). -/
theorem Stat.bump_below (t : Stat) (h : t.count ≠ BitVec.allOnes 48) : t.bump = { t with count := t.count + 1 } := if_neg h

end Sys2Proof.Machine
end

