-- ==== Sys2Proof/Laws/Issue.lean ====
section
/-! SUPPORT. The laws of a core's cc: what the checks of a word depend on, and what a core that issues, freezes or faults answers. -/

namespace Sys2Proof.Machine

/-- A core as its cc starts: one cc more is counted. -/
def ccUp (c : Core) : Core := { c with ccs := c.ccs + 1 }

@[simp] theorem ccUp_state (c : Core) : (ccUp c).state = c.state := rfl
@[simp] theorem ccUp_calm (c : Core) : (ccUp c).calm = c.calm := rfl
@[simp] theorem ccUp_pc (c : Core) : (ccUp c).pc = c.pc := rfl
@[simp] theorem ccUp_issued (c : Core) : (ccUp c).issued = c.issued := rfl
@[simp] theorem ccUp_wordCount (c : Core) : (ccUp c).wordCount = c.wordCount := rfl
@[simp] theorem draining_ccUp (c : Core) : draining (ccUp c) = draining c := rfl
@[simp] theorem ccUp_imem (c : Core) : (ccUp c).imem = c.imem := rfl

/-- A core that issues words drains nothing. -/
theorem draining_of_issuing (c : Core) (h : issuing c = true) : draining c = false := by
  unfold issuing at h
  unfold draining
  simp [h]

/-- A core's cc count alone is changed as its cc starts. -/
@[simp] theorem getCore_startCc (s : State) (n : Nat) : getCore (startCc s n) n = ccUp (getCore s n) := by
  simp [startCc, ccUp]

@[simp] theorem startCc_clus (s : State) (n : Nat) : (startCc s n).clus = s.clus := rfl
@[simp] theorem startCc_parts (s : State) (n : Nat) : (startCc s n).parts = s.parts := rfl
@[simp] theorem getClus_startCc (s : State) (n c : Nat) : getClus (startCc s n) c = getClus s c := rfl
@[simp] theorem getPart_startCc (s : State) (n p : Nat) : getPart (startCc s n) p = getPart s p := rfl
@[simp] theorem partOfCluster_startCc (s : State) (n c : Nat) : partOfCluster (startCc s n) c = partOfCluster s c := rfl
@[simp] theorem guardAt_startCc (s : State) (n c : Nat) (b : Bool) (l r : Nat) : guardAt (startCc s n) c b l r = guardAt s c b l r := rfl
@[simp] theorem runOf_startCc (s : State) (n c : Nat) : runOf (startCc s n) c = runOf s c := rfl

/-- The task of any core is as before when a cc starts. -/
theorem taskOf_startCc (s : State) (n m : Nat) : taskOf (getCore (startCc s n) m) = taskOf (getCore s m) := by
  by_cases h : m = n
  · subst h; rw [getCore_startCc]; rfl
  · rw [show getCore (startCc s n) m = getCore s m from getCore_modCore_other _ _ _ _ h]

theorem remoteFails_startCc (s : State) (n m : Nat) (c : Core) (x : W64) : remoteFails (startCc s n) m c x = remoteFails s m c x := by
  unfold remoteFails
  simp only [partOfCluster_startCc, taskOf_startCc]
  rfl

theorem sgoFails_startCc (s : State) (n m : Nat) (c : Core) (i : Nat) (x : W64) : sgoFails (startCc s n) m (ccUp c) i x = sgoFails s m c i x := by
  unfold sgoFails
  simp only [taskOf_startCc]
  rfl

/-- The checks of a word do not depend on the count of ccs. -/
theorem wordFails_startCc (s : State) (n : Nat) (raw : IWord) (w : WordOps) :
    wordFails (startCc s n) n (ccUp (getCore s n)) raw w = wordFails s n (getCore s n) raw w := by
  have h1 : boundFails (startCc s n) n (ccUp (getCore s n)) w = boundFails s n (getCore s n) w := by
    unfold boundFails
    cases w.mem <;> simp only [remoteFails_startCc, sgoFails_startCc] <;> rfl
  unfold wordFails
  rw [h1]
  rfl

/-- What holds a word does not depend on the count of ccs. -/
theorem firstHold_startCc (s : State) (n : Nat) (w : WordOps) :
    firstHold (startCc s n) n (ccUp (getCore s n)) w = firstHold s n (getCore s n) w := rfl

/-- What the slots of the word at the PC of core `n` share in the cc that starts. -/
def issueOf (s : State) (n : Nat) : Issue :=
  { n := n, c := ccUp (getCore s n), pc := (getCore s n).pc, at_ := (getCore s n).issued }

/-- A core that fetches evaluates the word at its PC. -/
theorem spendCc_fetches (s : State) (n : Nat) (hf : Fetches s n) :
    spendCc (startCc s n) n =
      match firstFail (wordFails s n (getCore s n) (wordAt (getCore s n)) (Decode.word (wordAt (getCore s n)))) with
      | some f => failWord (startCc s n) (issueOf s n) (Decode.word (wordAt (getCore s n))) f
      | none => match firstHold s n (getCore s n) (Decode.word (wordAt (getCore s n))) with
        | some (slot, h) => freezeWord (startCc s n) (issueOf s n) (Decode.word (wordAt (getCore s n))) slot h
        | none => issueWord (startCc s n) (issueOf s n) (Decode.word (wordAt (getCore s n))) := by
  obtain ⟨h1, hi, h2, h3, h4, h5, h6⟩ := hf
  have hd : draining (getCore s n) = false := draining_of_issuing _ hi
  have hx : extFrozen (startCc s n) n = false := h3
  have hn : ¬ (getCore s n).wordCount ≤ (getCore s n).pc := Nat.not_le.2 h5
  have hl : ((getCore s n).state == RunState.lull) = false := by simp [h2]
  unfold spendCc evaluate
  simp only [getCore_startCc, draining_ccUp, hd, ccUp_state, ccUp_calm, ccUp_wordCount, ccUp_pc, ccUp_imem, ccUp_issued, h4, hl, hx, hn,
    Bool.false_eq_true, if_false, wordFails_startCc, firstHold_startCc, wordAt, issueOf]
  all_goals (
    generalize firstFail _ = a
    generalize firstHold _ _ _ _ = b
    rcases a with _ | a
    · rcases b with _ | ⟨x, y⟩ <;> rfl
    · rfl)

/-- A core whose word passes its checks and is held by nothing issues it. -/
theorem coreCc_issues (s : State) (n : Nat) (hf : Fetches s n) (hp : Passes s n) :
    coreCc s n = stopLate (issueWord (startCc s n) (issueOf s n) (Decode.word (wordAt (getCore s n)))) n := by
  rw [coreCc, spendCc_fetches s n hf, hp.checks, hp.ready]

/-- A word that fails a check does not issue. -/
theorem coreCc_fails (s : State) (n : Nat) (hf : Fetches s n) (f : Fail)
    (h : firstFail (wordFails s n (getCore s n) (wordAt (getCore s n)) (Decode.word (wordAt (getCore s n)))) = some f) :
    coreCc s n = stopLate (failWord (startCc s n) (issueOf s n) (Decode.word (wordAt (getCore s n))) f) n := by
  rw [coreCc, spendCc_fetches s n hf, h]

/-- A word that passes its checks and is held freezes. -/
theorem coreCc_freezes (s : State) (n : Nat) (hf : Fetches s n) (x : Nat × Hold)
    (h : firstFail (wordFails s n (getCore s n) (wordAt (getCore s n)) (Decode.word (wordAt (getCore s n)))) = none)
    (hh : firstHold s n (getCore s n) (Decode.word (wordAt (getCore s n))) = some x) :
    coreCc s n = stopLate (freezeWord (startCc s n) (issueOf s n) (Decode.word (wordAt (getCore s n))) x.1 x.2) n := by
  rw [coreCc, spendCc_fetches s n hf, h, hh]

/-- A command whose operation the word at the PC holds spends one cc of its core. -/
theorem issueNamed_holds (s : State) (n : Nat) (i : Fin 8) (o : SlotOp) (b : Bool) (h1 : canSpend s n = true)
    (h2 : Decode.slot (wordAt (getCore s n)) i = some o) : issueNamed n i o b s = .next (coreCc s n) := by
  have : slotHolds (getCore s n) i o b = true := by
    have h3 : (Decode.slot (wordAt (getCore s n)) i == some o) = true := by simp [h2]
    unfold slotHolds
    simp only [wordAt] at h3
    simp only [h3, Bool.or_true, Bool.true_or]
  simp [issueNamed, h1, this]

/-- A word that holds one operation decodes to the word of that operation. -/
theorem word_of_holds (c : Core) (i : Fin 8) (o : SlotOp) (h : Holds c i o) : Decode.word (wordAt c) = loneWord i o := by
  have h0 := h 0
  have h1 := h 1
  have h2 := h 2
  have h3 := h 3
  have h4 := h 4
  have h5 := h 5
  have h6 := h 6
  have h7 := h 7
  fin_cases i <;> cases o <;> simp_all [Decode.slot, nopOf, Decode.word, loneWord, Option.map_eq_some_iff]

/-- A core that issues a word with one operation: what its slots do, and then the next PC. -/
theorem issueNamed_lone (s : State) (n : Nat) (i : Fin 8) (o : SlotOp) (b : Bool) (h : Lone s n i o) :
    issueNamed n i o b s = .next (stopLate (issueWord (startCc s n) (issueOf s n) (loneWord i o)) n) := by
  have h2 := h.word i
  rw [if_pos rfl] at h2
  rw [issueNamed_holds s n i o b h.fetches.spends h2, coreCc_issues s n h.fetches h.passes, word_of_holds _ _ _ h.word]

/-! ## CALM and END after the issue -/

@[simp] theorem afterCtl_end (s : State) (i : Issue) : afterCtl s i .end_ = endTask s i.n := rfl
@[simp] theorem afterCtl_nop (s : State) (i : Issue) : afterCtl s i .nop = s := rfl
@[simp] theorem afterCtl_b (s : State) (i : Issue) (a : BitVec 3) (b : BitVec 5) (c : BitVec 14) : afterCtl s i (.b a b c) = s := rfl
@[simp] theorem afterCtl_loop (s : State) (i : Issue) (a : BitVec 5) (b : BitVec 14) : afterCtl s i (.loop a b) = s := rfl
@[simp] theorem afterCtl_loopi (s : State) (i : Issue) (a : BitVec 16) (b : BitVec 8) : afterCtl s i (.loopi a b) = s := rfl
@[simp] theorem afterCtl_x (s : State) (i : Issue) (o : XOp) (a b c : BitVec 5) : afterCtl s i (.x o a b c) = s := rfl
@[simp] theorem afterCtl_xaddi (s : State) (i : Issue) (a b : BitVec 5) (c : BitVec 14) : afterCtl s i (.xaddi a b c) = s := rfl
@[simp] theorem afterCtl_xli (s : State) (i : Issue) (a : BitVec 5) (b : BitVec 2) (c : BitVec 16) : afterCtl s i (.xli a b c) = s := rfl
theorem afterCtl_calm (s : State) (i : Issue) (f : Bool) (x : BitVec 16) : afterCtl s i (.calm f x) =
    modCore s i.n (fun c => { c with calm := some { index := x, step := f, pc := i.pc, reported := false, issue := i.at_ },
                                     state := .frozen, cause := .calm, slot := 0, waitIx := x.toNat, frozenFor := 0, idleFor := 0 }) := rfl

/-! ## The slots of a word with one operation -/

/-- NOP in every other slot leaves what the CTL slot does. -/
theorem issueSlots_ctl (s : State) (i : Issue) (o : CtlOp) : issueSlots s i { ctl := o } = goCtl s i o := rfl
theorem issueSlots_sin (s : State) (i : Issue) (o : SinOp) : issueSlots s i { sin := o } = goSin s i o := rfl
theorem issueSlots_mat (s : State) (i : Issue) (o : MatIns) : issueSlots s i { mat := o } = goMat s i o := rfl
theorem issueSlots_vec0 (s : State) (i : Issue) (o : VecOp) : issueSlots s i { vec0 := o } = goVec s i 3 0 o := rfl
theorem issueSlots_vec1 (s : State) (i : Issue) (o : VecOp) : issueSlots s i { vec1 := o } = goVec s i 4 0 o := rfl
theorem issueSlots_red (s : State) (i : Issue) (o : RedOp) : issueSlots s i { red := o } = goRed s i o := rfl
theorem issueSlots_mem (s : State) (i : Issue) (o : MemOp) : issueSlots s i { mem := o } = goMem s i o := rfl
theorem issueSlots_msg (s : State) (i : Issue) (o : MsgOp) : issueSlots s i { msg := o } = goMsg s i o := rfl

/-- A flight that is no weight load is not touched by a second cycle. -/
theorem secondCycles_id (s : State) (n : Nat) (fs : List Flight) (h : ∀ f ∈ fs, secondCycle s n f = (f, s)) : secondCycles s n fs = (fs, s) := by
  induction fs with
  | nil => rfl
  | cons f r ih =>
    simp only [secondCycles, h f (by simp)]
    rw [ih fun g hg => h g (by simp [hg])]

/-- A stage in which nothing lands: every flight has one position less to go. -/
theorem advance_idle (s : State) (n : Nat) (h1 : ∀ f ∈ (getCore s n).inflight, 1 < f.left)
    (h2 : ∀ f ∈ (getCore s n).inflight, secondCycle s n f = (f, s)) : advance s n = modCore s n stageCore := by
  have e1 : (getCore s n).inflight.filter (fun f => decide (f.left ≤ 1)) = [] := by
    rw [List.filter_eq_nil_iff]
    intro f hf
    have := h1 f hf
    simp only [decide_eq_true_eq]
    omega
  have e2 : (getCore s n).inflight.filter (fun f => decide (1 < f.left)) = (getCore s n).inflight := by
    rw [List.filter_eq_self]
    intro f hf
    simpa using h1 f hf
  unfold advance
  simp only [secondCycles_id s n _ h2, e1, e2, List.foldl_nil]
  simp only [modCore, getCore_setCore_same, setCore_setCore, modMat, modMem, stageCore]

/-- A flight that is no weight load has no second cycle. -/
theorem secondCycle_of_not_load (s : State) (n : Nat) (f : Flight) (h : isLoad f = false) : secondCycle s n f = (f, s) := by
  unfold secondCycle
  unfold isLoad at h
  split
  · rename_i he; rw [he] at h; cases h
  · rfl

/-- A core that no STOP reaction stops goes on. -/
theorem stopLate_id (s : State) (n : Nat) (h : (getClus s (clusOf n)).stopAt = none) : stopLate s n = s := by
  simp only [stopLate, h]

/-- A core as its word begins to issue. -/
def runUp (c : Core) : Core := { ccUp c with state := .running, cause := .none, slot := 0, waitIx := 0, frozenFor := 0, idleFor := 0 }

@[simp] theorem runUp_x (c : Core) : (runUp c).x = c.x := rfl
@[simp] theorem runUp_inflight (c : Core) : (runUp c).inflight = c.inflight := rfl
@[simp] theorem runUp_mat (c : Core) : (runUp c).mat = c.mat := rfl
@[simp] theorem runUp_mem (c : Core) : (runUp c).mem = c.mem := rfl
@[simp] theorem runUp_pc (c : Core) : (runUp c).pc = c.pc := rfl
@[simp] theorem runUp_issued (c : Core) : (runUp c).issued = c.issued := rfl

/-- The state as a word begins to issue. -/
def runStart (s : State) (n : Nat) : State := setCore s n (runUp (getCore s n))

/-- A word whose slots land nothing and after which its core neither waits nor ends: `t` is the state after its slots. -/
theorem issueWord_still (s t : State) (n : Nat) (w : WordOps) (hc : ∀ t i, afterCtl t i w.ctl = t)
    (ht : issueSlots (runStart s n) (issueOf s n) w = t)
    (h1 : ∀ f ∈ (getCore t n).inflight, 1 < f.left) (h2 : ∀ f ∈ (getCore t n).inflight, secondCycle t n f = (f, t)) :
    issueWord (startCc s n) (issueOf s n) w = setCore t n (let c := closeCc (stageCore (getCore t n))
      { c with issued := c.issued + 1, pc := (nextPc (issueOf s n) w.ctl).1, loops := (nextPc (issueOf s n) w.ctl).2 }) := by
  have e : modCore (startCc s n) n (fun c => { c with state := .running, cause := .none, slot := 0, waitIx := 0, frozenFor := 0, idleFor := 0 }) = runStart s n := by
    simp only [startCc, modCore, getCore_setCore_same, setCore_setCore]; rfl
  unfold issueWord
  simp only [hc]
  rw [show (issueOf s n).n = n from rfl, e, ht, advance_idle t n h1 h2]
  simp only [endCc, modCore, getCore_setCore_same, setCore_setCore]
  rfl

/-- The core after a word's cc, from the core that its slots leave. -/
theorem afterWord_runUp (d : Core) (next : Nat × List LoopLevel) :
    (let c := closeCc (stageCore (runUp d)); { c with issued := c.issued + 1, pc := next.1, loops := next.2 }) = afterWord d next := rfl

/-- A row whose operation leaves the state `t` with its core `runUp d`: the cc ends with `afterWord d`. -/
theorem lone_row (s t : State) (n : Nat) (i : Fin 8) (o : SlotOp) (b : Bool) (d : Core) (h : Lone s n i o)
    (hc : ∀ t j, afterCtl t j (loneWord i o).ctl = t)
    (ht : issueSlots (runStart s n) (issueOf s n) (loneWord i o) = setCore t n (runUp d))
    (h1 : ∀ f ∈ d.inflight, 1 < f.left) (h2 : ∀ f ∈ d.inflight, secondCycle (setCore t n (runUp d)) n f = (f, setCore t n (runUp d)))
    (hs : (getClus t (clusOf n)).stopAt = none) :
    issueNamed n i o b s = .next (setCore t n (afterWord d (nextPc (issueOf s n) (loneWord i o).ctl))) := by
  rw [issueNamed_lone _ _ _ _ _ h, issueWord_still s _ n _ hc ht, stopLate_id]
  · rw [getCore_setCore_same, setCore_setCore]; rfl
  · exact hs
  · rw [getCore_setCore_same]; exact h1
  · rw [getCore_setCore_same]; exact h2

/-- As `lone_row`, for an operation that changes its own core alone and launches no weight load. -/
theorem lone_own (s : State) (n : Nat) (i : Fin 8) (o : SlotOp) (b : Bool) (d : Core) (h : Lone s n i o)
    (hc : ∀ t j, afterCtl t j (loneWord i o).ctl = t)
    (ht : issueSlots (runStart s n) (issueOf s n) (loneWord i o) = setCore s n (runUp d)) (h1 : Still d) :
    issueNamed n i o b s = .next (setCore s n (afterWord d (nextPc (issueOf s n) (loneWord i o).ctl))) :=
  lone_row s s n i o b d h hc ht (fun f hf => (h1 f hf).1) (fun f hf => secondCycle_of_not_load _ _ _ (h1 f hf).2) h.fetches.goesOn

/-- An operation that does not land in the cc of its issue and loads no weights. -/
def okEff (e : Nat × FlightEff) : Bool := decide (1 < e.1) && (match e.2 with | .weights .. => false | _ => true)

theorem vResult_ok (lat vd m zm r) (h : 1 < lat) : ∀ e ∈ vResult lat vd m zm r, okEff e = true := by
  intro e he
  simp only [vResult, List.mem_cons, List.not_mem_nil, or_false] at he
  rcases he with rfl | rfl <;> simp [okEff, h]

/-- No vector result lands in the cc of its issue (03 R95). -/
theorem vec_lats (i : VecIn) (o : VecOp) : ∀ e ∈ evalVec i o, okEff e = true := by
  cases o with
  | nop => simp [evalVec]
  | fn f a => exact vResult_ok _ _ _ _ _ (by decide)
  | arith o rm a => exact vResult_ok _ _ _ _ _ (by decide)
  | fused o a => exact vResult_ok _ _ _ _ _ (by decide)
  | lane o a => exact vResult_ok _ _ _ _ _ (by decide)
  | pfmt f => simp [evalVec]
  | cmp c a => simp [evalVec, evalCmp, okEff, latAdd]
  | cls a => simp [evalVec, evalClass, okEff, latAdd]
  | mlogic o a => simp [evalVec, evalMask, okEff, latAdd]
  | acc f a =>
    intro e he
    simp only [evalVec, evalAcc, List.mem_append] at he
    rcases he with he | he
    · exact vResult_ok _ _ _ _ _ (by decide) e he
    · split at he <;> simp at he
      subst he; rfl
  | cvt a => exact vResult_ok _ _ _ _ _ (by decide)
  | cvtn f a =>
    cases a with
    | nn => simp [evalVec, evalCvtn, evalNarrow, okEff, latCvt]
    | nx => 
      simp only [evalVec, evalCvtn, evalNarrowMx]
      split <;> simp [okEff, latCvt]
  | cvtw f a => cases a <;> exact vResult_ok _ _ _ _ _ (by decide)
  | biq sr a =>
    simp only [evalVec, evalBiq]
    split <;> simp [okEff, latCvt, lateOnly]
  | biqMark a =>
    simp only [evalVec, evalBiqMark]
    split <;> simp [okEff, latCvt, lateOnly]
  | biqScale a =>
    intro e he
    simp only [evalVec, evalBiqScale, List.mem_append] at he
    rcases he with he | he
    · exact vResult_ok _ _ _ _ _ (by decide) e he
    · simp at he; subst he; rfl
  | biadd a =>
    simp only [evalVec, evalBiadd]
    split <;> simp [okEff, latAdd, lateOnly]
  | biaddHeader a =>
    simp only [evalVec, evalBiaddHeader]
    split <;> simp [okEff, latAdd, lateOnly]
  | bidq a =>
    simp only [evalVec, evalBidq]
    split
    · simp [okEff, latCvt, lateOnly]
    · exact vResult_ok _ _ _ _ _ (by decide)
  | gust s a => simp [evalVec, evalGust, okEff, latAdd]

/-- Operations that do not land at once leave a core with none that lands in the cc. -/
theorem still_launched (c : Core) (slot : Nat) (es : Effs) (h : Still c) (he : ∀ e ∈ es, okEff e = true) : Still (launched c slot es) := by
  intro f hf
  simp only [launched, List.mem_append, List.mem_map] at hf
  rcases hf with hf | ⟨e, he1, rfl⟩
  · exact h f hf
  · have := he e he1
    simp only [okEff, Bool.and_eq_true, decide_eq_true_eq] at this
    refine ⟨this.1, ?_⟩
    have h2 := this.2
    unfold isLoad
    dsimp only
    split at h2 <;> simp_all

/-- Launching effects one by one is launching them together. -/
theorem launches_runUp (s : State) (n : Nat) (d : Core) (slot : Nat) (es : Effs) (hp : d.pc = (getCore s n).pc) (hi : d.issued = (getCore s n).issued):
   launches (setCore s n (runUp d)) (issueOf s n) slot es = setCore s n (runUp (launched d slot es)) := by
  have : ∀ (es : Effs) (d : Core),  d.pc = (getCore s n).pc → d.issued = (getCore s n).issued →
      launches (setCore s n (runUp d)) (issueOf s n) slot es = setCore s n (runUp (launched d slot es)) := by
    intro es
    induction es with
    | nil => intro d _ _; simp [launches, launched]
    | cons e r ih =>
      intro d hp hi
      have e1 : launch (setCore s n (runUp d)) (issueOf s n) slot e.1 e.2 = setCore s n (runUp (launched d slot [e])) := by
        simp [launch, modCore, issueOf, launched, hp, hi]; rfl
      have : launches (setCore s n (runUp d)) (issueOf s n) slot (e :: r) = launches (launch (setCore s n (runUp d)) (issueOf s n) slot e.1 e.2) (issueOf s n) slot r := rfl
      rw [this, e1, ih _ (by simpa [launched] using hp) (by simpa [launched] using hi)]
      simp [launched]
  exact this es d hp hi


end Sys2Proof.Machine
end

