-- ==== Sys2Proof/Laws/Power.lean ====
section
/-! SUPPORT. The form of device memory after a reset of the main side. -/

namespace Sys2Proof.Machine

/-- Bytes written one after another keep the form of a memory. -/
theorem foldl_writeBytes_wf (l : List (Nat × Byte)) (m : Mem) (h : m.wf) : Mem.wf (l.foldl (fun a e => writeBytes a e.1 [e.2]) m) := by
  induction l generalizing m with
  | nil => exact h
  | cons e r ih => exact ih _ (writeBytes_wf m e.1 [e.2] h)

/-- Device memory has its form after a reset of the main side, whatever it holds. -/
theorem lostMemory_wf (s : State) : Mem.wf (lostMemory s) := foldl_writeBytes_wf _ _ ⟨List.Pairwise.nil, by simp⟩

end Sys2Proof.Machine
end

