-- ==== Sys2Proof/Laws/Records.lean ====
section
/-! SUPPORT. A flash copy written and committed by Breeze is valid, and it is the record in force where it stands alone (16 R620 to R622). -/

namespace Sys2Proof.Machine

/-- CHECK of a copy that Breeze has programmed covers header bytes and payload that COMMIT leaves as they are. -/
theorem copyCheck_committed (t : Nat) (seq : BitVec 32) (v : FlashPayload) : copyCheck (committed t seq v) = (committed t seq v).check := rfl

/-- A copy whose payload its record has room for is valid once it is committed. -/
theorem copyValid_committed (t : Nat) (seq : BitVec 32) (v : FlashPayload) (h : payloadLen v ≤ payloadRoom t) (small : payloadLen v < 2 ^ 32) :
    copyValid t (committed t seq v) = true := by
  have e : (committed t seq v).length.toNat = payloadLen v := by
    simp only [committed, programmed, BitVec.toNat_ofNat, Nat.mod_eq_of_lt small]
  simp only [copyValid, copyCheck_committed, e, BEq.rfl, Bool.and_true, Bool.and_eq_true, decide_eq_true_eq]
  exact ⟨⟨⟨by simp [committed, programmed], by simp [committed, programmed]⟩, rfl, h⟩, by simp [committed]⟩

/-- A committed copy that stands alone in bank A is in force. -/
theorem recordInForce_alone (b : Breeze) (t : Nat) (seq : BitVec 32) (v : FlashPayload) (f : b.flash = [(2 * t, committed t seq v)])
    (h : payloadLen v ≤ payloadRoom t) (small : payloadLen v < 2 ^ 32) : recordInForce b t = some v := by
  have a : validCopy b t 0 = some (committed t seq v) := by
    simp [validCopy, flashCopy, f, mget, copyValid_committed t seq v h small]
  have o : validCopy b t 1 = none := by simp [validCopy, flashCopy, f, mget]
  simp [recordInForce, bankInForce, a, o, committed, programmed]

/-- SETTINGS of a committed copy that stands alone in bank A are in force. -/
theorem settingsOf_alone (b : Breeze) (seq : BitVec 32) (v : Settings) (f : b.flash = [(16, committed 8 seq (.settings v))]) : settingsOf b = v := by
  have l : payloadLen (.settings v) < 65409 := (Config.settingsLen v).isLt
  have room : payloadRoom 8 = 65408 := rfl
  have r : recordInForce b 8 = some (.settings v) := recordInForce_alone b 8 seq (.settings v) f (by omega) (by omega)
  simp [settingsOf, r]

end Sys2Proof.Machine
end

