-- ==== Sys2Proof/Laws/Wire.lean ====
section
/-! SUPPORT. A frame with its FCS passes the FCS check of the port that receives it (12 R467, R468). -/

namespace Sys2Proof.Machine

/-- `natBytes n` gives `n` bytes. -/
theorem natBytes_length (n v : Nat) : (natBytes n v).length = n := by
  induction n generalizing v with
  | zero => rfl
  | succ n ih => rw [natBytes, List.length_cons, ih]

/-- A frame of at least 64 bytes with the FCS of its body is not bad: its fields decide. -/
theorem arrived_sealed (f : Nat) (x : FabPort) (body : List Byte) (h : 60 ≤ body.length) : arrived f x (body ++ fcsOf body) = arrivedBody f x body := by
  have l : (fcsOf body).length = 4 := natBytes_length 4 _
  generalize e : fcsOf body = c at l ⊢
  have n : (body ++ c).length = body.length + 4 := by rw [List.length_append, l]
  rw [arrived, n, Nat.add_sub_cancel, List.take_left, List.drop_left, e]
  exact if_neg (fun q => q.elim (fun a => absurd a (by omega)) (fun b => b rfl))

end Sys2Proof.Machine
end

