-- ==== Sys2Proof/Machine/Pins.lean ====
section
/-! DEFINITION. What the output pins do, by the state of the device (19 R720; 21 R742, R754, R757). -/

namespace Sys2Proof.Machine

/-- Boot stage 1 has not begun since the P reset (21 R754). -/
def beforeStage1 (s : State) : Bool := s.brz.stage == 0

/-- Breeze is in Standby, with the main rails away (21 R754). -/
def inStandby (s : State) : Bool := s.brz.bstate == 4

/-- The channels have trained, as stage 6 has them do (21 R754). -/
def channelsTrained (s : State) : Bool := s.brz.mainRuns && !inStandby s

/-- The lanes of a port: driven by a main side that runs, else in electrical idle, or in high impedance before stage 1 and in Standby (21 R754). -/
def laneLevel (s : State) : PinLevel :=
  if beforeStage1 s || inStandby s then .highZ else if s.brz.mainRuns then .driven else .idle

/-- A pin that the boundary register covers: EXTEST and CLAMP drive it, and HIGHZ releases it (21 R757). -/
def scanLevel (s : State) (own : PinLevel) : PinLevel :=
  if s.tap.highz then .highZ else if s.tap.driven.isSome then .scanned else own

/-- What a group of output pins does; THERMTRIP_N is an open drain, and TDO is driven while the TAP shifts only (19 R720; 21 R743, R754, R757). -/
def outLevel (s : State) : OutPin → PinLevel
  | .gddrReset _ => scanLevel s (if channelsTrained s then .high else .low)
  | .hostTx _ => laneLevel s
  | .fabricTx _ => laneLevel s
  | .thermtrip => scanLevel s (if s.pins.thermtripLow then .low else .highZ)
  | .pps => scanLevel s (if s.pins.ppsHigh then .high else .low)
  | .uartTx => scanLevel s (if beforeStage1 s then .high else .driven)
  | .flash => scanLevel s (if beforeStage1 s then .highZ else .driven)
  | .flashReset => scanLevel s (if beforeStage1 s then .low else .driven)
  | .tdo => .highZ

end Sys2Proof.Machine
end

