-- ==== Sys2Proof/WellFormed.lean ====
section
/-! DEFINITION. When a command's operands lie in the ranges the specification gives them. The types of Syntax hold most ranges; what they leave is checked here. -/

namespace Sys2Proof

/-- A count lies in a range. -/
def inRange (v lo hi : Nat) : Bool := decide (lo ≤ v ∧ v ≤ hi)

/-- A BAR2 request carries 1 to 512 bytes inside the 64 GiB window (15 R580, R605). -/
def wfBar2 (offset : BitVec 36) (n : Nat) : Bool := inRange n 1 512 && decide (offset.toNat + n ≤ 68719476736)

/-- Bit errors that strike a row: no codeword is at once corrected and uncorrectable, and stored bits differ in uncorrectable data codewords only (07 R276 to R278). -/
def Ecc.wf (e : Ecc) : Bool :=
  e.words.corr &&& e.words.bad == 0 &&
    (List.range 16).all (fun i => e.words.bad.getLsbD i || (e.flips.extractLsb' (256 * i) 256 == 0))

/-- The bit errors that strike rows while an instruction word reads them: each row is named once (07 R276). -/
def wfStrikes (es : List (Fin 32768 × Ecc)) : Bool := decide (es.map (·.1)).Nodup && es.all (fun e => e.2.wf)

/-- A page address of a host address space fits 52 bits (08 R322). -/
def wfPage (page : Nat) : Bool := decide (page < 2 ^ 52)

/-- A poll names each ring once and reads at most 64 entries of it (15 R588). -/
def wfPoll (reads : List PollRead) : Bool :=
  decide (reads.map (·.ring)).Nodup && reads.all (fun r => match r.seqs with | some l => decide (l.length ≤ 64) | none => true)

/-- The condition field of a branch holds one of the seven conditions of 22 R773. -/
def wfCond (cond : BitVec 3) : Bool := cond != 7

/-- What the boot meets names at most the 32 clusters (01 R14; 16 R627). -/
def BootEnv.wf (e : BootEnv) : Bool := decide (e.failed.length ≤ 32)

/-- The operands of a command are in range. The constructors not named here have operand types without a value outside the ranges. -/
def Instr.wf : Instr → Bool
  | .b _ cond _ _ => wfCond cond
  | .wld _ _ _ es => wfStrikes es
  | .sprd _ _ _ _ _ es => wfStrikes es
  | .rowcmp _ _ _ _ _ _ es => wfStrikes es
  | .rowcnt _ _ _ _ _ _ _ _ es => wfStrikes es
  | .cmwr _ _ _ es => wfStrikes es
  | .moveExecute _ _ _ e => e.wf
  | .remoteRequestServe _ _ e => e.wf
  | .streamRowIssue _ _ _ e => e.wf
  | .completionPost _ _ _ _ e => e.wf
  | .bar2Read _ offset bytes _ _ => wfBar2 offset bytes.val
  | .bar2Write _ offset data => wfBar2 offset data.length
  | .atsInvalidate _ _ page => wfPage page
  | .invalidateCompletion _ _ page => wfPage page
  | .ringPoll _ reads => wfPoll reads
  | .ringRowsDeliver _ _ rows => match rows with | some l => decide (l.length ≤ 64) | none => true
  | .pReset e => e.wf
  | .fReset _ e => e.wf
  | .mReset e => e.wf
  | .standbyExit e => e.wf
  | .resetMain _ e => e.wf
  | _ => true

end Sys2Proof
end

