-- ==== Sys2Proof/Tests/Slice0.lean ====
section
/-! SUPPORT. The model's own tests: words written out from the specification's encodings, ill-formed commands, single steps on small states, and for each statement with hypotheses a state that meets them. -/

namespace Sys2Proof.Tests

open Sys2Proof.Machine

set_option Elab.async false

/-! ## Small states -/

/-- A task with wide windows. -/
def wideTask : Task := { spBound := 0x8000, cmBound := 0x40000, dmBound := 2 ^ 40, hmBound := 2 ^ 40 }

/-- A running core whose program owns every slot of its scratchpad banks. -/
def core0 : Core := { lcore := some 0, task := some wideTask, state := .running, wordCount := 8, mem := { split := 0x00FF00FF } }

/-- A host port that is open. -/
def openPort : Port := { opened := true, linkUp := true, busMaster := true }

/-- Core 0 of cluster 0, alone in running partition 0 of host port 0; the partition, the cluster and the core are changed as said. -/
def site (p : Part → Part := id) (x : Cluster → Cluster := id) (c : Core → Core := id) : State :=
  { parts := [(0, p { state := .running, clusters := 1, dmLimit := 2 ^ 40 })], clus := [(0, x { powered := true, lmap := [(0, 0)] })],
    cores := [(0, c core0)], hp := { p0 := openPort } }

/-- The word with one operation. -/
def wordWith (i : Fin 8) (o : SlotOp) : IWord := (Decode.encSlot o).setWidth 256 <<< (32 * i.val)

/-- The site with a word of one operation at PC 0. -/
def lone (i : Fin 8) (o : SlotOp) (c : Core → Core := id) (x : Cluster → Cluster := id) (p : Part → Part := id) : State :=
  site p x (fun d => c { d with imem := [(0, wordWith i o)] })

/-- Core 0 of cluster 0. -/
def k0 : CoreId := { cluster := 0, core := 0 }

/-- `Lone` as a computation. -/
def loneCheck (s : State) (n : Nat) (i : Fin 8) (o : SlotOp) : Bool :=
  canSpend s n && issuing (getCore s n) && (getCore s n).state != .lull && !extFrozen s n && (getCore s n).calm.isNone && decide ((getCore s n).pc < (getCore s n).wordCount) &&
    (getClus s (clusOf n)).stopAt.isNone && (getCore s n).inflight.all (fun f => decide (1 < f.left) && !isLoad f) &&
    (List.finRange 8).all (fun j => decide (Decode.slot (wordAt (getCore s n)) j = some (if j = i then o else nopOf j))) &&
    (firstFail (wordFails s n (getCore s n) (wordAt (getCore s n)) (Decode.word (wordAt (getCore s n))))).isNone &&
    (firstHold s n (getCore s n) (Decode.word (wordAt (getCore s n)))).isNone

theorem lone_of {s : State} {n : Nat} {i : Fin 8} {o : SlotOp} (h : loneCheck s n i o = true) : Lone s n i o := by
  simp only [loneCheck, Bool.and_eq_true, List.all_eq_true, decide_eq_true_eq, Bool.not_eq_true', Option.isNone_iff_eq_none, bne_iff_ne, ne_eq, List.mem_finRange, forall_const] at h
  obtain ⟨⟨⟨⟨⟨⟨⟨⟨⟨⟨a, a'⟩, b⟩, c⟩, d⟩, e⟩, f⟩, g⟩, hh⟩, i⟩, j⟩ := h
  exact ⟨⟨a, a', b, c, d, e, f⟩, g, hh, ⟨i, j⟩⟩

/-- Every operation of a list, alone in its word at the site, issues. -/
theorem lone_all (c : Core → Core) (x : Cluster → Cluster) (p : Part → Part) (l : List (Fin 8 × SlotOp))
    (h : l.all (fun e => loneCheck (lone e.1 e.2 c x p) 0 e.1 e.2) = true) : ∀ e ∈ l, Lone (lone e.1 e.2 c x p) 0 e.1 e.2 :=
  fun e he => lone_of (List.all_eq_true.mp h e he)

/-- An entry of a tag queue. -/
def entry (n : Nat) : TqEntry := { header := BitVec.ofNat 128 n, row := some (BitVec.ofNat 4096 n), age := 0 }

/-- A core with something at each of its ports, in its queues and in its array. -/
def fullCore (c : Core) : Core :=
  { c with
    x := [(0, 5), (1, 16), (2, 0x0123456789ABCDEF), (3, 3), (4, 0x10800005)]
    m := [(1, 0xF0F0)]
    tq := [(3, { bound := true, state := .opened, depth := 8, entries := [entry 7, entry 8] }), (4, { bound := true, bindMat := true, state := .opened, depth := 8, entries := [entry 9] })]
    sp := [(1, { stream := some 5, rows := [(0x55, 0), (0x66, 0)] })]
    sw := [(1, { stream := some 6 })]
    mem := { c.mem with reply := some { val := 0x77, err := 0, cm := false, target := 0 }, moves := [(0, .cmrd 1 2)], moveSeq := 1 }
    mat := { c.mat with mode := { format := 0xB, accmode := 2 }, set0 := { format := some 0xB, rows := List.replicate 8 0x3F80 } } }

/-- A cluster with streams and batches for that core. -/
def fullClus (x : Cluster) : Cluster :=
  { x with
    str := { x.str with streams := [(5, { desc := some { nearKind := 3, nearIndex := 1 } }), (8, { desc := some { farBase := 4096 } })] }
    chans := [(0, { en := true, cons := 1, base := 100, batch := 4, buf0 := { state := .released, refs := [1, 2, 3] } }), (1, { en := true, cons := 1, base := 400, buf1 := { state := .held, refs := [1], taken := 1 } })]
    mem := { x.mem with cc := 50 } }

/-- The partition with a second cluster. -/
def twoClusters (p : Part) : Part := { p with clusters := 3 }

/-- Operands of format V3. -/
def v3 : V3 := { vd := 10, va := 1, vb := 2, mm := 1, zm := true, x0 := false }

/-- One operation of each instruction row but the END. -/
def ctlOps : List SlotOp := [.ctl .nop, .ctl (.b 3 5 1), .ctl (.loop 1 2), .ctl (.loopi 3 1), .ctl (.calm true 7), .ctl (.xaddi 1 2 0x3FFF), .ctl (.xli 4 2 0xBEEF)] ++
  [XOp.add, .sub, .mul, .and, .or, .xor, .shl, .shr, .sra].map (fun o => .ctl (.x o 4 2 3))

/-- One operation of each row of the SIN slot. -/
def sinOps : List SlotOp := [.sin (.trecv 10 3 true 7), .sin (.trecvs 1 3 1), .sin (.srecv 12 1), .sin (.sgo 8 3), .sin (.gtake 0 4 5), .sin (.gret 1)]

/-- One operation of each row of the MAT slot. -/
def matOps : List SlotOp := [.mat (.matcfg 0xC 0 false 3), .mat (.wld 1 1), .mat .wswap, .mat (.mmul 5 false true 0 0x190), .mat (.mmul 5 false true 1 0x200), .mat (.mmul 5 false true 2 0x080),
  .mat (.laccadd 5 2), .mat (.adrain 5 1 true 2 true)]

/-- One operation of each row of the VEC slots. -/
def vecOps : List VecOp := [VFn.rcp, .sqrt, .rsqrt, .div, .exp, .exp2, .log, .log2, .tanh, .sigm, .erf, .sin, .cos].map (fun f => .fn f v3) ++
  [VArith.add, .sub, .mul].map (fun o => .arith o 4 v3) ++ [VFused.fma, .fms, .fnma].map (fun o => .fused o { p := false, rm := 4, zm := false, mm := 0, vd := 3, va := 4, vb := 5, vc := 6 }) ++
  [VLane.abs, .neg, .mov].map (fun o => .lane o { v3 with vb := 0 }) ++ [.lane .sel { v3 with zm := false }] ++
  [VLane.min, .max, .bcast, .iadd, .isub, .imul, .and, .or, .xor, .shl, .shr, .sra, .shli, .shri, .srai].map (fun o => .lane o v3) ++
  [MLogic.and, .or, .xor, .andn].map (fun o => .mlogic o { md := 3, ma := 1, mb := 2, mm := 0, zm := false }) ++
  [.pfmt true, .cmp 6 { md := 3, va := 1, vb := 2, mm := 0, zm := false }, .cls { md := 3, va := 1, cls := 0x155, mm := 0, zm := false }, .cvt { vd := 3, va := 4, dir := true, rm := 4, sat := true, mm := 0, zm := false },
   .cvtn 0 (.nn 3 4 1 4 true 0 false), .cvtw 0 (.wn 3 4 1 0 false), .biq false { vd := 1, va := 2, vh := 30, hl2 := 8, mm := 0 }, .biqMark { vd := 1, va := 2, vh := 30, hl2 := 8, mm := 0 },
   .biqScale { v3 with mm := 0, zm := false }, .biadd { v3 with mm := 0, zm := false }, .biaddHeader { v3 with mm := 0, zm := false, x0 := true }, .bidq { vd := 1, va := 2, vh := 30, hl2 := 8, mm := 0 }, .gust 3 { vd := 4, xs := 1, xe := 2, mm := 0, zm := false }]

/-- One operation of each row of the RED, MEM and MSG slots. -/
def redOps : List SlotOp := [RedName.sum, .sumi, .max, .min, .argmax, .argmin, .cnt].map (fun o => .red (.red o { vd := 9, va := if o = .cnt then 0 else 8, mm := 1, md := if o = .argmax ∨ o = .argmin then 3 else 0, p := false, zm := false }))

/-- One operation of each row of the MEM slot. -/
def memOps : List SlotOp := [.mem (.sprd 2 1 false 1), .mem (.spwr 2 1 0xFF), .mem (.rowcmp 1 1 2 5 1), .mem (.rowcnt 1 1 3 true true 5 true), .mem (.cmrd 3 1), .mem (.cmwr 3 1), .mem (.cmcnt 3 1 2 false true),
  .mem (.rrd 2 4), .mem (.rwr 2 4)]

/-! ## Each row of the table of instructions issues (ControlRows, LaneRows, ArrayRows, SinRows, MemRows, RemoteAndSendRows) -/

theorem rows_ctl : ∀ e ∈ ctlOps.map (fun o => ((0 : Fin 8), o)), Lone (lone e.1 e.2) 0 e.1 e.2 := lone_all id id id _ (by decide +kernel)
theorem rows_sin : ∀ e ∈ sinOps.map (fun o => ((1 : Fin 8), o)), Lone (lone e.1 e.2 fullCore fullClus) 0 e.1 e.2 := lone_all fullCore fullClus id _ (by decide +kernel)
theorem rows_mat : ∀ e ∈ matOps.map (fun o => ((2 : Fin 8), o)), Lone (lone e.1 e.2 fullCore fullClus) 0 e.1 e.2 := lone_all fullCore fullClus id _ (by decide +kernel)
theorem rows_vec0 : ∀ e ∈ vecOps.map (fun o => ((3 : Fin 8), SlotOp.vec o)), Lone (lone e.1 e.2) 0 e.1 e.2 := lone_all id id id _ (by decide +kernel)
theorem rows_vec1 : ∀ e ∈ (vecOps.take 2).map (fun o => ((4 : Fin 8), SlotOp.vec o)), Lone (lone e.1 e.2) 0 e.1 e.2 := lone_all id id id _ (by decide +kernel)
theorem rows_red : ∀ e ∈ redOps.map (fun o => ((5 : Fin 8), o)), Lone (lone e.1 e.2) 0 e.1 e.2 := lone_all id id id _ (by decide +kernel)
theorem rows_mem : ∀ e ∈ memOps.map (fun o => ((6 : Fin 8), o)), Lone (lone e.1 e.2 fullCore fullClus twoClusters) 0 e.1 e.2 := lone_all fullCore fullClus twoClusters _ (by decide +kernel)
theorem rows_msg : ∀ e ∈ [((7 : Fin 8), SlotOp.msg (.msend 4 3 2 1 9))], Lone (lone e.1 e.2 fullCore fullClus) 0 e.1 e.2 := lone_all fullCore fullClus id _ (by decide +kernel)
/-- VACC reads the accumulators of an FP32 mode. -/
theorem rows_vacc : let o : SlotOp := .vec (.acc 0 { vd := 3, e := 5, md := 4, mm := 0, zm := false })
    Lone (lone 3 o) 0 3 o := lone_of (by decide +kernel)
theorem rows_end : Lone (lone 0 (.ctl .end_)) 0 0 (.ctl .end_) := lone_of (by decide +kernel)

/-! ## Words written out from 22 R767 to R793 -/

/-- A word with the bits `w` in slot `i`. -/
def bits (i : Fin 8) (w : BitVec 32) : IWord := w.setWidth 256 <<< (32 * i.val)

/-- XSUB X1 = X2 - X3; B, condition 3, X5, to 0x123; LOOPI 0x1234 over 0x56 words; XLI X4, fill 2, 0xBEEF (22 R771 to R773). -/
theorem test_decode_ctl : Decode.slot (bits 0 0x09088600) 0 = some (.ctl (.x .sub 1 2 3)) ∧ Decode.slot (bits 0 0x01650123) 0 = some (.ctl (.b 3 5 0x123)) ∧
    Decode.slot (bits 0 0x03123456) 0 = some (.ctl (.loopi 0x1234 0x56)) ∧ Decode.slot (bits 0 0x1222BEEF) 0 = some (.ctl (.xli 4 2 0xBEEF)) := by decide +kernel

/-- TRECV V10, tag 5, with the header word into X7; GTAKE channel 2, X3, M4 (22 R775). -/
theorem test_decode_sin : Decode.slot (bits 1 0x0128B380) 1 = some (.sin (.trecv 10 5 true 7)) ∧ Decode.slot (bits 1 0x05868000) 1 = some (.sin (.gtake 2 3 4)) := by decide +kernel

/-- MATCFG bfloat16, ACCMODE 0, systolic, X9; MMUL entry 0x21 with ZERO and SWAP from tag queue 3; ADRAIN entry 7, port 2, BF, part 3, LAST (22 R776, R777). -/
theorem test_decode_mat : Decode.slot (bits 2 0x01B29000) 2 = some (.mat (.matcfg 0xB 0 true 9)) ∧ Decode.slot (bits 2 0x0421D180) 2 = some (.mat (.mmul 0x21 true true 1 0x180)) ∧
    Decode.slot (bits 2 0x0607BC00) 2 = some (.mat (.adrain 7 2 true 3 true)) := by decide +kernel

/-- VFMA V10 = V8 × V20 + V2, the example of 22 R781; VADD under SR, V33 = V1 + V2 under M3, zeroing, packed; VCMP, condition 6, M5 = V6, V7 under M1; VBIQ SR with V1, V2, V30, lanes from 20 (22 R779 to R787). -/
theorem test_decode_vec : Decode.slot (bits 3 0x80052282) 3 = some (.vec (.fused .fma { p := false, rm := 0, zm := false, mm := 0, vd := 10, va := 8, vb := 20, vc := 2 })) ∧
    Decode.slot (bits 4 0x1484108F) 4 = some (.vec (.arith .add 4 { vd := 33, va := 1, vb := 2, mm := 3, zm := true, x0 := true })) ∧
    Decode.slot (bits 3 0x665061C4) 3 = some (.vec (.cmp 6 { md := 5, va := 6, vb := 7, mm := 1, zm := false })) ∧
    Decode.slot (bits 4 0x3E08BCA0) 4 = some (.vec (.biq true { vd := 1, va := 2, vh := 30, hl2 := 10, mm := 0 })) ∧
    Decode.slot (bits 3 0x300C4320) 3 = some (.vec (.cvtn 0 (.nn 3 4 1 4 true 0 false))) := by decide +kernel

/-- RARGMAX V9 from V8 under M2, indices under M3, packed (22 R788). -/
theorem test_decode_red : Decode.slot (bits 5 0x05248238) 5 = some (.red (.red .argmax { vd := 9, va := 8, mm := 2, md := 3, p := true, zm := false })) := by decide +kernel

/-- ROWCNT, the example of 22 R790; SPRD V12 from X3 as consumer with the increment -1 (22 R789, R790). -/
theorem test_decode_mem : Decode.slot (bits 6 0x01307FF0) 6 = some (.mem (.sprd 12 3 true 0xFF)) ∧ (Decode.slot (bits 6 0x044B3310) 6).isSome = true := by decide +kernel

/-- MSEND V pair 4, X5, three rows, ROUTE 1, group 9 (22 R793). -/
theorem test_decode_msg : Decode.slot (bits 7 0x01215092) 7 = some (.msg (.msend 4 5 2 1 9)) := by decide +kernel

/-- No instruction: a NOP with a field that is not zero, an MMUL with the source 3, an opcode that no slot has (22 R767, R777). -/
theorem test_decode_reserved : Decode.slot (bits 0 1) 0 = none ∧ Decode.slot (bits 2 0x0421F180) 2 = none ∧ Decode.slot (bits 7 0xFF000000) 7 = none := by decide +kernel

/-- The condition 7 makes the word an undefined instruction, 0x0101 in slot 0 (03 R105; 22 R773). -/
theorem test_reserved_condition : let s := lone 0 (.ctl (.b 7 0 0))
    (firstFail (wordFails s 0 (getCore s 0) (wordAt (getCore s 0)) (Decode.word (wordAt (getCore s 0))))).map (fun f => (f.slot, f.code)) = some (0, 0x0101) := by decide +kernel

/-- The table gives no row bits, so no word spells a command. -/
theorem test_no_table_words : decodeTableWord 32 0x09088600 = none := by decide

/-! ## Ill-formed commands, one per check -/

/-- What a boot meets when everything is as it should be. -/
def bootEnv : BootEnv := { secret := some 77, railsAll := true, railsNone := false, railsOrder := true, refclk := true, failed := [] }

theorem test_wf_cond : Instr.wf (.b k0 7 0 0) = false ∧ Instr.wf (.b k0 6 0 0) = true := by decide
theorem test_wf_bar2 : Instr.wf (.bar2Read 0 0 0 {} {}) = false ∧ Instr.wf (.bar2Read 0 0xFFFFFFFFF 2 {} {}) = false ∧ Instr.wf (.bar2Read 0 0xFFFFFFFFF 1 {} {}) = true ∧
    Instr.wf (.bar2Write 0 0 []) = false ∧ Instr.wf (.bar2Write 0 0xFFFFFFFFF [1, 2]) = false := by decide
/-- Bit errors: a codeword both corrected and uncorrectable, stored bits that differ in a codeword that is not, a row named twice (07 R276). -/
theorem test_wf_ecc : let bad : Ecc := { words := { corr := 1, bad := 1 } }
    let stray : Ecc := { words := { bad := 2 }, flips := 1 }
    let good : Ecc := { words := { corr := 2, bad := 1 }, flips := 1 }
    [bad, stray].all (fun e => !(Instr.wf (.moveExecute k0 0 0 e) || Instr.wf (.remoteRequestServe 0 0 e) || Instr.wf (.streamRowIssue 0 0 0 e) || Instr.wf (.completionPost 0 0 0 true e))) = true ∧
    Instr.wf (.moveExecute k0 0 0 good) = true ∧ Instr.wf (.sprd k0 0 0 false 0 [(3, good), (3, {})]) = false ∧ Instr.wf (.wld k0 0 0 [(3, bad)]) = false ∧
    Instr.wf (.rowcmp k0 0 0 0 0 0 [(3, stray)]) = false ∧ Instr.wf (.rowcnt k0 0 0 0 false false 0 false [(3, stray)]) = false ∧ Instr.wf (.cmwr k0 0 0 [(3, bad)]) = false ∧
    Instr.wf (.cmwr k0 0 0 [(3, good), (4, good)]) = true := by decide +kernel
theorem test_wf_page : Instr.wf (.atsInvalidate 0 0 (2 ^ 52)) = false ∧ Instr.wf (.invalidateCompletion 0 0 (2 ^ 52)) = false ∧ Instr.wf (.atsInvalidate 0 0 (2 ^ 52 - 1)) = true := by decide
theorem test_wf_poll : Instr.wf (.ringPoll 0 [⟨3, none, none⟩, ⟨3, none, none⟩]) = false ∧ Instr.wf (.ringPoll 0 [⟨3, none, some (List.replicate 65 0)⟩]) = false ∧
    Instr.wf (.ringRowsDeliver 0 9 (some (List.replicate 65 0))) = false ∧ Instr.wf (.ringPoll 0 [⟨3, none, some (List.replicate 64 0)⟩]) = true := by decide
theorem test_wf_boot : [Instr.pReset { bootEnv with failed := List.replicate 33 0 }, .fReset .devReset { bootEnv with failed := List.replicate 33 0 }, .mReset { bootEnv with failed := List.replicate 33 0 },
    .standbyExit { bootEnv with failed := List.replicate 33 0 }, .resetMain true { bootEnv with failed := List.replicate 33 0 }].all (fun i => !i.wf) = true ∧ Instr.wf (.pReset bootEnv) = true := by decide

/-! ## Single steps -/

/-- What holds of the next state. -/
def after (r : Res) (f : State → Bool) : Bool := match r with | .next t => f t | _ => false

/-- FP32 to E4M3, the table of chapter 05: the codes and events under RNE, RTZ and RUP, without and with SAT; an exact 480 is not delivered as it is, so it is INEXACT as well (R194). -/
theorem test_e4m3_table : let n (rm : Nat) (sat : Bool) (x : Nat) : Nat × Ev := narrowElem 0 rm sat 0 (decodeFp fp32 x)
    n 0 false 0x3F840000 = (0x38, evInexact) ∧ (n 1 false 0x3F840000).1 = 0x38 ∧ (n 3 false 0x3F840000).1 = 0x39 ∧ n 0 false 0x3F880000 = (0x38, evInexact) ∧
    n 0 false 0x3F980000 = (0x3A, evInexact) ∧ (n 1 false 0x3F980000).1 = 0x39 ∧ n 0 false 0x43E80000 = (0x7E, evInexact) ∧ (n 3 false 0x43E80000).1 = 0x7F ∧ (n 3 true 0x43E80000).1 = 0x7E ∧
    n 0 false 0x43F00000 = (0x7F, evOverflow ||| evInexact) ∧ n 0 true 0x43F00000 = (0x7E, evSaturate ||| evInexact) ∧ (n 1 false 0x43F00000).1 = 0x7E := by decide +kernel

/-- The call counter of chapter 07: lane 37 goes from 0xFFFF_FFFE to 0xFFFF_FFFF and OVF is set; one more than that saturates. -/
theorem test_call_counter : let r := countRow (BitVec.ofNat 4096 (0xFFFFFFFE * 2 ^ (32 * 37))) (BitVec.ofNat 128 (2 ^ 37)) 2 false
    elemOf r.1 32 37 = 0xFFFFFFFF ∧ r.2 = true ∧ elemOf r.1 32 36 = 0 := by decide +kernel

/-- The bound fault of chapter 03: a read of row 0x4000 outside the window 0x2000 to 0x4000 leaves 0x8600_0105 and the row in the registers of the core. -/
def boundSite : State := lone 6 (.mem (.sprd 2 1 false 0)) (fun c => { c with x := [(1, 0x4000)], task := some { wideTask with spBase := 0x2000, spBound := 0x4000 } })
theorem test_bound_fault : after (exec (.sprd k0 2 1 false 0 []) boundSite) (fun t => (getCore t 0).state == .faultHold && (readReg t 0 0x01001040).1 == 0x86000105 && (readReg t 0 0x01001058).1 == 0x4000) = true := by decide +kernel

/-- A port of the fabric with its addresses, as on the wire (12 R468, R489). -/
def wirePort : FabPort := { mode := 1, linkUp := true, seeded := true, etherType := 0x88B5, vid := 0x123, mac := 0x0C0B0A090807, peers := [(3, { mac := 0x060504030201 })] }
/-- An acknowledgement of device 1, port 2, to device 3. -/
def ackFrame : Frame := { ftype := 2, ackValid := true, src := 1, srcPort := 2, dst := 3, session := 0x11223344, seq := 5, ackSession := 0x55667788, cumAck := 0x99AABB, credit := 7, sack := 2 }
/-- The bytes of 12 R468 and R471 in transmission order, in a window of PCP 5; the FCS of IEEE 802.3 over the nine digits is CBF4 3926. -/
theorem test_frame_bytes : wireBody wirePort none 0x060504030201 5 ackFrame =
      [1, 2, 3, 4, 5, 6, 7, 8, 9, 10, 11, 12, 0x81, 0x00, 0xA1, 0x23, 0x88, 0xB5, 0x12, 0x02, 0x01, 0x20, 0x03, 0x00, 0x00, 0x00, 0x44, 0x33, 0x22, 0x11, 0x05, 0x00, 0x00, 0x00,
       0x88, 0x77, 0x66, 0x55, 0xBB, 0xAA, 0x99, 0x07, 0x02, 0, 0, 0, 0, 0, 0, 0] ++ List.replicate 10 0 ∧
    fcsOf [0x31, 0x32, 0x33, 0x34, 0x35, 0x36, 0x37, 0x38, 0x39] = [0x26, 0x39, 0xF4, 0xCB] := by decide +kernel

/-- XADD wraps modulo 2^64, and a register that is source and destination is read first (22 R772). -/
def wrapSite : State := lone 0 (.ctl (.x .add 1 1 2)) (fun c => { c with x := [(1, 0xFFFFFFFFFFFFFFFF), (2, 3)] })
theorem test_xadd_wraps : after (exec (.xadd k0 1 1 2) wrapSite) (fun t => getX (getCore t 0) 1 == 2 && getX (getCore t 0) 2 == 3 && (getCore t 0).pc == 1) = true := by decide +kernel

/-- The address of chapter 20: offset 0x0109_8A60 is MSG_TQ_STATUS of tag queue 19 of physical core 2 of cluster 9; where the cluster is Becalmed it reads zero. -/
theorem test_register_address : (regAt { (site) with clus := [(9, { lmap := [(2, 2)] })], cores := [(218, { core0 with tq := [(19, { bound := true, state := .opened, depth := 4 })] })] } 0 0x01098A60).map (·.value) ≠ some 0 ∧
    (regAt { (site) with clus := [(9, { becalmed := true })] } 0 0x01098A60).map (·.value) = some 0 := by decide +kernel

/-! ## A state for the hypotheses of each statement -/

/-- StepRunsFront, ExecKeepsQueue, EveryCommandCompletes. -/
theorem witness_queue : ({ (site) with pending := [.timeCapture, .bypass] } : State).pending = .timeCapture :: [.bypass] ∧ (site).pending = [] := by decide
/-- StepKeepsMemories. -/
theorem witness_memories : ({ (site) with spMem := [(4, 7), (9, 1)] } : State).memOk := ⟨by decide, by decide, by decide⟩
/-- SlotWordReencodes, SlotOpDecodes. -/
theorem witness_codec : Decode.slot (wordWith 3 (.vec (.lane .iadd v3))) 3 = some (.vec (.lane .iadd v3)) ∧ Decode.fits 3 (.vec (.lane .iadd v3)) = true ∧
    Decode.slotOf (wordWith 3 (.vec (.lane .iadd v3))) 3 = Decode.encSlot (.vec (.lane .iadd v3)) := by decide +kernel
/-- EveryRowEvaluatesItsWord; CoreRowsKeepFarMemories. -/
theorem witness_evaluates : let s := lone 0 (.ctl (.xaddi 1 2 3))
    Fetches s k0.num ∧ Decode.slot (wordAt (getCore s k0.num)) (slotCommand k0 false (.ctl (.xaddi 1 2 3))).1 = some (.ctl (.xaddi 1 2 3)) :=
  ⟨(lone_of (by decide +kernel) : Lone _ 0 0 (.ctl (.xaddi 1 2 3))).fetches, by decide +kernel⟩

/-- The site with NOP words and one result that lands. -/
def landSite (e : FlightEff) : State := lone 0 (.ctl .nop) (fun c => { c with inflight := [⟨1, 3, 0, 0, e⟩] })
/-- What `ResultsLand` asks of a state. -/
def landCheck (s : State) : Bool :=
  (match (getCore s 0).inflight with | [f] => f.left == 1 | _ => false) && (getCore s 0).mat.elastic.isEmpty && loneCheck { s with cores := [(0, { getCore s 0 with inflight := [] })] } 0 0 (.ctl .nop) &&
    canSpend s 0 && (firstFail (wordFails s 0 (getCore s 0) (wordAt (getCore s 0)) (Decode.word (wordAt (getCore s 0))))).isNone && (firstHold s 0 (getCore s 0) (Decode.word (wordAt (getCore s 0)))).isNone
/-- ResultsLand, one effect of each kind, and a row for a bank without power. -/
theorem witness_lands : [FlightEff.writeV 63 1 1 true, .mergeV 0 1 1, .writeM 15 1 1 true, .writeX 31 1, .vecEvents 63, .accClear, .rowWrite 0x7FFF 1 true, .rowWrite 0 1 false].all (fun e => landCheck (landSite e)) = true ∧
    (let s := lone 0 (.ctl .nop) (fun c => { c with inflight := [⟨1, 6, 0, 0, .rowWrite 2 1 true⟩], mem := { c.mem with banks := [(2, { ready := false })] } })
     landCheck s = true ∧ (mget {} (getCore s 0).mem.banks (spBank 2)).ready = false) := by decide +kernel
/-- IntegerLanes. -/
theorem witness_lanes : v3.x0 = false ∧ VLane.sel ∈ [VLane.iadd, .isub, .imul, .and, .or, .xor, .shl, .shr, .sra, .shli, .shri, .srai, .mov, .sel] := by decide
/-- FaultedWordsDoNotIssue. -/
theorem witness_faulted : let c := getCore boundSite 0
    canSpend boundSite 0 = true ∧ issuing c = true ∧ extFrozen boundSite 0 = false ∧ c.calm = none ∧ c.pc < c.wordCount ∧ (getClus boundSite 0).stopAt = none ∧ c.state ≠ .lull ∧
    Decode.slot (wordAt c) 6 = some (.mem (.sprd 2 1 false 0)) ∧ c.inflight = [] ∧ c.mat.elastic = [] ∧ c.fault.valid = false ∧
    (firstFail (wordFails boundSite 0 c (wordAt c) (Decode.word (wordAt c)))).isSome = true := by decide +kernel
/-- FirstFaultIsKept and StatisticsSaturate, at their last values. -/
theorem witness_latch : ({ valid := true, info := {} } : Latch CoreFault).valid = true ∧ ({} : Core).fault.valid = false ∧ ({ count := BitVec.allOnes 48 } : Stat).count = BitVec.allOnes 48 ∧
    ({ count := 0xFFFFFFFFFFFE } : Stat).count ≠ BitVec.allOnes 48 := by decide
/-- CalmAndEnd, the END. -/
theorem witness_end : let s := lone 0 (.ctl .end_)
    (getCore s k0.num).inflight = [] ∧ (getCore s k0.num).mat.elastic = [] ∧ partOfCluster s (clusOf k0.num) = some 0 ∧ (getPart s 0).calm = none ∧ (getPart s 0).stopPending = false := by decide +kernel
/-- MmulRows: a vector from a register pair, from a port, from a queue; the array free. -/
theorem witness_mmul : let s := lone 2 (.mat (.mmul 5 false true 1 0x200)) fullCore fullClus
    mustWait s (issueHere s k0.num) = false ∧ mmulPort 0 0x190 = none ∧ mmulPort 1 0x200 = some 8 ∧ vecReady (getCore s k0.num) 8 = true ∧ mmulPort 2 0x080 = some 1 ∧ vecReady (getCore s k0.num) 1 = true := by decide +kernel
/-- The partition in row-stall mode. -/
def stalling (p : Part) : Part := { p with run := { p.run with rowStall := true } }
/-- MmulRows: a vector that has not come, in bubble mode and in row-stall mode. -/
theorem witness_mmul_waits : ∀ p ∈ [id, stalling], let s := lone 2 (.mat (.mmul 5 false true 2 0x080)) (fun c => { fullCore c with sp := [(1, { stream := some 5 })] }) fullClus p
    loneCheck s 0 2 (.mat (.mmul 5 false true 2 0x080)) = true ∧ vecReady (getCore s k0.num) 1 = false ∧ mmulPort 2 0x080 = some 1 := by decide +kernel
/-- ArrayRows, the rows of a WLD; MemRows, the rows read. -/
theorem witness_readable : let c := getCore (lone 2 (.mat (.wld 1 1)) fullCore fullClus) 0
    (∀ r ∈ firstRows (rowIn c 1), Readable c r) ∧ Readable c (rowIn c 3) := by simp only [Readable]; decide +kernel
/-- ArrayEvents: room for the offered row, no room in either mode, and a delayed operation that can run. -/
theorem witness_array_events : let o : OfferedRow := ⟨7, 0, 0⟩
    let offered (b : List Row) (p : Part → Part) : State := site (p := p) (c := fun c => { c with sw := [(3, { offered := [o], buffer := b })] })
    let f : Flight := ⟨0, 2, 0, 0, .mat .place⟩
    let s := site (p := stalling) (c := fun c => { c with mat := { c.mat with elastic := [f] } })
    (getSw (getCore (offered [1] id) 0) 3).offered = [o] ∧ (getSw (getCore (offered [1] id) 0) 3).buffer.length < 2 ∧
    2 ≤ (getSw (getCore (offered [1, 2] id) 0) 3).buffer.length ∧ (runOf (offered [1, 2] id) 0).rowStall = false ∧ (runOf (offered [1, 2] stalling) 0).rowStall = true ∧
    (getCore s 0).mat.elastic = [f] ∧ (getCore s 0).mat.ran = false ∧ matReady (getCore s 0) .place = true ∧ delayedFault (getCore s 0) f .place = none ∧ (getCore s 0).state = .running ∧
    extFrozen s 0 = false ∧ clusterStopped s 0 = false := by decide +kernel
/-- SinRows: a port with a row, a stream with a descriptor, a batch to take and a batch held. -/
theorem witness_sin : let s := lone 1 (.sin (.gret 1)) fullCore fullClus
    (getSp (getCore s 0) 1).rows = (0x55, 0) :: [(0x66, 0)] ∧ (getStream s 0 8).desc = some { farBase := 4096 } ∧
    takeBuf (getChan s 0 0) (lcoreNum (getCore s 0)) (getClus s 0).mem.cc = some 0 ∧ heldBuf (getChan s 0 1) (lcoreNum (getCore s 0)) = some 1 := by decide +kernel
/-- RemoteAndSendRows: a reply that waits. -/
theorem witness_reply : (getCore (lone 6 (.mem (.rrd 2 4)) fullCore fullClus twoClusters) 0).mem.reply = some { val := 0x77, err := 0, cm := false, target := 0 } := by decide +kernel

/-! ### The events of cores, banks and streams -/

/-- CoreFaultAndSleep: a stall past its deadline, a fault detected late, a frozen core at the threshold, a core asleep. -/
theorem witness_core_events :
    stallDue (site (c := fun c => { c with state := .frozen })) 0 = true ∧ (getCore (site (c := fun c => { c with late := [{}] })) 0).late = [{}] ∧
    (let s := site (x := fun x => { x with coreLullIdle := 9 }) (c := fun c => { c with state := .frozen, idleFor := 9 })
     (getCore s 0).state = .frozen ∧ (getClus s 0).coreLullIdle ≠ 0 ∧ (getClus s 0).coreLullIdle ≤ (getCore s 0).idleFor) ∧
    (let s := site (c := fun c => { c with state := .lull, waking := true })
     (getCore s 0).state = .lull ∧ ((getCore s 0).waking || causeReleased s 0) = true) := by decide +kernel

/-- The core waits at a calm point; the partition forms none, that one or another. -/
def calmSite (f : Option (BitVec 16 × Bool)) : State :=
  site (p := fun p => { p with calm := f }) (c := fun c => { c with calm := some { index := 7, step := true, pc := 3, reported := false, issue := 5 }, state := .frozen, cause := .calm })
/-- CalmAndStopEvents. -/
theorem witness_calm : [none, some (7, true), some (8, true), some (7, false)].all (fun f => let s := calmSite f
    (getCore s 0).calm.map (fun w => (w.index, w.step, w.reported)) == some (7, true, false) && (getPart s 0).calm == f && partOfCluster s 0 == some 0 && calmDrained s 0 &&
      isParticipant s 0 0 && !(getPart s 0).calmHeld) = true := by decide +kernel
theorem witness_fault_stop : (getPart (site (fun p => { p with faultStop := true })) 0).faultStop = true := by decide +kernel

/-- The banks 2 of the core and 3 of the cluster. -/
def bankSite (b : BankPower) : State :=
  site (x := fun x => { x with bankLullIdle := 5, mem := { x.mem with banks := [(3, b)] } }) (c := fun c => { c with mem := { c.mem with banks := [(2, b)] } })
/-- BankRows: a bank that may sleep, a bank in the last cc of its wake, a bank of the owner, a bank switched off, a bank switched on. -/
theorem witness_banks :
    (let s := bankSite {}
     (∀ e ∈ [(4, false), (5, true)], ((enterCc s 0 e.1).map (fun s1 => (decide (5 ≤ spIdle s1 0 2), decide (5 ≤ cmIdle s1 0 3)))) = some (e.2, e.2)) ∧ (getClus s 0).bankLullIdle ≠ 0 ∧ spBankBusy (getCore s 0) 2 = false ∧ (spPower s 0 2).ready = true ∧ (spPower s 0 2).lull = false ∧
       cmBankBusy s 0 3 = false ∧ (cmPower s 0 3).ready = true ∧ (cmPower s 0 3).lull = false ∧ portAnswers s 0 = true ∧ spPwrDenied s 0 0 = none ∧ clusDenied s 0 0 = none) ∧
    (let s := bankSite { lull := true, wake := 1 }
     (spPower s 0 2).lull = true ∧ (spPower s 0 2).wake = 1 ∧ (cmPower s 0 3).lull = true ∧ (cmPower s 0 3).wake = 1) ∧
    (let s := bankSite { off := true, pend := true }
     (spPower s 0 2).pend = true ∧ tagTargets s 0 (.sp k0 2) = false ∧ (cmPower s 0 3).pend = true ∧ tagTargets s 0 (.cm 0 3) = false) ∧
    (let s := bankSite { ready := false }
     (spPower s 0 2).off = false ∧ (spPower s 0 2).ready = false) := by decide +kernel

/-- A queued move of the core, in the slot of bank 3 that the core owns. -/
def moveSite (m : Move) : State :=
  site (x := fun x => { x with mem := { x.mem with slots := [(16 * 5 + 3, 0)], cc := 21 } }) (c := fun c => { c with mem := { c.mem with moves := [(7, m)] } })
/-- MoveEvents. -/
theorem witness_moves : (∀ m ∈ [Move.cmwr 0x3FFF3 5, .cmrd 19 0x7FFF, .cmcnt 19 1 1 true false], let s := moveSite m
      clusterStopped s 0 = false ∧ (getClus s 0).mem.cc = 21 ∧ slotOwner s 0 3 21 = lcoreNum (getCore s 0) ∧ cmUsed s 0 true 3 = false ∧ cmUsed s 0 false 3 = false ∧ cmAnswer s 0 3 = .ready ∧
      firstMove (getCore s 0).mem.moves 3 = some (7, m) ∧ (getClus s 0).mem.uses = [] ∧ cmBad s 0 19 = false ∧ guardAt s 0 true 0 19 = none ∧ guardAt s 0 true 0 0x3FFF3 = none ∧
      guardAt s 0 false 0 0x7FFF = none) ∧
    (∃ cc ∈ [21, 22, 23, 24, 25, 26, 27, 28], let s := site (c := fun c => { c with issued := BitVec.ofNat 64 cc, mem := { c.mem with split := 0, landing := [⟨2, 9⟩], arriving := some { val := 0x77, err := 0, cm := false, target := 0 } } })
      (getCore s 0).mem.landing.find? (fun l => spBank l.dst == 2) = some ⟨2, 9⟩ ∧ clusterStopped s 0 = false ∧ remoteSlot (getCore s 0) true 2 = true ∧ spAnswer s 0 2 = .ready ∧
      guardAt s 0 false 0 2 = none ∧ (getCore s 0).mem.arriving.map (·.err) = some 0) ∧
    (enterCc (moveSite (.cmwr 3 5)) 0 21).isSome = true := by decide +kernel

/-- A stream of the core: two rows of four from device memory, or to it, or of host memory. -/
def rowsDesc : StreamDesc := { nearBase := 2, nearLen := 4, tags := 4, prefetch := 4, counts := [8, 1, 1, 1, 1], strides := [512, 0, 0, 0, 0] }
/-- That stream is stream 5 of the cluster. -/
def streamSite (d : StreamDesc) (f : Stream → Stream) (p : Part → Part := id) (q : Port → Port := id) (b : BankPower := {}) : State :=
  let s := site p (fun x => { x with str := { x.str with streams := [(5, f { desc := some d, state := .running })], shareRd := 8 }, mem := { x.mem with cc := 21, slots := [(16 * 5 + 2, 0x18)] } })
    (fun c => { c with mem := { split := 0xFFFFFFFF, banks := [(2, b)] } })
  { s with hp := { s.hp with p0 := q s.hp.p0 }, ptes := [(0, { state := 1, frame := 0 })] }
/-- A row on its way. -/
def rowTagged (j err : Nat) : StrTag := { j := j, data := some 9, addr := 4096, err := err, served := true }
/-- StreamRowsIssue: a row issues; the near end is off; the page is absent, or outside; the port's translation is missing. -/
theorem witness_issue :
    (let s := streamSite rowsDesc id
     let near := nearPower s 0 (nearOf s 0 5 0 (getStream s 0 5) rowsDesc)
     clusterStopped s 0 = false ∧ (getClus s 0).mem.cc = 21 ∧ partOfCluster s 0 = some 0 ∧ partIssues (getPart s 0) = true ∧ (getStream s 0 5).desc = some rowsDesc ∧ (getStream s 0 5).next < streamRows rowsDesc ∧
       Machine.translate s 0 5 = .ok 0 ∧ near.ready = true ∧ mightIssue s 0 5 21 = true ∧ near.lull = false ∧ (getClus s 0).str.issueCc ≠ some 21 ∧
       (classPattern (getClus s 0).str).getD (21 % 8) 3 = streamClass rowsDesc ∧ aheadOf s 0 (streamClass rowsDesc) 5 21 = [] ∧ ringLeft s 0 21 = 0) ∧
    (let s := streamSite rowsDesc id (b := { ready := false })
     Machine.translate s 0 5 = .ok 0 ∧ (nearPower s 0 (nearOf s 0 5 0 (getStream s 0 5) rowsDesc)).ready = false ∧ mightIssue s 0 5 21 = true) ∧
    (∀ e ∈ [(2, 1), (3, 2), (0, 3)], let s := { streamSite rowsDesc id with ptes := [(0, { state := e.1, frame := 0 })] }
     Machine.translate s 0 5 = .halt e.2 0 ∧ mightIssue s 0 5 21 = true) ∧
    (let d : StreamDesc := { rowsDesc with farSpace := 1 }
     let s := streamSite d id (q := fun q => { q with ats := true, pri := true, pasid := true })
     Machine.translate s 0 5 = .ask 0 ∧ mightIssue s 0 5 21 = true ∧ tagFree s (getPart s 0).hostPort = true) := by decide +kernel
/-- StreamRowsMove: a row lands; an error of the host and of the far end; an acknowledgement from the host and from the device. -/
theorem witness_rows_move :
    (let s := streamSite rowsDesc (fun t => { t with next := 2, tags := [rowTagged 0 0, rowTagged 1 0] })
     clusterStopped s 0 = false ∧ (getStream s 0 5).tags = rowTagged 0 0 :: [rowTagged 1 0] ∧ (getStream s 0 5).state ≠ .faulted ∧ nearOf s 0 5 0 (getStream s 0 5) rowsDesc = .sp 0 2 ∧ guardAt s 0 false 0 2 = none ∧
       spAnswer s 0 2 = .ready ∧ streamSlot (getCore s 0) true 2 = true ∧ (getCore s 0).mem.uses = [] ∧ (getCore s 0).mem.cntWindows = []) ∧
    (∀ e ∈ [(false, 1, 0), (false, 0, 9), (true, 1, 0), (true, 0, 0)], let d : StreamDesc := { rowsDesc with dirOut := e.1, farSpace := e.2.1 }
     let s := streamSite d (fun t => { t with next := 1, tags := [rowTagged 0 e.2.2] })
     clusterStopped s 0 = false ∧ (getClus s 0).mem.cc = 21 ∧ (getStream s 0 5).desc = some d ∧ (getStream s 0 5).tags = [rowTagged 0 e.2.2] ∧ (getStream s 0 5).state ≠ .faulted ∧
       (getClus s 0).str.host.contains (5, 0) = false ∧ tagOfRow (getStream s 0 5) 0 = some (rowTagged 0 e.2.2) ∧ (getStream s 0 5).tags.find? (fun x => x.served) = some (rowTagged 0 e.2.2)) := by decide +kernel
/-- DeviceMemoryServes: a write and a read that wait for their channel. -/
theorem witness_gddr : [some (5 : Row), none].all (fun d => let g : StrTag := { j := 0, data := d, addr := 0x8000, err := 0, served := false }
    let s := modClus (streamSite rowsDesc (fun t => { t with next := 1, tags := [g] })) 0 (fun x => { x with str := { x.str with gddr := [(5, 0)] } })
    oldestFor s 0 (channelOf 0x8000) == some (5, 0) && tagOfRow (getStream s 0 5) 0 == some g && !dmIsBad s g.addr) = true := by decide +kernel
/-- PageRows: the last page under resolution, and a stream that waits for a page; an owner's write of an entry; an acknowledgement; a resolution past its deadline, of a page and of a page request. -/
theorem witness_pages :
    resolvingFor (getPart (site (fun p => { p with pf := { p.pf with resolving := [(393215, 1, 0)] } })) 0) 393215 = some 1 ∧
    (let s := streamSite rowsDesc (fun t => { t with state := .halted, reason := 1 }) (p := fun p => { p with pf := { p.pf with resolving := [(0, 1, 0)] } })
     resolvingFor (getPart s 0) 0 = some 1 ∧ 5 ∈ boundStreams s 0 ∧ 0 ∈ clustersOf s 0 ∧ waitsOn (getStream s 0 5) 0 = true) ∧
    (let s := site (fun p => { p with dmLimit := 2 ^ 40, pf := { p.pf with ptIndex := 7, queue := [3, 4] } })
     portAnswers s 0 = true ∧ (0 : Fin 2).val = (getPart s 0).owner ∧ (getPart s 0).state ≠ .none ∧ pteDenied s 0 7 1 9 = none ∧ ((1 : Nat) * 2 ^ 30 + 9) / 2 ^ 19 % 2 ^ 10 = 0 ∧ (getPart s 0).pf.overflow = []) ∧
    (∀ r ∈ [1, 4], let s := { (streamSite rowsDesc (fun t => { t with state := .halted, reason := r, haltTime := 5 }) (p := fun p => { p with pf := { p.pf with deadline := 1 } })) with time := { now := 1005 } }
     partOfCluster s 0 = some 0 ∧ (getStream s 0 5).state = .halted ∧ (getPart s 0).det.phase ≠ 3 ∧ (getPart s 0).det.phase ≠ 6 ∧
       (getStream s 0 5).haltTime + 1000 * (getPart s 0).pf.deadline ≤ nowNs s) := by decide +kernel
/-- TranslationRows: a page request answered, a translation asked for by a stream and by a ring, an invalidation and its completion. -/
theorem witness_translation : let d : StreamDesc := { rowsDesc with farSpace := 1 }
    (let s := streamSite d (fun t => { t with state := .halted, reason := 4 }) (p := fun p => { p with pf := { p.pf with pri := [⟨0, 0, false, .sent⟩] } })
     partOfCluster s 0 = some 0 ∧ (getStream s 0 5).desc = some d ∧ (getPart s 0).hostPort = 0 ∧ hostOpen (getPort s 0) = true ∧ (getStream s 0 5).state = .halted ∧ (getStream s 0 5).reason = 4 ∧
       priFor (getPart s 0) (streamPasid s 0 d) (hostPage (farAddr (getStream s 0 5) (getStream s 0 5).next)) = some ⟨0, 0, false, .sent⟩) ∧
    ([StrState.running, .halted].all (fun st => (getStream (streamSite d (fun t => { t with state := st, xlat := some 5 })) 0 5).xlat == some 5)) = true ∧
    (∀ post ∈ [true, false], let s := streamSite d id
     (getRing { s with hp := { s.hp with rings := [(3, { xlat := some (9, post) })] } } (3 : Fin 128).val).xlat = some (9, post) ∧ (3 : Fin 128).val / 4 = 0) ∧
    (let s := streamSite d id (q := fun q => { q with ats := true, invalidating := [(0xFFFFF, 2 ^ 52 - 1)] })
     (getPort s 0).ats = true ∧ (0xFFFFF, 2 ^ 52 - 1) ∈ (getPort s 0).invalidating ∧ rowsUnder s 0 0xFFFFF (2 ^ 52 - 1) = false) := by decide +kernel

/-! ### The mesh, the groups, the rings and the host ports -/

/-- A row with a header, and the same row in the mesh. -/
def rowOf (h : Header) : MsgRow := { header := h, row := 0, fabPort := 0 }
/-- A row in the mesh. -/
def inMesh (h : Header) (kind : Nat := 0) : MeshRow := { msg := rowOf h, kind := kind, reason := 0, remote := none }
/-- A header of cluster 1. -/
def farHdr : Header := 0x8000000000000000000000000000
/-- MeshRows: a row for cluster 1 in lane 0 at the router of cluster 0; a row that leaves the mesh; a static row for link 1; a row from the I/O die; a report that has arrived. -/
theorem witness_mesh :
    (let r := inMesh farHdr
     let s := site (x := fun x => { x with msg := { x.msg with links := [(1, [0])], bufs := [(256 * 2, [r])] } })
     routerStopped s 0 = false ∧ slotLane s 0 1 0 = 0 ∧ ((laneHeads s 0 0).find? (fun e => nextLink s 0 e.2 == some 1)).map (·.2) = some r ∧ leavesMesh 0 1 = false ∧
       (neighbour 0 1).isSome = true ∧ (laneBuf s 1 (inputOf 1) 0).length < 4) ∧
    (let r : MeshRow := { inMesh 0x800000000000000000000000000000 with msg := { rowOf 0x800000000000000000000000000000 with fabPort := 1 } }
     let s := site (x := fun x => { x with msg := { x.msg with links := [(3, [1])], bufs := [(256 * 4 + 1, [r])] } })
     slotLane s 0 3 0 = 1 ∧ ((laneHeads s 0 1).find? (fun e => nextLink s 0 e.2 == some 3)).map (·.2) = some r ∧ leavesMesh 0 3 = true ∧ portRoom s 1 r.msg.header = true) ∧
    (let s := site (x := fun x => { x with msg := { x.msg with links := [(1, [0x20])], pendingOut := [(1, rowOf 0)] } })
     slotLane s 0 1 0 = staticLane s 0 ∧ staticLane s 0 < 0x30 ∧ (getClus s 0).msg.pendingOut.find? (fun r => r.1 == 1) = some (1, rowOf 0)) ∧
    (let s := site (x := fun x => { x with msg := { x.msg with links := [(4, [0x30])], ioIn := [(0x30, inMesh 0)] } })
     slotLane s 0 4 0 = 0x30 ∧ (getClus s 0).msg.ioIn.find? (fun r => r.1 == 0x30) = some (0x30, inMesh 0) ∧ (laneBuf s 0 4 0x30).length < 4) ∧
    (let s := site (x := fun x => { x with msg := { x.msg with bufs := [(7, [inMesh 0 1])] } })
     laneBuf s 0 0 7 = [inMesh 0 1] ∧ nextLink s 0 (inMesh 0 1) = none) := by decide +kernel
/-- A row waits for core 0: without a queue it is discarded, an open queue takes it, a full one lets it wait. -/
theorem witness_eject : [([] : SMap TagQueue), [(0, { bound := true, state := .opened, senders := [rowSource 0], depth := 1 })], [(0, { bound := true, state := .opened, senders := [rowSource 0], depth := 1, entries := [entry 0] })]].map (fun q =>
    let s := site (x := fun x => { x with msg := { x.msg with bufs := [(7, [inMesh 0])] } }) (c := fun c => { c with tq := q })
    (markRows 0 (ejectHeads s 0 0) == [] ++ { place := .buf 0 7, row := rowOf 0, entry := none } :: [], match queueOffer (leaveWaiting s 0 (.buf 0 7)) 0 0 (rowTag (rowOf 0).header) (rowOf 0) with | .taken _ => 1 | .discard r => 10 + r | .wait => 20 | _ => 0)) =
    [(true, 11), (true, 1), (true, 20)] := by decide +kernel

/-- A header of route 1. -/
def staticHdr : Header := 0x1000000000000000000000000
/-- A static row of route 1 waits at router input 0 for the entry of its group. -/
def routeSite (r : SMap RouteEntry) : State := site (x := fun x => { x with msg := { x.msg with routes := r, bufs := [(0x20, [inMesh staticHdr])] } })
/-- A combine entry over links 0 and 1 that sends to link 1, with the rows that have come. -/
def combineSite (ins : SMap (List MsgRow)) : State := { site (x := fun x => { x with msg := { x.msg with
    routes := [(0, { kind := 3, out := 2, inp := 3, fabPort := 0, tag := 0, lcores := 0, localOut := 0 })]
    combine := [(0, { inputs := ins, firstTime := some 5 })] } }) with groups := [(0, { op := 1, deadlineUs := 1 })], time := { now := 1005 } }
/-- GroupRows: no entry, an entry that copies, one row of every input, an input that is late, a member that refuses. -/
theorem witness_groups :
    (let s := routeSite []
     routerStopped s 0 = false ∧ staticHeads s 0 0 = ⟨.buf 0 0x20, rowOf staticHdr, false⟩ :: [] ∧ getRoute s 0 (routeOf s staticHdr) = none) ∧
    (let e : RouteEntry := { kind := 1, out := 2, inp := 1, fabPort := 0, tag := 0, lcores := 0, localOut := 0 }
     let s := routeSite [(0, e)]
     getRoute s 0 (routeOf s staticHdr) = some e ∧ rowRoute staticHdr = 1 ∧ (getCombine s 0 0).stopped = false ∧ e.kind ≠ 3 ∧ linksReady s 0 e staticHdr = true ∧ localCores e = [] ∧ turnOf s 0 e (.buf 0 0x20) = true) ∧
    (let e : RouteEntry := { kind := 1, out := 16, inp := 1, fabPort := 0, tag := 0, lcores := 1, localOut := 0 }
     let h : StaticHead := ⟨.buf 0 0x20, rowOf staticHdr, false⟩
     let w : EjectHead := ⟨.buf 0 0x20, rowOf staticHdr, some e⟩
     let q : TagQueue := { bound := true, state := .opened, senders := [rowSource staticHdr], depth := 1 }
     let s := modCore (routeSite [(0, e)]) 0 (fun c => { c with tq := [(0, q)] })
     let full := modCore s 0 (fun c => { c with tq := [(0, { q with entries := [entry 0] })] })
     localCores e = [0] ∧ offerOpen (queueOffer s 0 0 0 (rowOf staticHdr)) = true ∧ turnOf s 0 e (.buf 0 0x20) = true ∧ markRows 0 (ejectHeads s 0 0) = [] ++ w :: [] ∧ (ejectOne s 0 0 w).isSome = true ∧
       staticStep full 0 0 h = none) ∧
    (let s := combineSite [(0, [rowOf 0]), (1, [rowOf 0])]
     let w := getCombine s 0 0
     w.stopped = false ∧ (getRoute s 0 0).map (fun e => (e.kind, (combineRows w e).map (·.length), (sendCombined s 0 e (rowOf 0)).isSome)) = some (3, some 2, true) ∧ (match combineOp 0 [true, true] [List.replicate 128 0xFFFFFFFF, List.replicate 128 0], combineOp 1 [true, true] [List.replicate 128 1, List.replicate 128 0] with | .error _, .ok _ => true | _, _ => false) = true) ∧
    (let s := combineSite [(0, [rowOf 0])]
     let w := getCombine s 0 0
     w.firstTime = some 5 ∧ deadlinesHeld s 0 = false ∧ (getRoute s 0 0).map (fun e => combineRows w e) = some none ∧ 5 + 1000 * (getGroup s (combineGroup w)).deadlineUs ≤ nowNs s) ∧
    (let s : State := { site (c := fun c => { c with tq := [(0, { refusing := [(0, 5, 0)] })] }) with groups := [(0, { deadlineUs := 1 })], time := { now := 1005 } }
     deadlinesHeld s 0 = false ∧ mget false (getClus s 0).msg.members 0 = false ∧ refusedSince s 0 0 = some 5 ∧ 5 + 1000 * (getGroup s 0).deadlineUs ≤ nowNs s) := by decide +kernel

/-- WorkRings: a ring at each end of its sizes; a poll at its time; the rows of a poll; a read of a stream. -/
theorem witness_rings :
    (∀ e ∈ [(6, 1), (20, 64)], let s : State := { site (x := fun x => { x with chans := [(0, { en := true })] }) with hp := { p0 := openPort, rings := [(0, { sizeLog2 := e.1, burst := e.2 })] } }
     portAnswers s 0 = true ∧ clusDenied s 0 0 = none ∧ 6 ≤ (getRing s 0).sizeLog2 ∧ (getRing s 0).sizeLog2 ≤ 20 ∧ 1 ≤ (getRing s 0).burst ∧ (getRing s 0).burst ≤ 64 ∧ (getRing s 0).en = false ∧ (getChan s 0 0).en = true) ∧
    (let s : State := { site (fun p => { p with run := { p.run with ringPoll := 1000 } }) with time := { now := 3000 }, hp := { p0 := openPort, rings := [(0, { polled := some 2, sent := true })] } }
     partServes (getPart s 0) = true ∧ (getPart s 0).run.ringPoll ≠ 0 ∧ atMultiple s (getPart s 0).run.ringPoll = true ∧ partOfCluster s 0 = some 0 ∧ (getRing s 0).polled = some 2 ∧ (getRing s 0).sent = true ∧
       clusterStopped s 0 = false ∧ (getClus s 0).mem.cc = 0 ∧ ringLeft s 0 0 = 0 ∧
       hostOpen (getPort s (getPart s 0).hostPort) = true ∧ accepting (getPart s 0) = true) ∧
    (hostWaiting (streamSite { rowsDesc with farSpace := 1 } (fun t => { t with tags := [{ rowTagged 3 0 with data := none }] })) 0 5 = some 3) := by decide +kernel

/-- Channel 2 of the cluster, whose slots are the gatherer's. -/
def batchSite (f : Channel → Channel) (c : Core → Core := id) : State :=
  { site (fun p => { p with run := { p.run with deadlineFlush := true } })
      (fun x => { x with chans := [(2, f { en := true, base := 100, batch := 4, cons := 1 })], mem := { x.mem with cc := 21, slots := (List.range 16).map (fun b => (16 * 5 + b, 0x1A)) } }) c with time := { now := 777 } }
/-- BatchRows: a row that waits, a deadline that is reached, a full batch, a core's return, completions to post, a buffer to free. -/
theorem witness_batches :
    (let s := batchSite (fun h => { h with buf0 := { state := .forming, refs := [1, 2], waiting := [(1, 6)], runFrom := 700, deadline := 77 } })
     let h := getChan s 0 2
     partOfCluster s 0 = some 0 ∧ clusterStopped s 0 = false ∧ (getClus s 0).mem.cc = 21 ∧ (getClus s 0).mem.uses = [] ∧ nextSlotWrite s 0 21 h = some (0, 1, 6) ∧ cmAnswer s 0 (cmBank (requestRow h 0 1)) = .ready ∧
       guardAt s 0 true 0 (requestRow h 0 1) = none ∧ (getPart s 0).run.deadlineFlush = true ∧ accepting (getPart s 0) = true ∧ h.buf0.state = .forming ∧ h.buf0.refs.length < h.batch ∧
       h.buf0.runFrom + h.buf0.deadline ≤ nowNs s ∧ h.buf1.state ≠ .forming) ∧
    (let s := batchSite (fun h => { h with buf0 := { state := .forming, refs := [1, 2, 3, 4] } })
     let h := getChan s 0 2
     h.buf1.state = .free ∧ releasable h ((getPart s 0).run.deadlineFlush && accepting (getPart s 0)) (nowNs s) h.buf0 = true ∧ cmAnswer s 0 (cmBank (batchBase h 0)) = .ready ∧
       gatherSlot s 0 21 (batchBase h 0) true = true ∧ guardAt s 0 true 0 (batchBase h 0) = none ∧ partPosts (getPart s 0) = true) ∧
    (let s := batchSite (fun h => { h with buf0 := { state := .held, refs := [1, 2], gret := [(0, 3)] } }) (fun c => { c with mem := { c.mem with moves := [(3, .cmrd 1 2)] } })
     gretDue s 0 (getChan s 0 2).buf0 = true) ∧
    (let posting (r : Ring) (ats : Bool) : State :=
       let s := batchSite (fun h => { h with buf0 := { state := .held, refs := [1, 2], posted := 1, taken := 1, returned := 1 } })
       { s with hp := { p0 := { openPort with ats := ats }, rings := [(ringOf 0 2, r)] } }
     let s := posting {} false
     let h := getChan s 0 2
     postingBuf h = some 0 ∧ (getRing s (ringOf 0 2)).state ≠ .error ∧ partPosts (getPart s 0) = true ∧ hostOpen (getPort s 0) = true ∧ crSpace (getRing s (ringOf 0 2)) = true ∧
       ringMiss s 0 {} [(postAddrs {} h.buf0).1, (postAddrs {} h.buf0).2] = none ∧ gatherSlot s 0 21 (resultRow h 0 1) false = true ∧ gatherAsleep s 0 (resultRow h 0 1) = false ∧
       (ringMiss (posting {} true) 0 {} [(postAddrs {} h.buf0).1, (postAddrs {} h.buf0).2]).isSome = true ∧ crSpace { cseq := 64 } = false) ∧
    (∀ l ∈ [none, some [128]], let s := batchSite (fun h => { h with buf0 := { state := .held, refs := [1, 2], posted := 2, taken := 1, returned := 1, toZero := l } })
     let h := getChan s 0 2
     let left := (getBuf h 0).toZero.getD bufferOffsets
     zeroingBuf h = some 0 ∧ (∀ q ∈ left, gatherAsleep s 0 (batchBase h 0 + q) = false) ∧ (left.find? (fun q => gatherSlot s 0 21 (batchBase h 0 + q) true)).isSome = true ∧
       (∀ q ∈ left, cmAnswer s 0 (cmBank (batchBase h 0 + q)) = .ready ∧ guardAt s 0 true 0 (batchBase h 0 + q) = none) ∧ (getClus s 0).mem.uses = []) := by decide +kernel

/-- The site with port 0 changed. -/
def portSite (f : Port → Port) : State := { (site) with hp := { p0 := f openPort } }
/-- MsixRows: an event whose time has come, of a masked and an unmasked vector; an unmask without and with a kept message. -/
theorem witness_msix : (∀ m ∈ [true, false], let v := mget {} (getPort (portSite (fun p => { p with vecs := [(2047, { masked := m, due := some 0 })] })) 0).vecs 2047
      v.due = some 0 ∧ v.masked = m) ∧ portAnswers (portSite id) 0 = true ∧ hostOpen (getPort (portSite id) 0) = true ∧
    (mget {} (getPort (portSite (fun p => { p with vecs := [(2047, { pba := true })] })) 0).vecs 2047).pba = true := by decide +kernel
/-- Bar2Rows: the last bytes of the window are open, or in a closed range; a row of the range is bad. -/
theorem witness_bar2 : let s := portSite id
    portAnswers s 0 = true ∧ bar2Refused s 0 0 512 = false ∧ rangeBad (dmReadRange s 0 512 {} {}) 0 512 = false ∧ rangeBad (dmReadRange s 0 512 { uncorrectable := true } {}) 0 512 = true ∧ (0xFFFFFFE00 : BitVec 36).toNat + 512 = 2 ^ 36 ∧ bar2Refused s 0 (bar2Addr (getPort s 0) 0xFFFFFFE00) 512 = false ∧
    bar2Refused { s with closedRanges := [(0, 511, 1)] } 0 0 512 = true := by decide +kernel
/-- HostLinkRows: a port on hold, with its features back and without, and past its hold; a port that is up, open and not yet open. -/
theorem witness_host_link : (let s := portSite (fun p => { p with hold := true, linkUp := false })
      (getPort s 0).refLost = false ∧ (getPort s 0).hold = true ∧ featuresBack (getPort s 0) = true ∧ featuresBack { getPort s 0 with before := some (true, false, false, false) } = false) ∧
    (let s := { portSite (fun p => { p with hold := true, holdMs := 1 }) with time := { now := 1000001 } }
     (getPort s 0).holdSince + 1000000 * (getPort s 0).holdMs < nowNs s ∧ (getPort s 0).holdExpired = false) ∧
    (∀ o ∈ [true, false], let s := portSite (fun p => { p with opened := o })
     (getPort s 0).linkUp = true ∧ (getPort s 0).opened = o ∧ (getPort s 0).refLost = false ∧ (getPort s 0).hold = false ∧ ((getPort s 0).opened = false ∨ enumerated (getPort s 0) = true)) := by decide +kernel

/-- A loader that works on a partition's image. -/
def loaderSite (copying applying : Bool) : State := { site (fun p => { p with state := .stopped }) with
    loader := some { part := some 0, verify := false, copying := copying, autoload := false, applying := applying, addr := 4096, len := 512, image := 0 }
    brz := { flash := [(18, committed 9 1 (.bytes 6 0x112233445566))] } }
/-- The default image of that site is in force. -/
theorem loaderSite_image (copying applying : Bool) : recordInForce (loaderSite copying applying).brz 9 = some (.bytes 6 0x112233445566) :=
  recordInForce_alone _ 9 1 _ rfl (by decide) (by decide)
/-- LoaderRows: a command whose checks pass, and one whose checks fail; a default image and none; the steps of the loader. -/
theorem witness_loader :
    (let s : State := { site (fun p => { p with state := .stopped, img := { p.img with addr := 0x10000, len := 4096 } }) with img := { addr := 0x10000, len := 4096 }, loaded := { lsize := 4 }, brz := (loaderSite true false).brz }
     portAnswers s 0 = true ∧ s.loader = none ∧ s.hp.primary = 0 ∧ (commandFail s none s.img.addr.toNat s.img.len.toNat).isNone = true ∧ (commandFail { s with img := {} } none 1 0).isSome = true ∧ partDenied s 0 0 = none ∧
       (commandFail s (some 0) 0x10000 4096).isNone = true ∧ (commandFail s (some 0) 1 4096).isSome = true ∧ (commandFail s none s.img.addr.toNat 6).isNone = true ∧ recordInForce (site).brz 9 = none) ∧
    (∀ e ∈ [(true, false), (false, false), (false, true)], (loaderSite e.1 e.2).loader.map (fun r => (r.copying, r.applying)) = some e ∧ (loaderSite e.1 e.2).pwr.stagger = []) := by decide +kernel

/-! ### Partitions, the fabric, registers and management -/

/-- The partition in a state and a phase. -/
def partSite (st : PartState) (ph : Nat) (f : Part → Part := id) (c : Core → Core := id) : State := site (fun p => f { p with state := st, det := { p.det with phase := ph } }) id c
/-- PartitionCommands: a busy partition; a stopped one that may start; a running one; a faulted one with its records and without; a stop past its deadline; an abort. -/
theorem witness_partition :
    (∀ ph ∈ [3, 4, 5, 6], phaseBusy (getPart (partSite .running ph) 0) = true) ∧ portAnswers (site) 0 = true ∧ partDenied (site) 0 0 = none ∧
    (let s := partSite .stopped 0
     phaseBusy (getPart s 0) = false ∧ (getPart s 0).state = .stopped ∧ (getPart s 0).aborting = false ∧ (∃ n ∈ partCores s 0, (getCore s n).task.isSome = true)) ∧
    (∀ n ∈ partCores (partSite .stopped 0 id (fun c => { c with task := none })) 0, (getCore (partSite .stopped 0 id (fun c => { c with task := none })) n).task = none) ∧
    (∀ k ∈ [true, false], let s := partSite .stopped 0 (fun p => { p with kept := k }) (fun c => { c with state := .stopped })
     0 ∈ partCores s 0 ∧ (getCore s 0).state = .stopped ∧ (getPart s 0).kept = k) ∧
    (∀ c ∈ [(0, some 1), (0, none), (2, none)], let s := partSite .running c.1 id (fun k => if c.2.isSome then k else { k with state := .ended })
     let pends := modPart (wakePart s 0) 0 (fun y => { y with state := .stopping, stopPending := true, stopTime := some (nowNs s), det := { y.det with phase := 0 } })
     phaseBusy (getPart s 0) = false ∧ (getPart s 0).faultStop = false ∧ (getPart s 0).freq.pending = none ∧ ((getPart s 0).det.phase ≠ 2 ∧ participants pends 0 ≠ [] ∨ (getPart s 0).det.phase = 2 ∨ participants pends 0 = [])) ∧
    phaseBusy (getPart (partSite .stopping 0) 0) = false ∧ (getPart (partSite .stopping 0) 0).stopTime = none ∧
    (∀ e ∈ [(PartState.none, 0), (.loading, 0), (.faulted, 5), (.running, 2)], phaseBusy (getPart (partSite e.1 0) 0) = false ∧ (getPart (partSite e.1 e.2) 0).det.phase ≠ 3) ∧
    (let s := partSite .running 2
     phaseBusy (getPart s 0) = false ∧ (getPart s 0).faultStop = false ∧ (getPart s 0).det.phase ≠ 3) ∧
    (∀ v ∈ [true, false], recordsValid (modClus (partSite .faulted 0) 0 (fun x => { x with ff := { latch := { valid := v, info := { code := 3 } } } })) 0 = v) ∧
    (let s : State := { partSite .stopping 0 (fun p => { p with stopTime := some 5, stopDeadline := 1 }) with time := { now := 1005 } }
     (getPart s 0).stopTime = some 5 ∧ 5 + 1000 * (getPart s 0).stopDeadline ≤ nowNs s ∧ nowNs { s with time := { now := 1004 } } < 5 + 1000 * (getPart s 0).stopDeadline) ∧ (getPart (partSite .stopped 0 (fun p => { p with aborting := true })) 0).aborting = true := by decide +kernel
/-- DeterminismRows: each phase; a save range at the end of device memory; a partition that may be restored. -/
theorem witness_determinism : (∀ ph ∈ [0, 1, 2, 3], partIsUp (getPart (partSite .running ph) 0) = true ∧ (getPart (partSite .running ph) 0).det.phase = ph) ∧
    (∀ e ∈ [(PartState.running, 2), (.running, 3), (.stopped, 0), (.running, 4), (.running, 6), (.stopped, 5)], let s := { (partSite e.1 e.2 (fun p => { p with dmLimit := 4096, det := { p.det with saveAddr := BitVec.ofNat 64 (dmEnd - 4096), saveRows := 8 } })) with loaded := { lsize := 0 } }
      saveRangeBad s 0 8 = false ∧ saveRangeBad s 0 9 = true ∧ saveRangeBad s 0 (8 + dumpExtra s 0) = false ∧ partBad s 0 = false ∧ (getPart s 0).state ≠ .faulted) ∧
    detBusy (getPart (partSite .stopped 0) 0).det = false := by decide +kernel
/-- ClockAndThermal: a switch pending, not yet gated, and gated; a cluster's own switch, not yet gated and gated; a generator that holds over; a cluster that may throttle and one that has cooled. -/
theorem witness_clock :
    (let s := site (fun p => { p with freq := { p.freq with pending := some 5 } })
     (getPart s 0).freq.pending.isSome = true ∧ (getPart s 0).freq.switching = false ∧ holdsOver s 0 = false ∧ (5 : BitVec 3).toNat < 6) ∧
    (let s := site (fun p => { p with calmHeld := true, freq := { p.freq with switching := true, gated := true, target := 3, calmMode := true } })
     (getPart s 0).freq.switching = true ∧ (getPart s 0).freq.gated = true ∧ (getPart s 0).freq.pending = none ∧ (getPart s 0).freq.byReset = false ∧ ∀ c ∈ clustersOf s 0, (getClus s c).throttleWait = none) ∧
    (getPart (site (fun p => { p with freq := { p.freq with switching := true } })) 0).freq.gated = false ∧
    (∀ down ∈ [true, false], (getClus (site (x := fun x => { x with own := some down })) 0).own = some down ∧ (getClus (site (x := fun x => { x with own := some down })) 0).gated = none ∧
      (getClus (site (x := fun x => { x with own := some down, gated := some 7 })) 0).gated = some 7 ∧ (getClus (site) 0).throttleWait = none) ∧
    (let s := modClus (site) 1 (fun x => { x with holdover := true })
     s.time.refclkLost = false ∧ (getClus s 1).holdover = true ∧ partOfCluster s 1 = none) ∧
    (∀ t ∈ [false, true], let s : State := { site (x := fun x => { x with throttled := t, coolSince := some 5 }) with pwr := { railsGood := true }, time := { now := 10000005 } }
     s.pwr.railsGood = true ∧ (getClus s 0).throttled = t ∧ clusterSwitching s 0 = false ∧ (getClus s 0).coolSince = some 5 ∧ 5 + 10000000 ≤ nowNs s ∧ s.pwr.thermtrip = false) := by decide +kernel
/-- The site with a time base. -/
def timeSite (b : TimeBlk) (q : Pins := {}) (runs : Bool := true) : State := { (site) with time := b, pins := q, brz := { mainRuns := runs }, fab := { ports := [(3, { mode := 2, ptp := true, linkUp := true })] } }
/-- TimeRows, each reference lost and in place, is true of every state; here a Sync on the slave port, each way; frames with the role at a port that has PTP and at one that has not; a Sync that is late and one that is not. -/
theorem witness_time :
    (let s := timeSite { slave := some 3, trusted := true, goodSyncs := 7, now := 100000000 }
     s.time.slave = some (3 : Fin 4).val ∧ s.time.freeRun = false ∧ (1001 : BitVec 64).toInt.natAbs > 1000 ∧ (100 : BitVec 64).toInt.natAbs ≤ 100 ∧ s.time.refclkLost = false ∧ s.ff.latch.valid = false ∧ mayStep { s with time := { s.time with trusted := false } } 2000 = true ∧
       (getFab s 3).ptp = true ∧ (getFab s 3).linkUp = true ∧ (getFab s 2).ptp = false ∧ 1000000 * s.time.syncTimeout ≤ s.time.since s.time.lastSync ∧ ({ s.time with lastSync := 1 } : TimeBlk).since 1 < 1000000 * s.time.syncTimeout) ∧
    (∀ g ∈ [7, 8], mayTrust ({ slave := some 3, goodSyncs := g } : TimeBlk) = (g == 8)) := by decide +kernel
/-- TimePins: a whole second, from either side, once and again; a pulse that lasts and one that is over; edges 999 and 1000 ns after the last. -/
theorem witness_pins :
    (∀ n ∈ [1999999990, 2000000010], let s := timeSite { trusted := true, everTrusted := true, now := BitVec.ofNat 64 n, ppsEn := true } { pps := some 1000000000 }
     s.brz.mainRuns = true ∧ s.time.ppsEn = true ∧ drift s.time < 1000 ∧ (n % 1000000000 ≤ 10 ∨ 999999990 ≤ n % 1000000000) ∧ 20 < s.time.since 1000000000) ∧
    (∀ n ∈ [2000099999, 2000100000], let s := timeSite { trusted := true, everTrusted := true, now := BitVec.ofNat 64 n, ppsEn := true } { pps := some 2000000000, ppsHigh := true }
     s.pins.ppsHigh = true ∧ drift s.time < 1000 ∧ decide (s.time.since 2000000000 < 100000) = (n == 2000099999)) ∧
    (∀ n ∈ [1000, 999], let s := timeSite { now := 5000, lastEdge := some (5000 - n) }
     s.time.lastEdge = some (5000 - n) ∧ s.time.since (5000 - n) = n) := by decide +kernel

/-- Port 1 of the fabric, with a schedule of one window of 10 ns. -/
def fabSite (f : FabPort → FabPort) (t : TimeBlk) (susp : Bool := false) : State :=
  { (site) with fab := { ports := [(1, f { mode := 1, linkUp := true, seeded := true, windows := [{ wkind := 0, flow := 0, start := 5, len := 10, pcp := 0 }] })], active := true, suspended := susp, period := 100 }, time := t }
/-- FabricPorts: a port; its hold expired; a window at its first and last nanosecond, open and past its end; the three boundaries. -/
theorem witness_fabric_ports :
    (let s := fabSite (fun x => { x with downSince := some 5, linkHoldMs := 1 }) { now := 1000005 }
     (getFab s 1).mode ≠ 0 ∧ (getFab s 1).adminDown = false ∧ (getFab s 1).linkUp = true ∧ s.hp.primary = 0 ∧ 5 + 1000000 * (getFab s 1).linkHoldMs ≤ nowNs s) ∧
    (∀ t ∈ [105, 114], let s := fabSite id { now := BitVec.ofNat 64 t, trusted := true }
     (getFab s 1).windows[(0 : Fin 1024).val]?.isSome = true ∧ s.fab.active = true ∧ s.fab.suspended = false ∧ (getFab s 1).open_ = none ∧ s.fab.period ≠ 0 ∧ boundaryDue s = false ∧ 5 ≤ nowNs s % s.fab.period ∧ nowNs s % s.fab.period < 15 ∧ s.time.trusted = true) ∧
    (getFab (fabSite (fun x => { x with open_ := some (0, 0, 115) }) { now := 115 }) 1).open_ = some (0, 0, 115) ∧
    (let s := fabSite id {} true
     s.fab.active = true ∧ s.fab.suspended = true ∧ s.time.trusted = false ∧ boundaryDue s = true ∧ boundaryDue (fabSite id { now := 102, trusted := true } true) = true) ∧ (fabSite id {}).fab.suspended = false ∧ 1000 ≤ drift (fabSite id {}).time := by decide +kernel
/-- FabricFrames: a whole message for a device without a context, fenced and open; a context that waits for its session; bytes of each TYPE, bad ones and ones to discard; a frame in sequence, and one whose cluster has no partition. -/
theorem witness_fabric_frames :
    (∀ st ∈ [PeerState.absent, .fenced, .open_], let s := fabSite (fun x => { x with partial_ := [rowOf 0], peers := [(0, { state := st })] }) {}
     (completeMessage (getFab s 1) 0).map (·.length) = some 1 ∧ (getPeer s 1 0).state = st) ∧
    (let s := fabSite (fun x => { x with peers := [(1023, { state := .syncing })] }) { trusted := true }
     (getPeer s 1 1023).state = .syncing ∧ (getPeer s 1 1023).wantSession = true ∧ (getFab s 1).linkUp = true ∧ (getFab s 1).macsecStopped = false ∧ s.fab.active = true ∧ s.time.trusted = true ∧ (getFab s 1).seeded = true) ∧
    (∀ n ∈ [2, 3, 4], let fr : Frame := { ackFrame with ftype := n, ackValid := n == 2, srcPort := 1, dst := if n = 3 then 0 else 3 }
     let bytes := wireFrame wirePort none wirePort.mac 0 fr
     arrived 1 wirePort bytes = .frame fr wirePort ∧ arrived 2 wirePort bytes = .discard ∧ arrived 1 wirePort (0 :: bytes) = .bad) ∧
    (let s := fabSite (fun x => { x with peers := [(7, { state := .open_, ready := [{ ftype := 1, src := 7, rows := [0] }] })] }) {}
     (getPeer s 1 7).ready.map (·.ftype) = [1] ∧ (getPeer s 1 7).state = .open_ ∧ (getFab s 1).linkUp = true ∧ portFree s 1 = true ∧ partOfCluster s 31 = none ∧ partOfCluster s (rowCluster 0) = some 0 ∧ ingressOpen s 1 0 (rowCluster 0) = true ∧ s.self = 0) := by decide +kernel

/-- A DATA frame of device 1, port 1, with one row. -/
def dataFrame : Frame := { ackFrame with ftype := 1, srcPort := 1, rows := [5] }
/-- FabricFrames: the bytes of a DATA frame. -/
theorem witness_data_frame : arrived 1 wirePort (wireFrame wirePort none wirePort.mac 0 dataFrame) = .frame dataFrame wirePort := by
  have h : 60 ≤ (wireBody wirePort none wirePort.mac 0 dataFrame).length := by decide +kernel
  rw [wireFrame, arrived_sealed _ _ _ h]
  decide +kernel

/-- TwinAndClear: a device record with its code, with another code, with a cause that persists; a cluster record. -/
theorem witness_clear : (∀ lost ∈ [false, true], let s : State := { (site) with ff := { latch := { valid := true, info := { code := 0x0190 } } }, time := { trusted := true, refclkLost := lost } }
      s.ff.latch.valid = true ∧ s.ff.latch.info.code = 0x0190 ∧ persistingCodes s = (if lost then [0x0190] else [])) ∧
    (let s := site (x := fun x => { x with ff := { latch := { valid := true, info := { code := 3 } } } })
     clusDenied s 0 0 = none ∧ (getClus s 0).ff.latch.valid = true ∧ (getClus s 0).ff.latch.info.code = 3) := by decide +kernel
/-- RegisterWrites: no register; a closed block; fields that are RO only; a denied value; an effect; each field of the last entry of the MSI-X table. -/
theorem witness_register_writes :
    (regAt (site) 0 0x1FFFFFC).isNone = true ∧
    (let s := site (x := fun x => { x with becalmed := true })
     (regAt s 0 0x01001040).isSome = true ∧ (blockClosed s 0 0x1040).isSome = true) ∧
    (regAt (site) 0 0xC).isSome = true ∧ (writeRule (site) 0 0xC 0).isNone = true ∧
    [0x64, 0x60].map (fun o => (writeRule (site) 0 o 0).map (fun w => (ruleDenied w 0).isSome)) = [some true, some false] ∧
    ([0, 4, 8, 12] : List Nat).map (fun o => (BitVec.ofNat 25 (16 * 2047 + o)).toNat) = [16 * (2047 : Fin 2048).val, 16 * (2047 : Fin 2048).val + 4, 16 * (2047 : Fin 2048).val + 8, 16 * (2047 : Fin 2048).val + 12] := by decide +kernel
/-- RegisterReads and ReadsHaveNoSideEffect: a low half, a high half after it, no register, a register of 32 bits, a pair. ClosedPortsAreSilent, OnlyTheOwnerCommands: a port that does not answer; a command of the other port, for a partition and for none. -/
theorem witness_register_reads :
    (((regAt (site) 0 0x40000).bind (·.pair)).map (·.2), ((regAt (site) 0 0x40004).bind (·.pair)).map (·.2), (regAt (site) 0 0x1FFFFFC).isNone, (regAt (site) 0 0).map (fun r => r.pair.isNone)) = (some true, some false, true, some true) ∧
    (getPort (portSite (fun p => { p with latch := some (9, 0x40000) })) 0).latch = some (9, 0x40000) ∧ portAnswers (portSite (fun p => { p with opened := false })) 0 = false ∧
    (let s : State := { (site) with hp := { p0 := openPort, p1 := openPort } }
     portAnswers s 1 = true ∧ partDenied s 1 0 = some 4 ∧ partDenied s 1 1 = some 3) := by decide +kernel
/-- DeviceResets: beside a running main side; a cluster whose turn it is; the rails in both states. -/
theorem witness_resets : ({ (site) with brz := { mainRuns := true } } : State).brz.mainRuns = true ∧ (site).brz.mainRuns = false ∧
    ({ (site) with pwr := { stagger := [31], railsGood := true } } : State).pwr.stagger = (31 : ClusterId).val :: [] ∧ (site).pwr.railsGood = false := by decide

/-- SETTINGS with an owner root and a key. -/
def ownedSettings : Settings := { ownerRoot := some 5, keys := [(7, 9)] }
/-- Breeze is up, its management connection has an owner session. -/
def breezeSite (f : Breeze → Breeze := id) : State := { (site) with
    brz := f { bstate := 3, stage := 9, mainUp := true, spdm := [(0, { negotiated := 3, session := true, root := some 5 })], flash := [(16, committed 8 1 (.settings ownedSettings))] } }
/-- An update of BREEZE with all its bytes. -/
def wholeUpdate : FwUpdate := { rtype := 1, size := 7, bytes := 7 }
/-- Breeze with that update in progress. -/
def updateSite (u : FwUpdate) : State := breezeSite (fun b => { b with update := some u, writes := [{ rtype := 1, body := .update, retries := 0, reply := none }] })
/-- FlashWrites: a write of each kind, before and after its retry; an update whose bytes are all there, and one with a byte missing. -/
theorem witness_flash : (∀ e ∈ [(WriteBody.change (.primary 1), 0), (.change (.primary 1), 1), (.payload (.bytes 1 2), 0)],
      let s := breezeSite (fun b => { b with writes := [{ rtype := 8, body := e.1, retries := e.2, reply := none }] })
      s.brz.writes.map (fun w => (w.body, w.retries, writeWhole s w)) = [(e.1, e.2, true)]) ∧
    (∀ e ∈ [(wholeUpdate, true), ({ wholeUpdate with bytes := 6 }, false)], let s := updateSite e.1
      s.brz.update = some e.1 ∧ s.brz.writes.map (fun w => (w.body, writeWhole s w)) = [(.update, e.2)]) := by decide +kernel
/-- ManagementRows: before the boot, in ROM recovery and after it; a component; an update in progress. -/
theorem witness_management : (site).brz.bstate = 0 ∧ (breezeSite).brz.bstate ≠ 0 ∧ (breezeSite).brz.bstate ≠ 1 ∧
    (({ breezeSite with pwr := { tj := [(33, 1150)] } } : State).pwr.tj.find? (fun e => e.1 == 33)) = some (33, 1150) ∧ breezeUp (breezeSite) = true ∧ breezeFull (breezeSite) = true ∧
    componentOk (breezeSite) 1 4096 = some 1 ∧ componentOk (breezeSite) 1 (8 * 2 ^ 20) = none ∧ breezeUp (updateSite wholeUpdate) = true ∧ updateInProgress (updateSite wholeUpdate) = true := by decide +kernel
/-- SpdmRows: a connection at each step of the negotiation. -/
theorem witness_spdm : ∀ n ∈ [0, 1, 2, 3], let s := breezeSite (fun b => { b with spdm := [(0, { negotiated := n, handshake := true, session := true })] })
    connUp s 0 = true ∧ s.brz.code = 0 ∧ (getConn s 0).negotiated = n ∧ (getConn s 0).handshake = true ∧ (getConn s 0).session = true := by decide +kernel
/-- DalardCommands: an owner session and none; a key that is in its slot; a floor that may rise; room for a revocation. -/
theorem witness_dalard : ownerSession (breezeSite) true = true ∧ ownerSession (breezeSite) false = false ∧ settingsKey (breezeSite) 7 = some 9 ∧ floorInForce (breezeSite) (.slot 0) < (1 : W32).toNat ∧
    (settingsOf (breezeSite).brz).revoked.length < 16 ∧ (settingsOf (breezeSite).brz).ownerRoot.isNone = false := by
  have e : settingsOf (breezeSite).brz = ownedSettings := settingsOf_alone _ 1 _ rfl
  simp only [ownerSession, settingsKey, floorInForce, slotFloor, e]
  decide +kernel
/-- DalardCommands: a device without an owner root; the targets of a floor; a session. -/
theorem witness_enrol : (settingsOf (breezeSite (fun b => { b with flash := [] })).brz).ownerRoot = none ∧ anySession (breezeSite) true = true ∧ breezeFull (breezeSite) = true ∧ (breezeSite).brz.mainUp = true ∧
    floorTargetBad (.slot 7) = false ∧ floorTargetBad (.slot 8) = true ∧ floorTargetBad (.component 2) = false ∧ (settingsOf (breezeSite (fun b => { b with flash := [] })).brz).revoked = [] := by decide +kernel
/-- TapRows: TRST_N low and high, beside the main side and without; a private instruction anew and again, locked and unlocked. -/
theorem witness_tap : State.reset.tap.held = true ∧ (∀ up ∈ [true, false], let s : State := { (site) with tap := { held := false, instr := .challenge 0x20, unlocked := up }, brz := { mainUp := up } }
      s.tap.held = false ∧ s.brz.mainUp = up ∧ s.tap.instr = .challenge 0x20 ∧ s.tap.instr ≠ .challenge 0x21 ∧ (enterChallenge s 0x20).tap.unlocked = up ∧ (enterChallenge s 0x21).tap.unlocked = false) := by decide

end Sys2Proof.Tests
end

/-! # Register reads (00 R9; 15 R575; 20 R731, R732) -/

namespace Sys2Proof.Machine

/-! ## One 4-byte read, by what stands at its offset (00 R9) -/

/-- Where no register stands, a read returns 0. -/
theorem readReg_unmapped {s : State} {h o : Nat} (hr : regAt s h o = none) : readReg s h o = (0, s) := by
  simp [readReg, hr]

/-- A register that is no half of a 64-bit value leaves the latch alone. -/
theorem readReg_single {s : State} {h o : Nat} {r : RegRead} (hr : regAt s h o = some r) (hp : r.pair = none) :
    readReg s h o = (r.value, s) := by
  simp [readReg, hr, hp]

/-- The low half loads the latch with the high half and the offset. -/
theorem readReg_low {s : State} {h o : Nat} {r : RegRead} {v : BitVec 64} (hr : regAt s h o = some r)
    (hp : r.pair = some (v, true)) :
    readReg s h o = (r.value, modPort s h (fun p => { p with latch := some (v.extractLsb' 32 32, o) })) := by
  simp [readReg, hr, hp]

/-- The high half of the latched value comes from the latch, not from the register. -/
theorem readReg_high_latched {s : State} {h o a : Nat} {r : RegRead} {v : BitVec 64} {hi : BitVec 32}
    (hr : regAt s h o = some r) (hp : r.pair = some (v, false)) (hl : (getPort s h).latch = some (hi, a))
    (ha : a + 4 = o) : readReg s h o = (hi.toNat, modPort s h (fun p => { p with latch := none })) := by
  simp [readReg, hr, hp, hl, ha]

/-- An aligned 8-byte read returns the values of both registers as they stand (20 R732). -/
theorem readBoth_mapped {s : State} {h o : Nat} {r q : RegRead} (hr : regAt s h o = some r)
    (hq : regAt s h (o + 4) = some q) : readBoth s h o = (r.value + 2 ^ 32 * q.value, s) := by
  simp [readBoth, hr, hq]

/-! ## The offset and the completion of a read -/

/-- An aligned offset names its own register (20 R734). -/
theorem readOffset_aligned {offset : BitVec 25} (h4 : offset.toNat % 4 = 0) : readOffset offset = offset.toNat :=
  Nat.div_mul_cancel (Nat.dvd_of_mod_eq_zero h4)

/-- A completed read emits its data and keeps what the read left of the state. -/
theorem complete_one {h v : Nat} {t : State} {x : Nat × State} (hx : x = (v, t)) :
    complete h 1 x = emit t (.readData h 4 v) := by
  rw [hx]; rfl

/-- A completed read of two registers carries 8 bytes. -/
theorem complete_two {h v : Nat} {t : State} {x : Nat × State} (hx : x = (v, t)) :
    complete h 2 x = emit t (.readData h 8 v) := by
  rw [hx]; rfl

/-- One register of BAR4. -/
theorem bar4Read_one (s : State) (h o : Nat) : bar4Read s h o 1 = (bar4At (getPort s h) o, s) := by
  simp [bar4Read, readBar4]

/-- Two neighbouring registers of BAR4, the first in the low half. -/
theorem bar4Read_two (s : State) (h o : Nat) :
    bar4Read s h o 2 = (bar4At (getPort s h) o + 2 ^ 32 * bar4At (getPort s h) (o + 4), s) := by
  simp [bar4Read, readBar4]

/-! ## The three reads at a port that answers, at a 4-byte-aligned offset (20 R731) -/

section
variable {s : State} {h : Fin 2} {offset : BitVec 25} (ans : portAnswers s h.val = true)
  (h4 : offset.toNat % 4 = 0)
include ans h4

theorem exec_lowHalfRead_bar0 :
    exec (.lowHalfRead h .bar0 offset) s = .next (complete h.val 1 (readReg s h.val offset.toNat)) := by
  change execLowHalfRead h .bar0 offset s = _
  simp [execLowHalfRead, ans, readOffset_aligned h4]

theorem exec_lowHalfRead_bar4 :
    exec (.lowHalfRead h .bar4 offset) s = .next (complete h.val 1 (bar4Read s h.val offset.toNat 1)) := by
  change execLowHalfRead h .bar4 offset s = _
  simp [execLowHalfRead, ans, readOffset_aligned h4]

theorem exec_highHalfRead :
    exec (.highHalfRead h offset) s = .next (complete h.val 1 (readReg s h.val offset.toNat)) := by
  change execHighHalfRead h offset s = _
  simp [execHighHalfRead, ans, readOffset_aligned h4]

theorem exec_wideRead_bar0_aligned (h8 : offset.toNat % 8 = 0) :
    exec (.wideRead h .bar0 offset) s = .next (complete h.val 2 (readBoth s h.val offset.toNat)) := by
  change execWideRead h .bar0 offset s = _
  simp [execWideRead, ans, readOffset_aligned h4, h8]

theorem exec_wideRead_bar4 :
    exec (.wideRead h .bar4 offset) s = .next (complete h.val 2 (bar4Read s h.val offset.toNat 2)) := by
  change execWideRead h .bar4 offset s = _
  simp [execWideRead, ans, readOffset_aligned h4]

end

/-- Settles O51: each clause is one case of the 4-byte read, of the 8-byte read or of the read of BAR4, completed. -/
theorem registerReads : Obligations.RegisterReads := by
  intro s h offset ans h4
  refine ⟨?low, ?high, ?unmapped, ?single, ?wide, ?lowBar4, ?wideBar4⟩
  case low =>
    intro r v hr hp
    rw [exec_lowHalfRead_bar0 ans h4, complete_one (readReg_low hr hp)]
  case high =>
    intro r v hi a hr hp hl ha
    rw [exec_highHalfRead ans h4, complete_one (readReg_high_latched hr hp hl ha)]
  case unmapped =>
    intro hr
    rw [exec_lowHalfRead_bar0 ans h4, exec_highHalfRead ans h4, complete_one (readReg_unmapped hr)]
    exact ⟨rfl, rfl⟩
  case single =>
    intro r hr hp
    rw [exec_lowHalfRead_bar0 ans h4, exec_highHalfRead ans h4, complete_one (readReg_single hr hp)]
    exact ⟨rfl, rfl⟩
  case wide =>
    intro r q h8 hr hq
    rw [exec_wideRead_bar0_aligned ans h4 h8, complete_two (readBoth_mapped hr hq)]
  case lowBar4 => rw [exec_lowHalfRead_bar4 ans h4, complete_one (bar4Read_one ..)]
  case wideBar4 => rw [exec_wideRead_bar4 ans h4, complete_two (bar4Read_two ..)]

end Sys2Proof.Machine

/-! # The image loader (02 R65 to R77; 17 R661) -/

namespace Sys2Proof.Machine

/-! ## A partition is read from the table of partitions alone -/

theorem getPart_congr {s t : State} (h : t.parts = s.parts) (p : Nat) : getPart t p = getPart s p :=
  congrArg (mget ({} : Part) · p) h

theorem imgRegsOf_congr {s t : State} (hi : t.img = s.img) (hp : t.parts = s.parts) (part : Option Nat) :
    imgRegsOf t part = imgRegsOf s part := by
  cases part with
  | none => exact hi
  | some p => exact congrArg Part.img (getPart_congr hp p)

/-! ## What an interrupt event and a report of a fault leave alone -/

@[simp] theorem vecEvent_parts (s : State) (h v m : Nat) (who : Option Nat) : (vecEvent s h v m who).parts = s.parts := by
  simp [vecEvent, modPort]
@[simp] theorem vecEvent_img (s : State) (h v m : Nat) (who : Option Nat) : (vecEvent s h v m who).img = s.img := by
  simp [vecEvent, modPort]
@[simp] theorem vecEvent_loader (s : State) (h v m : Nat) (who : Option Nat) : (vecEvent s h v m who).loader = s.loader := by
  simp [vecEvent, modPort]

@[simp] theorem partEvent_parts (s : State) (p : Nat) (v : Part → Nat) : (partEvent s p v).parts = s.parts :=
  vecEvent_parts ..
@[simp] theorem partEvent_img (s : State) (p : Nat) (v : Part → Nat) : (partEvent s p v).img = s.img := vecEvent_img ..
@[simp] theorem partEvent_loader (s : State) (p : Nat) (v : Part → Nat) : (partEvent s p v).loader = s.loader :=
  vecEvent_loader ..

/-- A cluster record reports its latching by an output and an interrupt at most (18 R695). -/
@[simp] theorem recordCluster_parts (s : State) (c : Nat) (tie : Option (Nat × Nat)) (i : FfInfo) :
    (recordCluster s c tie i).parts = s.parts := by
  unfold recordCluster
  cases (getClus s c).ff.latch.valid <;> cases partOfCluster s c <;> simp

/-! ## The end of a loader command (02 R65, R75) -/

section
variable (s : State) (part : Option Nat) (verify autoload : Bool) (f : ImgFail)

theorem loadVecEvent_frame : (loadVecEvent s part verify).parts = s.parts ∧ (loadVecEvent s part verify).img = s.img ∧
    (loadVecEvent s part verify).loader = s.loader := by
  unfold loadVecEvent
  cases verify <;> cases part <;> simp

/-- Loader registers read as they were changed. -/
theorem imgRegsOf_modImg (g : ImgRegs → ImgRegs) : imgRegsOf (modImg s part g) part = g (imgRegsOf s part) := by
  cases part with
  | none => rfl
  | some p => simp [imgRegsOf, modImg]

@[simp] theorem modImg_loader (g : ImgRegs → ImgRegs) : (modImg s part g).loader = s.loader := by
  cases part <;> rfl

/-- The loader registers of a partition are no part of its state. -/
@[simp] theorem getPart_modImg_state (g : ImgRegs → ImgRegs) (q : Nat) :
    (getPart (modImg s part g) q).state = (getPart s q).state := by
  cases part with
  | none => rfl
  | some p =>
    by_cases h : q = p
    · subst h; simp [modImg]
    · simp [modImg, getPart_modPart_other _ _ _ _ h]

/-- The state in which a loader command writes its result, before the interrupt and the boot code. -/
def loadResult : State :=
  modImg { s with loader := none } part (fun g => { g with resultValid := true, code := f.1, section_ := f.2.1, record_ := f.2.2 })

/-- After the result the end of a command only reports: partitions, loader registers and loader stay as the result left them. -/
theorem loadEnd_eq_loadResult : (loadEnd s part verify autoload f).parts = (loadResult s part f).parts ∧
    (loadEnd s part verify autoload f).img = (loadResult s part f).img ∧
    (loadEnd s part verify autoload f).loader = (loadResult s part f).loader := by
  have frame := loadVecEvent_frame (loadResult s part f) part verify
  unfold loadEnd
  dsimp only
  split
  · exact frame
  · exact frame

/-- The loader takes commands again. -/
theorem loadEnd_loader : (loadEnd s part verify autoload f).loader = none := by
  obtain ⟨-, -, hl⟩ := loadEnd_eq_loadResult s part verify autoload f
  rw [hl, loadResult, modImg_loader]

/-- The registers of the command hold its result. -/
theorem imgRegsOf_loadEnd : imgRegsOf (loadEnd s part verify autoload f) part =
    { imgRegsOf s part with resultValid := true, code := f.1, section_ := f.2.1, record_ := f.2.2 } := by
  obtain ⟨hp, hi, -⟩ := loadEnd_eq_loadResult s part verify autoload f
  rw [imgRegsOf_congr hi hp, loadResult, imgRegsOf_modImg]
  cases part <;> rfl

/-- The end of a command moves no partition to another state. -/
theorem getPart_loadEnd_state (q : Nat) : (getPart (loadEnd s part verify autoload f) q).state = (getPart s q).state := by
  obtain ⟨hp, -, -⟩ := loadEnd_eq_loadResult s part verify autoload f
  rw [getPart_congr hp, loadResult, getPart_modImg_state]
  rfl

end

/-! ## The commands (02 R65, R66, R68, R69) -/

/-- A command that a port that answers may give acts. -/
theorem hostCmd_granted {s : State} {h offset : Nat} {data : W32} {denied : Option Nat} {act : State → State}
    (ans : portAnswers s h = true) (hd : denied = none) : hostCmd s h offset data denied act = .next (act s) := by
  simp [hostCmd, ans, hd]

/-- An idle loader denies nothing that the port's own check allows (02 R69). -/
theorem firstDenied_loader_idle {s : State} {d : Option Nat} (idle : s.loader = none) (hd : d = none) :
    firstDenied [d, loaderDenied s] = none := by
  simp [firstDenied, loaderDenied, idle, hd]

/-- The state in which the loader works on a command (02 R68). -/
def startLoad (s : State) (part : Option Nat) (verify copying autoload : Bool) (addr len : Nat) : State :=
  { s with loader := some { part := part, verify := verify, copying := copying, autoload := autoload, applying := false, addr := addr, len := len, image := 0 } }

section
variable {s : State} {part : Option Nat} {verify copying autoload : Bool} {len : Nat}

theorem takeLoad_of_passed (h : commandFail s part (imgRegsOf s part).addr.toNat len = none) :
    takeLoad s part verify copying autoload len = startLoad s part verify copying autoload (imgRegsOf s part).addr.toNat len := by
  simp [takeLoad, startLoad, h]

theorem takeLoad_of_failed {f : ImgFail} (h : commandFail s part (imgRegsOf s part).addr.toNat len = some f) :
    takeLoad s part verify copying autoload len = loadEnd s part verify autoload f := by
  simp [takeLoad, h]

theorem takeDefault_of_record {bytes : Nat} (h : recordInForce s.brz 9 = some (.bytes len bytes)) :
    takeDefault s verify autoload = takeLoad s none verify true autoload len := by
  simp [takeDefault, h]

theorem takeDefault_of_none (h : recordInForce s.brz 9 = none) :
    takeDefault s verify autoload = loadEnd s none verify autoload (headFail 0x0013) := by
  simp [takeDefault, h]

end

section
variable {s : State} {h : Fin 2} (ans : portAnswers s h.val = true) (idle : s.loader = none)
include ans idle

/-- DEV_IMG_CMD from the primary port acts. -/
theorem devImgCmd_granted (prim : h.val = s.hp.primary) (verify src : Bool) (act : State → State) :
    devImgCmd h.val verify src act s = .next (act s) :=
  hostCmd_granted ans (firstDenied_loader_idle idle (if_pos prim))

theorem exec_devImg_staged (prim : h.val = s.hp.primary) (v : Bool) :
    exec (if v then .devImgVerify h else .devImgLoad h) s = .next (takeLoad s none v false false s.img.len.toNat) := by
  cases v
  · change execDevImgLoad h s = _
    rw [execDevImgLoad, devImgCmd_granted ans idle prim]
  · change execDevImgVerify h s = _
    rw [execDevImgVerify, devImgCmd_granted ans idle prim]

theorem exec_devImg_default (prim : h.val = s.hp.primary) (v : Bool) :
    exec (if v then .devImgDefaultVerify h else .devImgDefaultLoad h) s = .next (takeDefault s v false) := by
  cases v
  · change execDevImgDefaultLoad h s = _
    rw [execDevImgDefaultLoad, devImgCmd_granted ans idle prim]
  · change execDevImgDefaultVerify h s = _
    rw [execDevImgDefaultVerify, devImgCmd_granted ans idle prim]

theorem exec_partImg {p : PartId} (own : partDenied s h.val p.val = none) (v : Bool) :
    exec (if v then .partImgVerify h p else .partImgLoad h p) s =
      .next (takeLoad s (some p.val) v false false (getPart s p.val).img.len.toNat) := by
  have granted : ∀ verify, partImgCmd h.val p.val verify s =
      .next (takeLoad s (some p.val) verify false false (getPart s p.val).img.len.toNat) :=
    fun _ => hostCmd_granted ans (firstDenied_loader_idle idle own)
  cases v
  · exact granted false
  · exact granted true

end

/-! ## The steps of a loader that runs (02 R66, R73, R75, R77) -/

section
variable {s : State} {r : LoaderRun} (run : s.loader = some r)
include run

theorem exec_defaultImageCopyEnd_copying {len bytes : Nat} (hc : r.copying = true)
    (hr : recordInForce s.brz 9 = some (.bytes len bytes)) :
    exec .defaultImageCopyEnd s = .next { s with dmMem := writeBytes s.dmMem r.addr (natBytes len bytes), img := { s.img with len := BitVec.ofNat 32 len },
                                                 loader := some { r with copying := false, len := len } } := by
  change execDefaultImageCopyEnd s = _
  simp [execDefaultImageCopyEnd, run, hr, hc, modImg]

theorem exec_imageChecksEnd_checking (hc : r.copying = false) (ha : r.applying = false) :
    exec .imageChecksEnd s = .next (checksEnd s r) := by
  change execImageChecksEnd s = _
  simp [execImageChecksEnd, run, hc, ha]

theorem exec_imageApplyEnd_applying (ha : r.applying = true) (hs : s.pwr.stagger = []) :
    exec .imageApplyEnd s = .next (finishLoad s r) := by
  change execImageApplyEnd s = _
  simp [execImageApplyEnd, run, ha, hs]

theorem exec_applyFailure_applying (ha : r.applying = true) (code : BitVec 16) :
    exec (.applyFailure code) s = .next (failApply s r code.toNat) := by
  change execApplyFailure code s = _
  simp [execApplyFailure, run, ha]

end

/-! ## The partitions of a failed apply (02 R77; 17 R661) -/

theorem failPartition_faults (s : State) (covered : List Nat) (code p : Nat) :
    (getPart (failPartition s covered code p) p).state = .faulted := by
  rw [failPartition, getPart_congr (partEvent_parts ..), getPart_modPart_same]

/-- The failure of a partition brings no other one out of FAULTED. -/
theorem failPartition_keeps_faulted {s : State} {q : Nat} (h : (getPart s q).state = .faulted) (covered : List Nat)
    (code p : Nat) : (getPart (failPartition s covered code p) q).state = .faulted := by
  by_cases hq : q = p
  · subst hq; exact failPartition_faults ..
  · rw [failPartition, getPart_congr (partEvent_parts ..), getPart_modPart_other _ _ _ _ hq,
      getPart_congr (recordCluster_parts ..), h]

/-- After the failure of a list of partitions, those in the list and those FAULTED before are FAULTED. -/
theorem foldl_failPartition_faulted (covered : List Nat) (code q : Nat) (parts : List PartEntry) (s : State)
    (h : (getPart s q).state = .faulted ∨ ∃ e ∈ parts, e.num = q) :
    (getPart (parts.foldl (fun a e => failPartition a covered code e.num) s) q).state = .faulted := by
  induction parts generalizing s with
  | nil => simpa using h
  | cons e rest ih =>
    apply ih
    obtain hq | ⟨d, hd, rfl⟩ := h
    · exact .inl (failPartition_keeps_faulted hq ..)
    · obtain rfl | hd := List.mem_cons.mp hd
      · exact .inl (failPartition_faults ..)
      · exact .inr ⟨d, hd, rfl⟩

theorem failApply_faulted (s : State) (r : LoaderRun) (code : Nat) :
    ∀ q ∈ (imgEnv s r.part r.image).parts, (getPart (failApply s r code) q.num).state = .faulted := by
  intro q hq
  rw [failApply, getPart_loadEnd_state]
  exact foldl_failPartition_faulted _ _ _ _ _ (.inr ⟨q, hq, rfl⟩)

/-- Settles O42: a command is its own checks and then the run or the end of the loader; each step of a run is its equation, and what a load's end reports is what `loadEnd` writes. -/
theorem loaderRows : Obligations.LoaderRows := by
  refine ⟨fun s h ans idle => ⟨?device, ?default, ?partition⟩, fun s r run => ⟨?copyEnd, ?checksEnd, ?applyEnd, ?failure⟩⟩
  case device =>
    intro prim v
    dsimp only
    rw [exec_devImg_staged ans idle prim]
    exact ⟨fun hc => by rw [takeLoad_of_passed hc]; rfl, fun f hf => by rw [takeLoad_of_failed hf]⟩
  case default =>
    intro prim v
    dsimp only
    rw [exec_devImg_default ans idle prim]
    exact ⟨fun len bytes hr hc => by rw [takeDefault_of_record hr, takeLoad_of_passed hc]; rfl,
      fun hr => by rw [takeDefault_of_none hr]⟩
  case partition =>
    intro p own v
    dsimp only
    rw [exec_partImg ans idle own]
    exact ⟨fun hc => by rw [takeLoad_of_passed hc]; rfl, fun f hf => by rw [takeLoad_of_failed hf]⟩
  case copyEnd => exact fun _ _ hc hr => exec_defaultImageCopyEnd_copying run hc hr
  case checksEnd =>
    intro hc ha
    rw [exec_imageChecksEnd_checking run hc ha]
    rfl
  case applyEnd =>
    intro ha hs
    refine ⟨exec_imageApplyEnd_applying run ha hs, loadEnd_loader .., ?_⟩
    rw [finishLoad, imgRegsOf_loadEnd]
    exact ⟨rfl, rfl⟩
  case failure =>
    intro ha code
    refine ⟨_, exec_applyFailure_applying run ha code, loadEnd_loader .., ?_, failApply_faulted s r code.toNat⟩
    rw [failApply, imgRegsOf_loadEnd]
    rfl

end Sys2Proof.Machine

/-! # The matrix array (04 R138 to R175; 22 R776 to R778) -/

namespace Sys2Proof.Machine

/-! ## A cc of a core whose MAT slot alone holds an operation -/

/-- A word whose operations in flight, after its slots, advance to a core `stageCore (runUp d)`. -/
theorem issueWord_staged {s t : State} {n : Nat} {w : WordOps} {d : Core} (hc : ∀ t i, afterCtl t i w.ctl = t)
    (ht : issueSlots (runStart s n) (issueOf s n) w = t) (ha : advance t n = setCore t n (stageCore (runUp d))) :
    issueWord (startCc s n) (issueOf s n) w = setCore t n (afterWord d (nextPc (issueOf s n) w.ctl)) := by
  have start : modCore (startCc s n) n (fun c => { c with state := .running, cause := .none, slot := 0, waitIx := 0, frozenFor := 0, idleFor := 0 }) =
      runStart s n := by
    simp only [startCc, modCore_modCore]; rfl
  unfold issueWord
  simp only [hc]
  rw [show (issueOf s n).n = n from rfl, start, ht, ha]
  simp only [endCc, modCore, getCore_setCore_same, setCore_setCore]
  rfl

/-- The MAT slot leaves `t`, whose operations in flight advance to `stageCore (runUp d)`: the cc ends with `afterWord d`. -/
theorem mat_row_staged {s t : State} {n : Nat} {o : MatIns} {d : Core} (h : Lone s n 2 (.mat o))
    (ht : goMat (runStart s n) (issueOf s n) o = t) (ha : advance t n = setCore t n (stageCore (runUp d)))
    (hs : (getClus t (clusOf n)).stopAt = none) :
    issueNamed n 2 (.mat o) false s = .next (setCore t n (afterWord d (nextOf (getCore s n)))) := by
  rw [issueNamed_lone _ _ _ _ _ h, issueWord_staged (w := loneWord 2 (.mat o)) (fun _ _ => rfl) ht ha, stopLate_id]
  · rfl
  · exact hs

/-- The MAT slot leaves the state `t` with its core `runUp d`, in which nothing lands and no weight load has its second cycle: the cc ends with `afterWord d`. -/
theorem mat_row_of_flights {s t : State} {n : Nat} {o : MatIns} {d : Core} (h : Lone s n 2 (.mat o))
    (ht : goMat (runStart s n) (issueOf s n) o = setCore t n (runUp d))
    (flights : ∀ f ∈ d.inflight, 1 < f.left ∧ ∀ u, secondCycle u n f = (f, u)) (hs : (getClus t (clusOf n)).stopAt = none) :
    issueNamed n 2 (.mat o) false s = .next (setCore t n (afterWord d (nextOf (getCore s n)))) :=
  lone_row s t n 2 (.mat o) false d h (fun _ _ => rfl) ht (fun f hf => (flights f hf).1) (fun f hf => (flights f hf).2 _) hs

/-- As `mat_row_of_flights`, where no weight load is in flight. -/
theorem mat_row {s t : State} {n : Nat} {o : MatIns} {d : Core} (h : Lone s n 2 (.mat o))
    (ht : goMat (runStart s n) (issueOf s n) o = setCore t n (runUp d)) (still : Still d)
    (hs : (getClus t (clusOf n)).stopAt = none) :
    issueNamed n 2 (.mat o) false s = .next (setCore t n (afterWord d (nextOf (getCore s n)))) :=
  mat_row_of_flights h ht (fun f hf => ⟨(still f hf).1, fun _ => secondCycle_of_not_load _ _ _ (still f hf).2⟩) hs

/-! ## What the array's operations do to a core that has begun to issue -/

/-- The core has used its array in this cc (04 R173). -/
def arrayUsed (c : Core) : Core := modMat c (fun m => { m with ran := true })

/-- At the end of the cc the array is free again. -/
@[simp] theorem afterWord_arrayUsed (c : Core) (next : Nat × List LoopLevel) : afterWord (arrayUsed c) next = afterWord c next := rfl

/-- A core after the W bit of an MMUL (04 R141): the set in use changes where it is set. -/
def swapped (swap : Bool) (c : Core) : Core := { c with mat := { c.mat with cur := if swap then 1 - c.mat.cur else c.mat.cur } }

@[simp] theorem placed_inflight (c : Core) : (placed c).inflight = c.inflight := by unfold placed; split <;> rfl

theorem still_placed {c : Core} (h : Still c) : Still (placed c) := by
  intro f hf
  rw [placed_inflight] at hf
  exact h f hf

/-- Neither a place in the elastic buffer nor a post-increment depends on what is in flight. -/
theorem placed_launched (c : Core) (slot : Nat) (es : Effs) : placed (launched c slot es) = launched (placed c) slot es := by
  unfold placed
  rw [show (launched c slot es).mat = c.mat from rfl]
  split <;> rfl

theorem incremented_launched (c : Core) (slot : Nat) (es : Effs) (xr : BitVec 5) (inc : BitVec 8) :
    incremented (launched c slot es) xr inc = launched (incremented c xr inc) slot es := by
  unfold incremented
  split <;> rfl

section
variable {s t : State} {n : Nat} {d : Core}

theorem modCore_setCore (f : Core → Core) : modCore (setCore t n d) n f = setCore t n (f d) := by simp [modCore]

theorem waitMat_runUp (hp : d.pc = (getCore s n).pc) (hi : d.issued = (getCore s n).issued) (op : MatOp) :
    waitMat (setCore t n (runUp d)) (issueOf s n) op = setCore t n (runUp (delayed d op)) := by
  rw [waitMat, show (issueOf s n).n = n from rfl, modCore_setCore]
  simp only [issueOf, ← hp, ← hi]
  rfl

theorem takePlace_runUp (hp : d.pc = (getCore s n).pc) (hi : d.issued = (getCore s n).issued)
    (he : d.mat.elastic = (getCore s n).mat.elastic) :
    takePlace (setCore t n (runUp d)) (issueOf s n) = setCore t n (runUp (placed d)) := by
  rw [takePlace, show (issueOf s n).c.mat.elastic = d.mat.elastic from he.symm, waitMat_runUp hp hi]
  unfold placed
  split <;> rfl

theorem launch_runUp (hp : d.pc = (getCore s n).pc) (hi : d.issued = (getCore s n).issued) (slot lat : Nat) (e : FlightEff) :
    launch (setCore t n (runUp d)) (issueOf s n) slot lat e = setCore t n (runUp (launched d slot [(lat, e)])) := by
  rw [launch, show (issueOf s n).n = n from rfl, modCore_setCore]
  simp only [issueOf, ← hp, ← hi]
  rfl

theorem postInc_runUp (hx : d.x = (getCore s n).x) (xr : BitVec 5) (inc : BitVec 8) :
    postInc (setCore t n (runUp d)) (issueOf s n) xr inc = setCore t n (runUp (incremented d xr inc)) := by
  have x : (issueOf s n).x xr = getX d xr.toNat := congrArg (mget 0 · xr.toNat) hx.symm
  rw [postInc, show (issueOf s n).n = n from rfl, modCore_setCore, x]
  unfold incremented
  split <;> rfl

end

/-! ## Operations that start in the array (04 R167, R174) -/

section
variable (s : State) (i : Issue)

theorem startMat_laccadd (e : Nat) (mode : MatMode) (addend : AccBits) :
    startMat s i.n (matFlight i (.laccadd e mode addend)) (.laccadd e mode addend) =
      modCore (launch s i 2 (latMat false) (.mat (.laccadd e mode addend))) i.n arrayUsed := by
  rw [launch, modCore_modCore]; rfl

theorem startMat_mmul_pair (e : Nat) (zf : Bool) (mode : MatMode) (set : Nat) (ws : List Row) (vec : Option (Row × Nat)) :
    startMat s i.n (matFlight i (.mmul e zf mode set ws vec none)) (.mmul e zf mode set ws vec none) =
      modCore (launch s i 2 (latMat mode.systolic) (.mat (.mmul e zf mode set ws vec none))) i.n arrayUsed := by
  rw [launch, modCore_modCore]; rfl

theorem startMat_mmul_port (e : Nat) (zf : Bool) (mode : MatMode) (set : Nat) (ws : List Row) (vec : Option (Row × Nat)) (port : Nat) :
    startMat s i.n (matFlight i (.mmul e zf mode set ws vec (some port))) (.mmul e zf mode set ws vec (some port)) =
      modCore (launch (takeVec s i.n mode.format port).2 i 2 (latMat mode.systolic)
        (.mat (.mmul e zf mode set ws (takeVec s i.n mode.format port).1 none))) i.n arrayUsed := by
  rw [launch, modCore_modCore]; rfl

end

theorem startMat_adrain (s : State) (n e port : Nat) (bf : Bool) (part : Nat) (last : Bool) (mode : MatMode) (f : Flight) :
    startMat s n f (.adrain e port bf part last mode) =
      modCore s n (fun c => arrayUsed (execDrain c f e port bf part last mode)) := rfl

/-- An ADRAIN does not see that its word has begun to issue. -/
theorem execDrain_runUp (c : Core) (f : Flight) (e port : Nat) (bf : Bool) (part : Nat) (last : Bool) (mode : MatMode) :
    execDrain (runUp c) f e port bf part last mode = runUp (execDrain c f e port bf part last mode) := by
  cases last <;> rfl

/-- The row that an ADRAIN completes comes to its port ten issue positions later (03 R95; 04 R167). -/
theorem still_execDrain {c : Core} (h : Still c) (f : Flight) (e port : Nat) (bf : Bool) (part : Nat) (last : Bool) (mode : MatMode) :
    Still (execDrain c f e port bf part last mode) := by
  cases last
  · exact h
  · intro g hg
    obtain hg | hg := List.mem_append.mp hg
    · exact h g hg
    · obtain rfl := List.mem_singleton.mp hg
      exact ⟨(by decide : 1 < 10), rfl⟩

/-- The result of an MMUL or a LACCADD lands in a later cc (03 R95). -/
theorem one_lt_latMat (systolic : Bool) : 1 < latMat systolic := by cases systolic <;> decide

theorem still_launched_mat {c : Core} (h : Still c) (slot : Nat) (systolic : Bool) (op : MatOp) :
    Still (launched c slot [(latMat systolic, .mat op)]) := by
  apply still_launched c slot _ h
  simp [okEff, one_lt_latMat]

/-! ## The mode (04 R163, R164) -/

/-- A core whose array is in another mode (04 R163). -/
def withMode (c : Core) (mode : MatMode) : Core := { c with mat := { c.mat with mode := mode } }

/-- A core whose accumulator file is empty. -/
def accCleared (c : Core) : Core := { c with mat := { c.mat with acc := [] } }

/-- A core after a MATCFG, but for its place in the elastic buffer: a change of ACCMODE empties the accumulator file (04 R164). -/
def configured (c : Core) (mode : MatMode) : Core :=
  if mode.accmode ≠ c.mat.mode.accmode then accCleared (withMode c mode) else withMode c mode

theorem configured_eq (c : Core) (mode : MatMode) : configured c mode =
    { c with mat := { c.mat with mode := mode, acc := if mode.accmode ≠ c.mat.mode.accmode then [] else c.mat.acc } } := by
  unfold configured
  split <;> rfl

theorem placed_accCleared (c : Core) : placed (accCleared c) = accCleared (placed c) := by
  unfold placed
  rw [show (accCleared c).mat.elastic = c.mat.elastic from rfl]
  split <;> rfl

/-- Where nothing else lands, a cleared accumulator file is empty when its cc ends. -/
theorem advance_accClear {t : State} {n : Nat} {d : Core} (still : Still d) (slot : Nat) :
    advance (setCore t n (runUp (launched d slot [(1, .accClear)]))) n =
      setCore (setCore t n (runUp (launched d slot [(1, .accClear)]))) n (stageCore (runUp (accCleared d))) := by
  generalize hu : setCore t n (runUp (launched d slot [(1, .accClear)])) = u
  have core : getCore u n = runUp (launched d slot [(1, .accClear)]) := by rw [← hu, getCore_setCore_same]
  have second : secondCycles u n (launched d slot [(1, .accClear)]).inflight = ((launched d slot [(1, .accClear)]).inflight, u) :=
    secondCycles_id u n _ fun f hf => by
      obtain hf | hf := List.mem_append.mp hf
      · exact secondCycle_of_not_load _ _ _ (still f hf).2
      · obtain rfl := List.mem_singleton.mp hf
        rfl
  have later : (launched d slot [(1, .accClear)]).inflight.filter (fun f => decide (1 < f.left)) = d.inflight := by
    have : d.inflight.filter (fun f => decide (1 < f.left)) = d.inflight :=
      List.filter_eq_self.mpr fun f hf => by simpa using (still f hf).1
    simp [launched, this]
  have ripe : (launched d slot [(1, .accClear)]).inflight.filter (fun f => decide (f.left ≤ 1)) =
      [{ left := 1, slot := slot, pc := d.pc, issue := d.issued, eff := .accClear }] := by
    have : d.inflight.filter (fun f => decide (f.left ≤ 1)) = [] :=
      List.filter_eq_nil_iff.mpr fun f hf => by simpa using (still f hf).1
    simp [launched, this]
  simp only [advance, core, runUp_inflight, second, later, ripe, List.foldl_cons, List.foldl_nil, landFlight, modCore, getCore_setCore_same,
    setCore_setCore]
  rfl

section
variable {s : State} {k : CoreId}

theorem exec_matcfg {format : BitVec 4} {accmode : BitVec 2} {systolic : Bool} {xe : BitVec 5} {mode : MatMode}
    (h : Lone s k.num 2 (.mat (.matcfg format accmode systolic xe)))
    (hm : mode = { format := format.toNat, accmode := accmode.toNat, systolic := systolic, eLo := signedOf 10 (getX (getCore s k.num) xe.toNat).toNat }) :
    exec (.matcfg k format accmode systolic xe) s =
      .next (setCore s k.num (afterWord (placed (configured (getCore s k.num) mode)) (nextOf (getCore s k.num)))) := by
  have slot : goMat (runStart s k.num) (issueOf s k.num) (.matcfg format accmode systolic xe) =
      takePlace (if mode.accmode ≠ (getCore s k.num).mat.mode.accmode
        then launch (setCore s k.num (runUp (withMode (getCore s k.num) mode))) (issueOf s k.num) 2 1 .accClear
        else setCore s k.num (runUp (withMode (getCore s k.num) mode))) (issueOf s k.num) := by
    rw [hm]
    dsimp only [goMat, goMatcfg]
    rw [runStart, show (issueOf s k.num).n = k.num from rfl, modCore_setCore]
    rfl
  split at slot
  case isTrue changes =>
    rw [launch_runUp (d := withMode (getCore s k.num) mode) rfl rfl, takePlace_runUp (d := launched (withMode (getCore s k.num) mode) 2 _) rfl rfl rfl,
      placed_launched] at slot
    rw [configured, if_pos changes, placed_accCleared,
      ← setCore_setCore s k.num (runUp (launched (placed (withMode (getCore s k.num) mode)) 2 [(1, .accClear)]))]
    exact mat_row_staged h slot (advance_accClear (still_placed (c := withMode (getCore s k.num) mode) h.still) 2) h.fetches.goesOn
  case isFalse same =>
    rw [takePlace_runUp (d := withMode (getCore s k.num) mode) rfl rfl rfl] at slot
    rw [configured, if_neg same]
    exact mat_row h slot (still_placed (c := withMode (getCore s k.num) mode) h.still) h.fetches.goesOn

/-! ## WSWAP (04 R141) -/

theorem exec_wswap (h : Lone s k.num 2 (.mat .wswap)) :
    exec (.wswap k) s = .next (setCore s k.num (afterWord (placed (swapped true (getCore s k.num))) (nextOf (getCore s k.num)))) := by
  refine mat_row h ?_ ?_ h.fetches.goesOn
  · refine .trans ?_ (takePlace_runUp (s := s) (d := swapped true (getCore s k.num)) rfl rfl rfl)
    dsimp only [goMat]
    rw [runStart, show (issueOf s k.num).n = k.num from rfl, modCore_setCore]
    rfl
  · exact still_placed h.still

/-! ## LACCADD and ADRAIN (04 R158, R167 to R169, R173) -/

/-- The operation of a LACCADD, with the addend of its registers at issue (04 R158). -/
def laccOp (c : Core) (e : BitVec 8) (n : BitVec 4) : MatOp :=
  .laccadd e.toNat c.mat.mode (laccAddend (getV c (4 * n.toNat)) (getV c (4 * n.toNat + 1)) (getV c (4 * n.toNat + 2)) (getV c (4 * n.toNat + 3)))

theorem exec_laccadd {e : BitVec 8} {n : BitVec 4} (h : Lone s k.num 2 (.mat (.laccadd e n))) :
    exec (.laccadd k e n) s = .next (setCore s k.num (afterWord
      (if mustWait s (issueHere s k.num) then delayed (getCore s k.num) (laccOp (getCore s k.num) e n)
       else launched (getCore s k.num) 2 [(latMat false, .mat (laccOp (getCore s k.num) e n))]) (nextOf (getCore s k.num)))) := by
  have slot : goMat (runStart s k.num) (issueOf s k.num) (.laccadd e n) =
      if mustWait s (issueHere s k.num) then waitMat (runStart s k.num) (issueOf s k.num) (laccOp (getCore s k.num) e n)
      else startMat (runStart s k.num) (issueOf s k.num).n (matFlight (issueOf s k.num) (laccOp (getCore s k.num) e n)) (laccOp (getCore s k.num) e n) := rfl
  split at slot
  case isTrue waits =>
    rw [runStart, waitMat_runUp rfl rfl] at slot
    rw [if_pos waits]
    exact mat_row h slot h.still h.fetches.goesOn
  case isFalse free =>
    have still := still_launched_mat h.still 2 false (laccOp (getCore s k.num) e n)
    rw [laccOp, startMat_laccadd, ← laccOp, runStart, launch_runUp rfl rfl, show (issueOf s k.num).n = k.num from rfl, modCore_setCore] at slot
    rw [if_neg free, ← afterWord_arrayUsed]
    exact mat_row h slot still h.fetches.goesOn

/-- The operation of an ADRAIN, in the mode of its issue (04 R167). -/
def drainOp (c : Core) (e : BitVec 8) (port : BitVec 2) (bf : Bool) (part : BitVec 2) (last : Bool) : MatOp :=
  .adrain e.toNat port.toNat bf part.toNat last c.mat.mode

/-- An ADRAIN joins the elastic buffer: the array waits, or in row-stall mode its drain is blocked (04 R169, R173). -/
def drainWaits (s : State) (n port : Nat) : Bool :=
  mustWait s (issueHere s n) || ((runOf s (clusOf n)).rowStall && drainBlocked (getCore s n) port)

theorem exec_adrain {e : BitVec 8} {port : BitVec 2} {bf : Bool} {part : BitVec 2} {last : Bool}
    (h : Lone s k.num 2 (.mat (.adrain e port bf part last))) :
    exec (.adrain k e port bf part last) s = .next (setCore s k.num (afterWord
      (if drainWaits s k.num port.toNat then delayed (getCore s k.num) (drainOp (getCore s k.num) e port bf part last)
       else execDrain (getCore s k.num) (matFlight (issueHere s k.num) (drainOp (getCore s k.num) e port bf part last))
        e.toNat port.toNat bf part.toNat last (getCore s k.num).mat.mode) (nextOf (getCore s k.num)))) := by
  generalize hf : matFlight (issueHere s k.num) (drainOp (getCore s k.num) e port bf part last) = f
  have slot : goMat (runStart s k.num) (issueOf s k.num) (.adrain e port bf part last) =
      if drainWaits s k.num port.toNat then waitMat (runStart s k.num) (issueOf s k.num) (drainOp (getCore s k.num) e port bf part last)
      else startMat (runStart s k.num) k.num f (drainOp (getCore s k.num) e port bf part last) := by
    rw [← hf]; rfl
  split at slot
  case isTrue waits =>
    rw [runStart, waitMat_runUp rfl rfl] at slot
    rw [if_pos waits]
    exact mat_row h slot h.still h.fetches.goesOn
  case isFalse free =>
    rw [drainOp, startMat_adrain, runStart, modCore_setCore, execDrain_runUp] at slot
    rw [if_neg free, ← afterWord_arrayUsed]
    exact mat_row h slot (still_execDrain h.still f _ _ _ _ _ _) h.fetches.goesOn

end

/-! ## Rows read by the core's own program (07 R243, R262, R277, R279) -/

/-- A read slot of a bank that a party uses. -/
def readUse (p : Party) (row : Nat) : SlotUse := { isWrite := false, row := row, party := p, old := 0 }

/-- A core whose bank slots in this cc a party uses for reads too. -/
def withReads (c : Core) (p : Party) (rows : List Nat) : Core := { c with mem := { c.mem with uses := c.mem.uses ++ rows.map (readUse p) } }

/-- At the end of the cc the bank slots are free again. -/
theorem afterWord_launched_withReads (c : Core) (p : Party) (rows : List Nat) (slot : Nat) (es : Effs) (next : Nat × List LoopLevel) :
    afterWord (launched (withReads c p rows) slot es) next = afterWord (launched c slot es) next := rfl

section
variable {uses : List SlotUse} (reads : ∀ u ∈ uses, u.isWrite = false)
include reads

/-- Where no write of the cc has come before, a read sees the row as it stands. -/
theorem rowBefore_of_reads (row : Nat) (cur : Row) : rowBefore uses row cur = cur := by
  have : uses.find? (fun u => u.isWrite && u.row == row) = none := List.find?_eq_none.mpr fun u hu => by simp [reads u hu]
  rw [rowBefore, this]

theorem writerMet_of_reads (row : Nat) (p : Party) : writerMet uses row p = none := by
  have : uses.find? (fun u => u.isWrite && u.row == row && !sameParty u.party p) = none :=
    List.find?_eq_none.mpr fun u hu => by simp [reads u hu]
  rw [writerMet, this]

end

section
variable {s : State} {n slot pc : Nat} {issue : W64} {d : Core}

/-- A read uses a read slot, and its bank remembers the cc. -/
theorem useSlot_read_runUp (p : Party) (row : Nat) :
    modMem (runUp d) (useSlot (setCore s n (runUp d)) n (readUse p row)) = runUp (withReads (rowsRead s n d [row]) p [row]) := by
  unfold modMem useSlot
  rw [getCore_setCore_same]
  rfl

/-- A row without an error, in a bank with power, read in a cc without a write before it. -/
theorem progRead_runUp {row : Nat} (ecc : mget {} d.mem.ecc row = {}) (power : (mget {} d.mem.banks (spBank row)).ready = true)
    (reads : ∀ u ∈ d.mem.uses, u.isWrite = false) :
    progRead (setCore s n (runUp d)) n row slot pc issue =
      (spRow s n row, setCore s n (runUp (withReads (rowsRead s n d [row]) (progParty d slot pc issue) [row]))) := by
  have clean : spWords (setCore s n (runUp (withReads (rowsRead s n d [row]) (progParty d slot pc issue) [row]))) n row = {} := by
    rw [spWords, getCore_setCore_same]; exact ecc
  have read : readSp (setCore s n (runUp d)) n row (progParty (runUp d) slot pc issue) =
      (spRow s n row, setCore s n (runUp (withReads (rowsRead s n d [row]) (progParty d slot pc issue) [row]))) := by
    have used := useSlot_read_runUp (s := s) (n := n) (d := d) (progParty d slot pc issue) row
    simp only [readUse] at used
    simp only [readSp, getCore_setCore_same, runUp_mem, rowBefore_of_reads reads, writerMet_of_reads reads, setCore_setCore,
      show progParty (runUp d) slot pc issue = progParty d slot pc issue from rfl, used, countCorrSp, clean]
    rfl
  rw [progRead, spPower, getCore_setCore_same, runUp_mem, if_pos power, read]
  simp only [badRead, spBad, clean]
  rfl

/-- Rows without an error, in banks with power, read one after another. -/
theorem progReads_runUp {rows : List Nat} (good : ∀ r ∈ rows, mget {} d.mem.ecc r = {} ∧ (mget {} d.mem.banks (spBank r)).ready = true)
    (reads : ∀ u ∈ d.mem.uses, u.isWrite = false) :
    progReads (setCore s n (runUp d)) n slot pc issue rows =
      (rows.map (spRow s n), setCore s n (runUp (withReads (rowsRead s n d rows) (progParty d slot pc issue) rows))) := by
  induction rows generalizing d with
  | nil => simp [progReads, withReads, rowsRead]
  | cons r rest ih =>
    obtain ⟨ecc, power⟩ := good r (by simp)
    have later : ∀ u ∈ (withReads (rowsRead s n d [r]) (progParty d slot pc issue) [r]).mem.uses, u.isWrite = false := fun u hu => by
      obtain hu | hu := List.mem_append.mp hu
      · exact reads u hu
      · obtain rfl := List.mem_singleton.mp hu
        rfl
    rw [progReads, progRead_runUp ecc power reads]
    dsimp only
    rw [ih (d := withReads (rowsRead s n d [r]) (progParty d slot pc issue) [r]) (fun q hq => good q (List.mem_cons_of_mem _ hq)) later]
    simp [withReads, rowsRead, progParty, lcoreNum]

end

/-! ## WLD (04 R138 to R144) -/

/-- A core whose inactive weight set loads for `lat` positions (04 R140). -/
def loading (c : Core) (lat : Nat) : Core := { c with mat := modSet c.mat (1 - c.mat.cur) (fun w => { w with busy := lat }) }

theorem loading_elastic (c : Core) (lat : Nat) : (loading c lat).mat.elastic = c.mat.elastic := by
  unfold loading modSet
  dsimp only
  split <;> rfl

/-- The second cycle of a WLD is not in the cc of its issue (04 R139). -/
theorem secondCycle_weights_issued (s : State) (n set format base : Nat) (rows : List Row) (f : Flight)
    (hl : f.left = 3 + (arrayFmt format).cycles) (he : f.eff = .weights set format base rows) : secondCycle s n f = (f, s) := by
  have early : ¬ (f.left = 4 ∧ (arrayFmt format).cycles = 2) := by omega
  rw [secondCycle, he]
  dsimp only
  rw [if_neg early]

section
variable (c : Core) (xr : BitVec 5) (inc : BitVec 8)

@[simp] theorem incremented_inflight : (incremented c xr inc).inflight = c.inflight := by unfold incremented; split <;> rfl
@[simp] theorem incremented_pc : (incremented c xr inc).pc = c.pc := by unfold incremented; split <;> rfl
@[simp] theorem incremented_issued : (incremented c xr inc).issued = c.issued := by unfold incremented; split <;> rfl
@[simp] theorem incremented_mat : (incremented c xr inc).mat = c.mat := by unfold incremented; split <;> rfl

/-- Neither a place in the elastic buffer nor a post-increment depends on the bank slots in use. -/
theorem placed_incremented_withReads (p : Party) (rows : List Nat) :
    placed (incremented (withReads c p rows) xr inc) = withReads (placed (incremented c xr inc)) p rows := by
  have inc_reads : incremented (withReads c p rows) xr inc = withReads (incremented c xr inc) p rows := by
    unfold incremented
    split <;> rfl
  rw [inc_reads]
  unfold placed
  rw [show (withReads (incremented c xr inc) p rows).mat = (incremented c xr inc).mat from rfl]
  split <;> rfl

end

/-- The latency of a WLD of an array (04 R138, R140). -/
def latLoad (c : Core) : Nat := 3 + (arrayFmt c.mat.mode.format).cycles

/-- What a WLD sends on its way: the rows it has read, for the inactive set (04 R138). -/
def weightLoad (c : Core) (xr : BitVec 5) (rows : List Row) : Effs :=
  [(latLoad c, .weights (1 - c.mat.cur) c.mat.mode.format (rowIn c xr) rows)]

/-- A WLD, from the core `d` that its reads leave. -/
theorem goWld_runUp {s : State} {n : Nat} {c d : Core} {xr : BitVec 5} {rows : List Row} (hc : getCore s n = c)
    (read : progReads (runStart s n) n 2 c.pc c.issued (firstRows (rowIn c xr)) = (rows, setCore s n (runUp d)))
    (hp : d.pc = c.pc) (hi : d.issued = c.issued) (hx : d.x = c.x) (hm : d.mat = c.mat) (inc : BitVec 8) :
    goWld (runStart s n) (issueOf s n) xr inc =
      setCore s n (runUp (launched (placed (incremented (loading d (latLoad c)) xr inc)) 2 (weightLoad c xr rows))) := by
  subst hc
  have start : goWld (runStart s n) (issueOf s n) xr inc = takePlace (postInc (modCore
      (launch (setCore s n (runUp d)) (issueOf s n) 2 (latLoad (getCore s n)) (.weights (1 - (getCore s n).mat.cur) (getCore s n).mat.mode.format (rowIn (getCore s n) xr) rows))
      n (fun c => loading c (latLoad (getCore s n)))) (issueOf s n) xr inc) (issueOf s n) := by
    have read' : progReads (runStart s n) (issueOf s n).n 2 (issueOf s n).pc (issueOf s n).at_ (firstRows ((issueOf s n).row xr)) = _ := read
    simp only [goWld, read']
    rfl
  have load : ∀ es, loading (runUp (launched d 2 es)) (latLoad (getCore s n)) = runUp (launched (loading d (latLoad (getCore s n))) 2 es) :=
    fun _ => rfl
  rw [start, launch_runUp hp hi, modCore_setCore, load, postInc_runUp (d := launched (loading d _) 2 _) hx, incremented_launched,
    takePlace_runUp, placed_launched]
  · rfl
  · exact (incremented_pc ..).trans hp
  · exact (incremented_issued ..).trans hi
  · rw [← hm, ← loading_elastic d (latLoad (getCore s n))]
    exact congrArg Mat.elastic (incremented_mat ..)

section
variable {s : State} {k : CoreId} {xr : BitVec 5} {inc : BitVec 8} {c : Core} {rows : List Nat}

theorem exec_wld (hc : getCore s k.num = c) (hr : firstRows (rowIn c xr) = rows) (h : Lone s k.num 2 (.mat (.wld xr inc)))
    (good : ∀ r ∈ rows, Readable c r) :
    exec (.wld k xr inc []) s = .next (setCore s k.num (afterWord (launched
      (placed (incremented (rowsRead s k.num (loading c (latLoad c)) rows) xr inc)) 2 (weightLoad c xr (rows.map (spRow s k.num)))) (nextOf c))) := by
  generalize hp : progParty c 2 c.pc c.issued = p
  have first : rowIn c xr ∈ rows := by rw [← hr]; simp [firstRows]
  obtain ⟨-, free, -⟩ := good _ first
  have read : progReads (runStart s k.num) k.num 2 c.pc c.issued (firstRows (rowIn c xr)) =
      (rows.map (spRow s k.num), setCore s k.num (runUp (withReads (rowsRead s k.num c rows) p rows))) := by
    rw [hr, runStart, hc, ← hp]
    refine progReads_runUp (fun r mem => ?_) (by simp [free])
    obtain ⟨ecc, -, power⟩ := good r mem
    exact ⟨ecc, power⟩
  have slot : goMat (runStart s k.num) (issueOf s k.num) (.wld xr inc) = _ := goWld_runUp hc read rfl rfl rfl rfl inc
  rw [show loading (withReads (rowsRead s k.num c rows) p rows) (latLoad c) = withReads (rowsRead s k.num (loading c (latLoad c)) rows) p rows from rfl,
    placed_incremented_withReads] at slot
  have still : Still (placed (incremented (rowsRead s k.num (loading c (latLoad c)) rows) xr inc)) :=
    still_placed fun f hf => h.still f (by rw [incremented_inflight] at hf; rw [hc]; exact hf)
  generalize placed (incremented (rowsRead s k.num (loading c (latLoad c)) rows) xr inc) = y at slot still ⊢
  rw [← afterWord_launched_withReads y p rows]
  have flights : ∀ f ∈ (launched (withReads y p rows) 2 (weightLoad c xr (rows.map (spRow s k.num)))).inflight,
      1 < f.left ∧ ∀ t, secondCycle t k.num f = (f, t) := fun f hf => by
    obtain hf | hf := List.mem_append.mp hf
    · exact ⟨(still f hf).1, fun t => secondCycle_of_not_load t k.num f (still f hf).2⟩
    · obtain rfl := List.mem_singleton.mp hf
      exact ⟨by simp only [latLoad]; omega, fun t => secondCycle_weights_issued _ _ _ _ _ _ _ rfl rfl⟩
  rw [← hc] at slot flights ⊢
  exact mat_row_of_flights h slot flights h.fetches.goesOn

theorem exec_wld_strikes (xr : BitVec 5) (inc : BitVec 8) (es : List (Fin 32768 × Ecc)) :
    exec (.wld k xr inc es) s = exec (.wld k xr inc []) (strikes s k.num es) := rfl

end

/-- Settles O20: each row is the equation of its instruction; what a MATCFG clears lands in its own cc, and every other result lands later. -/
theorem arrayRows : Obligations.ArrayRows := by
  refine ⟨fun s k => ⟨?matcfg, ?wld, ?strikes, ?wswap⟩, fun s k => ⟨?laccadd, ?adrain⟩⟩
  case matcfg =>
    intro format accmode systolic xe h
    rw [exec_matcfg h rfl, configured_eq]
  case wld => exact fun xr inc h good => exec_wld rfl rfl h good
  case strikes => exact fun xr inc es => exec_wld_strikes xr inc es
  case wswap => exact exec_wswap
  case laccadd => exact fun e n h => exec_laccadd h
  case adrain => exact fun e port bf part last h => exec_adrain h

/-! ## Vectors taken from a port (04 R146, R170) -/

/-- A row leaves the stream's bookkeeping to its cluster and none to the core. -/
theorem consumeStream_setCore (s : State) (n : Nat) (c : Core) (cl : Nat) (st : Option Nat) (left : Nat) :
    consumeStream (setCore s n c) cl st left = setCore (consumeStream s cl st left) n c := by
  cases st <;> rfl

/-- `t` differs from `s` in no operation in flight of core `n`, not in its place in the program, and in no STOP reaction. -/
structure KeepsFlights (s t : State) (n : Nat) : Prop where
  pc : (getCore t n).pc = (getCore s n).pc
  issued : (getCore t n).issued = (getCore s n).issued
  inflight : (getCore t n).inflight = (getCore s n).inflight
  stopAt : ∀ cl, (getClus t cl).stopAt = (getClus s cl).stopAt

theorem KeepsFlights.refl (s : State) (n : Nat) : KeepsFlights s s n := ⟨rfl, rfl, rfl, fun _ => rfl⟩

theorem KeepsFlights.trans {s t u : State} {n : Nat} (h : KeepsFlights s t n) (g : KeepsFlights t u n) : KeepsFlights s u n :=
  ⟨g.pc.trans h.pc, g.issued.trans h.issued, g.inflight.trans h.inflight, fun cl => (g.stopAt cl).trans (h.stopAt cl)⟩

theorem keepsFlights_setCore {s : State} {n : Nat} {d : Core} (hp : d.pc = (getCore s n).pc) (hi : d.issued = (getCore s n).issued)
    (hf : d.inflight = (getCore s n).inflight) : KeepsFlights s (setCore s n d) n :=
  ⟨by simp [hp], by simp [hi], by simp [hf], fun _ => rfl⟩

theorem setStream_stopAt (s : State) (c i : Nat) (t : Stream) (cl : Nat) :
    (getClus (setStream s c i t) cl).stopAt = (getClus s cl).stopAt := by
  by_cases h : cl = c
  · subst h; simp [setStream]
  · rw [setStream, getClus_modClus_other _ _ _ _ h]

theorem keepsFlights_consumeStream (s : State) (n cl : Nat) (st : Option Nat) (left : Nat) :
    KeepsFlights s (consumeStream s cl st left) n := by
  cases st with
  | none => exact .refl s n
  | some i => exact ⟨rfl, rfl, rfl, fun x => setStream_stopAt ..⟩

section
variable (s : State) (n format port : Nat)

/-- Taking a vector changes the ports and queues of its core and the stream that feeds the port. -/
theorem keepsFlights_takeVec : KeepsFlights s (takeVec s n format port).2 n := by
  by_cases sp : port < 4
  · simp only [takeVec, sp, if_true]
    cases (getSp (getCore s n) port).rows with
    | nil => exact .refl s n
    | cons row rest =>
      have port_set : ∀ p, KeepsFlights s (setCore s n (setSp (getCore s n) port p)) n := fun _ => keepsFlights_setCore rfl rfl rfl
      by_cases last : (arrayFmt format).vectors ≤ (getSp (getCore s n) port).taken + 1
      · simpa [last] using (port_set _).trans (keepsFlights_consumeStream ..)
      · simpa [last] using port_set _
  · simp only [takeVec, sp, if_false]
    cases (getTq (getCore s n) (port - 4)).entries with
    | nil => exact .refl s n
    | cons e rest => exact keepsFlights_setCore (d := setTq (getCore s n) (port - 4) _) rfl rfl rfl

theorem getSp_runUp (c : Core) (i : Nat) : getSp (runUp c) i = getSp c i := rfl
theorem getTq_runUp (c : Core) (t : Nat) : getTq (runUp c) t = getTq c t := rfl
theorem setSp_runUp (c : Core) (i : Nat) (p : SpPort) : setSp (runUp c) i p = runUp (setSp c i p) := rfl
theorem setTq_runUp (c : Core) (t : Nat) (q : TagQueue) : setTq (runUp c) t q = runUp (setTq c t q) := rfl

/-- Taking a vector does not see that the word has begun to issue. -/
theorem takeVec_runUp : takeVec (modCore s n runUp) n format port =
    ((takeVec s n format port).1, modCore (takeVec s n format port).2 n runUp) := by
  by_cases sp : port < 4
  · simp only [takeVec, sp, if_true, getCore_modCore_same, getSp_runUp]
    cases (getSp (getCore s n) port).rows with
    | nil => rfl
    | cons row rest =>
      by_cases last : (arrayFmt format).vectors ≤ (getSp (getCore s n) port).taken + 1 <;>
        simp [last, setSp_runUp, modCore, consumeStream_setCore]
  · simp only [takeVec, sp, if_false, getCore_modCore_same, getTq_runUp]
    cases (getTq (getCore s n) (port - 4)).entries with
    | nil => rfl
    | cons e rest => simp only [setTq_runUp, modCore, setCore_setCore, getCore_setCore_same]

end

/-! ## Debts of a port (04 R170) -/

/-- A core that owes one of its ports a vector less. -/
def debtPaid (port : Nat) (c : Core) : Core := modMat c (fun m => { m with debts := mmod 0 m.debts port (· - 1) })

theorem payDebts_succ (k : Nat) (s : State) (n port : Nat) : payDebts (k + 1) s n port =
    if debtReady (getCore s n) port
    then payDebts k (modCore (takeVec s n (getCore s n).mat.mode.format port).2 n (debtPaid port)) n port else s := rfl

theorem keepsFlights_payDebts (k : Nat) (s : State) (n port : Nat) : KeepsFlights s (payDebts k s n port) n := by
  induction k generalizing s with
  | zero => exact .refl s n
  | succ k ih =>
    rw [payDebts_succ]
    split
    case isTrue =>
      have paid : ∀ t, KeepsFlights t (modCore t n (debtPaid port)) n := fun _ => keepsFlights_setCore rfl rfl rfl
      exact (keepsFlights_takeVec ..).trans ((paid _).trans (ih _))
    case isFalse => exact .refl s n

/-- Paying debts does not see that the word has begun to issue. -/
theorem payDebts_runUp (k : Nat) (s : State) (n port : Nat) :
    payDebts k (modCore s n runUp) n port = modCore (payDebts k s n port) n runUp := by
  induction k generalizing s with
  | zero => rfl
  | succ k ih =>
    have ready : debtReady (runUp (getCore s n)) port = debtReady (getCore s n) port := rfl
    have commute : ∀ t, modCore (modCore t n runUp) n (debtPaid port) = modCore (modCore t n (debtPaid port)) n runUp := fun t => by
      rw [modCore_modCore, modCore_modCore]; rfl
    rw [payDebts_succ, payDebts_succ, getCore_modCore_same, ready, runUp_mat, takeVec_runUp]
    split
    case isTrue => rw [commute, ih]
    case isFalse => rfl

/-! ## MMUL (04 R141, R142, R145, R146, R170, R173) -/

/-- The W bit of an MMUL acts (04 R141). -/
def swapIn (swap : Bool) (n : Nat) (s : State) : State :=
  if swap then modCore s n (fun c => modMat c (fun m => { m with cur := 1 - m.cur })) else s

theorem swapIn_runUp (swap : Bool) (n : Nat) (t : State) (d : Core) :
    swapIn swap n (setCore t n (runUp d)) = setCore t n (runUp (swapped swap d)) := by
  cases swap
  · rfl
  · rw [swapIn, if_pos rfl, modCore_setCore]; rfl

theorem afterWord_swapped_arrayUsed (swap : Bool) (c : Core) (next : Nat × List LoopLevel) :
    afterWord (swapped swap (arrayUsed c)) next = afterWord (swapped swap c) next := rfl

/-- The operation of an MMUL in the array or in the elastic buffer: the current set and its rows are those at its issue (04 R142). -/
def mmulOp (c : Core) (e : Nat) (zf : Bool) (vec : Option (Row × Nat)) (port : Option Nat) : MatOp :=
  .mmul e zf c.mat.mode c.mat.cur (curSet c.mat).rows vec port

/-- The result of an MMUL begins its way to its entry. -/
def multiplied (c : Core) (e : Nat) (zf : Bool) (vec : Option (Row × Nat)) : Effs :=
  [(latMat c.mat.mode.systolic, .mat (mmulOp c e zf vec none))]

/-- The vector that a register pair gives an MMUL (04 R145). -/
def pairVector (c : Core) (source : BitVec 12) : Row × Nat :=
  (pairRow c (2 * (source.extractLsb' 7 5).toNat), (source.extractLsb' 4 3).toNat)

section
variable {s : State} {i : Issue} {e : Nat} {zf swap : Bool} {src : BitVec 2} {source : BitVec 12} {port : Nat}

theorem goMmul_of_pair (pair : mmulPort src source = none) (free : mustWait s i = false) :
    goMmul s i e zf swap src source = swapIn swap i.n
      (startMat s i.n (matFlight i (mmulOp i.c e zf (some (pairVector i.c source)) none)) (mmulOp i.c e zf (some (pairVector i.c source)) none)) := by
  simp only [goMmul, pair, free]
  rfl

theorem goMmul_of_ready (hp : mmulPort src source = some port) (free : mustWait s i = false) (ready : vecReady i.c port = true) :
    goMmul s i e zf swap src source = swapIn swap i.n
      (startMat s i.n (matFlight i (mmulOp i.c e zf none (some port))) (mmulOp i.c e zf none (some port))) := by
  cases stall : (runOf s (clusOf i.n)).rowStall <;> simp only [goMmul, hp, free, ready, stall] <;> rfl

theorem goMmul_of_stall (hp : mmulPort src source = some port) (stall : (runOf s (clusOf i.n)).rowStall = true)
    (waits : mustWait s i = true ∨ vecReady i.c port = false) :
    goMmul s i e zf swap src source = swapIn swap i.n (waitMat s i (mmulOp i.c e zf none (some port))) := by
  have held : (mustWait s i || !vecReady i.c port) = true := by simpa using waits
  simp only [goMmul, hp, stall, held]
  rfl

theorem goMmul_of_starved (hp : mmulPort src source = some port) (bubble : (runOf s (clusOf i.n)).rowStall = false)
    (starved : vecReady i.c port = false) :
    goMmul s i e zf swap src source = swapIn swap i.n (starvedMmul s i e zf port) := by
  simp only [goMmul, hp, bubble, starved]
  rfl

end

/-- A core whose MMUL has issued a bubble: a debt of its port, a slip, and 0x0112 to be found (04 R170, R172). -/
def bubbled (c : Core) (e : Nat) (zf : Bool) (port : Nat) : Core :=
  pushLate (launched { c with mat := { c.mat with debts := mmod 0 c.mat.debts port (· + 1), slips := c.mat.slips.bump } } 2
    (multiplied c e zf none)) 2 0x0112 c.pc c.issued 0

theorem starvedMmul_runUp (s : State) (n e : Nat) (zf : Bool) (port : Nat) :
    starvedMmul (runStart s n) (issueOf s n) e zf port =
      modCore (payDebts 64 (setCore s n (bubbled (getCore s n) e zf port)) n port) n runUp := by
  rw [← payDebts_runUp, modCore_setCore, starvedMmul, runStart, launch_runUp rfl rfl, show (issueOf s n).n = n from rfl, modCore_setCore]
  rfl

section
variable {s : State} {k : CoreId} {e : BitVec 8} {zf swap : Bool} {src : BitVec 2} {source : BitVec 12} {port : Nat}
  (h : Lone s k.num 2 (.mat (.mmul e zf swap src source)))
include h

/-- What an MMUL leaves before its W bit acts decides the cc of its word. -/
theorem exec_mmul_of_slot {t u : State} {d : Core} (slot : goMmul (runStart s k.num) (issueOf s k.num) e.toNat zf swap src source = swapIn swap k.num u)
    (left : u = setCore t k.num (runUp d)) (still : Still d) (hs : (getClus t (clusOf k.num)).stopAt = none) :
    exec (.mmul k e zf swap src source) s = .next (setCore t k.num (afterWord (swapped swap d) (nextOf (getCore s k.num)))) := by
  rw [left, swapIn_runUp] at slot
  exact mat_row (d := swapped swap d) h slot still hs

theorem exec_mmul_pair (pair : mmulPort src source = none) (free : mustWait s (issueHere s k.num) = false) :
    exec (.mmul k e zf swap src source) s = .next (setCore s k.num (afterWord
      (swapped swap (launched (getCore s k.num) 2 (multiplied (getCore s k.num) e.toNat zf (some (pairVector (getCore s k.num) source)))))
      (nextOf (getCore s k.num)))) := by
  have slot := goMmul_of_pair (s := runStart s k.num) (i := issueOf s k.num) (e := e.toNat) (zf := zf) (swap := swap) pair free
  rw [mmulOp, startMat_mmul_pair, runStart, launch_runUp rfl rfl, show (issueOf s k.num).n = k.num from rfl, modCore_setCore] at slot
  have still : Still (launched (getCore s k.num) 2 (multiplied (getCore s k.num) e.toNat zf (some (pairVector (getCore s k.num) source)))) :=
    still_launched_mat h.still 2 _ _
  rw [← afterWord_swapped_arrayUsed]
  exact exec_mmul_of_slot h slot rfl still h.fetches.goesOn

theorem exec_mmul_ready (hp : mmulPort src source = some port) (free : mustWait s (issueHere s k.num) = false)
    (ready : vecReady (getCore s k.num) port = true) {vec : Option (Row × Nat)} {t : State}
    (taken : takeVec s k.num (getCore s k.num).mat.mode.format port = (vec, t)) :
    exec (.mmul k e zf swap src source) s = .next (setCore t k.num (afterWord
      (swapped swap (launched (getCore t k.num) 2 (multiplied (getCore s k.num) e.toNat zf vec))) (nextOf (getCore s k.num)))) := by
  have kept : KeepsFlights s t k.num := by
    have := keepsFlights_takeVec s k.num (getCore s k.num).mat.mode.format port
    rwa [taken] at this
  have took : takeVec (runStart s k.num) (issueOf s k.num).n (issueOf s k.num).c.mat.mode.format port =
      (vec, setCore t k.num (runUp (getCore t k.num))) := by
    have := takeVec_runUp s k.num (getCore s k.num).mat.mode.format port
    rwa [taken] at this
  have slot := goMmul_of_ready (s := runStart s k.num) (i := issueOf s k.num) (e := e.toNat) (zf := zf) (swap := swap) hp free ready
  rw [mmulOp, startMat_mmul_port, took, launch_runUp kept.pc kept.issued, show (issueOf s k.num).n = k.num from rfl, modCore_setCore] at slot
  have still : Still (launched (getCore t k.num) 2 (multiplied (getCore s k.num) e.toNat zf vec)) :=
    still_launched_mat (fun f hf => h.still f (kept.inflight ▸ hf)) 2 _ _
  rw [← afterWord_swapped_arrayUsed]
  exact exec_mmul_of_slot h slot rfl still ((kept.stopAt _).trans h.fetches.goesOn)

theorem exec_mmul_stall (hp : mmulPort src source = some port) (stall : (runOf s (clusOf k.num)).rowStall = true)
    (waits : mustWait s (issueHere s k.num) = true ∨ vecReady (getCore s k.num) port = false) :
    exec (.mmul k e zf swap src source) s = .next (setCore s k.num (afterWord
      (swapped swap (delayed (getCore s k.num) (mmulOp (getCore s k.num) e.toNat zf none (some port)))) (nextOf (getCore s k.num)))) :=
  exec_mmul_of_slot h (goMmul_of_stall hp stall waits) (waitMat_runUp rfl rfl _) h.still h.fetches.goesOn

theorem exec_mmul_starved (hp : mmulPort src source = some port) (bubble : (runOf s (clusOf k.num)).rowStall = false)
    (starved : vecReady (getCore s k.num) port = false) {t : State}
    (paid : payDebts 64 (setCore s k.num (bubbled (getCore s k.num) e.toNat zf port)) k.num port = t) :
    exec (.mmul k e zf swap src source) s =
      .next (setCore t k.num (afterWord (swapped swap (getCore t k.num)) (nextOf (getCore s k.num)))) := by
  have kept := keepsFlights_payDebts 64 (setCore s k.num (bubbled (getCore s k.num) e.toNat zf port)) k.num port
  rw [paid] at kept
  refine exec_mmul_of_slot h (goMmul_of_starved hp bubble starved) (by rw [starvedMmul_runUp, paid]; rfl) (fun f hf => ?_)
    ((kept.stopAt _).trans h.fetches.goesOn)
  rw [kept.inflight, getCore_setCore_same] at hf
  exact still_launched_mat h.still 2 _ _ f hf

end

/-- Settles O21: the four ways of an MMUL, by its source, the mode and what is ready. -/
theorem mmulRows : Obligations.MmulRows := by
  refine ⟨fun s k e zf swap src source h free => ?started, fun s k e zf swap src source port h hp => ⟨?stall, ?starved⟩⟩
  case started =>
    dsimp only
    split
    case h_1 pair => exact exec_mmul_pair h pair free
    case h_2 port hp => exact fun ready => exec_mmul_ready h hp free ready rfl
  case stall => exact fun stall waits => exec_mmul_stall h hp stall waits
  case starved => exact fun bubble starved => exec_mmul_starved h hp bubble starved rfl

/-! ## DRAIN_ROW_OFFER and ROW_STALL_EXECUTE (04 R169, R171 to R173, R175) -/

section
variable {s : State} {n port : Nat} {o : OfferedRow} {rest : List OfferedRow} (head : (getSw (getCore s n) port).offered = o :: rest)
include head

theorem offerRow_of_room (room : (getSw (getCore s n) port).buffer.length < 2) : offerRow s n port =
    setCore s n (setSw (getCore s n) port
      { getSw (getCore s n) port with offered := rest, buffer := (getSw (getCore s n) port).buffer ++ [o.row] }) := by
  simp [offerRow, head, room]

/-- In bubble mode a row without a place is lost (04 R171, R172). -/
theorem offerRow_of_full_bubble (full : 2 ≤ (getSw (getCore s n) port).buffer.length) (bubble : (runOf s (clusOf n)).rowStall = false) :
    offerRow s n port = setCore s n (pushLate
      { setSw (getCore s n) port { getSw (getCore s n) port with offered := rest } with
        mat := { (getCore s n).mat with slips := (getCore s n).mat.slips.bump } } 2 0x0112 o.pc o.issue 0) := by
  simp only [offerRow, head, Nat.not_lt.mpr full, bubble, if_false, Bool.false_eq_true]
  rfl

/-- In row-stall mode it waits (04 R169). -/
theorem offerRow_of_full_stall (full : 2 ≤ (getSw (getCore s n) port).buffer.length) (stall : (runOf s (clusOf n)).rowStall = true) :
    offerRow s n port = s := by
  simp [offerRow, head, Nat.not_lt.mpr full, stall]

end

/-- The core whose elastic buffer has given its head to the array. -/
def headTaken (c : Core) (rest : List Flight) : Core := { c with mat := { c.mat with elastic := rest } }

/-- The detail of the late fault of a delayed operation: 0x0103 names the accumulator entry (03 R86). -/
def clashDetail (code : Nat) (op : MatOp) : W64 := if code = 0x0103 then BitVec.ofNat 64 ((matEntry op).getD 0 + 0x300) else 0

section
variable {s : State} {n : Nat} {f : Flight} {rest : List Flight} {op : MatOp} (head : (getCore s n).mat.elastic = f :: rest) (hop : f.eff = .mat op)
  (free : (getCore s n).mat.ran = false) (ready : matReady (getCore s n) op = true)
include head hop free ready

theorem runElastic_of_sound (sound : delayedFault (getCore s n) f op = none) :
    runElastic s n = startMat (setCore s n (headTaken (getCore s n) rest)) n f op := by
  simp only [runElastic, head, hop, free, ready, sound]
  rfl

theorem runElastic_of_fault {code : Nat} (fault : delayedFault (getCore s n) f op = some code) :
    runElastic s n = startMat (setCore s n (pushLate (headTaken (getCore s n) rest) 2 code f.pc f.issue (clashDetail code op))) n f op := by
  simp only [runElastic, head, hop, free, ready, fault]
  rfl

end

theorem exec_rowStallExecute_runs {s : State} {k : CoreId} (runs : arrayRuns s k.num = true) :
    exec (.rowStallExecute k) s = .next (runElastic s k.num) := if_pos runs

theorem exec_rowStallExecute_frozen {s : State} {k : CoreId} (frozen : arrayRuns s k.num = false) :
    exec (.rowStallExecute k) s = .next s := if_neg (by simp [frozen])

/-- Settles O22: an offered row by the room of its buffer and the mode, a delayed operation by the fault that its delay has made. -/
theorem arrayEvents : Obligations.ArrayEvents := by
  intro s k
  refine ⟨fun port o rest head => ⟨fun room => ?room, fun full bubble => ?lost, fun full stall => ?waits⟩,
    fun f rest op head hop free ready runs => ?delayed, exec_rowStallExecute_frozen⟩
  case room => exact congrArg Host.Outcome.next (offerRow_of_room head room)
  case lost => exact congrArg Host.Outcome.next (offerRow_of_full_bubble head full bubble)
  case waits => exact congrArg Host.Outcome.next (offerRow_of_full_stall head full stall)
  case delayed =>
    rw [exec_rowStallExecute_runs runs]
    refine ⟨fun sound => ?sound, fun overrun => ?overrun, fun e entry clash => ?clash⟩
    case sound => rw [runElastic_of_sound head hop free ready sound]; rfl
    case overrun => rw [runElastic_of_fault head hop free ready overrun]; rfl
    case clash =>
      rw [runElastic_of_fault head hop free ready clash, clashDetail, if_pos rfl, entry]
      rfl

end Sys2Proof.Machine

/-! # The integer and logical lane operations (06 R219; 03 R95) -/

namespace Sys2Proof.Machine

/-! ## A lane of a packed register (04 R135; 06 R213) -/

/-- The lowest element is the first of the list. -/
theorem packElems_cons (w e : Nat) (es : List Nat) : packElems w (e :: es) = 2 ^ w * packElems w es + e % 2 ^ w := by
  have low : e % 2 ^ w < 2 ^ w := Nat.mod_lt _ (Nat.two_pow_pos w)
  rw [packElems, List.foldr_cons, ← packElems, ← Nat.shiftLeft_add_eq_or_of_lt low, Nat.shiftLeft_eq, Nat.mul_comm]

/-- Element `k` of a packed number is element `k` of its list. -/
theorem packElems_shiftRight_mod (w : Nat) (es : List Nat) (k : Nat) :
    (packElems w es >>> (w * k)) % 2 ^ w = es.getD k 0 % 2 ^ w := by
  induction es generalizing k with
  | nil => simp [packElems]
  | cons e rest ih =>
    cases k with
    | zero => simp [packElems_cons]
    | succ k =>
      have up : packElems w (e :: rest) >>> w = packElems w rest := by
        rw [packElems_cons, Nat.shiftRight_eq_div_pow, Nat.mul_add_div (Nat.two_pow_pos w),
          Nat.div_eq_of_lt (Nat.mod_lt _ (Nat.two_pow_pos w)), Nat.add_zero]
      rw [Nat.mul_succ, Nat.add_comm, Nat.shiftRight_add, up, ih, List.getD_cons_succ]

/-- An element that lies in the register reads as it was packed. -/
theorem extractLsb'_packElems {n w k : Nat} (fits : w * k + w ≤ n) (es : List Nat) :
    (BitVec.ofNat n (packElems w es)).extractLsb' (w * k) w = BitVec.ofNat w (es.getD k 0) := by
  have cut : (BitVec.ofNat n (packElems w es)).extractLsb' (w * k) w = BitVec.ofNat w (packElems w es >>> (w * k)) := by
    ext j hj
    have inside : w * k + j < n := by omega
    simp [← BitVec.getLsbD_eq_getElem, BitVec.getLsbD_ofNat, Nat.testBit_shiftRight, hj, inside]
  rw [cut]
  exact BitVec.eq_of_toNat_eq (by simp only [BitVec.toNat_ofNat, packElems_shiftRight_mod])

/-- An active lane holds what its function gives (06 R223). -/
theorem laneResult_lane {m : BitVec 64} {k : Nat} (f : Nat → Nat × Ev) (hk : k < 64) (active : m.getLsbD k = true) :
    (laneResult m f).1.extractLsb' (32 * k) 32 = BitVec.ofNat 32 (f k).1 := by
  rw [laneResult, extractLsb'_packElems (by omega)]
  simp [mapElems, List.getD, hk, active]

theorem joinEvents_eq_zero {es : List (Nat × Ev)} (quiet : ∀ e ∈ es, e.2 = 0) : joinEvents es = 0 :=
  List.foldlRecOn (motive := (· = 0)) es _ rfl fun a ha e he => by rw [ha, quiet e he]; rfl

/-- Where no lane raises an event the operation raises none (06 R235). -/
theorem laneResult_events {m : BitVec 64} {f : Nat → Nat × Ev} (quiet : ∀ k, (f k).2 = 0) : (laneResult m f).2 = 0 := by
  refine joinEvents_eq_zero fun e he => ?_
  obtain ⟨k, -, rfl⟩ := List.mem_map.mp he
  dsimp only
  split
  · exact quiet k
  · rfl

/-! ## One lane of an integer operation -/

theorem signedOf_toNat (x : BitVec 32) : signedOf 32 x.toNat = x.toInt := by
  rw [signedOf, BitVec.toInt_eq_toNat_cond, Nat.mod_eq_of_lt x.isLt]

theorem code32_eq (v : Int) : code32 v = (BitVec.ofInt 32 v).toNat := by
  rw [code32, BitVec.toNat_ofInt]; rfl

/-- Without SATI a result wraps and raises no event (05 R194). -/
theorem wrapOrSat_wraps (v : Int) : wrapOrSat false v = ((BitVec.ofInt 32 v).toNat, 0) := by
  rw [← code32_eq]; rfl

theorem code32_shiftRight (x : BitVec 32) (n : Nat) : code32 (signedOf 32 x.toNat >>> n) = (x.sshiftRight n).toNat := by
  rw [code32_eq, signedOf_toNat, ← BitVec.toInt_sshiftRight, BitVec.ofInt_toInt]

/-- The integer and logical operations of the VEC slots (06 R219). -/
def integerOps : List VLane :=
  [.iadd, .isub, .imul, .and, .or, .xor, .shl, .shr, .sra, .shli, .shri, .srai, .mov, .sel]

/-- An integer or logical operation on lanes `x` and `y`: `sel` is the mask bit of VSEL, `imm` the count of an immediate shift (06 R219). -/
def integerLane (o : VLane) (sel : Bool) (imm : Nat) (x y : BitVec 32) : BitVec 32 :=
  match o with
  | .iadd => x + y
  | .isub => x - y
  | .imul => x * y
  | .and => x &&& y
  | .or => x ||| y
  | .xor => x ^^^ y
  | .shl => x <<< (y.toNat % 32)
  | .shr => x >>> (y.toNat % 32)
  | .sra => x.sshiftRight (y.toNat % 32)
  | .shli => x <<< imm
  | .shri => x >>> imm
  | .srai => x.sshiftRight imm
  | .sel => if sel then x else y
  | _ => x

/-- The numbers of the model's lanes follow the operation on words of 32 bits, without an event. -/
theorem laneElem_integer {o : VLane} (ho : o ∈ integerOps) (sel : Bool) (imm : Nat) (x y : BitVec 32) :
    laneElem o false sel imm x.toNat y.toNat = ((integerLane o sel imm x y).toNat, 0) := by
  cases o with
  | min | max | abs | neg | bcast => simp [integerOps] at ho
  | iadd => simp only [laneElem, integerLane, wrapOrSat_wraps, signedOf_toNat, BitVec.ofInt_add, BitVec.ofInt_toInt]
  | isub => simp only [laneElem, integerLane, wrapOrSat_wraps, signedOf_toNat, Int.sub_eq_add_neg, BitVec.ofInt_add, BitVec.ofInt_neg, BitVec.ofInt_toInt, BitVec.sub_eq_add_neg]
  | imul => simp only [laneElem, integerLane, wrapOrSat_wraps, signedOf_toNat, BitVec.ofInt_mul, BitVec.ofInt_toInt]
  | and => simp only [laneElem, integerLane, BitVec.toNat_and]
  | or => simp only [laneElem, integerLane, BitVec.toNat_or]
  | xor => simp only [laneElem, integerLane, BitVec.toNat_xor]
  | shl | shli => simp only [laneElem, integerLane, BitVec.toNat_shiftLeft]
  | shr | shri => simp only [laneElem, integerLane, BitVec.toNat_ushiftRight]
  | sra | srai => simp only [laneElem, integerLane, code32_shiftRight]
  | mov => rfl
  | sel => cases sel <;> rfl

/-! ## The operation on its registers -/

section
variable (i : VecIn) (o : VLane) (a : V3)

/-- The lanes on which an operation acts: VSEL acts on every lane (22 R784, R785). -/
def activeLanes : BitVec 64 := if o = .sel then BitVec.allOnes 64 else getM i.c a.mm.toNat

theorem activeLanes_getLsbD {k : Nat} (hk : k < 64) (active : o = .sel ∨ (getM i.c a.mm.toNat).getLsbD k = true) :
    (activeLanes i o a).getLsbD k = true := by
  unfold activeLanes
  split
  case isTrue => simp only [BitVec.getLsbD_allOnes, hk, decide_true]
  case isFalse other => exact active.resolve_left other

/-- Lane `k` of an integer operation on its registers. -/
def integerElem (k : Nat) : BitVec 32 :=
  integerLane o ((getM i.c a.mm.toNat).getLsbD k) (a.vb.toNat % 32)
    ((getV i.c a.va.toNat).extractLsb' (32 * k) 32) ((getV i.c a.vb.toNat).extractLsb' (32 * k) 32)

theorem evalLane_integer {o : VLane} (ho : o ∈ integerOps) (wraps : a.x0 = false) :
    evalLane i o a = vResult 3 a.vd.toNat (activeLanes i o a) a.zm (laneResult (activeLanes i o a) fun k => ((integerElem i o a k).toNat, 0)) := by
  have notBcast : o ≠ .bcast := by rintro rfl; simp [integerOps] at ho
  simp only [evalLane, wraps, Bool.false_and, Bool.false_eq_true, if_false, if_neg notBcast, elemOf, laneElem_integer ho]
  rfl

end

/-- Settles O13: an active lane of the result holds the operation on its words of 32 bits, and no lane raises an event. -/
theorem integerLanes : Obligations.IntegerLanes := by
  intro i o a wraps ho
  refine ⟨_, _, evalLane_integer i a ho wraps, laneResult_events fun _ => rfl, fun k hk active => ?_⟩
  have lane := laneResult_lane (fun k => ((integerElem i o a k).toNat, 0)) hk (activeLanes_getLsbD i o a hk active)
  rw [BitVec.ofNat_toNat, BitVec.setWidth_eq] at lane
  exact lane

end Sys2Proof.Machine

/-! # The rows of the VEC slots and of the RED slot (06 R219 to R231, R237 to R239, R795; 13 R514) -/

namespace Sys2Proof.Machine

/-! ## A command of a slot spends the cc of its word -/

/-- NOP alone is also named where no slot of the word decodes. -/
theorem exec_vecCommand (k : CoreId) (u : Bool) (o : VecOp) (s : State) :
    ∃ b, exec (vecCommand k u o) s = issueNamed k.num (vecSlot u) (.vec o) b s := by
  cases o with
  | nop => exact ⟨true, by cases u <;> rfl⟩
  | fn f a => exact ⟨false, by cases f <;> rfl⟩
  | arith o rm a => exact ⟨false, by cases o <;> rfl⟩
  | fused o a => exact ⟨false, by cases o <;> rfl⟩
  | lane o a => exact ⟨false, by cases o <;> rfl⟩
  | mlogic o a => exact ⟨false, by cases o <;> rfl⟩
  | _ => exact ⟨false, rfl⟩

theorem exec_redCommand (k : CoreId) (o : RedName) (a : RD) (s : State) :
    exec (redCommand k (.red o a)) s = issueNamed k.num 5 (.red (.red o a)) false s := by
  cases o <;> rfl

/-! ## Latency row 8 (03 R95; 06 R237) -/

/-- A reduction's value in every lane of its register, with its events. -/
def redOut (vd : Nat) (packed : Bool) (v : Nat) (ev : Ev) : Effs :=
  [(latRed, .writeV vd (everyLane packed v) (BitVec.allOnes 64) false), (latRed, .vecEvents ev)]

theorem redOut_ok (vd : Nat) (packed : Bool) (v : Nat) (ev : Ev) : ∀ e ∈ redOut vd packed v ev, okEff e = true :=
  vResult_ok _ _ _ _ (everyLane packed v, ev) (by decide)

/-- As `redOut`, with the bit of the lane that holds the extreme, unless that goes to M0 (06 R239). -/
theorem redOut_append_mask_ok (vd : Nat) (v : Nat) (ev : Ev) (md : BitVec 4) (bit : BitVec 64) :
    ∀ e ∈ redOut vd false v ev ++ (if md = 0 then [] else [(latRed, .writeM md.toNat bit (BitVec.allOnes 64) false)]), okEff e = true := by
  intro e he
  obtain he | he := List.mem_append.mp he
  · exact redOut_ok _ _ _ _ e he
  · split at he
    case isTrue => cases he
    case isFalse =>
      obtain rfl := List.mem_singleton.mp he
      rfl

/-- No reduction lands in the cc of its issue. -/
theorem red_lats (i : VecIn) (o : RedName) (a : RD) : ∀ e ∈ evalRed i o a, okEff e = true := by
  cases o with
  | sum | sumi | cnt => exact redOut_ok _ _ _ _
  | max | min =>
    exact iteInduction (motive := fun es => ∀ e ∈ es, okEff e = true) (fun _ => redOut_ok _ _ _ _) (fun _ => redOut_ok _ _ _ _)
  | argmax | argmin =>
    exact iteInduction (motive := fun es => ∀ e ∈ es, okEff e = true) (fun _ => redOut_append_mask_ok _ _ _ _ _) (fun _ => redOut_append_mask_ok _ _ _ _ _)

/-! ## What the operations read -/

/-- No VEC operation reads the count of ccs. -/
theorem evalVec_ccUp (c : Core) (d : DrawCtx) (g : W64) (o : VecOp) : evalVec ⟨ccUp c, d, g⟩ o = evalVec ⟨c, d, g⟩ o := by
  cases o <;> rfl

theorem evalRed_ccUp (c : Core) (d : DrawCtx) (g : W64) (o : RedName) (a : RD) : evalRed ⟨ccUp c, d, g⟩ o a = evalRed ⟨c, d, g⟩ o a := rfl

section
variable (s : State) (n : Nat)

/-- What the operations of an issuing word read is what its core holds before the cc. -/
theorem evalVec_issueOf (o : VecOp) : evalVec (vecIn (runStart s n) (issueOf s n) 0) o = evalVec (vecSees s n) o :=
  evalVec_ccUp (getCore s n) _ _ o

theorem evalRed_issueOf (o : RedName) (a : RD) : evalRed (vecIn (runStart s n) (issueOf s n) 0) o a = evalRed (vecSees s n) o a :=
  evalRed_ccUp (getCore s n) _ _ o a

/-! ## What the slots do -/

/-- What a VEC operation sets in its own cc: VPFMT the packed format, an SR operation GCOUNT (06 R231, R795). -/
def vecSet (o : VecOp) (c : Core) : Core :=
  { c with packedFp16 := match o with | .pfmt f => f | _ => c.packedFp16
           gcount := if usesSr o then c.gcount + 1 else c.gcount }

theorem vecSet_pfmt (f : Bool) (c : Core) : vecSet (.pfmt f) c = { c with packedFp16 := f } := rfl

theorem vecSet_of_sr {o : VecOp} (sr : usesSr o = true) (c : Core) : vecSet o c = { c with gcount := c.gcount + 1 } := by
  cases o with
  | pfmt f => cases sr
  | _ => simp only [vecSet, sr, if_true]

theorem vecSet_of_plain {o : VecOp} (noFormat : ∀ f, o ≠ .pfmt f) (sr : usesSr o = false) (c : Core) : vecSet o c = c := by
  cases o with
  | pfmt f => exact absurd rfl (noFormat f)
  | _ => simp only [vecSet, sr, Bool.false_eq_true, if_false]

theorem goVec_runStart (slot : Nat) (o : VecOp) : goVec (runStart s n) (issueOf s n) slot 0 o =
    setCore s n (runUp (vecSet o (launched (getCore s n) slot (evalVec (vecSees s n) o)))) := by
  have sent : launches (runStart s n) (issueOf s n) slot (evalVec (vecIn (runStart s n) (issueOf s n) 0) o) =
      setCore s n (runUp (launched (getCore s n) slot (evalVec (vecSees s n) o))) := by
    rw [evalVec_issueOf, runStart, launches_runUp _ _ _ _ _ rfl rfl]
  unfold goVec
  dsimp only
  rw [sent, show (issueOf s n).n = n from rfl]
  split
  case h_1 f => rw [modCore_setCore, vecSet_pfmt]; rfl
  case h_2 noFormat =>
    split
    case isTrue sr => rw [modCore_setCore, vecSet_of_sr sr]; rfl
    case isFalse plain => rw [vecSet_of_plain noFormat (Bool.not_eq_true _ ▸ plain)]

theorem goRed_runStart (o : RedName) (a : RD) : goRed (runStart s n) (issueOf s n) (.red o a) =
    setCore s n (runUp (launched (getCore s n) 5 (evalRed (vecSees s n) o a))) := by
  rw [goRed, evalRed_issueOf, runStart, launches_runUp _ _ _ _ _ rfl rfl]

end

/-! ## The cc of a word whose VEC slot or RED slot alone holds an operation -/

section
variable {s : State} {n : Nat}

theorem vec_row {u : Bool} {o : VecOp} (h : Lone s n (vecSlot u) (.vec o)) (b : Bool) :
    issueNamed n (vecSlot u) (.vec o) b s = .next (setCore s n (afterWord
      (vecSet o (launched (getCore s n) (vecSlot u).val (evalVec (vecSees s n) o))) (nextOf (getCore s n)))) := by
  have ctl : (loneWord (vecSlot u) (.vec o)).ctl = .nop := by cases u <;> rfl
  have slot : issueSlots (runStart s n) (issueOf s n) (loneWord (vecSlot u) (.vec o)) =
      setCore s n (runUp (vecSet o (launched (getCore s n) (vecSlot u).val (evalVec (vecSees s n) o)))) := by
    cases u
    · exact goVec_runStart s n 3 o
    · exact goVec_runStart s n 4 o
  rw [lone_own s n _ _ b _ h (fun _ _ => by rw [ctl, afterCtl_nop]) slot (still_launched _ _ _ h.still (vec_lats _ o)), ctl]
  rfl

theorem red_row {o : RedName} {a : RD} (h : Lone s n 5 (.red (.red o a))) :
    issueNamed n 5 (.red (.red o a)) false s = .next (setCore s n (afterWord
      (launched (getCore s n) 5 (evalRed (vecSees s n) o a)) (nextOf (getCore s n)))) :=
  lone_own s n 5 _ false _ h (fun _ _ => rfl) (goRed_runStart s n o a) (still_launched _ _ _ h.still (red_lats _ o a))

end

/-- Settles O19: a command of a slot spends the cc of its word, and the word's one operation sends its results on their way. -/
theorem laneRows : Obligations.LaneRows := by
  refine ⟨fun s k u o h => ?vec, fun s k o a h => ?red⟩
  case vec =>
    obtain ⟨b, named⟩ := exec_vecCommand k u o s
    rw [named]
    exact vec_row h b
  case red =>
    rw [exec_redCommand]
    exact red_row h

end Sys2Proof.Machine

/-! # The queue and the memories, which most operations leave alone (07 R242; 08 R312) -/

namespace Sys2Proof.Machine

/-! ## What is held -/

/-- What few commands touch: the queue of waiting commands and the three byte memories. -/
structure Held where
  queue : List Instr
  sp : Mem
  cm : Mem
  dm : Mem

/-- The queue and the memories of a state. -/
def held (s : State) : Held := { queue := s.pending, sp := s.spMem, cm := s.cmMem, dm := s.dmMem }

/-- A change of other fields leaves the queue and the memories. -/
@[simp] theorem held_with (s : State) (free b0 ifRom dalardKey fwKey img loader loaded self groups parts clus cores dmBad dmCorr ptes ptIdentity
      closedRanges time pwr ff stagingDrops hp fab brz tap pins out) :
    held { s with
      free := free, b0 := b0, ifRom := ifRom, dalardKey := dalardKey, fwKey := fwKey, img := img, loader := loader, loaded := loaded,
      self := self, groups := groups, parts := parts, clus := clus, cores := cores, dmBad := dmBad, dmCorr := dmCorr, ptes := ptes,
      ptIdentity := ptIdentity, closedRanges := closedRanges, time := time, pwr := pwr, ff := ff, stagingDrops := stagingDrops, hp := hp, fab := fab,
      brz := brz, tap := tap, pins := pins, out := out } = held s := rfl

@[simp] theorem held_ite {c : Prop} [Decidable c] (a b : State) : held (if c then a else b) = if c then held a else held b := apply_ite ..

@[simp] theorem held_foldl {α : Type} (l : List α) (f : State → α → State) (s : State) (h : ∀ t x, held (f t x) = held t) : held (l.foldl f s) = held s := by
  induction l generalizing s with
  | nil => rfl
  | cons x l ih => rw [List.foldl_cons, ih, h]

/-! ## What leaves it alone: one lemma for each operation of the model that writes no memory -/

/-! ### Units, outputs and records (01 R14 to R16; 18 R685) -/

@[simp] theorem held_setCore (s n c) : held (setCore s n c) = held s := by rfl
@[simp] theorem held_modCore (s n f) : held (modCore s n f) = held s := by rfl
@[simp] theorem held_setClus (s c x) : held (setClus s c x) = held s := by rfl
@[simp] theorem held_modClus (s c f) : held (modClus s c f) = held s := by rfl
@[simp] theorem held_setPart (s p x) : held (setPart s p x) = held s := by rfl
@[simp] theorem held_modPart (s p f) : held (modPart s p f) = held s := by rfl
@[simp] theorem held_setStream (s c i t) : held (setStream s c i t) = held s := by rfl
@[simp] theorem held_setChan (s c i h) : held (setChan s c i h) = held s := by rfl
@[simp] theorem held_setPort (s h p) : held (setPort s h p) = held s := by simp [setPort]
@[simp] theorem held_modPort (s h f) : held (modPort s h f) = held s := by simp [modPort]
@[simp] theorem held_setRing (s r x) : held (setRing s r x) = held s := by rfl
@[simp] theorem held_setFab (s f x) : held (setFab s f x) = held s := by rfl
@[simp] theorem held_stepRing (s c i produce) : held (stepRing s c i produce) = held s := by rfl
@[simp] theorem held_emit (s o) : held (emit s o) = held s := by rfl
@[simp] theorem held_vecEvent (s h vector m who) : held (vecEvent s h vector m who) = held s := by simp [vecEvent]
@[simp] theorem held_partEvent (s p vector) : held (partEvent s p vector) = held s := by simp [partEvent]
@[simp] theorem held_platformEvent (s kind data) : held (platformEvent s kind data) = held s := by
  simp only [platformEvent]
  split <;> simp
@[simp] theorem held_useFree (s) : held (useFree s) = held s := by rfl
@[simp] theorem held_recordDevice (s tie i) : held (recordDevice s tie i) = held s := by simp [recordDevice]
@[simp] theorem held_recordCluster (s c tie i) : held (recordCluster s c tie i) = held s := by
  simp only [recordCluster]
  (repeat' split) <;> simp

/-! ### Faults, fences and stops (18 R678 to R689) -/

@[simp] theorem held_emptyQueue (s n t st) : held (emptyQueue s n t st) = held s := by rfl
@[simp] theorem held_emptyQueues (s n st) : held (emptyQueues s n st) = held s := by simp [emptyQueues]
@[simp] theorem held_haltCore (s n st) : held (haltCore s n st) = held s := by simp [haltCore]
@[simp] theorem held_releaseHeld (s n) : held (releaseHeld s n) = held s := by simp [releaseHeld]
@[simp] theorem held_holdCore (s n record) : held (holdCore s n record) = held s := by simp [holdCore]
@[simp] theorem held_fenceCore (s n) : held (fenceCore s n) = held s := by simp [fenceCore]
@[simp] theorem held_fenceUnit (s u) : held (fenceUnit s u) = held s := by
  simp only [fenceUnit]
  split <;> simp
@[simp] theorem held_stopCluster (s c) : held (stopCluster s c) = held s := held_foldl _ _ _ fun a n => held_haltCore a n .stopped
@[simp] theorem held_stopLate (s n) : held (stopLate s n) = held s := by
  simp only [stopLate]
  split <;> simp
@[simp] theorem held_stopAfterCc (s c) : held (stopAfterCc s c) = held s :=
  (held_foldl _ _ _ held_stopLate).trans (held_modClus ..)
@[simp] theorem held_stopByFault (s p c) : held (stopByFault s p c) = held s := by simp [stopByFault]
@[simp] theorem held_applyReaction (s part c reaction u) : held (applyReaction s part c reaction u) = held s := by
  simp only [applyReaction]
  split <;> simp
@[simp] theorem held_raiseIn (s c i u stream) : held (raiseIn s c i u stream) = held s := by simp [raiseIn]
@[simp] theorem held_raiseDevice (s i) : held (raiseDevice s i) = held s := by simp [raiseDevice]
@[simp] theorem held_dropWrite (s c cm n row kind id) : held (dropWrite s c cm n row kind id) = held s := by rfl
@[simp] theorem held_dropAndRaise (s c cm n row kind id) : held (dropAndRaise s c cm n row kind id) = held s := by simp [dropAndRaise]
@[simp] theorem held_latchCore (s n slot code pc issue detail) : held (latchCore s n slot code pc issue detail) = held s := by rfl
@[simp] theorem held_faultCore (s n slot code pc issue detail u) : held (faultCore s n slot code pc issue detail u) = held s := by simp [faultCore]

/-! ### Stages of a core (03 R85, R103; 07 R262, R276) -/

@[simp] theorem held_countCorrSp (s n row) : held (countCorrSp s n row) = held s := by simp [countCorrSp]
@[simp] theorem held_countCorrCm (s c row) : held (countCorrCm s c row) = held s := by simp [countCorrCm]
@[simp] theorem held_noteCollision (s c cm n row rd wr) : held (noteCollision s c cm n row rd wr) = held s := by simp [noteCollision]
@[simp] theorem held_readSp (s n row by_) : held (readSp s n row by_).2 = held s := by
  simp only [readSp]
  split <;> simp
@[simp] theorem held_consumeStream (s cl st left) : held (consumeStream s cl st left) = held s := by
  simp only [consumeStream]
  split <;> simp
@[simp] theorem held_takeVec (s n format port) : held (takeVec s n format port).2 = held s := by
  simp only [takeVec]
  (repeat' split) <;> simp
@[simp] theorem held_payDebts (k s n port) : held (payDebts k s n port) = held s := by
  induction k generalizing s with
  | zero => rfl
  | succ k ih => simp [payDebts, ih]
@[simp] theorem held_startMat (s n f op) : held (startMat s n f op) = held s := by
  simp only [startMat]
  split <;> simp
@[simp] theorem held_runElastic (s n) : held (runElastic s n) = held s := by
  simp only [runElastic]
  (repeat' split) <;> simp
@[simp] theorem held_collCounts (s n esc poison) : held (collCounts s n esc poison) = held s := by
  simp only [collCounts]
  split <;> simp
@[simp] theorem held_badRead (s n row slot pc issue) : held (badRead s n row slot pc issue) = held s := by simp [badRead]
@[simp] theorem held_progRead (s n row slot pc issue) : held (progRead s n row slot pc issue).2 = held s := by
  simp only [progRead]
  split <;> simp
@[simp] theorem held_progReads (s n slot pc issue rows) : held (progReads s n slot pc issue rows).2 = held s := by
  induction rows generalizing s with
  | nil => rfl
  | cons r rest ih => simp [progReads, ih]
@[simp] theorem held_secondCycle (s n f) : held (secondCycle s n f).2 = held s := by
  simp only [secondCycle]
  (repeat' split) <;> simp
@[simp] theorem held_secondCycles (s n fs) : held (secondCycles s n fs).2 = held s := by
  induction fs generalizing s with
  | nil => rfl
  | cons f rest ih => simp [secondCycles, ih]
@[simp] theorem held_endCc (s n) : held (endCc s n) = held s := by rfl

/-! ### The twin comparator (13 R537 to R543) -/

@[simp] theorem held_twinFault (s p code r localDig remoteDig) : held (twinFault s p code r localDig remoteDig) = held s := by simp [twinFault]
@[simp] theorem held_twinArrive (s p isLocal r) : held (twinArrive s p isLocal r) = held s := by
  simp only [twinArrive]
  split <;> simp
@[simp] theorem held_twinDigest (s p e) : held (twinDigest s p e) = held s := by simp [twinDigest]

/-! ### Calm points (03 R110 to R116) -/

@[simp] theorem held_clearDigests (s p) : held (clearDigests s p) = held s := by simp [clearDigests]
@[simp] theorem held_formDigest (s p index) : held (formDigest s p index) = held s := by simp [formDigest]
@[simp] theorem held_releaseCore (s n) : held (releaseCore s n) = held s := by rfl
@[simp] theorem held_releaseAll (s p) : held (releaseAll s p) = held s := by simp [releaseAll]
@[simp] theorem held_beginSwitch (s p target calmMode stopAfter) : held (beginSwitch s p target calmMode stopAfter) = held s := by rfl
@[simp] theorem held_becomeStopped (s p) : held (becomeStopped s p) = held s := by rfl
@[simp] theorem held_finishCalm (s p) : held (finishCalm s p) = held s := by
  simp only [finishCalm]
  split <;> simp
@[simp] theorem held_takeStop (s p) : held (takeStop s p) = held s := by
  simp only [takeStop]
  split <;> simp
@[simp] theorem held_takePause (s p) : held (takePause s p) = held s := by rfl
@[simp] theorem held_reachCalm (s p index step) : held (reachCalm s p index step) = held s := by simp [reachCalm]
@[simp] theorem held_exhaustStep (s p) : held (exhaustStep s p) = held s := by
  refine (held_foldl _ _ _ fun a n => ?_).trans (held_modPart ..)
  split <;> simp
@[simp] theorem held_queueFault (s n t) : held (queueFault s n t) = held s := by simp [queueFault]
@[simp] theorem held_calmCheck (s p) : held (calmCheck s p) = held s := by
  simp only [calmCheck]
  (repeat' split) <;> simp
@[simp] theorem held_calmCheckAt (s c) : held (calmCheckAt s c) = held s := by
  simp only [calmCheckAt]
  split <;> simp

/-! ### The slots of a word (03 R81, R102, R105) -/

@[simp] theorem held_launch (s i slot lat e) : held (launch s i slot lat e) = held s := by rfl
@[simp] theorem held_launches (s i slot es) : held (launches s i slot es) = held s := by simp [launches]
@[simp] theorem held_launchPair (s i slot lat vd r) : held (launchPair s i slot lat vd r) = held s := by rfl
@[simp] theorem held_postInc (s i xr inc) : held (postInc s i xr inc) = held s := by simp [postInc]
@[simp] theorem held_goCtl (s i o) : held (goCtl s i o) = held s := by
  simp only [goCtl]
  split <;> simp
@[simp] theorem held_takeEntry (s n t) : held (takeEntry s n t) = held s := by rfl
@[simp] theorem held_launchWrite (s i slot row v) : held (launchWrite s i slot row v) = held s := by rfl
@[simp] theorem held_goSin (s i o) : held (goSin s i o) = held s := by
  simp only [goSin]
  (repeat' split) <;> simp
@[simp] theorem held_waitMat (s i op) : held (waitMat s i op) = held s := by rfl
@[simp] theorem held_takePlace (s i) : held (takePlace s i) = held s := by simp [takePlace]
@[simp] theorem held_starvedMmul (s i e zf port) : held (starvedMmul s i e zf port) = held s := by simp [starvedMmul]
@[simp] theorem held_goMmul (s i e zf swap src source) : held (goMmul s i e zf swap src source) = held s := by
  simp only [goMmul]
  (repeat' split) <;> simp
@[simp] theorem held_goWld (s i xr inc) : held (goWld s i xr inc) = held s := by
  simp only [goWld, held_takePlace, held_postInc, held_modCore, held_launch, held_progReads]
@[simp] theorem held_goMatcfg (s i format accmode systolic xe) : held (goMatcfg s i format accmode systolic xe) = held s := by simp [goMatcfg]
@[simp] theorem held_goMat (s i o) : held (goMat s i o) = held s := by
  simp only [goMat]
  split <;> simp
@[simp] theorem held_goVec (s i slot skip o) : held (goVec s i slot skip o) = held s := by
  simp only [goVec]
  split <;> simp
@[simp] theorem held_goRed (s i o) : held (goRed s i o) = held s := by
  simp only [goRed]
  split <;> simp
@[simp] theorem held_goRowcmp (s i w xr md vc xk2) : held (goRowcmp s i w xr md vc xk2) = held s := by simp [goRowcmp]
@[simp] theorem held_goRowcnt (s i xr mm2 xs wrap rf md ev) : held (goRowcnt s i xr mm2 xs wrap rf md ev) = held s := by simp [goRowcnt]
@[simp] theorem held_queueMove (s i m) : held (queueMove s i m) = held s := by rfl
@[simp] theorem held_sourceUe (s n row) : held (sourceUe s n row) = held s := by simp [sourceUe]
@[simp] theorem held_consumeRow (s n row) : held (consumeRow s n row) = held s := by
  simp only [consumeRow]
  split <;> simp
@[simp] theorem held_sendRemote (s q) : held (sendRemote s q) = held s := by simp [sendRemote]
@[simp] theorem held_goMem (s i o) : held (goMem s i o) = held s := by
  simp only [goMem]
  (repeat' split) <;> simp
@[simp] theorem held_goMsg (s i o) : held (goMsg s i o) = held s := by
  simp only [goMsg]
  split <;> simp
@[simp] theorem held_beginRrd (s i o) : held (beginRrd s i o) = held s := by
  simp only [beginRrd]
  split <;> simp
@[simp] theorem held_freezeWord (s i w slot h) : held (freezeWord s i w slot h) = held s := by simp [freezeWord]
@[simp] theorem held_freezeCc (s n cause counts) : held (freezeCc s n cause counts) = held s := by rfl
@[simp] theorem held_issueSlots (s i w) : held (issueSlots s i w) = held s := by simp [issueSlots]
@[simp] theorem held_finishEnd (s n) : held (finishEnd s n) = held s := by simp [finishEnd]
@[simp] theorem held_settleCore (s n) : held (settleCore s n) = held s := by simp [settleCore]
@[simp] theorem held_endTask (s n) : held (endTask s n) = held s := by simp [endTask]
@[simp] theorem held_afterCtl (s i o) : held (afterCtl s i o) = held s := by
  cases o <;> simp [afterCtl_calm]
@[simp] theorem held_gathErr (s n w f) : held (gathErr s n w f) = held s := by
  simp only [gathErr]
  (repeat' split) <;> simp
@[simp] theorem held_failWord (s i w f) : held (failWord s i w f) = held s := by simp [failWord]
@[simp] theorem held_startCc (s n) : held (startCc s n) = held s := by rfl

/-! ### Rejected writes (18 R698) -/

@[simp] theorem held_reject (s h reason offset data) : held (reject s h reason offset data) = held s := by simp [reject]

/-! ### Banks, moves and remote accesses (07 R243 to R284) -/

theorem held_of_enterCc {s : State} {c cc : Nat} {t : State} (h : enterCc s c cc = some t) : held t = held s := by
  simp only [enterCc] at h
  split at h
  · cases h
  · split at h
    · cases h; rfl
    · rw [← Option.some.inj h]
      exact (held_foldl _ _ _ fun a n => by simp).trans (held_modClus ..)
@[simp] theorem held_modSpPower (s n b f) : held (modSpPower s n b f) = held s := by rfl
@[simp] theorem held_modCmPower (s c b f) : held (modCmPower s c b f) = held s := by rfl
@[simp] theorem held_refuseRow (s c cm n row) : held (refuseRow s c cm n row) = held s := by simp [refuseRow]
@[simp] theorem held_latchUe (s c cm n row kind) : held (latchUe s c cm n row kind) = held s := by simp [latchUe]
@[simp] theorem held_raiseCollision (s c cm n row rd wr) : held (raiseCollision s c cm n row rd wr) = held s := by simp [raiseCollision]
@[simp] theorem held_elasticReadSp (s n row p) : held (elasticReadSp s n row p).2 = held s := by
  simp only [elasticReadSp]
  split <;> simp
@[simp] theorem held_readCm (s c row p) : held (readCm s c row p).2 = held s := by
  simp only [readCm]
  split <;> simp
@[simp] theorem held_consumeSp (s n row i) : held (consumeSp s n row i) = held s := by rfl
@[simp] theorem held_consumeCm (s c row i) : held (consumeCm s c row i) = held s := by rfl
@[simp] theorem held_moveDone (s n num) : held (moveDone s n num) = held s := by rfl
@[simp] theorem held_moveUe (s c cm n row) : held (moveUe s c cm n row) = held s := by simp [moveUe]
@[simp] theorem held_moveUnpowered (s n num m) : held (moveUnpowered s n num m) = held s := by
  simp only [moveUnpowered]
  split <;> simp
@[simp] theorem held_tagServed (s c st j data err) : held (tagServed s c st j data err) = held s := by rfl
@[simp] theorem held_remoteAnswer (s q a) : held (remoteAnswer s q a) = held s := by
  simp only [remoteAnswer]
  split <;> simp
@[simp] theorem held_sendAnswer (s c q a) : held (sendAnswer s c q a) = held s := by simp [sendAnswer]
@[simp] theorem held_remoteRefused (s c q) : held (remoteRefused s c q) = held s := by simp [remoteRefused]
@[simp] theorem held_remoteLost (s c cm n q unit) : held (remoteLost s c cm n q unit) = held s := by
  simp only [remoteLost]
  split <;> simp
@[simp] theorem held_wakeForRemote (s c qs) : held (wakeForRemote s c qs) = held s := by
  induction qs generalizing s with
  | nil => rfl
  | cons q rest ih =>
    rw [wakeForRemote, ih]
    (repeat' split) <;> simp
@[simp] theorem held_writeSpOff (s n mask) : held (writeSpOff s n mask) = held s := held_foldl _ _ _ fun a b => held_modSpPower a n b _
@[simp] theorem held_writeCmOff (s c mask) : held (writeCmOff s c mask) = held s := held_foldl _ _ _ fun a b => held_modCmPower a c b _

/-! ### Streams (08 R290 to R345) -/

@[simp] theorem held_faultStream (s c st reason code) : held (faultStream s c st reason code) = held s := by simp [faultStream]
@[simp] theorem held_enqueuePage (s p page) : held (enqueuePage s p page) = held s := by simp [enqueuePage]
@[simp] theorem held_countHalt (s c) : held (countHalt s c) = held s := by rfl
@[simp] theorem held_pumpPri (k s h) : held (pumpPri k s h) = held s := by
  induction k generalizing s with
  | zero => rfl
  | succ k ih =>
    rw [pumpPri]
    (repeat' split) <;> simp [ih]
@[simp] theorem held_haltStream (s c st reason page) : held (haltStream s c st reason page) = held s := by
  simp only [haltStream]
  split <;> simp
@[simp] theorem held_failRow (s c st j reason code) : held (failRow s c st j reason code) = held s := by simp [failRow]
@[simp] theorem held_ringFault (s r code) : held (ringFault s r code) = held s := by simp [ringFault]
@[simp] theorem held_rowReads (s h x n) : held (rowReads s h x n) = held s := by simp [rowReads]
@[simp] theorem held_pumpHost (k s h) : held (pumpHost k s h) = held s := by
  induction k generalizing s with
  | zero => rfl
  | succ k ih =>
    rw [pumpHost]
    (repeat' split) <;> simp [ih]
@[simp] theorem held_sendRowReads (s h r) : held (sendRowReads s h r) = held s := by
  simp only [sendRowReads]
  split <;> simp
@[simp] theorem held_pumpPort (s h) : held (pumpPort s h) = held s := by simp [pumpPort]
@[simp] theorem held_pumpFor (s c) : held (pumpFor s c) = held s := by
  simp only [pumpFor]
  split <;> simp
@[simp] theorem held_oweRing (s c n) : held (oweRing s c n) = held s := by rfl
@[simp] theorem held_sendRow (s c st j addr d data) : held (sendRow s c st j addr d data) = held s := by
  simp only [sendRow]
  split <;> simp
@[simp] theorem held_markServed (s c cls st cc) : held (markServed s c cls st cc) = held s := by rfl
@[simp] theorem held_lostWrite (s c st nr) : held (lostWrite s c st nr) = held s := by
  simp only [lostWrite]
  split <;> simp
@[simp] theorem held_unpoweredHalt (s c st nr) : held (unpoweredHalt s c st nr) = held s := by simp [unpoweredHalt]
@[simp] theorem held_countMoved (s c d) : held (countMoved s c d) = held s := by rfl
@[simp] theorem held_wakeCore (s n) : held (wakeCore s n) = held s := by simp [wakeCore]
@[simp] theorem held_rowMoved (s c st j d) : held (rowMoved s c st j d) = held s := by rfl
@[simp] theorem held_dropTag (s c st j) : held (dropTag s c st j) = held s := by rfl
@[simp] theorem held_dmRead (s addr e) : held (dmRead s addr e) = held s := by simp [dmRead]

/-! ### Pages (08 R319 to R348) -/

@[simp] theorem held_resumeStream (s c st) : held (resumeStream s c st) = held s := by rfl
@[simp] theorem held_endResolution (s p page reason) : held (endResolution s p page reason) = held s := by simp [endResolution]
@[simp] theorem held_setPte (s page e) : held (setPte s page e) = held s := by rfl
@[simp] theorem held_writePte (s p page state frame) : held (writePte s p page state frame) = held s := by
  simp only [writePte]
  split <;> simp
@[simp] theorem held_refillQueue (k s p) : held (refillQueue k s p) = held s := by
  induction k generalizing s with
  | zero => rfl
  | succ k ih =>
    rw [refillQueue]
    (repeat' split) <;> simp [ih]
@[simp] theorem held_ackPage (s p) : held (ackPage s p) = held s := by simp [ackPage]
@[simp] theorem held_priOver (s p pasid page) : held (priOver s p pasid page) = held s := by simp [priOver]
@[simp] theorem held_failHostPage (s p pasid page reason) : held (failHostPage s p pasid page reason) = held s := by simp [failHostPage]
@[simp] theorem held_keepXlat (s h pasid page frame) : held (keepXlat s h pasid page frame) = held s := by simp [keepXlat]
@[simp] theorem held_grantHostPage (s p pasid page) : held (grantHostPage s p pasid page) = held s := by simp [grantHostPage]
@[simp] theorem held_streamXlat (s h c st p page d result) : held (streamXlat s h c st p page d result) = held s := by
  simp only [streamXlat]
  split <;> simp

/-! ### Messages (09 R359 to R394) -/

@[simp] theorem held_setLaneBuf (s c inp lane rs) : held (setLaneBuf s c inp lane rs) = held s := by rfl
@[simp] theorem held_queueDrop (s f dev reason h) : held (queueDrop s f dev reason h) = held s := by simp [queueDrop]
@[simp] theorem held_arriveRow (s c inp lane r) : held (arriveRow s c inp lane r) = held s := by
  simp only [arriveRow]
  split <;> simp
@[simp] theorem held_sendOnLink (s c link lane r) : held (sendOnLink s c link lane r) = held s := by
  simp only [sendOnLink]
  (repeat' split) <;> simp
@[simp] theorem held_leaveWaiting (s c place) : held (leaveWaiting s c place) = held s := by
  simp only [leaveWaiting]
  split <;> simp
@[simp] theorem held_forwardStatic (s c link) : held (forwardStatic s c link) = held s := by
  simp only [forwardStatic]
  split <;> simp
@[simp] theorem held_forwardLane (s c link lane) : held (forwardLane s c link lane) = held s := by
  simp only [forwardLane]
  split <;> simp
@[simp] theorem held_forwardIngress (s c lane) : held (forwardIngress s c lane) = held s := by
  simp only [forwardIngress]
  split <;> simp
@[simp] theorem held_forwardRow (s c link lane) : held (forwardRow s c link lane) = held s := by simp [forwardRow]
@[simp] theorem held_discardRow (s c reason r) : held (discardRow s c reason r) = held s := by simp [discardRow]
@[simp] theorem held_takeReport (s c reason h) : held (takeReport s c reason h) = held s := by rfl
@[simp] theorem held_afterRow (s n t) : held (afterRow s n t) = held s := by
  simp only [afterRow]
  split <;> simp
@[simp] theorem held_acceptMessage (s c n lcore t r) : held (acceptMessage s c n lcore t r) = held s := by
  simp only [acceptMessage]
  (repeat' split) <;> simp
/-- A row that a queue takes leaves the queue of commands and the memories. -/
theorem held_of_taken {s : State} {c lcore t : Nat} {r : MsgRow} {u : State} (h : queueOffer s c lcore t r = .taken u) : held u = held s := by
  simp only [queueOffer] at h
  (repeat' split at h) <;> cases h <;> simp
@[simp] theorem held_discardAt (s c lcore t reason r) : held (discardAt s c lcore t reason r) = held s := by
  simp only [discardAt]
  split <;> simp
@[simp] theorem held_setCombine (s c i w) : held (setCombine s c i w) = held s := by rfl
@[simp] theorem held_copyToLinks (s c e r) : held (copyToLinks s c e r) = held s := by simp [copyToLinks]
@[simp] theorem held_deliverLocal (s c lcore t r) : held (deliverLocal s c lcore t r) = held s := by
  unfold deliverLocal
  split
  case h_1 taken => exact held_of_taken taken
  all_goals simp
@[simp] theorem held_modRefusing (s c lcore t f) : held (modRefusing s c lcore t f) = held s := by
  simp only [modRefusing]
  split <;> simp
@[simp] theorem held_noteRefusals (s c group e r) : held (noteRefusals s c group e r) = held s := by simp [noteRefusals]
@[simp] theorem held_dropRefusals (s c group e) : held (dropRefusals s c group e) = held s := by simp [dropRefusals]
theorem held_of_followEntry {s : State} {c : Nat} {e : RouteEntry} {r : StaticHead} {t : State} (h : followEntry s c e r = some t) : held t = held s := by
  simp only [followEntry] at h
  split at h <;> cases h
  simp
theorem held_of_enterCombine {s : State} {c i input : Nat} {e : RouteEntry} {r : StaticHead} {t : State}
    (h : enterCombine s c i input e r = some t) : held t = held s := by
  simp only [enterCombine] at h
  (repeat' split at h) <;> cases h <;> simp
theorem held_of_staticStep {s : State} {c input : Nat} {h : StaticHead} {t : State} (e : staticStep s c input h = some t) : held t = held s := by
  simp only [staticStep] at e
  split at e
  · cases e; simp
  · split at e
    · cases e; simp
    · split at e
      · cases e; simp
      · split at e
        · exact held_of_enterCombine e
        · exact held_of_followEntry e
@[simp] theorem held_noteWaiting (s c h) : held (noteWaiting s c h) = held s := by
  simp only [noteWaiting]
  (repeat' split) <;> simp
@[simp] theorem held_forwardFirst (s c input hs) : held (forwardFirst s c input hs) = held s := by
  induction hs generalizing s with
  | nil => rfl
  | cons h rest ih =>
    rw [forwardFirst]
    split
    · next e => exact held_of_staticStep e
    · simp [ih]
theorem held_of_ejectOne {s : State} {c lcore : Nat} {h : EjectHead} {t : State} (e : ejectOne s c lcore h = some t) : held t = held s := by
  unfold ejectOne at e
  split at e
  · exact held_of_staticStep e
  · dsimp only at e
    split at e <;> cases e
    · next taken => simpa using held_of_taken taken
    all_goals simp
@[simp] theorem held_ejectFirst (s c lcore hs) : held (ejectFirst s c lcore hs) = held s := by
  induction hs with
  | nil => rfl
  | cons h rest ih =>
    rw [ejectFirst]
    split
    · next e => exact held_of_ejectOne e
    · exact ih
@[simp] theorem held_discardHeld (s c i) : held (discardHeld s c i) = held s := by simp [discardHeld]
@[simp] theorem held_stopCombine (s c i code group) : held (stopCombine s c i code group) = held s := by simp [stopCombine]
theorem held_of_sendCombined {s : State} {c : Nat} {e : RouteEntry} {r : MsgRow} {t : State} (h : sendCombined s c e r = some t) : held t = held s := by
  simp only [sendCombined] at h
  split at h
  · cases h
  · split at h
    · split at h <;> cases h
      · next taken => simpa using held_of_taken taken
      all_goals simp
    · cases h; simp
@[simp] theorem held_fenceMember (s n group) : held (fenceMember s n group) = held s := by simp [fenceMember]

/-! ### Gatherers and rings (10; 15 R583 to R597) -/

theorem held_of_acceptRow {s : State} {c ch : Nat} {ref : W32} {seq : W64} {row : Row} {t : State} (h : acceptRow s c ch ref seq row = some t) : held t = held s := by
  simp only [acceptRow] at h
  split at h
  · cases h
  · split at h
    · cases h
    · cases h; simp
@[simp] theorem held_deliverRows (s r rows) : held (deliverRows s r rows) = held s := by
  induction rows generalizing s with
  | nil => rfl
  | cons row rest ih =>
    rw [deliverRows]
    split
    · rfl
    · next e => rw [ih, held_setRing, held_of_acceptRow e]
@[simp] theorem held_askRing (s h r page post) : held (askRing s h r page post) = held s := by simp [askRing]
@[simp] theorem held_pollReads (s h r a) : held (pollReads s h r a) = held s := by simp [pollReads]
@[simp] theorem held_pollEntries (s h r a rd) : held (pollEntries s h r a rd) = held s := by
  simp only [pollEntries]
  split <;> simp
@[simp] theorem held_pollRing (s p r rd) : held (pollRing s p r rd) = held s := by
  simp only [pollRing]
  (repeat' split) <;> simp
@[simp] theorem held_pollAll (s p reads) : held (pollAll s p reads) = held s := by
  refine held_foldl _ _ _ fun a c => held_foldl _ _ _ fun b ch => ?_
  split <;> simp
@[simp] theorem held_wakeForRows (s c rows) : held (wakeForRows s c rows) = held s := by simp [wakeForRows]
@[simp] theorem held_countRelease (s c ch p flush) : held (countRelease s c ch p flush) = held s := by simp [countRelease]
theorem held_of_writeRingCtl {s : State} {r : Nat} {data : W32} {t : State} (h : writeRingCtl s r data = some t) : held t = held s := by
  simp only [writeRingCtl] at h
  (repeat' split at h) <;> cases h <;> simp
@[simp] theorem held_logTimeout (s h) : held (logTimeout s h) = held s := by simp [logTimeout]

/-! ### The saved state (11 R452 to R462) -/

@[simp] theorem held_countSaved (s p) : held (countSaved s p) = held s := by simp [countSaved]

/-! ### Pause, freeze, save and restore (11 R446 to R457) -/

@[simp] theorem held_detEnd (s p code) : held (detEnd s p code) = held s := by simp [detEnd]
@[simp] theorem held_detNow (s p phases) (act : State → State) (h : ∀ t, held (act t) = held t) : held (detNow s p phases act) = held s := by
  simp [detNow, h]
@[simp] theorem held_setPhase (s p phase) : held (setPhase s p phase) = held s := by rfl
@[simp] theorem held_restartBatches (s p) : held (restartBatches s p) = held s := by simp [restartBatches]
@[simp] theorem held_continuePart (s p) : held (continuePart s p) = held s := by simp [continuePart]
@[simp] theorem held_extendDeadlines (s c began now) : held (extendDeadlines s c began now) = held s := by
  refine (held_foldl _ _ _ fun a n => ?_).trans (held_modClus ..)
  split <;> simp
@[simp] theorem held_settleStops (s p extend) : held (settleStops s p extend) = held s := by
  refine (held_modPart ..).trans (held_foldl _ _ _ fun a c => ?_)
  split <;> simp
@[simp] theorem held_freezePart (s p) : held (freezePart s p) = held s := by simp [freezePart]
@[simp] theorem held_thawPart (s p) : held (thawPart s p) = held s := by simp [thawPart]
@[simp] theorem held_beginRows (s p phase rows) : held (beginRows s p phase rows) = held s := by rfl
@[simp] theorem held_endRows (s p phase code) : held (endRows s p phase code) = held s := by simp [endRows]
@[simp] theorem held_savePart (s p) : held (savePart s p) = held s := by simp [savePart]
@[simp] theorem held_dumpPart (s p) : held (dumpPart s p) = held s := by simp [dumpPart]
@[simp] theorem held_restorePart (s p) : held (restorePart s p) = held s := by simp [restorePart]

/-! ### The measurement log (16 R645 to R647) -/

@[simp] theorem held_logAppend (s index digest ident) : held (logAppend s index digest ident) = held s := by rfl
@[simp] theorem held_measure (s index digest ident) : held (measure s index digest ident) = held s := by rfl
@[simp] theorem held_remeasure (s index digest ident) : held (remeasure s index digest ident) = held s := by simp [remeasure]

/-! ### Flash writes (16 R622 to R650) -/

@[simp] theorem held_modBrz (s f) : held (modBrz s f) = held s := by rfl
@[simp] theorem held_answer (s command status data) : held (answer s command status data) = held s := by rfl
@[simp] theorem held_eraseSpare (s t) : held (eraseSpare s t) = held s := by rfl
@[simp] theorem held_programSpare (s t v) : held (programSpare s t v) = held s := by rfl
@[simp] theorem held_beginWrite (s) : held (beginWrite s) = held s := by
  simp only [beginWrite]
  (repeat' split) <;> simp
@[simp] theorem held_queueWrite (s w) : held (queueWrite s w) = held s := by simp [queueWrite]
@[simp] theorem held_endWrite (s) : held (endWrite s) = held s := by simp [endWrite]
@[simp] theorem held_commitRecord (s t v) : held (commitRecord s t v) = held s := by
  simp only [commitRecord]
  split <;> simp
@[simp] theorem held_replyWrite (s w status) : held (replyWrite s w status) = held s := by
  simp only [replyWrite]
  split <;> simp
@[simp] theorem held_abandonWrite (s w) : held (abandonWrite s w) = held s := by simp [abandonWrite]
@[simp] theorem held_endUpdate (s u ok) : held (endUpdate s u ok) = held s := by simp [endUpdate]
@[simp] theorem held_updateRead (s) : held (updateRead s) = held s := by
  simp only [updateRead]
  split <;> simp
@[simp] theorem held_finishWrite (s w) : held (finishWrite s w) = held s := by
  simp only [finishWrite]
  split <;> simp
@[simp] theorem held_mismatch (s w) : held (mismatch s w) = held s := by simp [mismatch]

/-! ### Fabric ports (12 R465 to R498) -/

@[simp] theorem held_modFab (s f g) : held (modFab s f g) = held s := by rfl
@[simp] theorem held_setPeer (s f dev p) : held (setPeer s f dev p) = held s := by rfl
@[simp] theorem held_fabFault (s f code dev detail) : held (fabFault s f code dev detail) = held s := by
  simp only [fabFault]
  split <;> simp
@[simp] theorem held_enterIngress (s f p c r) : held (enterIngress s f p c r) = held s := by rfl
@[simp] theorem held_reportDrop (s f reason h) : held (reportDrop s f reason h) = held s := by
  simp only [reportDrop]
  split <;> simp
@[simp] theorem held_dropAtPort (s f reason h) : held (dropAtPort s f reason h) = held s := by simp [dropAtPort]
@[simp] theorem held_fencePeer (s f dev) : held (fencePeer s f dev) = held s := by simp [fencePeer]
@[simp] theorem held_fenceFaulted (s f dev) : held (fenceFaulted s f dev) = held s := by simp [fenceFaulted]
@[simp] theorem held_usePn (s f) : held (usePn s f) = held s := by
  simp only [usePn]
  (repeat' split) <;> simp
theorem held_of_transmit {s : State} {f dev : Nat} {fr : Frame} {t : State} (h : transmit s f dev fr = some t) : held t = held s := by
  simp only [transmit] at h
  (repeat' split at h) <;> cases h <;> simp
@[simp] theorem held_pumpData (k s f flow) : held (pumpData k s f flow) = held s := by
  induction k generalizing s with
  | zero => rfl
  | succ k ih =>
    rw [pumpData]
    split
    · rfl
    · dsimp only
      split
      · rfl
      · next e => rw [ih, held_modFab, held_setPeer, held_of_transmit e]
@[simp] theorem held_pumpRetry (k s f flow) : held (pumpRetry k s f flow) = held s := by
  induction k generalizing s with
  | zero => rfl
  | succ k ih =>
    rw [pumpRetry]
    split
    · rfl
    · dsimp only
      split
      · rfl
      · next e => rw [ih, held_modFab, held_setPeer, held_of_transmit e]
@[simp] theorem held_sendControl (s f dev fr) : held (sendControl s f dev fr) = held s := by
  simp only [sendControl]
  split
  · simp
  · split
    · rfl
    · next e => rw [held_setPeer, held_of_transmit e]
@[simp] theorem held_pumpControl (opening s f flow) : held (pumpControl opening s f flow) = held s := by simp [pumpControl]
@[simp] theorem held_pumpPtp (k s f) : held (pumpPtp k s f) = held s := by
  induction k generalizing s with
  | zero => rfl
  | succ k ih =>
    simp only [pumpPtp]
    (repeat' split) <;> simp [ih]
@[simp] theorem held_pumpWith (opening s f) : held (pumpWith opening s f) = held s := by
  simp only [pumpWith]
  (repeat' split) <;> simp
@[simp] theorem held_pumpWindow (s f) : held (pumpWindow s f) = held s := by simp [pumpWindow]
@[simp] theorem held_dropLink (s f) : held (dropLink s f) = held s := by rfl
@[simp] theorem held_markDue (s f dev due) : held (markDue s f dev due) = held s := by simp [markDue]
@[simp] theorem held_takeAck (s f dev fr) : held (takeAck s f dev fr) = held s := by simp [takeAck]
@[simp] theorem held_ageFrames (s f dev timeout) : held (ageFrames s f dev timeout) = held s := by simp [ageFrames]
@[simp] theorem held_discardFrame (s f) : held (discardFrame s f) = held s := by rfl
@[simp] theorem held_sequenceFrame (s f dev fr) : held (sequenceFrame s f dev fr) = held s := by simp [sequenceFrame]
@[simp] theorem held_badFrame (s f) : held (badFrame s f) = held s := by rfl
@[simp] theorem held_countCorrected (s f n) : held (countCorrected s f n) = held s := by rfl
@[simp] theorem held_takeSync (s f dev fr) : held (takeSync s f dev fr) = held s := by simp [takeSync]
@[simp] theorem held_advanceRx (s f dev) : held (advanceRx s f dev) = held s := by rfl
@[simp] theorem held_pumpAfter (s c link) : held (pumpAfter s c link) = held s := by simp [pumpAfter]

/-! ### T and C resets (17 R669 to R673) -/

@[simp] theorem held_offRings (s c) : held (offRings s c) = held s := by rfl
@[simp] theorem held_resetCluster (t s c) : held (resetCluster t s c) = held s := by
  simp only [resetCluster, held_offRings, held_modClus]
  exact held_foldl _ _ _ fun a n => by simp
@[simp] theorem held_resetGroups (s p) : held (resetGroups s p) = held s := by rfl
@[simp] theorem held_goPlan (s p) : held (goPlan s p) = held s := by rfl
@[simp] theorem held_returnSteps (s p) : held (returnSteps s p) = held s := by simp [returnSteps]
@[simp] theorem held_resetPartition (s p) : held (resetPartition s p) = held s := by simp [resetPartition]

/-! ### Partition commands (17 R663 to R670) -/

@[simp] theorem held_partEnd (s p code) : held (partEnd s p code) = held s := by rfl
@[simp] theorem held_openGroups (s p) : held (openGroups s p) = held s := by rfl
@[simp] theorem held_wakePart (s p) : held (wakePart s p) = held s := by simp [wakePart]
@[simp] theorem held_startPart (s p) : held (startPart s p) = held s := by simp [startPart]
@[simp] theorem held_startCmd (s p) : held (startCmd s p) = held s := by simp [startCmd]
@[simp] theorem held_stopPart (s p) : held (stopPart s p) = held s := by simp [stopPart]
@[simp] theorem held_stopCmd (s p) : held (stopCmd s p) = held s := by simp [stopCmd]
@[simp] theorem held_clearUnits (s c) : held (clearUnits s c) = held s := by
  simp only [clearUnits]
  split <;> simp
@[simp] theorem held_clearDevice (s code) : held (clearDevice s code) = held s := by simp [clearDevice]
@[simp] theorem held_clearCluster (s c code) : held (clearCluster s c code) = held s := by simp [clearCluster]

/-! ### Time and frequency (14) -/

@[simp] theorem held_modTime (s f) : held (modTime s f) = held s := by rfl
@[simp] theorem held_timeFault (s code index detail) : held (timeFault s code index detail) = held s := by simp [timeFault]
@[simp] theorem held_settlePps (s) : held (settlePps s) = held s := by simp [settlePps]
@[simp] theorem held_seedSessions (s) : held (seedSessions s) = held s := held_foldl _ _ _ fun a f => held_modFab a f _
@[simp] theorem held_trustTime (s) : held (trustTime s) = held s := by simp [trustTime]
@[simp] theorem held_checkTrust (s) : held (checkTrust s) = held s := by simp [checkTrust]
@[simp] theorem held_untrustTime (s) : held (untrustTime s) = held s := by simp [untrustTime]
@[simp] theorem held_stepTime (s off) : held (stepTime s off) = held s := by rfl
@[simp] theorem held_takeSyncMessage (s off) : held (takeSyncMessage s off) = held s := by simp [takeSyncMessage]
@[simp] theorem held_markSlave (s slave) : held (markSlave s slave) = held s := held_foldl _ _ _ fun a f => held_modFab a f _
@[simp] theorem held_setSlave (s slave) : held (setSlave s slave) = held s := by simp [setSlave]
@[simp] theorem held_linkFails (s f) : held (linkFails s f) = held s := by simp [linkFails]
@[simp] theorem held_takeAdminDown (s f) : held (takeAdminDown s f) = held s := by simp [takeAdminDown]
@[simp] theorem held_holdOver (s) : held (holdOver s) = held s := held_foldl _ _ _ fun a c => held_modClus a c _
@[simp] theorem held_recallPri (s h) : held (recallPri s h) = held s := held_foldl _ _ _ fun a p => by simp
@[simp] theorem held_startHold (s h) : held (startHold s h) = held s := by simp [startHold]
@[simp] theorem held_loseHostRef (s h) : held (loseHostRef s h) = held s := by simp [loseHostRef]
@[simp] theorem held_releaseImmediate (s p) : held (releaseImmediate s p) = held s := by
  simp only [releaseImmediate]
  split <;> simp
@[simp] theorem held_freqCalm (s p target) : held (freqCalm s p target) = held s := by simp [freqCalm]
@[simp] theorem held_freqImmediate (s p target) : held (freqImmediate s p target) = held s := by simp [freqImmediate]
@[simp] theorem held_countPauses (s ps) : held (countPauses s ps) = held s := by simp [countPauses]
@[simp] theorem held_gatePart (s p) : held (gatePart s p) = held s := by simp [gatePart]
@[simp] theorem held_gateCluster (s c) : held (gateCluster s c) = held s := by simp [gateCluster]
@[simp] theorem held_throttleCluster (s c) : held (throttleCluster s c) = held s := by
  simp only [throttleCluster]
  split <;> simp
@[simp] theorem held_unthrottleCluster (s c) : held (unthrottleCluster s c) = held s := by rfl
@[simp] theorem held_takeThrottleWait (s c) : held (takeThrottleWait s c) = held s := by
  simp only [takeThrottleWait]
  split <;> simp
@[simp] theorem held_resumeDeadlines (s since c) : held (resumeDeadlines s since c) = held s := by simp [resumeDeadlines]
@[simp] theorem held_restartClocks (s p target) : held (restartClocks s p target) = held s := by simp [restartClocks]
@[simp] theorem held_restartCluster (s c down since) : held (restartCluster s c down since) = held s := by simp [restartCluster]
@[simp] theorem held_tick (s) : held (tick s) = held s := by simp [tick]

/-! ### The apply of an image (02 R57 to R63) -/

@[simp] theorem held_loadCluster (ld p s c) : held (loadCluster ld p s c) = held s :=
  (held_foldl _ _ _ fun a n => held_modCore a n _).trans (held_modClus ..)
@[simp] theorem held_becalm (s c) : held (becalm s c) = held s := by
  refine (held_foldl _ _ _ fun a n => held_modCore a n _).trans ?_
  rw [held_modClus, held_resetCluster]
@[simp] theorem held_loadGroups (s p) : held (loadGroups s p) = held s := by rfl
@[simp] theorem held_loadPartition (s p) : held (loadPartition s p) = held s := by simp [loadPartition]
@[simp] theorem held_loadLinks (rs s) : held (loadLinks rs s) = held s := held_foldl _ _ _ fun a c => held_modClus a c _
@[simp] theorem held_loadFabric (rs s) : held (loadFabric rs s) = held s :=
  (held_foldl _ _ _ fun a f => held_setFab a f _).trans (held_with s ..)
@[simp] theorem held_loadMap (e s) : held (loadMap e s) = held s := held_foldl _ _ _ fun a p => held_modPart a p _
@[simp] theorem held_loadDevice (e s) : held (loadDevice e s) = held s := by simp [loadDevice]
@[simp] theorem held_logImage (e s) : held (logImage e s) = held s := by simp [logImage]

/-! ### The image loader (02 R65 to R77) -/

@[simp] theorem held_modImg (s part f) : held (modImg s part f) = held s := by
  simp only [modImg]
  split <;> simp
@[simp] theorem held_loadVecEvent (s part verify) : held (loadVecEvent s part verify) = held s := by
  simp only [loadVecEvent]
  (repeat' split) <;> simp
@[simp] theorem held_loadEnd (s part verify autoload f) : held (loadEnd s part verify autoload f) = held s := by simp [loadEnd]
@[simp] theorem held_takeLoad (s part verify copying autoload len) : held (takeLoad s part verify copying autoload len) = held s := by
  simp only [takeLoad]
  split <;> simp
@[simp] theorem held_takeDefault (s verify autoload) : held (takeDefault s verify autoload) = held s := by
  simp only [takeDefault]
  split <;> simp
@[simp] theorem held_beginApply (s r) : held (beginApply s r) = held s := by simp [beginApply]
@[simp] theorem held_checksEnd (s r) : held (checksEnd s r) = held s := by
  simp only [checksEnd]
  split <;> simp
@[simp] theorem held_setImageIds (s part id) : held (setImageIds s part id) = held s := by
  simp only [setImageIds]
  split <;> simp
@[simp] theorem held_failPartition (s covered code p) : held (failPartition s covered code p) = held s := by simp [failPartition]
@[simp] theorem held_failMap (e s) : held (failMap e s) = held s := by simp [failMap]
@[simp] theorem held_failDevice (s covered code parts) : held (failDevice s covered code parts) = held s := by
  simp only [failDevice]
  split <;> simp

/-! ### The boot (16 R627 to R641) -/

@[simp] theorem held_setBstate (s v) : held (setBstate s v) = held s := by simp [setBstate]
@[simp] theorem held_bootLine (s kind v) : held (bootLine s kind v) = held s := by rfl
@[simp] theorem held_atStage (s n) : held (atStage s n) = held s := by rfl
@[simp] theorem held_bootCode (s code) : held (bootCode s code) = held s := by rfl
@[simp] theorem held_failStage (s code bstate) : held (failStage s code bstate) = held s := by simp [failStage]
/-- A stage of the boot after those before it. -/
theorem held_thenStage (x f) (h : ∀ s, held (f s).1 = held s) : held (thenStage x f).1 = held x.1 := by
  unfold thenStage
  split
  · exact h _
  · rfl
@[simp] theorem held_stage1 (s) : held (stage1 s).1 = held s := by
  simp only [stage1]
  split <;> simp
@[simp] theorem held_stage2 (env s) : held (stage2 env s).1 = held s := by
  simp only [stage2]
  split <;> simp
@[simp] theorem held_runBreeze (s v) : held (runBreeze s v) = held s := by simp [runBreeze]
@[simp] theorem held_stage3 (s) : held (stage3 s).1 = held s := by
  simp only [stage3]
  (repeat' split) <;> simp
@[simp] theorem held_measureGrade (s) : held (measureGrade s) = held s := by
  simp only [measureGrade]
  split <;> simp
@[simp] theorem held_setGrade (s) : held (setGrade s) = held s := by
  simp only [setGrade]
  split <;> simp
@[simp] theorem held_takeGrade (s) : held (takeGrade s) = held s := by simp [takeGrade]
@[simp] theorem held_stage4 (s) : held (stage4 s).1 = held s := by
  simp only [stage4]
  (repeat' split) <;> simp
@[simp] theorem held_reportPair (s p) : held (reportPair s p) = held s := by simp [reportPair]
@[simp] theorem held_measureCompat (s waived) : held (measureCompat s waived) = held s := by simp [measureCompat]
@[simp] theorem held_stage5 (s) : held (stage5 s).1 = held s := by
  simp only [stage5]
  (repeat' split) <;> simp
@[simp] theorem held_stage6 (env s) : held (stage6 env s) = held s := by simp [stage6]
@[simp] theorem held_testCluster (found s c) : held (testCluster found s c) = held s := by simp [testCluster]
@[simp] theorem held_stage7 (found s) : held (stage7 found s) = held s := by
  simp only [stage7]
  split <;> simp
@[simp] theorem held_stage8 (s) : held (stage8 s) = held s := by simp [stage8]
@[simp] theorem held_stage9 (s) : held (stage9 s) = held s := by simp [stage9]
@[simp] theorem held_bootMain (env s) : held (bootMain env s) = held s := by simp [bootMain]
@[simp] theorem held_bootOn (s) : held (bootOn s) = held s := by
  simp only [bootOn]
  split <;> simp
@[simp] theorem held_bootBreeze (env s) : held (bootBreeze env s).1 = held s := by
  simp [bootBreeze, held_thenStage]
@[simp] theorem held_bootAll (env s) : held (bootAll env s) = held s := by simp [bootAll]

/-! ### Power and resets (19 R709 to R729) -/

@[simp] theorem held_beginThrottle (s c) : held (beginThrottle s c) = held s := by simp [beginThrottle]
@[simp] theorem held_endThrottle (s c) : held (endThrottle s c) = held s := by simp [endThrottle]
@[simp] theorem held_clusterReading (s c v) : held (clusterReading s c v) = held s := by
  simp only [clusterReading]
  (repeat' split) <;> simp
@[simp] theorem held_tripPart (s p) : held (tripPart s p) = held s := by simp [tripPart]
@[simp] theorem held_trip (s) : held (trip s) = held s := by simp [trip]
@[simp] theorem held_releaseTrip (s) : held (releaseTrip s) = held s := by rfl
@[simp] theorem held_hotReading (s sensor v) : held (hotReading s sensor v) = held s := by simp [hotReading]
@[simp] theorem held_forgetImages (s) : held (forgetImages s) = held s := held_foldl _ _ _ fun a i => held_remeasure a i 0 0
@[simp] theorem held_seedIfTrusted (s) : held (seedIfTrusted s) = held s := by simp [seedIfTrusted]
@[simp] theorem held_regrade (s) : held (regrade s) = held s := by simp [regrade]
@[simp] theorem held_bootFromF (env s) : held (bootFromF env s) = held s := by simp [bootFromF]
@[simp] theorem held_restartLog (s) : held (restartLog s) = held s := by simp [restartLog]
@[simp] theorem held_runAgain (s) : held (runAgain s) = held s := by simp [runAgain]
@[simp] theorem held_mResetRunning (s env) : held (mResetRunning s env) = held s := by simp [mResetRunning]
@[simp] theorem held_mResetDown (s env) : held (mResetDown s env) = held s := by simp [mResetDown]
@[simp] theorem held_timeOnReturn (s env) : held (timeOnReturn s env) = held s := by simp [timeOnReturn]

/-! ### Management (16 R611 to R657) -/

@[simp] theorem held_freeAnswer (s via command head) : held (freeAnswer s via command head) = held s := by rfl
@[simp] theorem held_numericReading (s n) : held (numericReading s n) = held s := by
  simp only [numericReading]
  (repeat' split) <;> simp
@[simp] theorem held_addData (s u data) : held (addData s u data) = held s := by simp [addData]
@[simp] theorem held_changeSettings (s code c) : held (changeSettings s code c) = held s := by simp [changeSettings]
@[simp] theorem held_moveVector (p old new s v) : held (moveVector p old new s v) = held s := by
  simp only [moveVector]
  split <;> simp

/-! ### Attestation (16 R643 to R645) -/

@[simp] theorem held_setConn (s conn x) : held (setConn s conn x) = held s := by rfl
@[simp] theorem held_spdmError (s conn code err) : held (spdmError s conn code err) = held s := by rfl

/-! ### Host ports (15 R574 to R605) -/

@[simp] theorem held_setVec (s h v x) : held (setVec s h v x) = held s := by simp [setVec]
@[simp] theorem held_sendMsix (s h v x) : held (sendMsix s h v x) = held s := by simp [sendMsix]
@[simp] theorem held_unmask (s h vector) : held (unmask s h vector) = held s := by simp [unmask]
@[simp] theorem held_writeBar4 (s h o data enables) : held (writeBar4 s h o data enables) = held s := by
  simp only [writeBar4]
  (repeat' split) <;> simp
@[simp] theorem held_refuseBar2 (s h a) : held (refuseBar2 s h a) = held s := by simp [refuseBar2]
@[simp] theorem held_dmReadRange (s a n ecc0 ecc1) : held (dmReadRange s a n ecc0 ecc1) = held s := by simp [dmReadRange]
@[simp] theorem held_hReset (s h cause) : held (hReset s h cause) = held s := by simp [hReset]
@[simp] theorem held_reissueStream (h c s st) : held (reissueStream h c s st) = held s := by
  simp only [reissueStream]
  (repeat' split) <;> simp
@[simp] theorem held_reissueRing (h s r) : held (reissueRing h s r) = held s := by
  simp only [reissueRing]
  split <;> simp
@[simp] theorem held_reopen (s h) : held (reopen s h) = held s := by simp [reopen]
@[simp] theorem held_reissueAll (s h) : held (reissueAll s h) = held s := by
  refine (held_reopen ..).trans (held_foldl _ _ _ fun a p => held_foldl _ _ _ fun b c => ?_)
  exact (held_foldl _ _ _ fun e ch => held_reissueRing h e _).trans (held_foldl _ _ _ (held_reissueStream h c))
@[simp] theorem held_dropPri (s c st) : held (dropPri s c st) = held s := by
  simp only [dropPri]
  split <;> simp
@[simp] theorem held_failWaiting (c s st) : held (failWaiting c s st) = held s := by simp [failWaiting]
@[simp] theorem held_failHeldRing (s r) : held (failHeldRing s r) = held s := by simp [failHeldRing]
@[simp] theorem held_failHeld (s h) : held (failHeld s h) = held s := by
  refine held_foldl _ _ _ fun a p => (held_calmCheck ..).trans (held_foldl _ _ _ fun b c => ?_)
  simp

/-! ### The TAP (21 R757 to R761) -/

@[simp] theorem held_modTap (s f) : held (modTap s f) = held s := by rfl
@[simp] theorem held_loadTap (s i) : held (loadTap s i) = held s := by rfl
@[simp] theorem held_tapPins (i pins s) : held (tapPins i pins s) = held s := by simp [tapPins]
@[simp] theorem held_enterChallenge (s code) : held (enterChallenge s code) = held s := by simp [enterChallenge]

/-! ### Drain offers (04 R169) -/

@[simp] theorem held_offerRow (s n port) : held (offerRow s n port) = held s := by
  simp only [offerRow]
  split <;> simp

/-! ### Registers (20 R731 to R737) -/

@[simp] theorem held_imgCmdAct (part data s) : held (imgCmdAct part data s) = held s := by simp [imgCmdAct]
@[simp] theorem held_detOp (p op s) : held (detOp p op s) = held s := by
  unfold detOp
  split <;> simp
@[simp] theorem held_modDet (s p f) : held (modDet s p f) = held s := by rfl
@[simp] theorem held_modTwin (s p f) : held (modTwin s p f) = held s := by rfl
@[simp] theorem held_modPf (s p f) : held (modPf s p f) = held s := by rfl
@[simp] theorem held_writeFreeRun (s on) : held (writeFreeRun s on) = held s := by simp [writeFreeRun]
@[simp] theorem held_writeAdminDown (s f down) : held (writeAdminDown s f down) = held s := by simp [writeAdminDown]
@[simp] theorem held_readReg (s h o) : held (readReg s h o).2 = held s := by
  simp only [readReg]
  (repeat' split) <;> simp
@[simp] theorem held_readRegs (s h o k) : held (readRegs s h o k).2 = held s := by
  induction k generalizing s o with
  | zero => rfl
  | succ k ih => simp [readRegs, ih]
@[simp] theorem held_bar4Read (s h o n) : held (bar4Read s h o n).2 = held s := by rfl
@[simp] theorem held_readBoth (s h o) : held (readBoth s h o).2 = held s := by rfl

end Sys2Proof.Machine

/-! # What the operations that write memories keep -/

namespace Sys2Proof.Machine

/-! ## What a write keeps -/

/-- The three memories have their canonical form. -/
def Held.ok (x : Held) : Prop := x.sp.wf ∧ x.cm.wf ∧ x.dm.wf

/-- The queue stays as it is, and the memories keep their canonical form. -/
structure Keeps (x y : Held) : Prop where
  queue : y.queue = x.queue
  ok : x.ok → y.ok

/-- Scratchpads alone may have changed: the queue, the cluster memories and device memory stay as they are, and the scratchpads keep their canonical form. -/
structure KeepsFar (x y : Held) : Prop where
  queue : y.queue = x.queue
  cm : y.cm = x.cm
  dm : y.dm = x.dm
  sp : x.sp.wf → y.sp.wf

@[simp] theorem Keeps.refl (x : Held) : Keeps x x := ⟨rfl, id⟩
theorem Keeps.trans {x y z : Held} (a : Keeps x y) (b : Keeps y z) : Keeps x z := ⟨b.queue.trans a.queue, b.ok ∘ a.ok⟩
@[simp] theorem KeepsFar.refl (x : Held) : KeepsFar x x := ⟨rfl, rfl, rfl, id⟩
theorem KeepsFar.trans {x y z : Held} (a : KeepsFar x y) (b : KeepsFar y z) : KeepsFar x z :=
  ⟨b.queue.trans a.queue, b.cm.trans a.cm, b.dm.trans a.dm, b.sp ∘ a.sp⟩
theorem KeepsFar.keeps {x y : Held} (a : KeepsFar x y) : Keeps x y :=
  ⟨a.queue, fun ⟨sp, cm, dm⟩ => ⟨a.sp sp, a.cm.symm ▸ cm, a.dm.symm ▸ dm⟩⟩

@[simp] theorem keeps_ite {c : Prop} [Decidable c] {x y z : Held} (a : Keeps x y) (b : Keeps x z) : Keeps x (if c then y else z) := by
  split <;> assumption
@[simp] theorem far_ite {c : Prop} [Decidable c] {x y z : Held} (a : KeepsFar x y) (b : KeepsFar x z) : KeepsFar x (if c then y else z) := by
  split <;> assumption
theorem keeps_foldl {α : Type} (l : List α) (f : State → α → State) (s : State) (h : ∀ t a, Keeps (held t) (held (f t a))) :
    Keeps (held s) (held (l.foldl f s)) := by
  induction l generalizing s with
  | nil => exact .refl _
  | cons a l ih => exact (h s a).trans (ih _)
theorem far_foldl {α : Type} (l : List α) (f : State → α → State) (s : State) (h : ∀ t a, KeepsFar (held t) (held (f t a))) :
    KeepsFar (held s) (held (l.foldl f s)) := by
  induction l generalizing s with
  | nil => exact .refl _
  | cons a l ih => exact (h s a).trans (ih _)

/-- A step that keeps what is held keeps the canonical form of the memories. -/
theorem Keeps.memOk {s t : State} (h : Keeps (held s) (held t)) (ok : s.memOk) : t.memOk := h.ok ok

/-! ## Rows of the scratchpads (07 R242, R276) -/

@[simp] theorem far_setSpRow (s n row v) : KeepsFar (held s) (held (setSpRow s n row v)) := ⟨rfl, rfl, rfl, writeRow_wf _ _ _⟩
theorem far_strikeSp (s n row e) : KeepsFar (held s) (held (strikeSp s n row e)) := by simp [strikeSp]
theorem far_strikes (s n es) : KeepsFar (held s) (held (strikes s n es)) := far_foldl _ _ _ fun t _ => far_strikeSp t n _ _
theorem far_writeSp (s n row v by_ produce) : KeepsFar (held s) (held (writeSp s n row v by_ produce)) := by
  unfold writeSp
  dsimp only
  split <;> simp
theorem far_elasticWriteSp (s n row v p produce) : KeepsFar (held s) (held (elasticWriteSp s n row v p produce)) := by
  simp only [elasticWriteSp]
  (repeat' split) <;> simp [far_writeSp]
theorem far_wipeSp (s n b) : KeepsFar (held s) (held (wipeSp s n b)) := ⟨rfl, rfl, rfl, filter_wf _ _⟩
theorem far_restoreSp (s n rows) : KeepsFar (held s) (held (restoreSp s n rows)) := far_foldl _ _ _ fun t i => far_setSpRow t n i _

/-! ## The cc of a core (03 R81, R85, R102, R105) -/

theorem far_progWrite (s n row v f produce) : KeepsFar (held s) (held (progWrite s n row v f produce)) := by
  simp [progWrite, far_writeSp]
theorem far_landFlight (s n f) : KeepsFar (held s) (held (landFlight s n f)) := by
  unfold landFlight
  split
  case h_7 =>
    dsimp only
    split <;> simp [far_progWrite]
  all_goals simp [far_progWrite]
theorem far_advance (s n) : KeepsFar (held s) (held (advance s n)) := by
  simp only [advance, held_modCore]
  exact .trans (by simp) (far_foldl _ _ _ fun t f => far_landFlight t n f)
theorem far_drainStage (s n) : KeepsFar (held s) (held (drainStage s n)) := by
  simpa [drainStage] using far_advance (runElastic s n) n
theorem far_drainCc (s n) : KeepsFar (held s) (held (drainCc s n)) := by
  simp [drainCc, far_drainStage]
theorem far_calmCc (s n w) : KeepsFar (held s) (held (calmCc s n w)) := by
  simp only [calmCc, held_endCc]
  exact .trans (by simp) (far_advance _ n)
theorem far_lullCc (s n) : KeepsFar (held s) (held (lullCc s n)) := by
  simp only [lullCc]
  split <;> simp [far_calmCc]
theorem far_issueWord (s i w) : KeepsFar (held s) (held (issueWord s i w)) := by
  simp only [issueWord, held_afterCtl, held_modCore, held_endCc]
  exact .trans (by simp) (far_advance _ i.n)
theorem far_evaluate (s n) : KeepsFar (held s) (held (evaluate s n)) := by
  simp only [evaluate]
  (repeat' split) <;> simp [far_issueWord]
theorem far_spendCc (s n) : KeepsFar (held s) (held (spendCc s n)) := by
  simp only [spendCc]
  (repeat' split) <;> simp [far_drainCc, far_lullCc, far_calmCc, far_evaluate]
theorem far_coreCc (s n) : KeepsFar (held s) (held (coreCc s n)) := by
  simpa [coreCc] using far_spendCc (startCc s n) n
theorem far_drainCore (k s n) : KeepsFar (held s) (held (drainCore k s n)) := by
  induction k generalizing s with
  | zero => exact .refl _
  | succ k ih =>
    rw [drainCore]
    split
    · exact .refl _
    · exact (far_drainStage s n).trans (ih _)

/-! ## Rows of the cluster memories (07 R242, R251, R252, R276) -/

@[simp] theorem keeps_setCmRow (s c row v) : Keeps (held s) (held (setCmRow s c row v)) := ⟨rfl, fun ⟨sp, cm, dm⟩ => ⟨sp, writeRow_wf _ _ _ cm, dm⟩⟩
theorem keeps_strikeCm (s c row e) : Keeps (held s) (held (strikeCm s c row e)) := by simp [strikeCm]
theorem keeps_writeCm (s c row v p produce) : Keeps (held s) (held (writeCm s c row v p produce)) := by
  simp only [writeCm]
  (repeat' split) <;> simp
theorem keeps_wipeCm (s c b) : Keeps (held s) (held (wipeCm s c b)) := ⟨rfl, fun ⟨sp, cm, dm⟩ => ⟨sp, filter_wf _ _ cm, dm⟩⟩

theorem keeps_runCmrd (s n num src dst ecc) : Keeps (held s) (held (runCmrd s n num src dst ecc)) := by
  unfold runCmrd
  dsimp only
  (repeat' split) <;> simp [keeps_strikeCm]
theorem keeps_runCmwr (s n num dst v) : Keeps (held s) (held (runCmwr s n num dst v)) := by
  unfold runCmwr
  dsimp only
  split <;> simp [keeps_writeCm]
theorem keeps_runCmcnt (s n num row mask inc wrap ev ecc) : Keeps (held s) (held (runCmcnt s n num row mask inc wrap ev ecc)) := by
  simp only [runCmcnt, held_ite, held_moveUe, held_moveDone, held_modCore, held_modClus, ite_self]
  refine .trans ?_ (keeps_writeCm _ _ _ _ _ _)
  rw [held_readCm]
  exact keeps_strikeCm s _ row ecc
theorem keeps_landCmrd (s n l) : Keeps (held s) (held (landCmrd s n l)) := by
  simp only [landCmrd]
  split <;> simp [(far_elasticWriteSp ..).keeps]

/-! ## Remote accesses (07 R272 to R275) -/

theorem keeps_of_serveSp {s : State} {q : RemoteReq} {n : Nat} {ecc : Ecc} {t : State} (h : serveSp s q n ecc = some t) : Keeps (held s) (held t) := by
  simp only [serveSp] at h
  (repeat' split at h) <;> cases h <;> simp [(far_elasticWriteSp ..).keeps, (far_strikeSp ..).keeps]
theorem keeps_of_serveCm {s : State} {q : RemoteReq} {c cc : Nat} {ecc : Ecc} {t : State} (h : serveCm s q c cc ecc = some t) : Keeps (held s) (held t) := by
  simp only [serveCm] at h
  (repeat' split at h) <;> cases h <;> simp [keeps_writeCm, keeps_strikeCm]
theorem keeps_serveFirst (s c cc ecc blocked qs) : Keeps (held s) (held (serveFirst s c cc ecc blocked qs)) := by
  induction qs generalizing blocked with
  | nil => exact .refl _
  | cons q rest ih =>
    simp only [serveFirst]
    split
    · exact ih _
    · split
      · next served =>
        rw [held_modClus]
        split at served
        · split at served
          · split at served
            · cases served
            · exact keeps_of_serveSp served
          · cases served
        · exact keeps_of_serveCm served
      · exact ih _

/-! ## Streams (07 R257 to R260; 08 R296, R301, R303) -/

/-- The state after a source row has been read or refused. -/
@[simp] def Source.after : Source → State
  | .row _ t => t
  | .refused t => t
  | .bad t => t

theorem keeps_readSource (s c st nr ecc) : Keeps (held s) (held (readSource s c st nr ecc).after) := by
  simp only [readSource]
  (repeat' split) <;> simp [Source.after, (far_strikeSp ..).keeps, keeps_strikeCm]

theorem keeps_issueRow (s c st cc addr d ecc) : Keeps (held s) (held (issueRow s c st cc addr d ecc)) := by
  have source := keeps_readSource s c st (nearOf s c st (getStream s c st).next (getStream s c st) d) ecc
  simp only [issueRow]
  split
  · split
    all_goals
      next e =>
        rw [e] at source
        simpa using source
  · simp

/-- The state after a row has been offered to its near end; `s` where the near end has no power. -/
@[simp] def Landing.after (s : State) : Landing → State
  | .wait t => t
  | .landed t => t
  | .refused t => t
  | .unpowered => s

theorem keeps_landRow (s c st cc t d j r marks) : Keeps (held s) (held ((landRow s c st cc t d j r marks).after s)) := by
  simp only [landRow]
  (repeat' split) <;> simp [Landing.after, (far_elasticWriteSp ..).keeps, keeps_writeCm]

theorem keeps_deliverRow (s c st cc d j r marks) : Keeps (held s) (held (deliverRow s c st cc d j r marks)) := by
  have landing := keeps_landRow s c st cc (getStream s c st) d j r marks
  simp only [deliverRow]
  split
  · simp
  · split
    case h_3 => simp
    case h_4 e =>
      rw [e] at landing
      split <;> simpa using landing
    all_goals
      next e =>
        rw [e] at landing
        simpa using landing

/-! ## Device memory (08 R312; 11 R452; 19 R729) -/

theorem wf_nil : Mem.wf [] := ⟨.nil, fun _ h => nomatch h⟩
theorem keeps_setDmRow (s addr r) : Keeps (held s) (held (setDmRow s addr r)) := ⟨rfl, fun ⟨sp, cm, dm⟩ => ⟨sp, cm, writeRow_wf _ _ _ dm⟩⟩
theorem keeps_writeRows (s addr rows) : Keeps (held s) (held (writeRows s addr rows)) := by
  induction rows generalizing s addr with
  | nil => exact .refl _
  | cons r rest ih => exact (keeps_setDmRow s addr r).trans (ih _ _)
theorem keeps_resetMainSide (s) : Keeps (held s) (held (resetMainSide s)) := by
  simp only [resetMainSide, held_forgetImages, held_settlePps]
  exact ⟨rfl, fun _ => ⟨wf_nil, wf_nil, lostMemory_wf s⟩⟩
theorem keeps_fReset (s cause env) : Keeps (held s) (held (fReset s cause env)) := by
  simpa [fReset] using keeps_resetMainSide s

/-! ## The gatherer (10 R403 to R414) -/

theorem keeps_gatherWrite (s c row v) : Keeps (held s) (held (gatherWrite s c row v)) := by
  simp [gatherWrite, keeps_writeCm]
theorem keeps_gatherRead (s c row ecc) : Keeps (held s) (held (gatherRead s c row ecc).2) := by
  simp only [gatherRead]
  (repeat' split) <;> simp [keeps_strikeCm]
theorem keeps_releaseBuf (s c ch k cc p) : Keeps (held s) (held (releaseBuf s c ch k cc p)) := by
  simp only [releaseBuf, held_countRelease]
  exact .trans (by simp) (keeps_gatherWrite _ c _ _)
theorem keeps_postSlot (s p c ch k ecc) : Keeps (held s) (held (postSlot s p c ch k ecc)) := by
  simpa [postSlot] using keeps_gatherRead s c _ ecc
theorem keeps_zeroRow (s c ch k o left) : Keeps (held s) (held (zeroRow s c ch k o left)) := by
  simpa [zeroRow] using keeps_gatherWrite s c _ 0

/-! ## Scrub, image and restore (02 R60 to R62; 11 R454, R455; 17 R673) -/

theorem keeps_scrubClusters (s cs) : Keeps (held s) (held (scrubClusters s cs)) := by
  refine .trans (keeps_foldl _ _ _ fun a n => ?_) (keeps_foldl _ _ _ fun a c => ?_)
  · exact ⟨rfl, fun ⟨sp, cm, dm⟩ => ⟨clearRange_wf _ _ _ sp, cm, dm⟩⟩
  · exact ⟨rfl, fun ⟨sp, cm, dm⟩ => ⟨sp, clearRange_wf _ _ _ cm, dm⟩⟩
theorem keeps_scrubPart (s p) : Keeps (held s) (held (scrubPart s p)) := keeps_scrubClusters s _

theorem keeps_placeData (e s x) : Keeps (held s) (held (placeData e s x)) := by
  simp only [placeData]
  split
  · exact .refl _
  · split
    · split
      · exact ⟨rfl, fun ⟨sp, cm, dm⟩ => ⟨writeBytes_wf _ _ _ sp, cm, dm⟩⟩
      · exact .refl _
    · exact ⟨rfl, fun ⟨sp, cm, dm⟩ => ⟨sp, writeBytes_wf _ _ _ cm, dm⟩⟩
    · exact ⟨rfl, fun ⟨sp, cm, dm⟩ => ⟨sp, cm, writeBytes_wf _ _ _ dm⟩⟩
theorem keeps_applyImage (e s) : Keeps (held s) (held (applyImage e s)) := by
  simp only [applyImage]
  refine .trans ?_ (keeps_foldl _ _ _ (keeps_placeData e))
  simpa using keeps_scrubClusters { s with loaded := mergeImage e s.loaded } (scrubbed e)
theorem keeps_finishLoad (s r) : Keeps (held s) (held (finishLoad s r)) := by
  simpa [finishLoad] using keeps_applyImage _ s
theorem keeps_failApply (s r code) : Keeps (held s) (held (failApply s r code)) := by
  simp only [failApply, held_loadEnd, held_with, held_useFree, held_foldl, held_failPartition, implies_true, held_failDevice]
  exact .trans (by simp) (keeps_scrubClusters _ _)

theorem keeps_restoreCoreRows (L rows c s l) : Keeps (held s) (held (restoreCoreRows L rows c s l)) := by
  simp only [restoreCoreRows]
  split
  · exact .trans (by simp) (far_restoreSp _ _ _).keeps
  · exact .refl _
theorem keeps_restoreCluster (L rows s c) : Keeps (held s) (held (restoreCluster L rows s c)) := by
  simp only [restoreCluster, held_modClus]
  exact .trans (keeps_foldl _ _ _ (keeps_restoreCoreRows L rows c)) (keeps_foldl _ _ _ fun a i => keeps_setCmRow a c i _)
theorem keeps_restoreState (s p addr) : Keeps (held s) (held (restoreState s p addr)) := by
  simp only [restoreState, held_modPart]
  exact keeps_foldl _ _ _ fun a x => keeps_restoreCluster _ _ a x.1
theorem keeps_failRestore (s p) : Keeps (held s) (held (failRestore s p)) := by
  simpa [failRestore] using keeps_scrubPart s p

/-! ## ABORT (17 R669) -/

theorem keeps_abortPart (s p) : Keeps (held s) (held (abortPart s p)) := by
  simp only [abortPart, held_modPart, held_resetPartition]
  exact .trans (by simp) (far_foldl _ _ _ fun a n => far_drainCore drainStages a n).keeps
theorem keeps_abortCmd (s p) : Keeps (held s) (held (abortCmd s p)) := by
  simp only [abortCmd]
  (repeat' split) <;> simp [keeps_abortPart]
theorem keeps_partOp (p op s) : Keeps (held s) (held (partOp p op s)) := by
  simp [partOp, keeps_abortCmd]

end Sys2Proof.Machine

/-! # What every command keeps -/

namespace Sys2Proof.Machine

/-! ## Register writes (18 R698; 20 R733 to R737) -/

theorem held_getD_writeRingCtl (s r data) : held ((writeRingCtl s r data).getD s) = held s := by
  cases e : writeRingCtl s r data with
  | none => rfl
  | some t => exact held_of_writeRingCtl e

/-- What the write of a register does keeps the queue and the form of the memories, whatever the state it finds. -/
def RuleKeeps (o : Option WriteRule) : Prop := ∀ w ∈ o, ∀ t, Keeps (held t) (held (w.act t))

@[simp] theorem ruleKeeps_none : RuleKeeps none := fun _ h => nomatch h
@[simp] theorem ruleKeeps_some (w : WriteRule) : RuleKeeps (some w) ↔ ∀ t, Keeps (held t) (held (w.act t)) := by simp [RuleKeeps]
@[simp] theorem ruleKeeps_ite {c : Prop} [Decidable c] {a b : Option WriteRule} (ha : RuleKeeps a) (hb : RuleKeeps b) : RuleKeeps (if c then a else b) := by
  split <;> assumption

theorem ruleKeeps_imgRule (s part perm o data) : RuleKeeps (imgRule s part perm o data) := by
  simp only [imgRule]
  (repeat' with_reducible refine ruleKeeps_ite ?_ ?_) <;> simp
theorem ruleKeeps_devRule (s h o data) : RuleKeeps (devRule s h o data) := by
  simp [devRule, ruleKeeps_imgRule]
theorem ruleKeeps_partRule2 (s p o perm data) : RuleKeeps (partRule2 s p o perm data) := by
  simp only [partRule2]
  (repeat' with_reducible refine ruleKeeps_ite ?_ ?_) <;> simp
theorem ruleKeeps_partRule3 (s p o perm data) : RuleKeeps (partRule3 s p o perm data) := by
  simp only [partRule3]
  (repeat' with_reducible refine ruleKeeps_ite ?_ ?_) <;> simp
theorem ruleKeeps_partRule (s h p o data) : RuleKeeps (partRule s h p o data) := by
  simp only [partRule]
  (repeat' with_reducible refine ruleKeeps_ite ?_ ?_) <;> simp [keeps_partOp, ruleKeeps_imgRule, ruleKeeps_partRule2, ruleKeeps_partRule3]
theorem ruleKeeps_faultRule (s h o data) : RuleKeeps (faultRule s h o data) := by
  simp only [faultRule]
  (repeat' with_reducible refine ruleKeeps_ite ?_ ?_) <;> simp
theorem ruleKeeps_timeRule (s h o data) : RuleKeeps (timeRule s h o data) := by
  simp only [timeRule]
  (repeat' with_reducible refine ruleKeeps_ite ?_ ?_) <;> simp
theorem ruleKeeps_fabRule (s h o data) : RuleKeeps (fabRule s h o data) := by
  simp only [fabRule]
  (repeat' with_reducible refine ruleKeeps_ite ?_ ?_) <;> simp
theorem ruleKeeps_portRule (s h q o data) : RuleKeeps (portRule s h q o data) := by
  simp only [portRule]
  (repeat' with_reducible refine ruleKeeps_ite ?_ ?_) <;> simp
theorem ruleKeeps_intRule (s h p o data) : RuleKeeps (intRule s h p o data) := by
  simp only [intRule]
  (repeat' with_reducible refine ruleKeeps_ite ?_ ?_) <;> simp
theorem ruleKeeps_ringRule (s h r o data) : RuleKeeps (ringRule s h r o data) := by
  simp only [ringRule]
  (repeat' with_reducible refine ruleKeeps_ite ?_ ?_) <;> simp [held_getD_writeRingCtl]
theorem ruleKeeps_hostRule (s h o data) : RuleKeeps (hostRule s h o data) := by
  simp only [hostRule]
  (repeat' with_reducible refine ruleKeeps_ite ?_ ?_) <;> simp [ruleKeeps_portRule, ruleKeeps_intRule, ruleKeeps_ringRule]
theorem ruleKeeps_coreRule (n o perm data) : RuleKeeps (coreRule n o perm data) := by
  simp only [coreRule]
  (repeat' with_reducible refine ruleKeeps_ite ?_ ?_) <;> simp
theorem ruleKeeps_clusRule (s h c o data) : RuleKeeps (clusRule s h c o data) := by
  simp only [clusRule]
  (repeat' with_reducible refine ruleKeeps_ite ?_ ?_) <;> simp [ruleKeeps_coreRule]
theorem ruleKeeps_writeRule (s h o data) : RuleKeeps (writeRule s h o data) := by
  simp only [writeRule]
  (repeat' with_reducible refine ruleKeeps_ite ?_ ?_) <;>
    simp [ruleKeeps_devRule, ruleKeeps_partRule, ruleKeeps_faultRule, ruleKeeps_timeRule, ruleKeeps_fabRule, ruleKeeps_hostRule, ruleKeeps_clusRule]
theorem keeps_applyWrite (s h o data) : Keeps (held s) (held (applyWrite s h o data)) := by
  simp only [applyWrite]
  split
  · simp
  · split
    · simp
    · simp
    · next w _ e =>
      split
      · simp
      · exact ruleKeeps_writeRule s h o data w e s

/-! ## What a command answers -/

/-- A command that answers a next state keeps the queue and the form of the memories. -/
structure Answers (s : State) (r : Res) : Prop where
  keeps : ∀ t, r = .next t → Keeps (held s) (held t)

@[simp] theorem answers_next (s t : State) : Answers s (.next t) ↔ Keeps (held s) (held t) :=
  ⟨fun h => h.keeps t rfl, fun h => ⟨fun _ e => Host.Outcome.next.inj e ▸ h⟩⟩
@[simp] theorem answers_ite {c : Prop} [Decidable c] {s : State} {a b : Res} (ha : Answers s a) (hb : Answers s b) : Answers s (if c then a else b) := by
  split <;> assumption

/-- A command is judged from any state that holds the same. -/
theorem Answers.of_held {s u : State} {r : Res} (h : held u = held s) (a : Answers u r) : Answers s r := ⟨fun t e => h ▸ a.keeps t e⟩

/-- An effect that keeps the queue and the form of the memories in every state. -/
def ActKeeps (act : State → State) : Prop := ∀ t, Keeps (held t) (held (act t))

@[simp] theorem actKeeps_of_held {act : State → State} (h : ∀ t, held (act t) = held t) : ActKeeps act := fun t => by rw [h]; exact .refl _

section
variable {act : State → State} (h : ActKeeps act)
include h

theorem answers_hostCmd (s p offset data denied) : Answers s (hostCmd s p offset data denied act) := by
  simp only [hostCmd]
  (repeat' split) <;> simp [h s]
theorem answers_detCmd (p q op s) : Answers s (detCmd p q op act s) := answers_hostCmd h ..
theorem answers_partCmd (p q op s) : Answers s (partCmd p q op act s) := answers_hostCmd h ..
theorem answers_devImgCmd (p verify src s) : Answers s (devImgCmd p verify src act s) := answers_hostCmd h ..
theorem answers_tapCmd (s) : Answers s (tapCmd act s) := by simp [tapCmd, h s]
theorem answers_whileUp (up s) : Answers s (whileUp up act s) := by simp [whileUp, h s]
theorem answers_dalardCmd (code conds s) : Answers s (dalardCmd code conds act s) :=
  answers_whileUp (fun t => by simp [h t]) _ s
theorem answers_spdmReq (conn code need s) : Answers s (spdmReq conn code need act s) := by
  simp only [spdmReq]
  (repeat' split) <;> simp [h s]
end

theorem answers_receive {act : State → Frame → State} (h : ∀ t fr, held (act t fr) = held t) (f ftype bytes corrected s) :
    Answers s (receive f ftype bytes corrected act s) := by
  simp only [receive, takeFrame]
  (repeat' split) <;> simp [h]
theorem answers_hostBank (p b off s) : Answers s (hostBank p b off s) := by
  cases b with
  | sp k b => exact answers_hostCmd (fun t => by rw [held_writeSpOff]; exact .refl _) s _ _ _ _
  | cm c b => exact answers_hostCmd (fun t => by rw [held_writeCmOff]; exact .refl _) s _ _ _ _
theorem answers_hostRing (p r en s) : Answers s (hostRing p r en s) :=
  answers_hostCmd (actKeeps_of_held fun t => held_getD_writeRingCtl t r _) s _ _ _ _
theorem answers_freqCmd (p q immediate target s) : Answers s (freqCmd p q immediate target s) := by
  refine answers_hostCmd (act := fun t => if immediate then freqImmediate t q target.toNat else freqCalm t q target.toNat) (fun t => ?_) s _ _ _ _
  split <;> simp
theorem answers_partImgCmd (p q verify s) : Answers s (partImgCmd p q verify s) :=
  answers_hostCmd (fun t => by simp) s _ _ _ _
theorem answers_issueNamed (n slot o isNop s) : Answers s (issueNamed n slot o isNop s) := by
  simp [issueNamed, (far_coreCc s n).keeps]
@[simp] theorem held_complete (h n r) : held (complete h n r) = held r.2 := by rfl

/-! ## The events -/

/-! ### Banks, moves and remote accesses (07 R243 to R284) -/

theorem answers_execMoveExecute (k bank cc ecc s) : Answers s (execMoveExecute k bank cc ecc s) := by
  simp only [execMoveExecute]
  split
  · simp
  · next e =>
    refine .of_held (held_of_enterCc e) ?_
    (repeat' split) <;> simp [keeps_runCmrd, keeps_runCmwr, keeps_runCmcnt]
theorem answers_execCmrdDestinationWrite (k bank s) : Answers s (execCmrdDestinationWrite k bank s) := by
  simp only [execCmrdDestinationWrite]
  (repeat' split) <;> simp [keeps_landCmrd]
theorem answers_execRemoteRequestServe (cl cc ecc s) : Answers s (execRemoteRequestServe cl cc ecc s) := by
  simp only [execRemoteRequestServe]
  split
  · simp
  · next e =>
    refine .of_held (held_of_enterCc e) ?_
    rw [answers_next, held_calmCheckAt]
    exact .trans (by simp) (keeps_serveFirst _ _ _ _ _ _)
theorem answers_execRemoteReply (k s) : Answers s (execRemoteReply k s) := by
  simp only [execRemoteReply]
  split <;> simp
theorem answers_execBankLull (b cc s) : Answers s (execBankLull b cc s) := by
  cases b <;>
  · simp only [execBankLull]
    split
    · simp
    · next e =>
      refine .of_held (held_of_enterCc e) ?_
      split <;> simp
theorem answers_execBankWake (b s) : Answers s (execBankWake b s) := by
  simp only [execBankWake]
  split <;> simp
theorem answers_execBankOff (h b s) : Answers s (execBankOff h b s) := answers_hostBank ..
theorem answers_execBankOn (h b s) : Answers s (execBankOn h b s) := answers_hostBank ..
theorem answers_execBankReady (b s) : Answers s (execBankReady b s) := by
  simp only [execBankReady]
  (repeat' split) <;> simp [keeps_wipeCm, (far_wipeSp ..).keeps]

/-! ### Streams (08 R290 to R345) -/

theorem answers_execStreamRowIssue (cl stream cc ecc s) : Answers s (execStreamRowIssue cl stream cc ecc s) := by
  simp only [execStreamRowIssue]
  split
  · next e _ =>
    refine .of_held (held_of_enterCc e) ?_
    (repeat' split) <;> simp [keeps_issueRow]
  · simp
theorem answers_execStreamRowDeliver (cl stream cc host marks s) : Answers s (execStreamRowDeliver cl stream cc host marks s) := by
  simp only [execStreamRowDeliver]
  split
  · simp
  · next e =>
    refine .of_held (held_of_enterCc e) ?_
    (repeat' split) <;> simp [keeps_deliverRow]
theorem answers_execStreamRowAck (cl stream far s) : Answers s (execStreamRowAck cl stream far s) := by
  simp only [execStreamRowAck]
  (repeat' split) <;> simp
theorem answers_execGddr7Slot (cl chan ecc s) : Answers s (execGddr7Slot cl chan ecc s) := by
  simp only [execGddr7Slot]
  split
  · simp
  · split
    · simp
    · split
      · rw [answers_next, held_tagServed]
        exact .trans (by simp) (keeps_setDmRow _ _ _)
      · split <;> simp
theorem answers_execGddr7Refresh (cl chan s) : Answers s (execGddr7Refresh cl chan s) := by
  simp only [execGddr7Refresh]
  split <;> simp
theorem answers_execBankPowerDown (b s) : Answers s (execBankPowerDown b s) := by
  simp only [execBankPowerDown]
  (repeat' split) <;> simp [keeps_wipeCm, (far_wipeSp ..).keeps]

/-! ### Pages (08 R319 to R348) -/

theorem answers_execPageZeroFill (p page s) : Answers s (execPageZeroFill p page s) := by
  simp only [execPageZeroFill]
  split
  · simp
  · rw [answers_next, held_endResolution, held_setPte]
    exact ⟨rfl, fun ⟨sp, cm, dm⟩ => ⟨sp, cm, clearRange_wf _ _ _ dm⟩⟩
theorem answers_execPageTableWrite (h p data s) : Answers s (execPageTableWrite h p data s) := by
  simp only [execPageTableWrite]
  refine answers_hostCmd (fun t => ?_) _ _ _ _ _
  simp
theorem answers_execPfAck (h p data s) : Answers s (execPfAck h p data s) := by
  refine answers_hostCmd (fun t => ?_) _ _ _ _ _
  simp
theorem answers_execPriResponse (h cl stream success s) : Answers s (execPriResponse h cl stream success s) := by
  simp only [execPriResponse]
  (repeat' split) <;> simp
theorem answers_execAtsTranslationCompletion (h who result s) : Answers s (execAtsTranslationCompletion h who result s) := by
  simp only [execAtsTranslationCompletion]
  (repeat' split) <;> simp
theorem answers_execAtsInvalidate (h pasid page s) : Answers s (execAtsInvalidate h pasid page s) := by simp [execAtsInvalidate]
theorem answers_execInvalidateCompletion (h pasid page s) : Answers s (execInvalidateCompletion h pasid page s) := by simp [execInvalidateCompletion]
theorem answers_execPfDeadline (cl stream s) : Answers s (execPfDeadline cl stream s) := by
  simp only [execPfDeadline]
  split <;> simp

/-! ### Messages (09 R359 to R394) -/

theorem answers_execDropReport (cl input lane s) : Answers s (execDropReport cl input lane s) := by
  simp only [execDropReport]
  (repeat' split) <;> simp
theorem answers_execStaticRouteForward (cl input s) : Answers s (execStaticRouteForward cl input s) := by simp [execStaticRouteForward]
theorem answers_execMessageEject (cl lcore marks s) : Answers s (execMessageEject cl lcore marks s) := by simp [execMessageEject]
theorem answers_execCombine (cl route s) : Answers s (execCombine cl route s) := by
  simp only [execCombine]
  split
  · simp
  · split
    · simp
    · split
      · simp
      · simp
      · split
        · simp
        · split
          · next e => simp [held_of_sendCombined e]
          · simp
theorem answers_execCombineTimeout (cl route s) : Answers s (execCombineTimeout cl route s) := by
  simp only [execCombineTimeout]
  split <;> simp
theorem answers_execMcastMemberFence (k group s) : Answers s (execMcastMemberFence k group s) := by
  simp only [execMcastMemberFence]
  split <;> simp

/-! ### Gatherers and rings (10; 15 R583 to R597) -/

theorem answers_execRingPoll (p reads s) : Answers s (execRingPoll p reads s) := by simp [execRingPoll]
theorem answers_execRingRowsDeliver (r cc rows s) : Answers s (execRingRowsDeliver r cc rows s) := by
  simp only [execRingRowsDeliver]
  split
  · next e _ =>
    refine .of_held (held_of_enterCc e) ?_
    (repeat' split) <;> simp
  · simp
theorem answers_execGatherSlotWrite (cl ch cc s) : Answers s (execGatherSlotWrite cl ch cc s) := by
  simp only [execGatherSlotWrite]
  split
  · simp
  · next e =>
    refine .of_held (held_of_enterCc e) ?_
    split
    · simp
    · exact (answers_next ..).2 (.trans (by simp) (keeps_gatherWrite _ _ _ _))
theorem answers_execGatherDeadline (cl ch s) : Answers s (execGatherDeadline cl ch s) := by
  simp only [execGatherDeadline]
  split <;> simp
theorem answers_execBatchRelease (cl ch cc s) : Answers s (execBatchRelease cl ch cc s) := by
  simp only [execBatchRelease]
  split
  · next e _ =>
    refine .of_held (held_of_enterCc e) ?_
    (repeat' split) <;> simp [keeps_releaseBuf]
  · simp
theorem answers_execBatchReturn (k ch s) : Answers s (execBatchReturn k ch s) := by simp [execBatchReturn]
theorem answers_execCompletionPost (cl ch cc ok ecc s) : Answers s (execCompletionPost cl ch cc ok ecc s) := by
  simp only [execCompletionPost]
  split
  · next e _ =>
    refine .of_held (held_of_enterCc e) ?_
    (repeat' split) <;> simp [keeps_postSlot]
  · simp
theorem answers_execBufferFree (cl ch cc s) : Answers s (execBufferFree cl ch cc s) := by
  simp only [execBufferFree]
  split
  · simp
  · next e =>
    refine .of_held (held_of_enterCc e) ?_
    split
    · simp
    · split
      · exact (answers_next ..).2 (.trans (by simp) (keeps_zeroRow _ _ _ _ _ _))
      · simp
theorem answers_execRingEnable (h r s) : Answers s (execRingEnable h r s) := answers_hostRing ..
theorem answers_execRingDisable (h r s) : Answers s (execRingDisable h r s) := answers_hostRing ..
theorem answers_execCompletionTimeout (h who s) : Answers s (execCompletionTimeout h who s) := by
  simp only [execCompletionTimeout]
  (repeat' split) <;> simp

/-! ### Pause, freeze, save and restore (11 R446 to R457) -/

theorem answers_execPause (h p s) : Answers s (execPause h p s) := by
  refine answers_detCmd (fun t => ?_) _ _ _ _
  simp
theorem answers_execContinue (h p s) : Answers s (execContinue h p s) := by
  refine answers_detCmd (fun t => ?_) _ _ _ _
  simp
theorem answers_execFreeze (h p s) : Answers s (execFreeze h p s) := by
  refine answers_detCmd (fun t => ?_) _ _ _ _
  simp
theorem answers_execThaw (h p s) : Answers s (execThaw h p s) := by
  refine answers_detCmd (fun t => ?_) _ _ _ _
  simp
theorem answers_execSave (h p s) : Answers s (execSave h p s) := by
  refine answers_detCmd (fun t => ?_) _ _ _ _
  simp
theorem answers_execSaveEnd (p s) : Answers s (execSaveEnd p s) := by
  simp only [execSaveEnd]
  (repeat' split) <;> simp [keeps_writeRows]
theorem answers_execDump (h p s) : Answers s (execDump h p s) := by
  refine answers_detCmd (fun t => ?_) _ _ _ _
  simp
theorem answers_execDumpEnd (p s) : Answers s (execDumpEnd p s) := by
  simp only [execDumpEnd]
  (repeat' split) <;> simp [keeps_writeRows]
theorem answers_execRestore (h p s) : Answers s (execRestore h p s) := by
  refine answers_detCmd (fun t => ?_) _ _ _ _
  simp
theorem answers_execRestoreEnd (p s) : Answers s (execRestoreEnd p s) := by
  simp only [execRestoreEnd]
  (repeat' split) <;> simp [keeps_restoreState, keeps_failRestore]

/-! ### Flash writes (16 R622 to R650) -/

theorem answers_execFlashRecordCommit (readBackOk s) : Answers s (execFlashRecordCommit readBackOk s) := by
  simp only [execFlashRecordCommit]
  split <;> simp
theorem answers_execFlashTimeout (s) : Answers s (execFlashTimeout s) := by
  simp only [execFlashTimeout]
  split <;> simp

/-! ### Fabric ports (12 R465 to R498) -/

theorem answers_execWindowOpen (f window s) : Answers s (execWindowOpen f window s) := by
  simp only [execWindowOpen]
  split <;> simp
theorem answers_execWindowClose (f window s) : Answers s (execWindowClose f window s) := by
  simp only [execWindowClose]
  split <;> simp
theorem answers_execLinkUp (f s) : Answers s (execLinkUp f s) := by simp [execLinkUp]
theorem answers_execLinkHoldExpire (f s) : Answers s (execLinkHoldExpire f s) := by
  simp only [execLinkHoldExpire]
  split <;> simp
theorem answers_execFabricMessageComplete (f lane s) : Answers s (execFabricMessageComplete f lane s) := by
  simp only [execFabricMessageComplete]
  split <;> simp
theorem answers_execTxSessionOpen (f dev s) : Answers s (execTxSessionOpen f dev s) := by simp [execTxSessionOpen]
theorem answers_execPeriodBoundary (s) : Answers s (execPeriodBoundary s) := by
  simp only [execPeriodBoundary]
  split <;> simp
theorem answers_execWindowsSuspend (s) : Answers s (execWindowsSuspend s) := by simp [execWindowsSuspend]
theorem answers_execDataFrameReceive (f bytes corrected s) : Answers s (execDataFrameReceive f bytes corrected s) := by
  refine answers_receive (fun t => ?_) _ _ _ _ _
  simp
theorem answers_execDropFrameReceive (f bytes corrected s) : Answers s (execDropFrameReceive f bytes corrected s) := by
  refine answers_receive (fun t => ?_) _ _ _ _ _
  simp
theorem answers_execAckFrameReceive (f bytes corrected s) : Answers s (execAckFrameReceive f bytes corrected s) := by
  refine answers_receive (fun t => ?_) _ _ _ _ _
  simp
theorem answers_execSyncFrameReceive (f bytes corrected s) : Answers s (execSyncFrameReceive f bytes corrected s) := by
  refine answers_receive (fun t => ?_) _ _ _ _ _
  simp
theorem answers_execFrameDiscard (f why corrected s) : Answers s (execFrameDiscard f why corrected s) := by
  simp only [execFrameDiscard]
  (repeat' split) <;> simp
theorem answers_execFrameDeliver (f dev s) : Answers s (execFrameDeliver f dev s) := by
  simp only [execFrameDeliver]
  (repeat' split) <;> simp
theorem answers_execMeshRowForward (cl link cc s) : Answers s (execMeshRowForward cl link cc s) := by simp [execMeshRowForward]

/-! ### Partition commands (17 R663 to R670) -/

theorem answers_execStart (h p s) : Answers s (execStart h p s) := by
  refine answers_partCmd (fun t => ?_) _ _ _ _
  simp
theorem answers_execStop (h p s) : Answers s (execStop h p s) := by
  refine answers_partCmd (fun t => ?_) _ _ _ _
  simp
theorem answers_execStopDeadline (p s) : Answers s (execStopDeadline p s) := by
  simp only [execStopDeadline]
  split <;> simp
theorem answers_execAbort (h p s) : Answers s (execAbort h p s) := answers_partCmd (fun t => keeps_abortCmd t _) ..
theorem answers_execAbortEnd (p s) : Answers s (execAbortEnd p s) := by
  simp only [execAbortEnd]
  (repeat' split) <;> simp [keeps_scrubPart]
theorem answers_execTwinDeadline (p s) : Answers s (execTwinDeadline p s) := by simp [execTwinDeadline]
theorem answers_execFfClear (h rec code s) : Answers s (execFfClear h rec code s) := by
  cases rec with
  | none => exact answers_hostCmd (fun t => by rw [held_clearDevice]; exact .refl _) ..
  | some c => exact answers_hostCmd (fun t => by rw [held_clearCluster]; exact .refl _) ..

/-! ### Time and frequency (14) -/

theorem answers_execPtpSync (f offset s) : Answers s (execPtpSync f offset s) := by simp [execPtpSync]
theorem answers_execPtpFrame (f slave s) : Answers s (execPtpFrame f slave s) := by
  simp only [execPtpFrame]
  (repeat' split) <;> simp
theorem answers_execSyncTimeout (s) : Answers s (execSyncTimeout s) := by simp [execSyncTimeout]
theorem answers_execLinkDown (f s) : Answers s (execLinkDown f s) := by simp [execLinkDown]
theorem answers_execAdminDown (h f s) : Answers s (execAdminDown h f s) := by
  refine answers_hostCmd (fun t => ?_) _ _ _ _ _
  simp
theorem answers_execReferenceLoss (ref s) : Answers s (execReferenceLoss ref s) := by
  simp only [execReferenceLoss]
  split <;> simp
theorem answers_execReferenceRestore (ref s) : Answers s (execReferenceRestore ref s) := by
  simp only [execReferenceRestore]
  split <;> simp
theorem answers_execGeneratorRelock (cl s) : Answers s (execGeneratorRelock cl s) := by
  simp only [execGeneratorRelock]
  (repeat' split) <;> simp
theorem answers_execFreqChangeCalm (h p target s) : Answers s (execFreqChangeCalm h p target s) := answers_freqCmd ..
theorem answers_execFreqChangeImmediate (h p target s) : Answers s (execFreqChangeImmediate h p target s) := answers_freqCmd ..
theorem answers_execClockGate (unit s) : Answers s (execClockGate unit s) := by
  simp only [execClockGate]
  split <;> simp
theorem answers_execClockRestart (unit s) : Answers s (execClockRestart unit s) := by
  simp only [execClockRestart]
  (repeat' split) <;> simp
theorem answers_execPpsOut (s) : Answers s (execPpsOut s) := by simp [execPpsOut]
theorem answers_execTimeCapture (s) : Answers s (execTimeCapture s) := by simp [execTimeCapture]

/-! ### The image loader (02 R65 to R77) -/

theorem answers_execDevImgLoad (h s) : Answers s (execDevImgLoad h s) := by
  refine answers_devImgCmd (fun t => ?_) _ _ _ _
  simp
theorem answers_execDevImgVerify (h s) : Answers s (execDevImgVerify h s) := by
  refine answers_devImgCmd (fun t => ?_) _ _ _ _
  simp
theorem answers_execDevImgDefaultLoad (h s) : Answers s (execDevImgDefaultLoad h s) := by
  refine answers_devImgCmd (fun t => ?_) _ _ _ _
  simp
theorem answers_execDevImgDefaultVerify (h s) : Answers s (execDevImgDefaultVerify h s) := by
  refine answers_devImgCmd (fun t => ?_) _ _ _ _
  simp
theorem answers_execPartImgLoad (h p s) : Answers s (execPartImgLoad h p s) := answers_partImgCmd ..
theorem answers_execPartImgVerify (h p s) : Answers s (execPartImgVerify h p s) := answers_partImgCmd ..
theorem answers_execDefaultImageCopyEnd (s) : Answers s (execDefaultImageCopyEnd s) := by
  simp only [execDefaultImageCopyEnd]
  split
  · split
    · simp
    · exact (answers_next ..).2 ⟨rfl, fun ⟨sp, cm, dm⟩ => ⟨sp, cm, writeBytes_wf _ _ _ dm⟩⟩
  · simp
theorem answers_execImageChecksEnd (s) : Answers s (execImageChecksEnd s) := by
  simp only [execImageChecksEnd]
  split <;> simp
theorem answers_execImageApplyEnd (s) : Answers s (execImageApplyEnd s) := by
  simp only [execImageApplyEnd]
  (repeat' split) <;> simp [keeps_finishLoad]
theorem answers_execApplyFailure (code s) : Answers s (execApplyFailure code s) := by
  simp only [execApplyFailure]
  (repeat' split) <;> simp [keeps_failApply]

/-! ### Power and resets (19 R709 to R729) -/

theorem answers_execThermalSample (sensor reading s) : Answers s (execThermalSample sensor reading s) := by simp [execThermalSample]
theorem answers_execClusterPowerUp (cl s) : Answers s (execClusterPowerUp cl s) := by
  simp only [execClusterPowerUp]
  split <;> simp
theorem answers_execFReset (cause env s) : Answers s (execFReset cause env s) := by
  rw [execFReset, answers_next]
  exact .trans (by simp) (keeps_fReset _ _ _)
theorem answers_execPReset (env s) : Answers s (execPReset env s) := by
  rw [execPReset, answers_next, held_bootAll]
  exact ⟨rfl, fun _ => ⟨wf_nil, wf_nil, lostMemory_wf s⟩⟩
theorem answers_execMReset (env s) : Answers s (execMReset env s) := by simp [execMReset]
theorem answers_execStandbyEntry (s) : Answers s (execStandbyEntry s) := by
  simp only [execStandbyEntry]
  (repeat' split) <;> simp [keeps_resetMainSide]
theorem answers_execStandbyExit (env s) : Answers s (execStandbyExit env s) := by
  rw [execStandbyExit]
  exact answers_ite (by simp) ((answers_next ..).2 (.trans (by simp) (keeps_fReset _ _ _)))

/-! ### Management (16 R611 to R657) -/

theorem answers_execI3cEntry (addr s) : Answers s (execI3cEntry addr s) := by
  refine answers_whileUp (fun t => ?_) _ _
  simp
theorem answers_execRstact (s) : Answers s (execRstact s) := by
  refine answers_whileUp (fun t => ?_) _ _
  simp
theorem answers_execSetEndpointId (eid s) : Answers s (execSetEndpointId eid s) := by
  refine answers_whileUp (fun t => ?_) _ _
  simp
theorem answers_execGetEndpointId (s) : Answers s (execGetEndpointId s) := by
  refine answers_whileUp (fun t => ?_) _ _
  simp
theorem answers_execGetMctpVersionSupport (mtype s) : Answers s (execGetMctpVersionSupport mtype s) := by
  refine answers_whileUp (fun t => ?_) _ _
  simp
theorem answers_execGetMessageTypeSupport (s) : Answers s (execGetMessageTypeSupport s) := by
  refine answers_whileUp (fun t => ?_) _ _
  simp
theorem answers_execGetVendorDefinedMessageSupport (selector s) : Answers s (execGetVendorDefinedMessageSupport selector s) := by
  refine answers_whileUp (fun t => ?_) _ _
  simp
theorem answers_execPldmBaseDiscovery (command s) : Answers s (execPldmBaseDiscovery command s) := by
  refine answers_whileUp (fun t => ?_) _ _
  simp
theorem answers_execGetSensorReading (sensor s) : Answers s (execGetSensorReading sensor s) := by
  refine answers_whileUp (fun t => ?_) _ _
  simp
theorem answers_execGetStateSensorReadings (sensor s) : Answers s (execGetStateSensorReadings sensor s) := by
  refine answers_whileUp (fun t => ?_) _ _
  (repeat' split) <;> simp
theorem answers_execSetEventReceiver (eid s) : Answers s (execSetEventReceiver eid s) := by
  refine answers_whileUp (fun t => ?_) _ _
  simp
theorem answers_execPassComponentTable (component size s) : Answers s (execPassComponentTable component size s) := by
  refine answers_whileUp (fun t => ?_) _ _
  (repeat' split) <;> simp
theorem answers_execUpdateComponent (component size s) : Answers s (execUpdateComponent component size s) := by
  refine answers_whileUp (fun t => ?_) _ _
  (repeat' split) <;> simp
theorem answers_execFirmwareData (offset data s) : Answers s (execFirmwareData offset data s) := by
  simp only [execFirmwareData]
  split <;> simp
theorem answers_execVerifyComplete (s) : Answers s (execVerifyComplete s) := by
  simp only [execVerifyComplete]
  split <;> simp
theorem answers_execApplyComplete (s) : Answers s (execApplyComplete s) := by
  simp only [execApplyComplete]
  (repeat' split) <;> simp
theorem answers_execActivateFirmware (component selfContained s) : Answers s (execActivateFirmware component selfContained s) := by
  refine answers_whileUp (fun t => ?_) _ _
  simp
theorem answers_execGetStatus (s) : Answers s (execGetStatus s) := by
  refine answers_dalardCmd (fun t => ?_) _ _ _
  simp
theorem answers_execGetFirstFault (s) : Answers s (execGetFirstFault s) := by
  refine answers_dalardCmd (fun t => ?_) _ _ _
  simp
theorem answers_execGetLog (from_ s) : Answers s (execGetLog from_ s) := by
  refine answers_dalardCmd (fun t => ?_) _ _ _
  simp
theorem answers_execSetPrimary (inSession port persist s) : Answers s (execSetPrimary inSession port persist s) := by
  refine answers_dalardCmd (fun t => ?_) _ _ _
  simp
theorem answers_execSetOwner (inSession part port s) : Answers s (execSetOwner inSession part port s) := by
  refine answers_dalardCmd (fun t => ?_) _ _ _
  simp
theorem answers_execEnrolImageKey (inSession slot key s) : Answers s (execEnrolImageKey inSession slot key s) := by
  refine answers_dalardCmd (fun t => ?_) _ _ _
  simp
theorem answers_execRevokeImageKey (inSession slot s) : Answers s (execRevokeImageKey inSession slot s) := by
  refine answers_dalardCmd (fun t => ?_) _ _ _
  simp
theorem answers_execRaiseFloor (inSession target value s) : Answers s (execRaiseFloor inSession target value s) := by
  refine answers_dalardCmd (fun t => ?_) _ _ _
  simp
theorem answers_execMacsecKey (inSession port an sak ssci salt s) : Answers s (execMacsecKey inSession port an sak ssci salt s) := by
  refine answers_dalardCmd (fun t => ?_) _ _ _
  simp
theorem answers_execSetSetting (inSession setting s) : Answers s (execSetSetting inSession setting s) := by
  refine answers_dalardCmd (fun t => ?_) _ _ _
  simp
theorem answers_execEnrolOwnerRoot (inSession root s) : Answers s (execEnrolOwnerRoot inSession root s) := by
  refine answers_dalardCmd (fun t => ?_) _ _ _
  simp
theorem answers_execResetMain (inSession env s) : Answers s (execResetMain inSession env s) :=
  answers_dalardCmd (fun _ => .trans (by simp) (keeps_fReset _ _ _)) ..

/-! ### Attestation (16 R643 to R645) -/

theorem answers_execGetVersion (conn s) : Answers s (execGetVersion conn s) := by
  refine answers_spdmReq (fun t => ?_) _ _ _ _
  simp
theorem answers_execGetCapabilities (conn s) : Answers s (execGetCapabilities conn s) := by
  refine answers_spdmReq (fun t => ?_) _ _ _ _
  simp
theorem answers_execNegotiateAlgorithms (conn offer s) : Answers s (execNegotiateAlgorithms conn offer s) := by
  refine answers_spdmReq (fun t => ?_) _ _ _ _
  simp
theorem answers_execGetDigests (conn s) : Answers s (execGetDigests conn s) := by
  refine answers_spdmReq (fun t => ?_) _ _ _ _
  simp
theorem answers_execGetCertificate (conn slot s) : Answers s (execGetCertificate conn slot s) := by
  refine answers_spdmReq (fun t => ?_) _ _ _ _
  simp
theorem answers_execChallenge (conn slot nonce s) : Answers s (execChallenge conn slot nonce s) := by
  refine answers_spdmReq (fun t => ?_) _ _ _ _
  simp
theorem answers_execGetMeasurements (conn index nonce s) : Answers s (execGetMeasurements conn index nonce s) := by
  refine answers_spdmReq (fun t => ?_) _ _ _ _
  (repeat' split) <;> simp
theorem answers_execKeyExchange (conn s) : Answers s (execKeyExchange conn s) := by
  refine answers_spdmReq (fun t => ?_) _ _ _ _
  simp
theorem answers_execFinish (conn verified root s) : Answers s (execFinish conn verified root s) := by
  refine answers_spdmReq (fun t => ?_) _ _ _ _
  simp
theorem answers_execEndSession (conn s) : Answers s (execEndSession conn s) := by
  refine answers_spdmReq (fun t => ?_) _ _ _ _
  simp
theorem answers_execHeartbeat (conn s) : Answers s (execHeartbeat conn s) := by
  refine answers_spdmReq (fun t => ?_) _ _ _ _
  simp

/-! ### Core events (03 R106 to R113) -/

theorem answers_execStallDeadline (k s) : Answers s (execStallDeadline k s) := by simp [execStallDeadline]
theorem answers_execLateFault (k s) : Answers s (execLateFault k s) := by
  simp only [execLateFault]
  split <;> simp
theorem answers_execFaultStopComplete (p s) : Answers s (execFaultStopComplete p s) := by simp [execFaultStopComplete]
theorem answers_execCoreLull (k s) : Answers s (execCoreLull k s) := by simp [execCoreLull]
theorem answers_execCoreWake (k s) : Answers s (execCoreWake k s) := by simp [execCoreWake]
theorem answers_execCalmReport (k s) : Answers s (execCalmReport k s) := by
  simp only [execCalmReport]
  (repeat' split) <;> simp

/-! ### Host ports (15 R574 to R605) -/

theorem answers_execMsixMessage (h vector s) : Answers s (execMsixMessage h vector s) := by
  simp only [execMsixMessage]
  (repeat' split) <;> simp
theorem answers_execMsixUnmask (h vector s) : Answers s (execMsixUnmask h vector s) := by simp [execMsixUnmask]
theorem answers_execBar2Read (h offset bytes ecc0 ecc1 s) : Answers s (execBar2Read h offset bytes ecc0 ecc1 s) := by
  simp only [execBar2Read]
  split <;> simp
theorem answers_execBar2Write (h offset data s) : Answers s (execBar2Write h offset data s) := by
  simp only [execBar2Write]
  split
  · simp
  · split
    · simp
    · exact (answers_next ..).2 ⟨rfl, fun ⟨sp, cm, dm⟩ => ⟨sp, cm, writeBytes_wf _ _ _ dm⟩⟩
theorem answers_execHReset (h cause s) : Answers s (execHReset h cause s) := by simp [execHReset]
theorem answers_execHoldEnd (h link s) : Answers s (execHoldEnd h link s) := by
  simp only [execHoldEnd]
  split <;> simp
theorem answers_execHoldExpire (h s) : Answers s (execHoldExpire h s) := by simp [execHoldExpire]
theorem answers_execD3hotEntry (h s) : Answers s (execD3hotEntry h s) := by simp [execD3hotEntry]
theorem answers_execD0Return (h s) : Answers s (execD0Return h s) := by simp [execD0Return]
theorem answers_execIdeKmMessage (h message s) : Answers s (execIdeKmMessage h message s) := by simp [execIdeKmMessage]

/-! ### The TAP (21 R757 to R761) -/

theorem answers_execBypass (s) : Answers s (execBypass s) := by
  refine answers_tapCmd (fun t => ?_) _
  simp
theorem answers_execIdcode (s) : Answers s (execIdcode s) := by
  refine answers_tapCmd (fun t => ?_) _
  simp
theorem answers_execSamplePreload (pins load s) : Answers s (execSamplePreload pins load s) := by
  refine answers_tapCmd (fun t => ?_) _
  simp
theorem answers_execExtest (s) : Answers s (execExtest s) := by
  refine answers_tapCmd (fun t => ?_) _
  simp
theorem answers_execClamp (s) : Answers s (execClamp s) := by
  refine answers_tapCmd (fun t => ?_) _
  simp
theorem answers_execHighz (s) : Answers s (execHighz s) := by
  refine answers_tapCmd (fun t => ?_) _
  simp
theorem answers_execPrivateInstruction (code response write s) : Answers s (execPrivateInstruction code response write s) := by
  refine answers_tapCmd (fun t => ?_) _
  (repeat' split) <;> simp
theorem answers_execTapReset (low s) : Answers s (execTapReset low s) := by simp [execTapReset]

/-! ### Drain offers (04 R169) -/

theorem answers_execDrainRowOffer (k port s) : Answers s (execDrainRowOffer k port s) := by simp [execDrainRowOffer]
theorem answers_execRowStallExecute (k s) : Answers s (execRowStallExecute k s) := by simp [execRowStallExecute]

/-! ### Registers (20 R731 to R737) -/

theorem answers_execRegisterWrite (h bar offset data enables s) : Answers s (execRegisterWrite h bar offset data enables s) := by
  simp only [execRegisterWrite]
  (repeat' split) <;> simp [keeps_applyWrite]
theorem answers_execLowHalfRead (h bar offset s) : Answers s (execLowHalfRead h bar offset s) := by simp [execLowHalfRead]
theorem answers_execHighHalfRead (h offset s) : Answers s (execHighHalfRead h offset s) := by simp [execHighHalfRead]
theorem answers_execWideRead (h bar offset s) : Answers s (execWideRead h bar offset s) := by
  simp only [execWideRead]
  (repeat' split) <;> simp

/-! ## Every command -/

theorem answers_struck (n slot o isNop es s) : Answers s (issueNamed n slot o isNop (strikes s n es)) :=
  ⟨fun t e => (far_strikes s n es).keeps.trans ((answers_issueNamed n slot o isNop _).keeps t e)⟩

/-- Every command keeps the queue and the canonical form of the memories. -/
theorem answers_exec (c : Instr) (s : State) : Answers s (exec c s) := by
  cases c
  case nop | b | loop | loopi | calm | end_ | xadd | xsub | xmul | xand | xor | xxor | xshl | xshr | xsra | xaddi | xli | trecv | trecvs | srecv | sgo
    | gtake | gret | matcfg | wswap | mmul | laccadd | adrain | vrcp | vsqrt | vrsqrt | vdiv | vexp | vexp2 | vlog | vlog2 | vtanh | vsigm | verf
    | vsin | vcos | vadd | vsub | vmul | vfma | vfms | vfnma | vmin | vmax | vabs | vneg | vmov | vbcast | vsel | vpfmt | viadd | visub | vimul | vand
    | vor | vxor | vshl | vshr | vsra | vshli | vshri | vsrai | vcmp | vclass | mand | mor | mxor | mandn | vacc | vcvt | vcvtn | vcvtw | vbiq
    | vbiqMark | vbiqScale | vbiadd | vbiaddHeader | vbidq | vgust | rsum | rsumi | rmax | rmin | rargmax | rargmin | rcnt | spwr | cmrd | cmcnt | rrd
    | rwr | msend => exact answers_issueNamed ..
  case wld | sprd | rowcmp | rowcnt | cmwr => exact answers_struck ..
  case drainRowOffer => exact answers_execDrainRowOffer ..
  case rowStallExecute => exact answers_execRowStallExecute ..
  case stallDeadline => exact answers_execStallDeadline ..
  case faultStopComplete => exact answers_execFaultStopComplete ..
  case lateFault => exact answers_execLateFault ..
  case coreLull => exact answers_execCoreLull ..
  case coreWake => exact answers_execCoreWake ..
  case calmReport => exact answers_execCalmReport ..
  case bankLull => exact answers_execBankLull ..
  case bankWake => exact answers_execBankWake ..
  case bankOff => exact answers_execBankOff ..
  case bankPowerDown => exact answers_execBankPowerDown ..
  case bankOn => exact answers_execBankOn ..
  case bankReady => exact answers_execBankReady ..
  case moveExecute => exact answers_execMoveExecute ..
  case cmrdDestinationWrite => exact answers_execCmrdDestinationWrite ..
  case remoteRequestServe => exact answers_execRemoteRequestServe ..
  case remoteReply => exact answers_execRemoteReply ..
  case streamRowIssue => exact answers_execStreamRowIssue ..
  case streamRowDeliver => exact answers_execStreamRowDeliver ..
  case streamRowAck => exact answers_execStreamRowAck ..
  case gddr7Slot => exact answers_execGddr7Slot ..
  case gddr7Refresh => exact answers_execGddr7Refresh ..
  case pageZeroFill => exact answers_execPageZeroFill ..
  case pageTableWrite => exact answers_execPageTableWrite ..
  case pfAck => exact answers_execPfAck ..
  case priResponse => exact answers_execPriResponse ..
  case atsInvalidate => exact answers_execAtsInvalidate ..
  case invalidateCompletion => exact answers_execInvalidateCompletion ..
  case pfDeadline => exact answers_execPfDeadline ..
  case meshRowForward => exact answers_execMeshRowForward ..
  case staticRouteForward => exact answers_execStaticRouteForward ..
  case messageEject => exact answers_execMessageEject ..
  case dropReport => exact answers_execDropReport ..
  case mcastMemberFence => exact answers_execMcastMemberFence ..
  case combine => exact answers_execCombine ..
  case combineTimeout => exact answers_execCombineTimeout ..
  case ringPoll => exact answers_execRingPoll ..
  case ringRowsDeliver => exact answers_execRingRowsDeliver ..
  case gatherSlotWrite => exact answers_execGatherSlotWrite ..
  case gatherDeadline => exact answers_execGatherDeadline ..
  case batchRelease => exact answers_execBatchRelease ..
  case batchReturn => exact answers_execBatchReturn ..
  case completionPost => exact answers_execCompletionPost ..
  case bufferFree => exact answers_execBufferFree ..
  case msixMessage => exact answers_execMsixMessage ..
  case msixUnmask => exact answers_execMsixUnmask ..
  case bar2Read => exact answers_execBar2Read ..
  case bar2Write => exact answers_execBar2Write ..
  case ringEnable => exact answers_execRingEnable ..
  case ringDisable => exact answers_execRingDisable ..
  case hReset => exact answers_execHReset ..
  case holdEnd => exact answers_execHoldEnd ..
  case holdExpire => exact answers_execHoldExpire ..
  case d3hotEntry => exact answers_execD3hotEntry ..
  case d0Return => exact answers_execD0Return ..
  case devImgLoad => exact answers_execDevImgLoad ..
  case devImgVerify => exact answers_execDevImgVerify ..
  case devImgDefaultLoad => exact answers_execDevImgDefaultLoad ..
  case devImgDefaultVerify => exact answers_execDevImgDefaultVerify ..
  case defaultImageCopyEnd => exact answers_execDefaultImageCopyEnd ..
  case partImgLoad => exact answers_execPartImgLoad ..
  case partImgVerify => exact answers_execPartImgVerify ..
  case imageChecksEnd => exact answers_execImageChecksEnd ..
  case imageApplyEnd => exact answers_execImageApplyEnd ..
  case applyFailure => exact answers_execApplyFailure ..
  case start => exact answers_execStart ..
  case stop => exact answers_execStop ..
  case stopDeadline => exact answers_execStopDeadline ..
  case abort => exact answers_execAbort ..
  case pause => exact answers_execPause ..
  case continue_ => exact answers_execContinue ..
  case freeze => exact answers_execFreeze ..
  case thaw => exact answers_execThaw ..
  case save => exact answers_execSave ..
  case saveEnd => exact answers_execSaveEnd ..
  case dump => exact answers_execDump ..
  case dumpEnd => exact answers_execDumpEnd ..
  case restore => exact answers_execRestore ..
  case restoreEnd p => exact answers_execRestoreEnd p s
  case freqChangeCalm => exact answers_execFreqChangeCalm ..
  case freqChangeImmediate => exact answers_execFreqChangeImmediate ..
  case clockGate => exact answers_execClockGate ..
  case clockRestart => exact answers_execClockRestart ..
  case thermalSample => exact answers_execThermalSample ..
  case ptpSync => exact answers_execPtpSync ..
  case ptpFrame => exact answers_execPtpFrame ..
  case syncTimeout => exact answers_execSyncTimeout ..
  case referenceLoss => exact answers_execReferenceLoss ..
  case referenceRestore => exact answers_execReferenceRestore ..
  case generatorRelock => exact answers_execGeneratorRelock ..
  case ppsOut => exact answers_execPpsOut ..
  case timeCapture => exact answers_execTimeCapture ..
  case linkUp => exact answers_execLinkUp ..
  case linkDown => exact answers_execLinkDown ..
  case linkHoldExpire => exact answers_execLinkHoldExpire ..
  case adminDown => exact answers_execAdminDown ..
  case fabricMessageComplete => exact answers_execFabricMessageComplete ..
  case txSessionOpen => exact answers_execTxSessionOpen ..
  case windowOpen => exact answers_execWindowOpen ..
  case windowClose => exact answers_execWindowClose ..
  case periodBoundary => exact answers_execPeriodBoundary ..
  case windowsSuspend => exact answers_execWindowsSuspend ..
  case dataFrameReceive => exact answers_execDataFrameReceive ..
  case dropFrameReceive => exact answers_execDropFrameReceive ..
  case ackFrameReceive => exact answers_execAckFrameReceive ..
  case syncFrameReceive => exact answers_execSyncFrameReceive ..
  case frameDiscard => exact answers_execFrameDiscard ..
  case frameDeliver => exact answers_execFrameDeliver ..
  case twinDeadline => exact answers_execTwinDeadline ..
  case ffClear => exact answers_execFfClear ..
  case registerWrite => exact answers_execRegisterWrite ..
  case lowHalfRead => exact answers_execLowHalfRead ..
  case highHalfRead => exact answers_execHighHalfRead ..
  case wideRead => exact answers_execWideRead ..
  case pReset => exact answers_execPReset ..
  case fReset => exact answers_execFReset ..
  case mReset => exact answers_execMReset ..
  case clusterPowerUp => exact answers_execClusterPowerUp ..
  case standbyEntry => exact answers_execStandbyEntry ..
  case standbyExit => exact answers_execStandbyExit ..
  case flashRecordCommit => exact answers_execFlashRecordCommit ..
  case flashTimeout => exact answers_execFlashTimeout ..
  case i3cEntry => exact answers_execI3cEntry ..
  case rstact => exact answers_execRstact ..
  case setEndpointId => exact answers_execSetEndpointId ..
  case getEndpointId => exact answers_execGetEndpointId ..
  case getMctpVersionSupport => exact answers_execGetMctpVersionSupport ..
  case getMessageTypeSupport => exact answers_execGetMessageTypeSupport ..
  case getVendorDefinedMessageSupport => exact answers_execGetVendorDefinedMessageSupport ..
  case pldmBaseDiscovery => exact answers_execPldmBaseDiscovery ..
  case getSensorReading => exact answers_execGetSensorReading ..
  case getStateSensorReadings => exact answers_execGetStateSensorReadings ..
  case setEventReceiver => exact answers_execSetEventReceiver ..
  case passComponentTable => exact answers_execPassComponentTable ..
  case updateComponent => exact answers_execUpdateComponent ..
  case firmwareData => exact answers_execFirmwareData ..
  case verifyComplete => exact answers_execVerifyComplete ..
  case applyComplete => exact answers_execApplyComplete ..
  case activateFirmware => exact answers_execActivateFirmware ..
  case getVersion => exact answers_execGetVersion ..
  case getCapabilities => exact answers_execGetCapabilities ..
  case negotiateAlgorithms => exact answers_execNegotiateAlgorithms ..
  case getDigests => exact answers_execGetDigests ..
  case getCertificate => exact answers_execGetCertificate ..
  case challenge => exact answers_execChallenge ..
  case getMeasurements => exact answers_execGetMeasurements ..
  case keyExchange => exact answers_execKeyExchange ..
  case finish => exact answers_execFinish ..
  case endSession => exact answers_execEndSession ..
  case heartbeat => exact answers_execHeartbeat ..
  case getStatus => exact answers_execGetStatus ..
  case getFirstFault => exact answers_execGetFirstFault ..
  case getLog => exact answers_execGetLog ..
  case setPrimary => exact answers_execSetPrimary ..
  case setOwner => exact answers_execSetOwner ..
  case enrolImageKey => exact answers_execEnrolImageKey ..
  case revokeImageKey => exact answers_execRevokeImageKey ..
  case raiseFloor => exact answers_execRaiseFloor ..
  case macsecKey => exact answers_execMacsecKey ..
  case setSetting => exact answers_execSetSetting ..
  case enrolOwnerRoot => exact answers_execEnrolOwnerRoot ..
  case resetMain => exact answers_execResetMain ..
  case bypass => exact answers_execBypass ..
  case idcode => exact answers_execIdcode ..
  case samplePreload => exact answers_execSamplePreload ..
  case extest => exact answers_execExtest ..
  case clamp => exact answers_execClamp ..
  case highz => exact answers_execHighz ..
  case tapReset => exact answers_execTapReset ..
  case atsTranslationCompletion => exact answers_execAtsTranslationCompletion ..
  case completionTimeout => exact answers_execCompletionTimeout ..
  case abortEnd => exact answers_execAbortEnd ..
  case ideKmMessage => exact answers_execIdeKmMessage ..
  exact answers_execPrivateInstruction ..

theorem keeps_tick (s) : Keeps (held s) (held (tick s)) := by simp

/-- Settles O5: every command keeps the canonical form, and an idle step writes no memory. -/
theorem stepKeepsMemories : Obligations.StepKeepsMemories := by
  intro s t ok h
  unfold step at h
  split at h
  · cases h
    exact (keeps_tick s).ok ok
  · exact ((answers_exec _ _).keeps t h).ok ok

/-! ## The rows of the slots (03 R81) -/

/-- The command of an operation of a slot, of every slot, spends the cc of the word that holds it; no bit error comes with it. -/
theorem exec_slotCommand (k : CoreId) (u : Bool) (o : SlotOp) (s : State) :
    ∃ i o' b, exec (slotCommand k u o).2 s = issueNamed k.num i o' b s := by
  cases o with
  | ctl o => cases o with
    | x o => cases o <;> exact ⟨_, _, _, rfl⟩
    | _ => exact ⟨_, _, _, rfl⟩
  | sin o => cases o <;> exact ⟨_, _, _, rfl⟩
  | mat o => cases o <;> exact ⟨_, _, _, rfl⟩
  | vec o => exact ⟨_, _, exec_vecCommand k u o s⟩
  | red o => cases o with
    | nop => exact ⟨_, _, _, rfl⟩
    | red o a => exact ⟨_, _, _, exec_redCommand k o a s⟩
  | mem o => cases o <;> exact ⟨_, _, _, rfl⟩
  | msg o => cases o <;> exact ⟨_, _, _, rfl⟩

theorem far_of_issueNamed {n : Nat} {i : Fin 8} {o : SlotOp} {b : Bool} {s t : State} (h : issueNamed n i o b s = .next t) :
    KeepsFar (held s) (held t) := by
  unfold issueNamed at h
  split at h <;> cases h
  · exact far_coreCc s n
  · exact .refl _

/-- Settles O10: a row of a slot is a cc of its core, and a cc of a core writes scratchpads alone. -/
theorem coreRowsKeepFarMemories : Obligations.CoreRowsKeepFarMemories := by
  intro s t k u o h
  obtain ⟨i, o', b, row⟩ := exec_slotCommand k u o s
  have far := far_of_issueNamed (row ▸ h)
  exact ⟨far.dm, far.cm⟩

end Sys2Proof.Machine

/-! # The rows of the scratchpads and the move queue (07 R243 to R276) -/

namespace Sys2Proof.Machine

/-! ## A cc of a core whose MEM slot alone holds an operation -/

/-- The MEM slot leaves the state `t` with its core `runUp d`, in which nothing lands: the cc ends with `afterWord d`. -/
theorem mem_row {s t : State} {n : Nat} {o : MemOp} {d : Core} (h : Lone s n 6 (.mem o))
    (slot : goMem (runStart s n) (issueOf s n) o = setCore t n (runUp d)) (still : Still d)
    (goesOn : (getClus t (clusOf n)).stopAt = none) :
    issueNamed n 6 (.mem o) false s = .next (setCore t n (afterWord d (nextOf (getCore s n)))) :=
  lone_row s t n 6 (.mem o) false d h (fun _ _ => rfl) slot (fun f hf => (still f hf).1)
    (fun f hf => secondCycle_of_not_load _ _ _ (still f hf).2) goesOn

/-- As `mem_row`, for an operation that reads rows: at the end of the cc the bank slots are free again. -/
theorem mem_row_reads {s t : State} {n : Nat} {o : MemOp} {d : Core} {p : Party} {rows : List Nat} (h : Lone s n 6 (.mem o))
    (slot : goMem (runStart s n) (issueOf s n) o = setCore t n (runUp (withReads d p rows))) (still : Still d)
    (goesOn : (getClus t (clusOf n)).stopAt = none) :
    issueNamed n 6 (.mem o) false s = .next (setCore t n (afterWord d (nextOf (getCore s n)))) :=
  mem_row (d := withReads d p rows) h slot still goesOn

theorem launched_launched (c : Core) (slot : Nat) (es fs : Effs) : launched (launched c slot es) slot fs = launched c slot (es ++ fs) := by
  simp only [launched, List.append_assoc, List.map_append]

theorem still_incremented {c : Core} (h : Still c) (xr : BitVec 5) (inc : BitVec 8) : Still (incremented c xr inc) := by
  intro f hf
  rw [incremented_inflight] at hf
  exact h f hf

theorem incremented_lcore (c : Core) (xr : BitVec 5) (inc : BitVec 8) : (incremented c xr inc).lcore = c.lcore := by
  unfold incremented
  split <;> rfl

/-- A row that lands in a register pair lands later (03 R95). -/
theorem okEff_pairEffs (vd : BitVec 6) (r : Row) : ∀ e ∈ pairEffs vd r, okEff e = true := by
  simp [pairEffs, okEff, latRow]

/-- A core after the MEM slot has read a row. -/
def rowRead (s : State) (n : Nat) (c : Core) (row : Nat) : Core :=
  withReads (rowsRead s n c [row]) (progParty c 6 c.pc c.issued) [row]

/-- The MEM slot's read of a row without an error (07 R243). -/
theorem progRead_runStart {s : State} {n row : Nat} (good : Readable (getCore s n) row) :
    progRead (runStart s n) n row 6 (getCore s n).pc (getCore s n).issued = (spRow s n row, setCore s n (runUp (rowRead s n (getCore s n) row))) := by
  obtain ⟨ecc, free, power⟩ := good
  exact progRead_runUp ecc power (by simp [free])

/-- The row that a slot names. -/
theorem row_issueOf (s : State) (n : Nat) (xr : BitVec 5) : (getX (ccUp (getCore s n)) xr.toNat).toNat = rowIn (getCore s n) xr := rfl

/-- A row without an error, read for a party in a cc without a write before it. -/
theorem readSp_runUp {s : State} {n row slot pc : Nat} {issue : W64} {d : Core} (good : Readable d row) :
    readSp (setCore s n (runUp d)) n row (progParty (runUp d) slot pc issue) =
      (spRow s n row, setCore s n (runUp (withReads (rowsRead s n d [row]) (progParty d slot pc issue) [row]))) := by
  obtain ⟨ecc, free, -⟩ := good
  have reads : ∀ u ∈ d.mem.uses, u.isWrite = false := by simp [free]
  have used := useSlot_read_runUp (s := s) (n := n) (d := d) (progParty d slot pc issue) row
  have clean : spWords (setCore s n (runUp (withReads (rowsRead s n d [row]) (progParty d slot pc issue) [row]))) n row = {} := by
    rw [spWords, getCore_setCore_same]; exact ecc
  simp only [readUse] at used
  simp only [readSp, getCore_setCore_same, runUp_mem, rowBefore_of_reads reads, writerMet_of_reads reads, setCore_setCore,
    show progParty (runUp d) slot pc issue = progParty d slot pc issue from rfl, used, countCorrSp, clean]
  rfl

section
variable {s t : State} {n : Nat} {d : Core}

theorem launchPair_runUp (hp : d.pc = (getCore s n).pc) (hi : d.issued = (getCore s n).issued) (vd : BitVec 6) (r : Row) :
    launchPair (setCore t n (runUp d)) (issueOf s n) 6 latRow vd r = setCore t n (runUp (launched d 6 (pairEffs vd r))) := by
  rw [launchPair, launches, List.foldl_cons, List.foldl_cons, List.foldl_nil, launch_runUp hp hi, launch_runUp (d := launched d 6 _) hp hi,
    launched_launched]
  rfl

end

/-! ## SPRD with C (07 R259) -/

/-- A core that has consumed a guarded row of its scratchpad. -/
def rowConsumed (c : Core) (row : Nat) : Core :=
  modMem c (fun m => { m with valid := mset m.valid row false, ecc := freshFlags m.ecc row })

/-- The state about its core, of which the ring of a guarded row steps. -/
theorem consumeRow_guarded {s : State} {n row : Nat} {d : Core} {g : Guarded × Nat} (h : ownGuard s n d row = some g) :
    consumeRow (setCore s n d) n row = setCore (stepRing s (clusOf n) g.2 false) n (rowConsumed d row) := by
  have found : guardAt (setCore s n d) (clusOf n) false (lcoreNum d) row = some g := h
  simp only [consumeRow, getCore_setCore_same, found, modCore_setCore]
  rfl

theorem consumeRow_raw {s : State} {n row : Nat} {d : Core} (h : ownGuard s n d row = none) :
    consumeRow (setCore s n d) n row = setCore s n d := by
  have found : guardAt (setCore s n d) (clusOf n) false (lcoreNum d) row = none := h
  simp only [consumeRow, getCore_setCore_same, found]

/-- A change of a cluster that leaves its STOP reaction leaves those of all. -/
theorem stopAt_modClus {s : State} {c : Nat} {f : Cluster → Cluster} (hf : ∀ x, (f x).stopAt = x.stopAt) (m : Nat) :
    (getClus (modClus s c f) m).stopAt = (getClus s m).stopAt := by
  by_cases h : m = c
  · subst h; rw [getClus_modClus_same, hf]
  · rw [getClus_modClus_other _ _ _ _ h]

theorem stopAt_stepRing (s : State) (c i m : Nat) (produce : Bool) :
    (getClus (stepRing s c i produce) m).stopAt = (getClus s m).stopAt :=
  stopAt_modClus (fun _ => by rfl) m

theorem incremented_withReads (c : Core) (p : Party) (rows : List Nat) (xr : BitVec 5) (inc : BitVec 8) :
    incremented (withReads c p rows) xr inc = withReads (incremented c xr inc) p rows := by
  unfold incremented
  split <;> rfl

theorem launched_withReads (c : Core) (p : Party) (rows : List Nat) (slot : Nat) (es : Effs) :
    launched (withReads c p rows) slot es = withReads (launched c slot es) p rows := rfl

theorem launched_rowConsumed (c : Core) (row slot : Nat) (es : Effs) :
    launched (rowConsumed c row) slot es = rowConsumed (launched c slot es) row := rfl

theorem afterWord_rowConsumed (c : Core) (row : Nat) (next : Nat × List LoopLevel) :
    afterWord (rowConsumed c row) next = rowConsumed (afterWord c next) row := rfl

theorem incremented_rowConsumed (c : Core) (row : Nat) (xr : BitVec 5) (inc : BitVec 8) :
    incremented (rowConsumed c row) xr inc = rowConsumed (incremented c xr inc) row := by
  unfold incremented
  split <;> rfl

/-- The core as an SPRD leaves it, but for a guarded row that it consumes. -/
def sprdDone (s : State) (n : Nat) (c : Core) (vd : BitVec 6) (xr : BitVec 5) (inc : BitVec 8) : Core :=
  incremented (launched (rowsRead s n c [rowIn c xr]) 6 (pairEffs vd (spRow s n (rowIn c xr)))) xr inc

section
variable {s : State} {k : CoreId} {c : Core} {vd : BitVec 6} {xr : BitVec 5} {inc : BitVec 8}

theorem still_sprdDone (h : Still c) (s : State) (n : Nat) (vd : BitVec 6) (xr : BitVec 5) (inc : BitVec 8) :
    Still (sprdDone s n c vd xr inc) :=
  still_incremented (still_launched (rowsRead s n c [rowIn c xr]) 6 _ h (okEff_pairEffs vd _)) xr inc

/-- The guard of a row depends on the core's lcore alone. -/
theorem ownGuard_sprdDone (s : State) (n : Nat) (c : Core) (vd : BitVec 6) (xr : BitVec 5) (inc : BitVec 8)
    (next : Nat × List LoopLevel) (row : Nat) :
    ownGuard s n (afterWord (sprdDone s n c vd xr inc) next) row = ownGuard s n c row := by
  have lcore : (afterWord (sprdDone s n c vd xr inc) next).lcore = c.lcore :=
    incremented_lcore (launched (rowsRead s n c [rowIn c xr]) 6 (pairEffs vd (spRow s n (rowIn c xr)))) xr inc
  rw [ownGuard, ownGuard, lcoreNum, lcoreNum, lcore]

/-- The MEM slot of an SPRD, where its read, and a row consumed after it, leave the core `d` in the state `t`. -/
theorem goMem_sprd {t : State} {n : Nat} {cons : Bool} {d : Core} (hc : getCore s n = c) (good : Readable c (rowIn c xr))
    (left : (if cons then consumeRow (setCore s n (runUp (rowRead s n c (rowIn c xr)))) n (rowIn c xr)
      else setCore s n (runUp (rowRead s n c (rowIn c xr)))) = setCore t n (runUp d))
    (hp : d.pc = c.pc) (hi : d.issued = c.issued) (hx : d.x = c.x) :
    goMem (runStart s n) (issueOf s n) (.sprd vd xr cons inc) =
      setCore t n (runUp (incremented (launched d 6 (pairEffs vd (spRow s n (rowIn c xr)))) xr inc)) := by
  subst hc
  have start : goMem (runStart s n) (issueOf s n) (.sprd vd xr cons inc) =
      postInc (launchPair (setCore t n (runUp d)) (issueOf s n) 6 latRow vd (spRow s n (rowIn (getCore s n) xr))) (issueOf s n) xr inc := by
    rw [← left]
    simp only [goMem, Issue.row, issueOf, row_issueOf, progRead_runStart good]
  rw [start, launchPair_runUp hp hi, postInc_runUp (d := launched d 6 _) hx]

/-- An SPRD that consumes nothing. -/
theorem exec_sprd_plain {cons : Bool} (hc : getCore s k.num = c) (h : Lone s k.num 6 (.mem (.sprd vd xr cons inc)))
    (good : Readable c (rowIn c xr)) (plain : cons = false ∨ ownGuard s k.num c (rowIn c xr) = none) :
    exec (.sprd k vd xr cons inc []) s = .next (setCore s k.num (afterWord (sprdDone s k.num c vd xr inc) (nextOf c))) := by
  have kept : (if cons then consumeRow (setCore s k.num (runUp (rowRead s k.num c (rowIn c xr)))) k.num (rowIn c xr)
      else setCore s k.num (runUp (rowRead s k.num c (rowIn c xr)))) = setCore s k.num (runUp (rowRead s k.num c (rowIn c xr))) := by
    obtain rfl | raw := plain
    · rfl
    · rw [consumeRow_raw (d := runUp (rowRead s k.num c (rowIn c xr))) raw, ite_self]
  have slot := goMem_sprd (vd := vd) (inc := inc) hc good kept rfl rfl rfl
  rw [rowRead, launched_withReads, incremented_withReads, ← sprdDone] at slot
  have still := still_sprdDone (hc ▸ h.still) s k.num vd xr inc
  rw [← congrArg nextOf hc]
  exact mem_row_reads h slot still h.fetches.goesOn

/-- An SPRD that consumes a guarded row. -/
theorem exec_sprd_guarded {g : Guarded × Nat} (hc : getCore s k.num = c) (h : Lone s k.num 6 (.mem (.sprd vd xr true inc)))
    (good : Readable c (rowIn c xr)) (guarded : ownGuard s k.num c (rowIn c xr) = some g) :
    exec (.sprd k vd xr true inc []) s = .next (consumeRow (setCore s k.num (afterWord (sprdDone s k.num c vd xr inc) (nextOf c)))
      k.num (rowIn c xr)) := by
  have consumed : consumeRow (setCore s k.num (runUp (rowRead s k.num c (rowIn c xr)))) k.num (rowIn c xr) =
      setCore (stepRing s (clusOf k.num) g.2 false) k.num (runUp (rowConsumed (rowRead s k.num c (rowIn c xr)) (rowIn c xr))) :=
    consumeRow_guarded guarded
  have slot := goMem_sprd (cons := true) (vd := vd) (inc := inc) hc good consumed rfl rfl rfl
  rw [rowRead, launched_rowConsumed, launched_withReads, incremented_rowConsumed, incremented_withReads, ← sprdDone] at slot
  have still := still_sprdDone (hc ▸ h.still) s k.num vd xr inc
  rw [consumeRow_guarded ((ownGuard_sprdDone ..).trans guarded), ← afterWord_rowConsumed, ← congrArg nextOf hc]
  exact mem_row_reads h slot still ((stopAt_stepRing ..).trans h.fetches.goesOn)

theorem exec_sprd {cons : Bool} (hc : getCore s k.num = c) (h : Lone s k.num 6 (.mem (.sprd vd xr cons inc)))
    (good : Readable c (rowIn c xr)) :
    exec (.sprd k vd xr cons inc []) s = .next (
      let t := setCore s k.num (afterWord (sprdDone s k.num c vd xr inc) (nextOf c))
      if cons then consumeRow t k.num (rowIn c xr) else t) := by
  cases cons with
  | false => exact exec_sprd_plain hc h good (.inl rfl)
  | true =>
    cases guard : ownGuard s k.num c (rowIn c xr) with
    | none =>
      rw [exec_sprd_plain hc h good (.inr guard)]
      exact congrArg _ (consumeRow_raw ((ownGuard_sprdDone ..).trans guard)).symm
    | some g => exact exec_sprd_guarded hc h good guard

end

/-! ## The other rows of the MEM slot (07 R243, R251, R252, R266, R267) -/

section
variable {s : State} {k : CoreId}

theorem exec_spwr {vs : BitVec 6} {xr : BitVec 5} {inc : BitVec 8} {c : Core} (hc : getCore s k.num = c)
    (h : Lone s k.num 6 (.mem (.spwr vs xr inc))) :
    exec (.spwr k vs xr inc) s = .next (setCore s k.num (afterWord (incremented (launched c 6
      [(3, .rowWrite (rowIn c xr) (pairRow c vs.toNat) (ownGuard s k.num c (rowIn c xr)).isSome)]) xr inc) (nextOf c))) := by
  subst hc
  refine mem_row h ?_ (still_incremented (still_launched _ 6 _ h.still (by simp [okEff])) xr inc) h.fetches.goesOn
  have start : goMem (runStart s k.num) (issueOf s k.num) (.spwr vs xr inc) =
      postInc (launch (setCore s k.num (runUp (getCore s k.num))) (issueOf s k.num) 6 3 (.rowWrite (rowIn (getCore s k.num) xr)
        (pairRow (getCore s k.num) vs.toNat) (ownGuard s k.num (getCore s k.num) (rowIn (getCore s k.num) xr)).isSome))
        (issueOf s k.num) xr inc := rfl
  rw [start, launch_runUp rfl rfl, postInc_runUp (d := launched _ 6 _) rfl]

/-- What a ROWCMP sends on its way for a row: the matches in its mask registers, and their number (07 R266). -/
def cmpEffs (c : Core) (r : Row) (w : BitVec 2) (md : BitVec 4) (vc : BitVec 6) (xk2 : BitVec 4) : Effs :=
  let ms := cmpMatches r w (getX c (2 * xk2.toNat)) (getX c (2 * xk2.toNat + 1))
  (List.range (4 / 2 ^ w.toNat)).map (fun j => (latCnt, .writeM (md.toNat + j)
      (BitVec.ofNat 64 ((ms.filter (fun x => x / 64 == j)).foldl (fun a x => a ||| 2 ^ (x % 64)) 0)) (BitVec.allOnes 64) false)) ++
    [(latCnt, .writeV vc.toNat (everyLane false ms.length) (BitVec.allOnes 64) false)]

theorem okEff_cmpEffs (c : Core) (r : Row) (w : BitVec 2) (md : BitVec 4) (vc : BitVec 6) (xk2 : BitVec 4) :
    ∀ e ∈ cmpEffs c r w md vc xk2, okEff e = true := by
  intro e he
  obtain he | he := List.mem_append.mp he
  · obtain ⟨j, -, rfl⟩ := List.mem_map.mp he
    rfl
  · obtain rfl := List.mem_singleton.mp he
    rfl

theorem exec_rowcmp {w : BitVec 2} {xr : BitVec 5} {md : BitVec 4} {vc : BitVec 6} {xk2 : BitVec 4} {c : Core} (hc : getCore s k.num = c)
    (h : Lone s k.num 6 (.mem (.rowcmp w xr md vc xk2))) (good : Readable c (rowIn c xr)) :
    exec (.rowcmp k w xr md vc xk2 []) s = .next (setCore s k.num (afterWord (launched (rowsRead s k.num c [rowIn c xr]) 6
      (cmpEffs c (spRow s k.num (rowIn c xr)) w md vc xk2)) (nextOf c))) := by
  subst hc
  have slot : goMem (runStart s k.num) (issueOf s k.num) (.rowcmp w xr md vc xk2) =
      launches (setCore s k.num (runUp (rowRead s k.num (getCore s k.num) (rowIn (getCore s k.num) xr)))) (issueOf s k.num) 6
        (cmpEffs (getCore s k.num) (spRow s k.num (rowIn (getCore s k.num) xr)) w md vc xk2) := by
    simp only [goMem, goRowcmp, Issue.row, issueOf, row_issueOf, progRead_runStart good, launches, cmpEffs, List.foldl_append,
      List.foldl_cons, List.foldl_nil]
    rfl
  rw [launches_runUp s k.num (rowRead ..) 6 _ rfl rfl, rowRead, launched_withReads] at slot
  exact mem_row_reads h slot (still_launched (rowsRead ..) 6 _ h.still (okEff_cmpEffs _ _ _ _ _ _)) h.fetches.goesOn

/-- A core in which a count has a window more: until it lands, no other count of its row issues (07 R268). -/
def withWindow (c : Core) (w : Nat × Nat × Nat × Nat) : Core := modMem c (fun m => { m with cntWindows := m.cntWindows ++ [w] })

theorem withWindow_withReads (c : Core) (w : Nat × Nat × Nat × Nat) (p : Party) (rows : List Nat) :
    withWindow (withReads c p rows) w = withReads (withWindow c w) p rows := rfl

theorem exec_rowcnt {xr : BitVec 5} {mm2 : BitVec 3} {xs : BitVec 5} {wrap rf : Bool} {md : BitVec 4} {ev : Bool} {c : Core}
    {r : Row × Bool} (hc : getCore s k.num = c) (h : Lone s k.num 6 (.mem (.rowcnt xr mm2 xs wrap rf md ev))) (good : Readable c (rowIn c xr))
    (hr : countRow (spRow s k.num (rowIn c xr)) (countMask c mm2) ((getX c xs.toNat).setWidth 32) wrap = r) :
    exec (.rowcnt k xr mm2 xs wrap rf md ev []) s = .next (setCore s k.num (afterWord (withWindow
      (launched (rowsRead s k.num c [rowIn c xr]) 6 [(latCnt, .countWrite (rowIn c xr) r.1 r.2 ev (if rf then some md.toNat else none))])
      (rowIn c xr, c.pc, c.issued.toNat, latCnt)) (nextOf c))) := by
  subst hc
  generalize hw : (rowIn (getCore s k.num) xr, (getCore s k.num).pc, (getCore s k.num).issued.toNat, latCnt) = w
  generalize he : FlightEff.countWrite (rowIn (getCore s k.num) xr) r.1 r.2 ev (if rf then some md.toNat else none) = e
  have lands : okEff (latCnt, e) = true := by rw [← he]; rfl
  have slot : goMem (runStart s k.num) (issueOf s k.num) (.rowcnt xr mm2 xs wrap rf md ev) =
      modCore (launch (setCore s k.num (runUp (rowRead s k.num (getCore s k.num) (rowIn (getCore s k.num) xr)))) (issueOf s k.num) 6 latCnt e)
        k.num (fun c => withWindow c w) := by
    subst he hr hw
    simp only [goMem, goRowcnt, Issue.row, issueOf, row_issueOf, progRead_runStart good]
    rfl
  rw [launch_runUp (d := rowRead ..) rfl rfl, modCore_setCore,
    show ∀ d, withWindow (runUp d) w = runUp (withWindow d w) from fun _ => rfl, rowRead, launched_withReads, withWindow_withReads] at slot
  exact mem_row_reads h slot (still_launched (rowsRead ..) 6 _ h.still (by simpa using lands)) h.fetches.goesOn

/-- A core that has put a move at the end of its move queue (07 R251). -/
def withMove (c : Core) (m : Move) : Core :=
  { c with mem := { c.mem with moves := c.mem.moves ++ [(c.mem.moveSeq, m)], moveSeq := c.mem.moveSeq + 1 } }

theorem withMove_withReads (c : Core) (m : Move) (p : Party) (rows : List Nat) :
    withMove (withReads c p rows) m = withReads (withMove c m) p rows := rfl

theorem withMove_runUp (c : Core) (m : Move) : withMove (runUp c) m = runUp (withMove c m) := rfl

/-- A row whose operation puts a move at the end of the queue. -/
theorem move_row {o : MemOp} {m : Move} (h : Lone s k.num 6 (.mem o))
    (slot : goMem (runStart s k.num) (issueOf s k.num) o = queueMove (runStart s k.num) (issueOf s k.num) m) :
    issueNamed k.num 6 (.mem o) false s = .next (setCore s k.num (afterWord (withMove (getCore s k.num) m) (nextOf (getCore s k.num)))) := by
  refine mem_row h ?_ h.still h.fetches.goesOn
  rw [slot, queueMove, runStart, show (issueOf s k.num).n = k.num from rfl, modCore_setCore]
  rfl

theorem exec_cmrd {xc xr : BitVec 5} {c : Core} (hc : getCore s k.num = c) (h : Lone s k.num 6 (.mem (.cmrd xc xr))) :
    exec (.cmrd k xc xr) s = .next (setCore s k.num (afterWord (withMove c (.cmrd (rowIn c xc) (rowIn c xr))) (nextOf c))) := by
  subst hc
  exact move_row h rfl

theorem exec_cmcnt {xc : BitVec 5} {mm2 : BitVec 3} {xs : BitVec 5} {wrap ev : Bool} {c : Core} (hc : getCore s k.num = c)
    (h : Lone s k.num 6 (.mem (.cmcnt xc mm2 xs wrap ev))) :
    exec (.cmcnt k xc mm2 xs wrap ev) s = .next (setCore s k.num (afterWord
      (withMove c (.cmcnt (rowIn c xc) (countMask c mm2) ((getX c xs.toNat).setWidth 32) wrap ev)) (nextOf c))) := by
  subst hc
  exact move_row h rfl

theorem exec_cmwr {xc xr : BitVec 5} {c : Core} (hc : getCore s k.num = c) (h : Lone s k.num 6 (.mem (.cmwr xc xr)))
    (good : Readable c (rowIn c xr)) :
    exec (.cmwr k xc xr []) s = .next (setCore s k.num (afterWord
      (withMove (rowsRead s k.num c [rowIn c xr]) (.cmwr (rowIn c xc) (spRow s k.num (rowIn c xr)))) (nextOf c))) := by
  subst hc
  have read : readSp (runStart s k.num) k.num (rowIn (getCore s k.num) xr) (progParty (ccUp (getCore s k.num)) 6 (getCore s k.num).pc (getCore s k.num).issued) =
      (spRow s k.num (rowIn (getCore s k.num) xr), setCore s k.num (runUp (rowRead s k.num (getCore s k.num) (rowIn (getCore s k.num) xr)))) :=
    readSp_runUp good
  have clean : spBad (runStart s k.num) k.num (rowIn (getCore s k.num) xr) = false := by
    rw [spBad, spWords, runStart, getCore_setCore_same, runUp_mem, good.1]
    rfl
  have slot : goMem (runStart s k.num) (issueOf s k.num) (.cmwr xc xr) =
      modCore (setCore s k.num (runUp (rowRead s k.num (getCore s k.num) (rowIn (getCore s k.num) xr)))) k.num
        (fun c => withMove c (.cmwr (rowIn (getCore s k.num) xc) (spRow s k.num (rowIn (getCore s k.num) xr)))) := by
    simp only [goMem, Issue.row, issueOf, row_issueOf, read, clean]
    rfl
  rw [modCore_setCore, withMove_runUp, rowRead, withMove_withReads] at slot
  exact mem_row_reads h slot h.still h.fetches.goesOn

end

/-- Settles O24: each row is the equation of its instruction; bit errors strike before the word issues, by the definition of each row. -/
theorem memRows : Obligations.MemRows := by
  refine ⟨fun s k => ⟨?sprd, ?spwr, ?rowcmp, ?rowcnt, ?_, ?_, ?_⟩, fun s k => ⟨?cmrd, ?cmwr, ?_, ?cmcnt⟩⟩
  case sprd => exact fun vd xr cons inc h good => exec_sprd rfl h good
  case spwr => exact fun vs xr inc h => exec_spwr rfl h
  case rowcmp => exact fun w xr md vc xk2 h good => exec_rowcmp rfl h good
  case rowcnt => exact fun xr mm2 xs wrap rf md ev h good => exec_rowcnt rfl h good rfl
  case cmrd => exact fun xc xr h => exec_cmrd rfl h
  case cmwr => exact fun xc xr h good => exec_cmwr rfl h good
  case cmcnt => exact fun xc mm2 xs wrap ev h => exec_cmcnt rfl h
  all_goals intros; rfl

end Sys2Proof.Machine

/-! # RRD, RWR and MSEND (07 R272 to R274; 09 R350 to R355) -/

namespace Sys2Proof.Machine

section
variable {s : State} {k : CoreId}

/-! ## RRD and RWR -/

/-- A core whose landing buffer an RRD has emptied (07 R273). -/
def replyTaken (c : Core) : Core := { c with mem := { c.mem with reply := none, rrdSent := false } }

theorem launched_replyTaken (c : Core) (slot : Nat) (es : Effs) : launched (replyTaken c) slot es = replyTaken (launched c slot es) := rfl

theorem exec_rrd {vd : BitVec 6} {xa : BitVec 5} {c : Core} {r : RemoteReply} (hc : getCore s k.num = c)
    (h : Lone s k.num 6 (.mem (.rrd vd xa))) (reply : c.mem.reply = some r) :
    exec (.rrd k vd xa) s = .next (setCore s k.num (afterWord (replyTaken (launched c 6 (pairEffs vd r.val))) (nextOf c))) := by
  subst hc
  have arrived : (issueOf s k.num).c.mem.reply = some r := reply
  have slot : goMem (runStart s k.num) (issueOf s k.num) (.rrd vd xa) =
      launchPair (setCore s k.num (runUp (replyTaken (getCore s k.num)))) (issueOf s k.num) 6 latRow vd r.val := by
    simp only [goMem, arrived, runStart, show (issueOf s k.num).n = k.num from rfl, modCore_setCore]
    rfl
  rw [launchPair_runUp (d := replyTaken _) rfl rfl, launched_replyTaken] at slot
  exact mem_row h slot (still_launched (getCore s k.num) 6 _ h.still (okEff_pairEffs _ _)) h.fetches.goesOn

/-- A remote request changes clusters alone. -/
theorem sendRemote_setCore (s : State) (n : Nat) (c : Core) (q : RemoteReq) : sendRemote (setCore s n c) q = setCore (sendRemote s q) n c := by
  unfold sendRemote
  dsimp only
  split <;> rfl

theorem stopAt_sendRemote (s : State) (q : RemoteReq) (m : Nat) : (getClus (sendRemote s q) m).stopAt = (getClus s m).stopAt := by
  unfold sendRemote
  dsimp only
  split <;> exact stopAt_modClus (fun _ => by rfl) m

/-- A core with a remote row outstanding more (07 R274). -/
def withRemote (c : Core) (q : RemoteReq) : Core := { c with mem := { c.mem with remote := c.mem.remote ++ [q] } }

theorem exec_rwr {vs : BitVec 6} {xa : BitVec 5} {c : Core} {q : RemoteReq} (hc : getCore s k.num = c)
    (h : Lone s k.num 6 (.mem (.rwr vs xa))) (hq : remoteReq (issueHere s k.num) (getX c xa.toNat) (some (pairRow c vs.toNat)) = q) :
    exec (.rwr k vs xa) s = .next (sendRemote (setCore s k.num (afterWord (withRemote c q) (nextOf c))) q) := by
  subst hc
  have slot : goMem (runStart s k.num) (issueOf s k.num) (.rwr vs xa) =
      sendRemote (modCore (runStart s k.num) k.num (fun c => withRemote c q)) q := by
    rw [← hq]; rfl
  rw [runStart, modCore_setCore, sendRemote_setCore] at slot
  rw [sendRemote_setCore]
  exact mem_row (d := withRemote _ _) h slot h.still ((stopAt_sendRemote ..).trans h.fetches.goesOn)

/-! ## MSEND -/

/-- A core that has put the rows of an MSEND at the end of its outbound queue (09 R350). -/
def withRows (c : Core) (rows : List MsgRow) : Core := { c with outq := c.outq ++ rows, seq := c.seq + 1 }

/-- A cluster whose cores have sent `len` rows more (09 R355). -/
def rowsSent (len : Nat) (x : Cluster) : Cluster := { x with msg := { x.msg with rowsTx := x.msg.rowsTx.add len } }

theorem exec_msend {n xd : BitVec 5} {len1 : BitVec 3} {route : BitVec 4} {group : BitVec 6} {c : Core} {rows : List MsgRow}
    (hc : getCore s k.num = c) (h : Lone s k.num 7 (.msg (.msend n xd len1 route group)))
    (hr : sendRows s (issueHere (startCc s k.num) k.num) n xd len1 route group = rows) :
    exec (.msend k n xd len1 route group) s = .next (modClus (setCore s k.num (afterWord (withRows c rows) (nextOf c))) (clusOf k.num)
      (rowsSent (len1.toNat + 1))) := by
  subst hc
  have here : issueHere (startCc s k.num) k.num = issueOf s k.num := by
    simp only [issueHere, getCore_startCc, ccUp_pc, ccUp_issued, issueOf]
  have slot : issueSlots (runStart s k.num) (issueOf s k.num) (loneWord 7 (.msg (.msend n xd len1 route group))) =
      setCore (modClus s (clusOf k.num) (rowsSent (len1.toNat + 1))) k.num (runUp (withRows (getCore s k.num) rows)) := by
    rw [here] at hr
    subst hr
    refine Eq.trans (b := modClus (modCore (runStart s k.num) k.num (fun c => withRows c (sendRows s (issueOf s k.num) n xd len1 route group)))
      (clusOf k.num) (rowsSent (len1.toNat + 1))) rfl ?_
    rw [runStart, modCore_setCore]
    rfl
  exact lone_row s _ k.num 7 _ false _ h (fun _ _ => rfl) slot (fun f hf => (h.still f hf).1)
    (fun f hf => secondCycle_of_not_load _ _ _ (h.still f hf).2) ((stopAt_modClus (fun _ => by rfl) _).trans h.fetches.goesOn)

end

/-- Settles O25: each row is the equation of its instruction; what leaves the core changes its cluster alone. -/
theorem remoteAndSendRows : Obligations.RemoteAndSendRows :=
  ⟨fun _ _ => ⟨fun _ _ _ h reply => exec_rrd rfl h reply, fun _ _ h => exec_rwr rfl h rfl⟩, fun _ _ _ _ _ _ _ h => exec_msend rfl h rfl⟩

end Sys2Proof.Machine

/-! # The power of the memories' banks (07 R279 to R284) -/

namespace Sys2Proof.Machine

/-! ## A cc of a cluster begins -/

/-- `t` differs from `s` in the cc of a cluster and in what has been used in the cc alone. -/
structure SameButUses (s t : State) : Prop where
  core : ∀ n, ∃ used, getCore t n = modMem (getCore s n) (fun m => { m with uses := used })
  clus : ∀ c, ∃ cc used, getClus t c = modCMem (getClus s c) (fun m => { m with cc := cc, uses := used })

namespace SameButUses

theorem refl (s : State) : SameButUses s s := ⟨fun n => ⟨(getCore s n).mem.uses, rfl⟩, fun c => ⟨_, (getClus s c).mem.uses, rfl⟩⟩

/-- The uses of a core may be forgotten. -/
theorem freeCore {s t : State} (h : SameButUses s t) (n : Nat) :
    SameButUses s (modCore t n (fun k => modMem k (fun m => { m with uses := [] }))) where
  core m := by
    by_cases hm : m = n
    · subst hm
      obtain ⟨used, core⟩ := h.core m
      exact ⟨[], by rw [getCore_modCore_same, core]; rfl⟩
    · rw [getCore_modCore_other _ _ _ _ hm]
      exact h.core m
  clus := h.clus

/-- A cluster may count up its cc. -/
theorem countUp (s : State) (c cc : Nat) : SameButUses s (modClus s c (fun x => modCMem x (fun m => { m with cc := cc, uses := [] }))) where
  core n := ⟨(getCore s n).mem.uses, rfl⟩
  clus d := by
    by_cases hd : d = c
    · subst hd
      exact ⟨cc, [], getClus_modClus_same ..⟩
    · rw [getClus_modClus_other _ _ _ _ hd]
      exact ⟨_, (getClus s d).mem.uses, rfl⟩

theorem of_enterCc {s t : State} {c cc : Nat} (h : enterCc s c cc = some t) : SameButUses s t := by
  unfold enterCc at h
  dsimp only at h
  split at h
  · cases h
  · split at h
    · obtain rfl := Option.some.inj h
      exact refl s
    · obtain rfl := Option.some.inj h
      refine List.foldlRecOn _ _ (motive := SameButUses s) (countUp s c cc) fun a ha n _ => ?_
      split
      · exact ha
      · exact ha.freeCore n

section
variable {s t : State} (h : SameButUses s t)
include h

theorem spPower_eq (n b : Nat) : spPower t n b = spPower s n b := by
  obtain ⟨used, core⟩ := h.core n
  rw [spPower, core]; rfl

theorem cmPower_eq (c b : Nat) : cmPower t c b = cmPower s c b := by
  obtain ⟨cc, used, clus⟩ := h.clus c
  rw [cmPower, clus]; rfl

theorem bankLullIdle_eq (c : Nat) : (getClus t c).bankLullIdle = (getClus s c).bankLullIdle := by
  obtain ⟨cc, used, clus⟩ := h.clus c
  rw [clus]; rfl

theorem spBankBusy_eq (n b : Nat) : spBankBusy (getCore t n) b = spBankBusy (getCore s n) b := by
  obtain ⟨used, core⟩ := h.core n
  rw [core]; rfl

theorem moves_eq (n : Nat) : (getCore t n).mem.moves = (getCore s n).mem.moves := by
  obtain ⟨used, core⟩ := h.core n
  rw [core]; rfl

theorem cmBankBusy_eq (c b : Nat) : cmBankBusy t c b = cmBankBusy s c b := by
  simp only [cmBankBusy, h.moves_eq]

end
end SameButUses

/-! ## One bank's power changes -/

theorem modSpPower_congr {s : State} {n b : Nat} {f g : BankPower → BankPower} (h : f (spPower s n b) = g (spPower s n b)) :
    modSpPower s n b f = modSpPower s n b g := by
  have same : mmod {} (getCore s n).mem.banks b f = mmod {} (getCore s n).mem.banks b g := congrArg (mset _ b) h
  simp only [modSpPower, modCore, modMem, same]

theorem modCmPower_congr {s : State} {c b : Nat} {f g : BankPower → BankPower} (h : f (cmPower s c b) = g (cmPower s c b)) :
    modCmPower s c b f = modCmPower s c b g := by
  have same : mmod {} (getClus s c).mem.banks b f = mmod {} (getClus s c).mem.banks b g := congrArg (mset _ b) h
  simp only [modCmPower, modClus, modCMem, same]

theorem spPower_modSpPower_same (s : State) (n b : Nat) (f : BankPower → BankPower) : spPower (modSpPower s n b f) n b = f (spPower s n b) := by
  rw [spPower, modSpPower, getCore_modCore_same]
  exact mget_mset_same ..

theorem spPower_modSpPower_other {s : State} {n b j : Nat} (f : BankPower → BankPower) (h : j ≠ b) : spPower (modSpPower s n b f) n j = spPower s n j := by
  rw [spPower, modSpPower, getCore_modCore_same]
  exact mget_mset_other _ _ _ _ _ h

theorem cmPower_modCmPower_same (s : State) (c b : Nat) (f : BankPower → BankPower) : cmPower (modCmPower s c b f) c b = f (cmPower s c b) := by
  rw [cmPower, modCmPower, getClus_modClus_same]
  exact mget_mset_same ..

theorem cmPower_modCmPower_other {s : State} {c b j : Nat} (f : BankPower → BankPower) (h : j ≠ b) : cmPower (modCmPower s c b f) c j = cmPower s c j := by
  rw [cmPower, modCmPower, getClus_modClus_same]
  exact mget_mset_other _ _ _ _ _ h

/-! ## Lull (07 R279, R280) -/

theorem enterLull_awake {p : BankPower} (ready : p.ready = true) (awake : p.lull = false) : enterLull p = { p with lull := true, wake := 0 } := by
  simp [enterLull, ready, awake]

theorem endWake_woken {p : BankPower} (asleep : p.lull = true) (wakes : p.wake = 1) : endWake p = { p with lull := false, wake := 0 } := by
  simp [endWake, asleep, wakes]

section
variable {s s1 : State} {cc : Nat}

theorem exec_bankLull_sp {k : CoreId} {b : Fin 8} (enter : enterCc s k.cluster.val cc = some s1)
    (used : (getClus s k.cluster.val).bankLullIdle ≠ 0) (free : spBankBusy (getCore s k.num) b.val = false)
    (ready : (spPower s k.num b.val).ready = true) (awake : (spPower s k.num b.val).lull = false) :
    exec (.bankLull (.sp k b) cc) s = .next (if (getClus s k.cluster.val).bankLullIdle ≤ spIdle s1 k.num b.val
      then modSpPower s1 k.num b.val (fun q => { q with lull := true, wake := 0 }) else s1) := by
  have same := SameButUses.of_enterCc enter
  rw [← same.spPower_eq] at ready awake
  have lull := modSpPower_congr (g := fun q => { q with lull := true, wake := 0 }) (enterLull_awake ready awake)
  refine Eq.trans (b := execBankLull (.sp k b) cc s) rfl ?_
  simp only [execBankLull, enter, same.bankLullIdle_eq, same.spBankBusy_eq, free, used, lull, decide_false, Bool.false_or, Bool.or_false,
    decide_eq_true_eq, ← Nat.not_le]
  split <;> simp_all

theorem exec_bankLull_cm {c : ClusterId} {b : Fin 16} (enter : enterCc s c.val cc = some s1)
    (used : (getClus s c.val).bankLullIdle ≠ 0) (free : cmBankBusy s c.val b.val = false)
    (ready : (cmPower s c.val b.val).ready = true) (awake : (cmPower s c.val b.val).lull = false) :
    exec (.bankLull (.cm c b) cc) s = .next (if (getClus s c.val).bankLullIdle ≤ cmIdle s1 c.val b.val
      then modCmPower s1 c.val b.val (fun q => { q with lull := true, wake := 0 }) else s1) := by
  have same := SameButUses.of_enterCc enter
  rw [← same.cmPower_eq] at ready awake
  have lull := modCmPower_congr (g := fun q => { q with lull := true, wake := 0 }) (enterLull_awake ready awake)
  refine Eq.trans (b := execBankLull (.cm c b) cc s) rfl ?_
  simp only [execBankLull, enter, same.bankLullIdle_eq, same.cmBankBusy_eq, free, used, lull, decide_false, Bool.false_or, Bool.or_false,
    decide_eq_true_eq, ← Nat.not_le]
  split <;> simp_all

theorem exec_bankWake_sp {k : CoreId} {b : Fin 8} (asleep : (spPower s k.num b.val).lull = true) (wakes : (spPower s k.num b.val).wake = 1) :
    exec (.bankWake (.sp k b)) s = .next (modSpPower s k.num b.val (fun q => { q with lull := false, wake := 0 })) :=
  congrArg Host.Outcome.next (modSpPower_congr (endWake_woken asleep wakes))

theorem exec_bankWake_cm {c : ClusterId} {b : Fin 16} (asleep : (cmPower s c.val b.val).lull = true) (wakes : (cmPower s c.val b.val).wake = 1) :
    exec (.bankWake (.cm c b)) s = .next (modCmPower s c.val b.val (fun q => { q with lull := false, wake := 0 })) :=
  congrArg Host.Outcome.next (modCmPower_congr (endWake_woken asleep wakes))

end

/-! ## The OFF bits (07 R281, R284, R285, R286) -/

/-- A bank whose OFF bit is written as it stands stays as it is. -/
theorem setOff_off (p : BankPower) : setOff p.off p = p := by simp [setOff]

/-- The bits of a mask gathered from a list of places. -/
theorem testBit_foldl_or (l : List Nat) (m j : Nat) : (l.foldl (fun a b => a ||| 2 ^ b) m).testBit j = (m.testBit j || decide (j ∈ l)) := by
  induction l generalizing m with
  | nil => simp
  | cons b r ih =>
    rw [List.foldl_cons, ih, Nat.testBit_or, Nat.testBit_two_pow]
    by_cases h : b = j
    · subst h; simp
    · simp [h, Ne.symm h]

theorem testBit_spOffMask (s : State) (n : Nat) {j : Nat} (h : j < 8) : (spOffMask s n).testBit j = (spPower s n j).off := by
  simp [spOffMask, testBit_foldl_or, h]

theorem testBit_cmOffMask (s : State) (c : Nat) {j : Nat} (h : j < 16) : (cmOffMask s c).testBit j = (cmPower s c j).off := by
  simp [cmOffMask, testBit_foldl_or, h]

/-- The mask that a port writes to set or clear the OFF bit of bank `b` among `w` banks. -/
def offMask (w m b : Nat) (off : Bool) : Nat := if off then m ||| 2 ^ b else m &&& (2 ^ w - 1 - 2 ^ b)

theorem testBit_offMask {w b j : Nat} (m : Nat) (off : Bool) (hb : b < w) (hj : j < w) :
    (offMask w m b off).testBit j = if j = b then off else m.testBit j := by
  have below : 2 ^ b < 2 ^ w := Nat.pow_lt_pow_right (by decide) hb
  have others : (2 ^ w - 1 - 2 ^ b).testBit j = !decide (b = j) := by
    rw [show 2 ^ w - 1 - 2 ^ b = 2 ^ w - (2 ^ b + 1) by omega, Nat.testBit_two_pow_sub_succ below, Nat.testBit_two_pow]
    simp [hj]
  cases off with
  | true =>
    simp only [offMask, if_true, Nat.testBit_or, Nat.testBit_two_pow]
    by_cases h : j = b
    · simp [h]
    · simp [h, show b ≠ j from fun e => h e.symm]
  | false =>
    simp only [offMask, Bool.false_eq_true, if_false, Nat.testBit_and, others]
    by_cases h : j = b
    · simp [h]
    · simp [h, show b ≠ j from fun e => h e.symm]

/-- Every listed bank of a scratchpad takes its change, and no other. -/
theorem spPower_foldl (f : Nat → BankPower → BankPower) (n j : Nat) (l : List Nat) (once : l.Nodup) (s : State) :
    spPower (l.foldl (fun a b => modSpPower a n b (f b)) s) n j = if j ∈ l then f j (spPower s n j) else spPower s n j := by
  induction l generalizing s with
  | nil => rfl
  | cons b r ih =>
    obtain ⟨fresh, rest⟩ := List.nodup_cons.mp once
    rw [List.foldl_cons, ih rest]
    by_cases h : j = b
    · subst h; simp [fresh, spPower_modSpPower_same]
    · simp [h, spPower_modSpPower_other]

/-- Every listed bank of a cluster memory takes its change, and no other. -/
theorem cmPower_foldl (f : Nat → BankPower → BankPower) (c j : Nat) (l : List Nat) (once : l.Nodup) (s : State) :
    cmPower (l.foldl (fun a b => modCmPower a c b (f b)) s) c j = if j ∈ l then f j (cmPower s c j) else cmPower s c j := by
  induction l generalizing s with
  | nil => rfl
  | cons b r ih =>
    obtain ⟨fresh, rest⟩ := List.nodup_cons.mp once
    rw [List.foldl_cons, ih rest]
    by_cases h : j = b
    · subst h; simp [fresh, cmPower_modCmPower_same]
    · simp [h, cmPower_modCmPower_other]

section
variable (s : State) (n mask : Nat)

theorem spPower_writeSpOff {j : Nat} (h : j < 8) : spPower (writeSpOff s n mask) n j = setOff (mask.testBit j) (spPower s n j) := by
  rw [writeSpOff, spPower_foldl (fun b => setOff (mask.testBit b)) n j _ List.nodup_range, if_pos (List.mem_range.mpr h)]

theorem cmPower_writeCmOff {j : Nat} (h : j < 16) : cmPower (writeCmOff s n mask) n j = setOff (mask.testBit j) (cmPower s n j) := by
  rw [writeCmOff, cmPower_foldl (fun b => setOff (mask.testBit b)) n j _ List.nodup_range, if_pos (List.mem_range.mpr h)]

theorem getCore_writeSpOff_other {m : Nat} (h : m ≠ n) : getCore (writeSpOff s n mask) m = getCore s m :=
  List.foldlRecOn _ _ (motive := fun t => getCore t m = getCore s m) rfl fun _ ht _ _ => (getCore_modCore_other _ _ _ _ h).trans ht

theorem getClus_writeCmOff_other {m : Nat} (h : m ≠ n) : getClus (writeCmOff s n mask) m = getClus s m :=
  List.foldlRecOn _ _ (motive := fun t => getClus t m = getClus s m) rfl fun _ ht _ _ => (getClus_modClus_other _ _ _ _ h).trans ht

theorem clus_writeSpOff : (writeSpOff s n mask).clus = s.clus :=
  List.foldlRecOn _ _ (motive := fun t => State.clus t = s.clus) rfl fun _ ht _ _ => ht

theorem spMem_writeSpOff : (writeSpOff s n mask).spMem = s.spMem := congrArg Held.sp (held_writeSpOff s n mask)

theorem cmMem_writeCmOff : (writeCmOff s n mask).cmMem = s.cmMem := congrArg Held.cm (held_writeCmOff s n mask)

theorem cores_writeCmOff : (writeCmOff s n mask).cores = s.cores :=
  List.foldlRecOn _ _ (motive := fun t => State.cores t = s.cores) rfl fun _ ht _ _ => ht

end

/-- A port's write of one OFF bit of a scratchpad's bank changes that bank alone. -/
theorem spPower_writeSpOff_offMask (s : State) (n : Nat) {b j : Nat} (off : Bool) (hb : b < 8) (hj : j < 8) :
    spPower (writeSpOff s n (offMask 8 (spOffMask s n) b off)) n j = if j = b then setOff off (spPower s n j) else spPower s n j := by
  rw [spPower_writeSpOff _ _ _ hj, testBit_offMask _ _ hb hj, testBit_spOffMask _ _ hj]
  split
  · rfl
  · exact setOff_off _

/-- A port's write of one OFF bit of a cluster memory's bank changes that bank alone. -/
theorem cmPower_writeCmOff_offMask (s : State) (c : Nat) {b j : Nat} (off : Bool) (hb : b < 16) (hj : j < 16) :
    cmPower (writeCmOff s c (offMask 16 (cmOffMask s c) b off)) c j = if j = b then setOff off (cmPower s c j) else cmPower s c j := by
  rw [cmPower_writeCmOff _ _ _ hj, testBit_offMask _ _ hb hj, testBit_cmOffMask _ _ hj]
  split
  · rfl
  · exact setOff_off _

section
variable {s : State} {h : Fin 2} (ans : portAnswers s h.val = true)
include ans

theorem exec_bankSwitch_sp {k : CoreId} {b : Fin 8} (off : Bool) (granted : spPwrDenied s h.val k.num = none) :
    exec (if off then .bankOff h (.sp k b) else .bankOn h (.sp k b)) s =
      .next (writeSpOff s k.num (offMask 8 (spOffMask s k.num) b.val off)) := by
  refine Eq.trans (b := hostBank h.val (.sp k b) off s) (by cases off <;> rfl) ?_
  rw [hostBank]
  exact hostCmd_granted ans granted

theorem exec_bankSwitch_cm {c : ClusterId} {b : Fin 16} (off : Bool) (granted : clusDenied s h.val c.val = none) :
    exec (if off then .bankOff h (.cm c b) else .bankOn h (.cm c b)) s =
      .next (writeCmOff s c.val (offMask 16 (cmOffMask s c.val) b.val off)) := by
  refine Eq.trans (b := hostBank h.val (.cm c b) off s) (by cases off <;> rfl) ?_
  rw [hostBank]
  exact hostCmd_granted ans granted

end

/-! ## A bank that powers off, and its scrub (07 R282, R284) -/

section
variable {s : State}

theorem exec_bankPowerDown_sp {k : CoreId} {b : Fin 8} (pend : (spPower s k.num b.val).pend = true)
    (untagged : tagTargets s k.cluster.val (.sp k b) = false) :
    exec (.bankPowerDown (.sp k b)) s = .next (modSpPower (wipeSp s k.num b.val) k.num b.val powerDown) := by
  refine Eq.trans (b := execBankPowerDown (.sp k b) s) rfl ?_
  simp [execBankPowerDown, pend, untagged]

theorem exec_bankPowerDown_cm {c : ClusterId} {b : Fin 16} (pend : (cmPower s c.val b.val).pend = true)
    (untagged : tagTargets s c.val (.cm c b) = false) :
    exec (.bankPowerDown (.cm c b)) s = .next (modCmPower (wipeCm s c.val b.val) c.val b.val powerDown) := by
  refine Eq.trans (b := execBankPowerDown (.cm c b) s) rfl ?_
  simp [execBankPowerDown, pend, untagged]

theorem exec_bankReady_sp {k : CoreId} {b : Fin 8} (on : (spPower s k.num b.val).off = false) (unready : (spPower s k.num b.val).ready = false) :
    exec (.bankReady (.sp k b)) s = .next (modSpPower (wipeSp s k.num b.val) k.num b.val (fun p => { p with ready := true })) := by
  refine Eq.trans (b := execBankReady (.sp k b) s) rfl ?_
  simp [execBankReady, on, unready]

end

/-- A byte of a bank that has been cleared reads as 0, and every other byte as before. -/
theorem readByte_clearBank (m : Mem) (base size banks b a : Nat) :
    readByte (clearBank m base size banks b) a = if base ≤ a ∧ a < base + size ∧ (a - base) / 512 % banks = b then 0 else readByte m a := by
  unfold readByte clearBank
  split
  case isTrue inside =>
    obtain ⟨above, below, bank⟩ := inside
    refine mget_absent _ _ _ fun c hc e => ?_
    simp only [List.mem_filter, e, bank, bne_self_eq_false, Bool.or_false, Bool.or_eq_true, decide_eq_true_eq] at hc
    omega
  case isFalse outside =>
    refine mget_filter _ _ _ _ fun c _ e => ?_
    simp only [e, Bool.or_eq_true, decide_eq_true_eq, bne_iff_ne]
    by_contra h
    exact outside (by omega)

/-- The scratchpad of a core about the rows of one of its banks. -/
theorem readByte_wipeSp (s : State) (n b row i : Nat) (hr : row < 32768) (hi : i < 512) :
    readByte (wipeSp s n b).spMem (spAddr n row + i) = if spBank row = b then 0 else readByte s.spMem (spAddr n row + i) := by
  have place : spAddr n row + i - spAddr n 0 = 512 * row + i := by unfold spAddr; omega
  have rows : (512 * row + i) / 512 = row := by omega
  have inside : spAddr n 0 ≤ spAddr n row + i ∧ spAddr n row + i < spAddr n 0 + 16777216 := by unfold spAddr; omega
  refine (readByte_clearBank ..).trans ?_
  rw [place, rows]
  exact if_congr (by simp [inside, spBank]) rfl rfl

/-- The scratchpads of other cores are as before. -/
theorem readByte_wipeSp_other (s : State) {n m : Nat} (b row i : Nat) (other : m ≠ n) (hr : row < 32768) (hi : i < 512) :
    readByte (wipeSp s n b).spMem (spAddr m row + i) = readByte s.spMem (spAddr m row + i) := by
  refine (readByte_clearBank ..).trans (if_neg ?_)
  unfold spAddr
  omega

/-- Settles O28: each command's effect on its bank's power, with the OFF bits of the other banks written as they stand;
    a scrub clears the bytes of its bank's rows alone. -/
theorem bankRows : Obligations.BankRows := by
  refine ⟨fun s => ⟨fun k b => ⟨?lullSp, ?wakeSp⟩, fun c b => ⟨?lullCm, ?wakeCm⟩⟩,
    fun s h ans => ⟨fun k b off granted => ?offSp, fun c b off granted => ?offCm, fun k b => ?downSp, fun c b => ?downCm⟩,
    fun s k b on unready => ?ready⟩
  case lullSp => exact fun cc s1 => exec_bankLull_sp
  case wakeSp => exact exec_bankWake_sp
  case lullCm => exact fun cc s1 => exec_bankLull_cm
  case wakeCm => exact exec_bankWake_cm
  case offSp =>
    have one (j : Fin 8) := spPower_writeSpOff_offMask s k.num off b.isLt j.isLt
    refine ⟨writeSpOff s k.num (offMask 8 (spOffMask s k.num) b.val off), exec_bankSwitch_sp ans off granted, ?_, fun j hj => ?_, fun n hn => ?_,
      clus_writeSpOff .., spMem_writeSpOff ..⟩
    · rw [one, if_pos rfl]
    · rw [one, if_neg (Fin.val_ne_of_ne hj)]
    · exact getCore_writeSpOff_other _ _ _ hn
  case offCm =>
    have one (j : Fin 16) := cmPower_writeCmOff_offMask s c.val off b.isLt j.isLt
    refine ⟨writeCmOff s c.val (offMask 16 (cmOffMask s c.val) b.val off), exec_bankSwitch_cm ans off granted, ?_, fun j hj => ?_, fun n hn => ?_,
      cores_writeCmOff .., cmMem_writeCmOff ..⟩
    · rw [one, if_pos rfl]
    · rw [one, if_neg (Fin.val_ne_of_ne hj)]
    · exact getClus_writeCmOff_other _ _ _ hn
  case downSp => exact exec_bankPowerDown_sp
  case downCm => exact exec_bankPowerDown_cm
  case ready =>
    refine ⟨_, exec_bankReady_sp on unready, ?_, fun row i => readByte_wipeSp s _ _ row i, fun n row i other => readByte_wipeSp_other s _ row i other,
      rfl, rfl⟩
    rw [spPower_modSpPower_same]

end Sys2Proof.Machine

/-! # Moves and remote accesses (07 R247, R250 to R253, R267, R273, R274, R276) -/

namespace Sys2Proof.Machine

/-! ## A row read back from where it was written (07 R242) -/

theorem bytesNat_natBytes (n v : Nat) : bytesNat (natBytes n v) = v % 2 ^ (8 * n) := by
  induction n generalizing v with
  | zero => simp [natBytes, bytesNat, Nat.mod_one]
  | succ n ih =>
    have split : 2 ^ (8 * (n + 1)) = 256 * 2 ^ (8 * n) := by rw [Nat.mul_succ, pow_add, Nat.mul_comm]; norm_num
    rw [natBytes, bytesNat, ih, split, Nat.mod_mul, BitVec.toNat_ofNat]

theorem readBytes_writeBytes_same (m : Mem) (a : Nat) (bs : List Byte) : readBytes (writeBytes m a bs) a bs.length = bs := by
  refine List.ext_getElem (by simp [readBytes]) fun i _ hi => ?_
  simp [readBytes, readByte_writeBytes_same m a bs i hi, hi]

theorem readRow_writeRow_same (m : Mem) (a : Nat) (r : Row) : readRow (writeRow m a r) a = r := by
  have read := readBytes_writeBytes_same m a (natBytes 512 r.toNat)
  rw [natBytes_length] at read
  rw [readRow, writeRow, read, bytesNat_natBytes, Nat.mod_eq_of_lt r.isLt, BitVec.ofNat_toNat, BitVec.setWidth_eq]

/-! ## Bit errors that strike a cluster-memory row (07 R276) -/

/-- `t` differs from `s` in the rows of cluster memories and in the codewords of those of cluster `c` alone. -/
structure StruckCm (s t : State) (c : Nat) : Prop where
  cores : t.cores = s.cores
  parts : t.parts = s.parts
  clus : ∃ words, getClus t c = modCMem (getClus s c) (fun m => { m with ecc := words })

theorem struckCm (s : State) (c row : Nat) (e : Ecc) : StruckCm s (strikeCm s c row e) c := by
  unfold strikeCm
  split
  · exact ⟨rfl, rfl, _, rfl⟩
  · dsimp only
    split <;> exact ⟨rfl, rfl, _, getClus_modClus_same ..⟩

theorem strikeCm_none (s : State) (c row : Nat) : strikeCm s c row {} = s := if_pos rfl

namespace StruckCm

section
variable {s t : State} {c : Nat} (h : StruckCm s t c)
include h

theorem getCore_eq (n : Nat) : getCore t n = getCore s n := by rw [getCore, getCore, h.cores]

theorem clusterStopped_eq : clusterStopped t c = clusterStopped s c := by
  obtain ⟨-, parts, words, clus⟩ := h
  simp only [clusterStopped, clockStopped, partOfCluster, getPart, parts, clus]
  rfl

theorem cc_eq : (getClus t c).mem.cc = (getClus s c).mem.cc := by
  obtain ⟨words, clus⟩ := h.clus
  rw [clus]; rfl

theorem slotOwner_eq (bank cc : Nat) : slotOwner t c bank cc = slotOwner s c bank cc := by
  obtain ⟨words, clus⟩ := h.clus
  rw [slotOwner, clus]; rfl

theorem cmUsed_eq (write : Bool) (bank : Nat) : cmUsed t c write bank = cmUsed s c write bank := by
  obtain ⟨words, clus⟩ := h.clus
  rw [cmUsed, clus]; rfl

theorem cmAnswer_eq (bank : Nat) : cmAnswer t c bank = cmAnswer s c bank := by
  obtain ⟨words, clus⟩ := h.clus
  rw [cmAnswer, cmPower, clus]; rfl

theorem guardAt_eq (cm : Bool) (lcore row : Nat) : guardAt t c cm lcore row = guardAt s c cm lcore row := by
  obtain ⟨words, clus⟩ := h.clus
  rw [guardAt, clus]; rfl

theorem cmrdGate_eq {n : Nat} (hc : clusOf n = c) (dst : Nat) : cmrdGate t n dst = cmrdGate s n dst := by
  rw [cmrdGate, cmrdGate, hc, h.getCore_eq, h.guardAt_eq]

end
end StruckCm

theorem clusOf_num (k : CoreId) : clusOf k.num = k.cluster.val := by
  have := k.core.isLt
  unfold clusOf CoreId.num
  omega

/-! ## MOVE_EXECUTE: a move that may execute in its cc (07 R250, R252) -/

/-- In this cc of its cluster, whose slots of a bank belong to core `k`, the core's move `m` for that bank may execute. -/
structure MoveReady (s : State) (k : CoreId) (bank : Fin 16) (cc num : Nat) (m : Move) : Prop where
  runs : clusterStopped s k.cluster.val = false
  now : (getClus s k.cluster.val).mem.cc = cc
  owner : slotOwner s k.cluster.val bank.val cc = lcoreNum (getCore s k.num)
  first : firstMove (getCore s k.num).mem.moves bank.val = some (num, m)
  slots : moveSlots s k.cluster.val bank.val m = true
  answer : cmAnswer s k.cluster.val bank.val = .ready

/-- What a move does that executes. -/
def runMove (s : State) (n num : Nat) (ecc : Ecc) : Move → State
  | .cmrd src dst => runCmrd s n num src dst ecc
  | .cmwr dst v => runCmwr s n num dst v
  | .cmcnt row mask inc wrap ev => runCmcnt s n num row mask inc wrap ev ecc

/-- A cc that a cluster has reached is entered as it stands. -/
theorem enterCc_now {s : State} {c cc : Nat} (runs : clusterStopped s c = false) (now : (getClus s c).mem.cc = cc) : enterCc s c cc = some s := by
  simp [enterCc, runs, now]

namespace MoveReady

section
variable {s : State} {k : CoreId} {bank : Fin 16} {cc num : Nat} {m : Move} (h : MoveReady s k bank cc num m)
include h

theorem exec_eq (ecc : Ecc) : exec (.moveExecute k bank cc ecc) s = .next (runMove s k.num num ecc m) := by
  obtain ⟨runs, now, owner, first, slots, answer⟩ := h
  refine Eq.trans (b := execMoveExecute k bank cc ecc s) rfl ?_
  simp only [execMoveExecute, enterCc_now runs now, owner, first, slots, answer, ne_eq, not_true_eq_false, if_false, Bool.not_true, Bool.false_eq_true]
  cases m <;> rfl

theorem strike (row : Nat) (ecc : Ecc) : MoveReady (strikeCm s k.cluster.val row ecc) k bank cc num m := by
  have struck := struckCm s k.cluster.val row ecc
  obtain ⟨runs, now, owner, first, slots, answer⟩ := h
  refine ⟨struck.clusterStopped_eq.trans runs, struck.cc_eq.trans now, ?_, ?_, ?_, (struck.cmAnswer_eq _).trans answer⟩
  · rw [struck.slotOwner_eq, struck.getCore_eq, owner]
  · rw [struck.getCore_eq, first]
  · rw [← slots]
    cases m <;> simp only [moveSlots, struck.cmUsed_eq]

/-- The row that the move names lies in the bank. -/
theorem bank_eq : cmBank (moveRow m) = bank.val := by simpa using List.find?_some h.first

end
end MoveReady

/-! ## Reads and writes of a cluster-memory row (07 R243, R262) -/

/-- The state after a read of a cluster-memory row, which takes a read slot of its bank. -/
def usedCm (s : State) (c row : Nat) (p : Party) : State :=
  countCorrCm (modClus s c (fun x => modCMem x (useCm { isWrite := false, row := row, party := p, old := 0 }))) c row

/-- No use of a bank's slots of one kind is one of a row of the bank. -/
theorem row_ne_of_unused {s : State} {c row : Nat} {write : Bool} (free : cmUsed s c write (cmBank row) = false) :
    ∀ u ∈ (getClus s c).mem.uses, u.isWrite = write → u.row ≠ row := by
  intro u hu hw hr
  subst hw hr
  have met : cmUsed s c u.isWrite (cmBank u.row) = true := List.any_eq_true.mpr ⟨u, hu, by simp⟩
  exact absurd met (by simp [free])

/-- A read in a cc in which the row's bank has not been written. -/
theorem readCm_unwritten {s : State} {c row : Nat} (p : Party) (free : cmUsed s c true (cmBank row) = false) :
    readCm s c row p = (cmRow s c row, usedCm s c row p) := by
  have other := row_ne_of_unused free
  have before : rowBefore (getClus s c).mem.uses row (cmRow s c row) = cmRow s c row := by
    rw [rowBefore, List.find?_eq_none.mpr fun u hu => by simpa using other u hu]
  have met : writerMet (getClus s c).mem.uses row p = none := by
    rw [writerMet, List.find?_eq_none.mpr fun u hu => by simpa using fun hw hr => absurd hr (other u hu hw)]
  simp only [readCm, before, met, ite_self]
  rfl

section
variable (s : State) (c row : Nat) (p : Party)

theorem cores_countCorrCm : (countCorrCm s c row).cores = s.cores := by
  unfold countCorrCm
  dsimp only
  split <;> rfl

theorem cores_usedCm : (usedCm s c row p).cores = s.cores := cores_countCorrCm ..

theorem held_usedCm : held (usedCm s c row p) = held s := held_countCorrCm ..

/-- The cluster of a read, but for its count of corrected errors. -/
theorem getClus_usedCm : ∃ count, getClus (usedCm s c row p) c =
    modCMem (getClus s c) (fun m => { useCm { isWrite := false, row := row, party := p, old := 0 } m with eccCorr := count }) := by
  unfold usedCm countCorrCm
  dsimp only
  split
  · exact ⟨(getClus s c).mem.eccCorr, getClus_modClus_same ..⟩
  · rw [getClus_modClus_same, getClus_modClus_same]
    exact ⟨_, rfl⟩

theorem cmBad_usedCm (r : Nat) : cmBad (usedCm s c row p) c r = cmBad s c r := by
  obtain ⟨count, clus⟩ := getClus_usedCm s c row p
  rw [cmBad, cmWords, clus]; rfl

theorem held_writeCm (v : Row) (produce : Option Nat) : held (writeCm s c row v p produce) = held (setCmRow s c row v) := by
  simp only [writeCm]
  (repeat' split) <;> simp

end

/-- A party's write of a row that it has read, where no other use of the read slots came before. -/
theorem cores_writeCm_usedCm {s : State} {c row : Nat} (p : Party) (v : Row) (free : cmUsed s c false (cmBank row) = false) :
    (writeCm (usedCm s c row p) c row v p none).cores = s.cores := by
  obtain ⟨count, clus⟩ := getClus_usedCm s c row p
  have other := row_ne_of_unused free
  have own : sameParty p p = true := by simp [sameParty]
  have alone : collider (getClus (usedCm s c row p) c).mem.uses [] row p 0 = none := by
    have none_found : (getClus (usedCm s c row p) c).mem.uses.find? (fun u => !u.isWrite && u.row == row && !sameParty u.party p) = none := by
      rw [clus]
      refine List.find?_eq_none.mpr fun u hu => ?_
      obtain hu | hu := List.mem_append.mp hu
      · simpa using fun hw hr => absurd hr (other u hu hw)
      · obtain rfl := List.mem_singleton.mp hu
        simp [own]
    rw [collider, none_found]
    rfl
  simp only [writeCm, alone, ite_self]
  exact cores_usedCm s c row p

/-! ## The moves (07 R252, R267) -/

section
variable {s : State} {n num : Nat}

theorem runCmwr_raw {dst : Nat} {v : Row} (raw : guardAt s (clusOf n) true 0 dst = none) :
    runCmwr s n num dst v = moveDone (writeCm s (clusOf n) dst v (moveParty (getCore s n)) none) n num := by
  simp only [runCmwr, raw, gateOf]

/-- A row read by a CMRD waits to land in the scratchpad. -/
def landLater (s : State) (n num dst : Nat) (v : Row) : State :=
  modCore (moveDone s n num) n (fun k => modMem k (fun m => { m with landing := m.landing ++ [{ dst := dst, val := v }] }))

/-- A CMRD between raw rows, of which its source has been struck by the errors that come with its read. -/
def readRaw (s : State) (n num src dst : Nat) : State :=
  let r := readCm s (clusOf n) src (moveParty (getCore s n))
  let t := landLater r.2 n num dst r.1
  if cmBad t (clusOf n) src then moveUe t (clusOf n) true n src else t

theorem runCmrd_raw {src dst : Nat} (ecc : Ecc) (rawSrc : guardAt s (clusOf n) true 0 src = none) (rawDst : cmrdGate s n dst = .raw) :
    runCmrd s n num src dst ecc = readRaw (strikeCm s (clusOf n) src ecc) n num src dst := by
  rw [readRaw, (struckCm ..).getCore_eq]
  simp only [runCmrd, rawSrc, rawDst, gateOf]
  rfl

theorem readRaw_clean {src dst : Nat} (free : cmUsed s (clusOf n) true (cmBank src) = false) (clean : cmBad s (clusOf n) src = false) :
    readRaw s n num src dst = landLater (usedCm s (clusOf n) src (moveParty (getCore s n))) n num dst (cmRow s (clusOf n) src) := by
  have good : cmBad (landLater (usedCm s (clusOf n) src (moveParty (getCore s n))) n num dst (cmRow s (clusOf n) src)) (clusOf n) src = false :=
    (cmBad_usedCm ..).trans clean
  simp only [readRaw, readCm_unwritten _ free, good, Bool.false_eq_true, if_false]

theorem getCore_landLater (s : State) (n num dst : Nat) (v : Row) : getCore (landLater s n num dst v) n = modMem (getCore s n) (fun m =>
    { m with moves := m.moves.filter (fun e => e.1 != num), landing := m.landing ++ [{ dst := dst, val := v }] }) := by
  rw [landLater, getCore_modCore_same, moveDone, getCore_modCore_same]
  rfl

theorem runCmcnt_strike {row : Nat} {mask : BitVec 128} {inc : BitVec 32} {wrap ev : Bool} (ecc : Ecc) :
    runCmcnt s n num row mask inc wrap ev ecc = runCmcnt (strikeCm s (clusOf n) row ecc) n num row mask inc wrap ev {} := by
  simp only [runCmcnt, strikeCm_none, (struckCm ..).getCore_eq]

/-- A cluster whose memory's OVF bit of a row has been written (07 R268). -/
def withOvf (row : Nat) (ovf : Bool) (x : Cluster) : Cluster := modCMem x (fun m => { m with ovf := mset m.ovf row ovf })

/-- A CMCNT without the request of an event, of a row without an error. -/
theorem runCmcnt_clean {row : Nat} {mask : BitVec 128} {inc : BitVec 32} {wrap : Bool} {r : Row × Bool} {was : Bool}
    (free : cmUsed s (clusOf n) true (cmBank row) = false) (clean : cmBad s (clusOf n) row = false)
    (hr : countRow (cmRow s (clusOf n) row) mask inc wrap = r) (hw : mget false (getClus s (clusOf n)).mem.ovf row = was) :
    runCmcnt s n num row mask inc wrap false {} =
      moveDone (modClus (writeCm (usedCm s (clusOf n) row (moveParty (getCore s n))) (clusOf n) row r.1 (moveParty (getCore s n)) none)
        (clusOf n) (withOvf row (was || r.2))) n num := by
  simp only [runCmcnt, strikeCm_none, readCm_unwritten _ free, clean, hr, hw, Bool.and_false, Bool.false_eq_true, if_false]
  rfl

end

section
variable {s : State} {k : CoreId} {bank : Fin 16} {cc num : Nat}

/-- A CMWR to a raw row writes it (07 R252). -/
theorem exec_moveExecute_cmwr {dst : Nat} {v : Row} (ready : MoveReady s k bank cc num (.cmwr dst v))
    (raw : guardAt s (clusOf k.num) true 0 dst = none) (ecc : Ecc) :
    exec (.moveExecute k bank cc ecc) s = .next (moveDone (writeCm s (clusOf k.num) dst v (moveParty (getCore s k.num)) none) k.num num) := by
  rw [ready.exec_eq, runMove, runCmwr_raw raw]

/-- A CMRD between raw rows, whose source holds no error, waits for its write slot (07 R252). -/
theorem exec_moveExecute_cmrd {src dst : Nat} (ready : MoveReady s k bank cc num (.cmrd src dst))
    (rawSrc : guardAt s (clusOf k.num) true 0 src = none) (rawDst : guardAt s (clusOf k.num) false (lcoreNum (getCore s k.num)) dst = none)
    (clean : cmBad s (clusOf k.num) src = false) (unwritten : cmUsed s k.cluster.val true bank.val = false) :
    exec (.moveExecute k bank cc {}) s = .next (landLater (usedCm s (clusOf k.num) src (moveParty (getCore s k.num))) k.num num dst
      (cmRow s (clusOf k.num) src)) := by
  have raw : cmrdGate s k.num dst = .raw := by simp only [cmrdGate, rawDst, gateOf]
  have free : cmUsed s (clusOf k.num) true (cmBank src) = false := by
    rw [show cmBank src = bank.val from ready.bank_eq, clusOf_num, unwritten]
  rw [ready.exec_eq, runMove, runCmrd_raw _ rawSrc raw, strikeCm_none, readRaw_clean free clean]

/-- A CMCNT of a row without an error writes the counted row (07 R267). -/
theorem exec_moveExecute_cmcnt {row : Nat} {mask : BitVec 128} {inc : BitVec 32} {wrap : Bool}
    (ready : MoveReady s k bank cc num (.cmcnt row mask inc wrap false)) (clean : cmBad s (clusOf k.num) row = false)
    (unwritten : cmUsed s k.cluster.val true bank.val = false) (unread : cmUsed s k.cluster.val false bank.val = false) :
    ∃ t, exec (.moveExecute k bank cc {}) s = .next t ∧ cmRow t (clusOf k.num) row = (countRow (cmRow s (clusOf k.num) row) mask inc wrap).1 ∧
      (getCore t k.num).mem.moves = (getCore s k.num).mem.moves.filter (fun e => e.1 != num) ∧ t.spMem = s.spMem ∧ t.dmMem = s.dmMem := by
  generalize hr : countRow (cmRow s (clusOf k.num) row) mask inc wrap = r
  rw [← clusOf_num, ← show cmBank row = bank.val from ready.bank_eq] at unwritten unread
  have run := ready.exec_eq {}
  rw [runMove, runCmcnt_clean unwritten clean hr rfl] at run
  have cores := cores_writeCm_usedCm (moveParty (getCore s k.num)) r.1 unread
  have mems := held_writeCm (usedCm s (clusOf k.num) row (moveParty (getCore s k.num))) (clusOf k.num) row (moveParty (getCore s k.num)) r.1 none
  have kept := held_usedCm s (clusOf k.num) row (moveParty (getCore s k.num))
  refine ⟨_, run, ?_, ?_, ?_, ?_⟩
  · exact (congrArg (fun x => readRow x (cmAddr (clusOf k.num) row)) (congrArg Held.cm mems)).trans (readRow_writeRow_same ..)
  · rw [moveDone, getCore_modCore_same, getCore_modClus, getCore, cores]
    rfl
  · exact (congrArg Held.sp mems).trans (congrArg Held.sp kept)
  · exact (congrArg Held.dm mems).trans (congrArg Held.dm kept)

/-- Bit errors strike the row of a move before it is read (07 R276). -/
theorem exec_moveExecute_strike {m : Move} (ready : MoveReady s k bank cc num m) (ecc : Ecc)
    (same : runMove s k.num num ecc m = runMove (strikeCm s (clusOf k.num) (moveRow m) ecc) k.num num {} m) :
    exec (.moveExecute k bank cc ecc) s = exec (.moveExecute k bank cc {}) (strikeCm s k.cluster.val (moveRow m) ecc) := by
  rw [ready.exec_eq, (ready.strike (moveRow m) ecc).exec_eq, same, clusOf_num]

/-- A CMRD between raw rows reads its source after the errors have struck. -/
theorem runMove_cmrd_strike {src dst : Nat} (ecc : Ecc) (rawSrc : guardAt s (clusOf k.num) true 0 src = none) (rawDst : cmrdGate s k.num dst = .raw) :
    runMove s k.num num ecc (.cmrd src dst) = runMove (strikeCm s (clusOf k.num) src ecc) k.num num {} (.cmrd src dst) := by
  have struck := struckCm s (clusOf k.num) src ecc
  rw [runMove, runMove, runCmrd_raw ecc rawSrc rawDst, runCmrd_raw {} ((struck.guardAt_eq ..).trans rawSrc) ((struck.cmrdGate_eq rfl dst).trans rawDst),
    strikeCm_none]

end

/-! ## Landings and remote accesses (07 R247, R252, R273, R274) -/

section
variable {s : State} {k : CoreId}

theorem exec_cmrdDestinationWrite_raw {bank : Fin 8} {l : CmrdLanding}
    (found : (getCore s k.num).mem.landing.find? (fun l => spBank l.dst == bank.val) = some l) (runs : clusterStopped s k.cluster.val = false)
    (free : remoteSlot (getCore s k.num) true bank.val = true) (ready : spAnswer s k.num bank.val = .ready)
    (raw : guardAt s (clusOf k.num) false (lcoreNum (getCore s k.num)) l.dst = none) :
    exec (.cmrdDestinationWrite k bank) s = .next (modCore (elasticWriteSp s k.num l.dst l.val (moveParty (getCore s k.num)) none) k.num
      (fun d => { d with mem := { d.mem with landing := d.mem.landing.erase l } })) := by
  refine Eq.trans (b := execCmrdDestinationWrite k bank s) rfl ?_
  simp only [execCmrdDestinationWrite, found, runs, free, ready, landCmrd, raw, Bool.not_true, Bool.or_self, Bool.false_eq_true, if_false]
  rfl

theorem exec_remoteRequestServe {s1 : State} {cl : ClusterId} {cc : Nat} (enter : enterCc s cl.val cc = some s1) (ecc : Ecc) :
    exec (.remoteRequestServe cl cc ecc) s = .next (calmCheckAt (serveFirst (wakeForRemote s1 cl.val (getClus s1 cl.val).remoteIn) cl.val cc ecc []
      (getClus s1 cl.val).remoteIn) cl.val) := by
  refine Eq.trans (b := execRemoteRequestServe cl cc ecc s) rfl ?_
  simp only [execRemoteRequestServe, enter]

theorem exec_remoteReply_good {r : RemoteReply} (arrives : (getCore s k.num).mem.arriving = some r) (good : r.err = 0)
    (runs : clusterStopped s k.cluster.val = false) :
    exec (.remoteReply k) s = .next (setCore s k.num (modMem (getCore s k.num) (fun m => { m with
      arriving := none, reply := some r,
      remote := match m.remote.find? (fun q => q.val.isNone) with | some q => m.remote.erase q | none => m.remote }))) := by
  refine Eq.trans (b := execRemoteReply k s) rfl ?_
  simp only [execRemoteReply, arrives, runs, good, Bool.false_eq_true, if_false, if_true]
  rfl

end

/-- Settles O29: a move that may execute runs by its kind; a read in a cc without a write before it sees the row as it stands. -/
theorem moveEvents : Obligations.MoveEvents := by
  refine ⟨fun s k bank cc num runs now owner unwritten answer => ?moves, fun s k => ⟨?land, ?serve, ?reply⟩⟩
  case moves =>
    have ready (m : Move) (first : firstMove (getCore s k.num).mem.moves bank.val = some (num, m))
        (slots : moveSlots s k.cluster.val bank.val m = true) : MoveReady s k bank cc num m := ⟨runs, now, owner, first, slots, answer⟩
    refine ⟨fun dst v first raw ecc => ?cmwr, fun src dst first rawSrc rawDst clean unread => ?cmrd, fun row mask inc wrap first clean unread => ?cmcnt,
      fun m ecc first unread raw => ?strike⟩
    case cmwr => exact exec_moveExecute_cmwr (ready _ first (by simp [moveSlots, unwritten])) raw ecc
    case cmrd =>
      refine ⟨_, exec_moveExecute_cmrd (ready _ first (by simp [moveSlots, unread, unwritten])) rawSrc rawDst clean unwritten, ?_, ?_, ?_⟩
      · rw [getCore_landLater, getCore, cores_usedCm]; rfl
      · rw [getCore_landLater, getCore, cores_usedCm]; rfl
      · have kept : held (landLater (usedCm s (clusOf k.num) src (moveParty (getCore s k.num))) k.num num dst (cmRow s (clusOf k.num) src)) = held s :=
          held_usedCm ..
        exact ⟨congrArg Held.sp kept, congrArg Held.cm kept, congrArg Held.dm kept⟩
    case cmcnt => exact exec_moveExecute_cmcnt (ready _ first (by simp [moveSlots, unread, unwritten])) clean unwritten unread
    case strike =>
      cases m with
      | cmwr dst v => exact raw.elim
      | cmrd src dst =>
        obtain ⟨rawSrc, rawDst⟩ := raw
        exact exec_moveExecute_strike (ready _ first (by simp [moveSlots, unread, unwritten])) ecc (runMove_cmrd_strike ecc rawSrc rawDst)
      | cmcnt row mask inc wrap ev =>
        exact exec_moveExecute_strike (ready _ first (by simp [moveSlots, unread, unwritten])) ecc (runCmcnt_strike ecc)
  case land => exact fun bank l => exec_cmrdDestinationWrite_raw
  case serve => exact fun cl cc ecc s1 enter => exec_remoteRequestServe enter ecc
  case reply => exact fun r => exec_remoteReply_good

end Sys2Proof.Machine

/-! # The rows of the SIN slot (08 R294, R297, R302; 09 R369; 10 R404, R412, R413; 22 R769) -/

namespace Sys2Proof.Machine

/-! ## A cc of a core whose SIN slot alone holds an operation -/

/-- The SIN slot leaves the state `t` with its core `runUp d`, in which nothing lands: the cc ends with `afterWord d`. -/
theorem sin_row {s t : State} {n : Nat} {o : SinOp} {d : Core} (h : Lone s n 1 (.sin o))
    (slot : goSin (runStart s n) (issueOf s n) o = setCore t n (runUp d)) (still : Still d)
    (goesOn : (getClus t (clusOf n)).stopAt = none) :
    issueNamed n 1 (.sin o) false s = .next (setCore t n (afterWord d (nextOf (getCore s n)))) :=
  lone_row s t n 1 (.sin o) false d h (fun _ _ => rfl) slot (fun f hf => (still f hf).1)
    (fun f hf => secondCycle_of_not_load _ _ _ (still f hf).2) goesOn

theorem stopAt_setChan (s : State) (c i m : Nat) (h : Channel) : (getClus (setChan s c i h) m).stopAt = (getClus s m).stopAt :=
  stopAt_modClus (fun _ => by rfl) m

theorem launchPair_runUp_sin {s t : State} {n : Nat} {d : Core} (hp : d.pc = (getCore s n).pc) (hi : d.issued = (getCore s n).issued)
    (vd : BitVec 6) (r : Row) :
    launchPair (setCore t n (runUp d)) (issueOf s n) 1 latRow vd r = setCore t n (runUp (launched d 1 (pairEffs vd r))) := by
  rw [launchPair, launches, List.foldl_cons, List.foldl_cons, List.foldl_nil, launch_runUp hp hi, launch_runUp (d := launched d 1 _) hp hi,
    launched_launched]
  rfl

section
variable {s : State} {k : CoreId}

/-! ## TRECV and TRECVS (09 R369) -/

theorem takeEntry_runStart (s : State) (n t : Nat) : takeEntry (runStart s n) n t = setCore s n (runUp (entryTaken (getCore s n) t)) := by
  rw [takeEntry, runStart, modCore_setCore]
  rfl

theorem exec_trecv {vd : BitVec 6} {tag : BitVec 5} {h : Bool} {xh : BitVec 5} (lone : Lone s k.num 1 (.sin (.trecv vd tag h xh))) :
    let c := getCore s k.num
    let e := headEntry c tag.toNat
    exec (.trecv k vd tag h xh) s = .next (setCore s k.num (afterWord (launched (entryTaken c tag.toNat) 1
      (pairEffs vd (e.row.getD 0) ++ if h then [(latRow, .writeX xh.toNat (headerWord e.header))] else [])) (nextOf c))) := by
  intro c e
  have pair : launchPair (takeEntry (runStart s k.num) k.num tag.toNat) (issueOf s k.num) 1 latRow vd (e.row.getD 0) =
      setCore s k.num (runUp (launched (entryTaken c tag.toNat) 1 (pairEffs vd (e.row.getD 0)))) := by
    rw [takeEntry_runStart, launchPair_runUp_sin (d := entryTaken c _) rfl rfl]
  have slot : goSin (runStart s k.num) (issueOf s k.num) (.trecv vd tag h xh) = setCore s k.num (runUp (launched (entryTaken c tag.toNat) 1
      (pairEffs vd (e.row.getD 0) ++ if h then [(latRow, .writeX xh.toNat (headerWord e.header))] else []))) := by
    refine Eq.trans (b := if h then launch (launchPair (takeEntry (runStart s k.num) k.num tag.toNat) (issueOf s k.num) 1 latRow vd (e.row.getD 0))
      (issueOf s k.num) 1 latRow (.writeX xh.toNat (headerWord e.header)) else _) rfl ?_
    rw [pair]
    cases h
    · rw [if_neg Bool.false_ne_true, if_neg Bool.false_ne_true, List.append_nil]
      exact pair
    · rw [if_pos rfl, if_pos rfl, launch_runUp (d := launched (entryTaken c _) 1 _) rfl rfl, launched_launched]
  refine sin_row lone slot (still_launched (entryTaken c tag.toNat) 1 _ lone.still ?_) lone.fetches.goesOn
  intro eff heff
  obtain heff | heff := List.mem_append.mp heff
  · exact okEff_pairEffs _ _ eff heff
  · cases h
    · exact absurd heff (by simp)
    · obtain rfl := List.mem_singleton.mp heff
      rfl

theorem exec_trecvs {xr tag : BitVec 5} {inc : BitVec 8} (lone : Lone s k.num 1 (.sin (.trecvs xr tag inc))) :
    let c := getCore s k.num
    exec (.trecvs k xr tag inc) s = .next (setCore s k.num (afterWord (incremented (launched (entryTaken c tag.toNat) 1
      [(3, .rowWrite (rowIn c xr) ((headEntry c tag.toNat).row.getD 0) (ownGuard s k.num c (rowIn c xr)).isSome)]) xr inc) (nextOf c))) := by
  intro c
  refine sin_row lone ?_ (still_incremented (still_launched (entryTaken c tag.toNat) 1 _ lone.still (by simp [okEff])) xr inc) lone.fetches.goesOn
  refine Eq.trans (b := postInc (launch (takeEntry (runStart s k.num) k.num tag.toNat) (issueOf s k.num) 1 3
    (.rowWrite (rowIn c xr) ((headEntry c tag.toNat).row.getD 0) (ownGuard s k.num c (rowIn c xr)).isSome)) (issueOf s k.num) xr inc) rfl ?_
  rw [takeEntry_runStart, launch_runUp (d := entryTaken c _) rfl rfl, postInc_runUp (d := launched (entryTaken c _) 1 _) rfl]

/-! ## SRECV (08 R294, R302) -/

theorem stopAt_consumeStream (s : State) (cl : Nat) (st : Option Nat) (left m : Nat) :
    (getClus (consumeStream s cl st left) m).stopAt = (getClus s m).stopAt := by
  cases st
  · rfl
  · exact setStream_stopAt ..

theorem exec_srecv {vd : BitVec 6} {port : BitVec 2} {r : Row} {b : BitVec 8} {rest : List (Row × BitVec 8)}
    (lone : Lone s k.num 1 (.sin (.srecv vd port))) :
    let c := getCore s k.num
    let p := getSp c port.toNat
    p.rows = (r, b) :: rest →
      exec (.srecv k vd port) s = .next (consumeStream (setCore s k.num (afterWord
        (launched (setSp c port.toNat { p with rows := rest, taken := 0 }) 1 (pairEffs vd r)) (nextOf c))) (clusOf k.num) p.stream rest.length) := by
  intro c p rows
  rw [consumeStream_setCore]
  have head : (getSp (issueOf s k.num).c port.toNat).rows = (r, b) :: rest := rows
  have slot : goSin (runStart s k.num) (issueOf s k.num) (.srecv vd port) =
      consumeStream (launchPair (setCore s k.num (runUp (setSp c port.toNat { p with rows := rest, taken := 0 }))) (issueOf s k.num) 1 latRow vd r)
        (clusOf k.num) p.stream rest.length := by
    simp only [goSin, head, runStart, show (issueOf s k.num).n = k.num from rfl, modCore_setCore]
    rfl
  rw [launchPair_runUp_sin (d := setSp c _ _) rfl rfl, consumeStream_setCore] at slot
  exact sin_row lone slot (still_launched (setSp c _ _) 1 _ lone.still (okEff_pairEffs _ _)) ((stopAt_consumeStream ..).trans lone.fetches.goesOn)

/-! ## SGO (08 R297) -/

theorem exec_sgo {st : BitVec 8} {xa : BitVec 5} {d : StreamDesc} (lone : Lone s k.num 1 (.sin (.sgo st xa)))
    (desc : (getStream s (clusOf k.num) st.toNat).desc = some d) :
    let c := getCore s k.num
    let cl := clusOf k.num
    exec (.sgo k st xa) s = .next (setStream (setCore s k.num (afterWord c (nextOf c))) cl st.toNat
      { getStream s cl st.toNat with state := .running, reason := 0, next := 0, base := sgoBase d (getX c xa.toNat),
                                     delivered := 0, consumed := 0, tags := [], resumed := false, xlat := none }) := by
  intro c cl
  refine sin_row (t := setStream s cl st.toNat _) lone ?_ lone.still ((setStream_stopAt ..).trans lone.fetches.goesOn)
  unfold goSin
  dsimp only
  split
  · next found =>
    obtain rfl := Option.some.inj (desc.symm.trans found)
    rfl
  · next found => exact absurd (desc.symm.trans found) (Option.some_ne_none d)

/-! ## GTAKE and GRET (10 R404, R412, R413) -/

theorem exec_gtake {ch : BitVec 2} {xd : BitVec 5} {md : BitVec 4} {b : Nat} (lone : Lone s k.num 1 (.sin (.gtake ch xd md))) :
    let c := getCore s k.num
    let cl := clusOf k.num
    let h := getChan s cl ch.toNat
    takeBuf h (lcoreNum c) (getClus s cl).mem.cc = some b →
      exec (.gtake k ch xd md) s = .next (setCore (setChan s cl ch.toNat
          (modBuf h b (fun x => { x with state := .held, taken := x.taken ||| BitVec.ofNat 24 (2 ^ lcoreNum c) }))) k.num
        (afterWord (launched c 1 [(latRow, .writeX xd.toNat (batchDescriptor h b (getBuf h b))),
          (latRow, .writeM md.toNat (batchMask (getBuf h b)) (BitVec.allOnes 64) false)]) (nextOf c))) := by
  intro c cl h taken
  have found : takeBuf (getChan (runStart s k.num) (clusOf (issueOf s k.num).n) ch.toNat) (lcoreNum (issueOf s k.num).c)
      (getClus (runStart s k.num) (clusOf (issueOf s k.num).n)).mem.cc = some b := taken
  have slot : goSin (runStart s k.num) (issueOf s k.num) (.gtake ch xd md) =
      launch (launch (setCore (setChan s cl ch.toNat
          (modBuf h b (fun x => { x with state := .held, taken := x.taken ||| BitVec.ofNat 24 (2 ^ lcoreNum c) }))) k.num (runUp c)) (issueOf s k.num) 1
        latRow (.writeX xd.toNat (batchDescriptor h b (getBuf h b)))) (issueOf s k.num) 1 latRow
        (.writeM md.toNat (batchMask (getBuf h b)) (BitVec.allOnes 64) false) := by
    simp only [goSin, found, launches, List.foldl_cons, List.foldl_nil]
    rfl
  rw [launch_runUp rfl rfl, launch_runUp (d := launched c 1 _) rfl rfl, launched_launched] at slot
  exact sin_row lone slot (still_launched c 1 _ lone.still (by simp [okEff, latRow])) ((stopAt_setChan ..).trans lone.fetches.goesOn)

theorem exec_gret {ch : BitVec 2} {b : Nat} (lone : Lone s k.num 1 (.sin (.gret ch))) :
    let c := getCore s k.num
    let cl := clusOf k.num
    let h := getChan s cl ch.toNat
    heldBuf h (lcoreNum c) = some b →
      exec (.gret k ch) s = .next (setCore (setChan s cl ch.toNat
        (modBuf h b (fun x => { x with gret := mset x.gret (lcoreNum c) c.mem.moveSeq }))) k.num (afterWord c (nextOf c))) := by
  intro c cl h holds
  have found : heldBuf (getChan (runStart s k.num) (clusOf (issueOf s k.num).n) ch.toNat) (lcoreNum (issueOf s k.num).c) = some b := holds
  refine sin_row lone ?_ lone.still ((stopAt_setChan ..).trans lone.fetches.goesOn)
  simp only [goSin, found]
  rfl

end

/-- Settles O23: each row is the equation of its instruction; what leaves the core changes a stream or a channel of its cluster. -/
theorem sinRows : Obligations.SinRows :=
  ⟨fun _ _ => ⟨fun _ _ _ _ => exec_trecv, fun _ _ _ => exec_trecvs, fun _ _ _ _ _ lone => exec_srecv lone⟩,
   fun _ _ => ⟨fun _ _ _ => exec_sgo, fun _ _ _ _ lone => exec_gtake lone, fun _ _ lone => exec_gret lone⟩⟩

end Sys2Proof.Machine

/-! # STREAM_ROW_ISSUE (08 R303, R304, R307, R309, R326) -/

namespace Sys2Proof.Machine

/-- In this cc of its cluster, stream `st` of a partition whose streams issue runs and has a row left to issue. -/
structure StreamRuns (s : State) (c st cc p : Nat) (d : StreamDesc) : Prop where
  runs : clusterStopped s c = false
  now : (getClus s c).mem.cc = cc
  part : partOfCluster s c = some p
  issues : partIssues (getPart s p) = true
  desc : (getStream s c st).desc = some d
  running : (getStream s c st).state = .running
  more : ¬ streamRows d ≤ (getStream s c st).next

/-- Where the next row of a stream lies at its near end. -/
def nearNext (s : State) (c st : Nat) (d : StreamDesc) : Near := nearOf s c st (getStream s c st).next (getStream s c st) d

namespace StreamRuns

section
variable {s : State} {cl : ClusterId} {stream : Fin 256} {cc p : Nat} {d : StreamDesc} (h : StreamRuns s cl.val stream.val cc p d) (ecc : Ecc)
include h

/-- The next row issues where its class has the position, no other stream of the class comes first, and its near end is awake (08 R307, R309). -/
theorem exec_ok {addr : Nat} (xlat : translate s cl.val stream.val = .ok addr)
    (ready : (nearPower s cl.val (nearNext s cl.val stream.val d)).ready = true) (might : mightIssue s cl.val stream.val cc = true)
    (awake : (nearPower s cl.val (nearNext s cl.val stream.val d)).lull = false) (free : (getClus s cl.val).str.issueCc ≠ some cc)
    (turn : (classPattern (getClus s cl.val).str).getD (cc % 8) 3 = streamClass d) (paid : streamClass d = 2 → ringLeft s cl.val cc = 0)
    (first : aheadOf s cl.val (streamClass d) stream.val cc = []) :
    exec (.streamRowIssue cl stream cc ecc) s = .next (calmCheckAt (issueRow s cl.val stream.val cc addr d ecc) cl.val) := by
  obtain ⟨runs, now, part, issues, desc, running, more⟩ := h
  refine Eq.trans (b := execStreamRowIssue cl stream cc ecc s) rfl ?_
  have owes : (streamClass d == 2 && decide (0 < ringLeft s cl.val cc)) = false := by
    simpa using fun remote => Nat.eq_zero_of_not_pos (by simp [paid remote])
  simp only [nearNext] at ready awake
  simp [-List.getD_eq_getElem?_getD, execStreamRowIssue, enterCc_now runs now, part, issues, desc, running, more, xlat, ready, might, awake, free, turn, owes, first]

/-- A near end without power faults the stream (07 R283; 08 R326). -/
theorem exec_unpowered {addr : Nat} (xlat : translate s cl.val stream.val = .ok addr)
    (unready : (nearPower s cl.val (nearNext s cl.val stream.val d)).ready = false) (might : mightIssue s cl.val stream.val cc = true) :
    exec (.streamRowIssue cl stream cc ecc) s =
      .next (calmCheckAt (unpoweredHalt s cl.val stream.val (nearNext s cl.val stream.val d)) cl.val) := by
  obtain ⟨runs, now, part, issues, desc, running, more⟩ := h
  refine Eq.trans (b := execStreamRowIssue cl stream cc ecc s) rfl ?_
  simp only [nearNext] at unready
  simp [execStreamRowIssue, enterCc_now runs now, part, issues, desc, running, more, xlat, unready, might, nearNext]

/-- A translation that cannot be used halts the stream, or faults it where the page is INVALID (08 R326). -/
theorem exec_halt {reason page : Nat} (xlat : translate s cl.val stream.val = .halt reason page)
    (might : mightIssue s cl.val stream.val cc = true) :
    exec (.streamRowIssue cl stream cc ecc) s = .next (calmCheckAt
      (if reason = 3 then faultStream s cl.val stream.val 3 0x0140 else haltStream s cl.val stream.val reason page) cl.val) := by
  obtain ⟨runs, now, part, issues, desc, running, more⟩ := h
  refine Eq.trans (b := execStreamRowIssue cl stream cc ecc s) rfl ?_
  simp [execStreamRowIssue, enterCc_now runs now, part, issues, desc, running, more, xlat, might]

/-- A missing host translation is asked for (08 R322). -/
theorem exec_ask {page : Nat} (xlat : translate s cl.val stream.val = .ask page) (might : mightIssue s cl.val stream.val cc = true)
    (room : tagFree s (getPart s p).hostPort = true) :
    exec (.streamRowIssue cl stream cc ecc) s =
      .next (emit (setStream s cl.val stream.val { getStream s cl.val stream.val with xlat := some page })
        (.atsRequest (getPart s p).hostPort (streamPasid s cl.val d) page)) := by
  obtain ⟨runs, now, part, issues, desc, running, more⟩ := h
  refine Eq.trans (b := execStreamRowIssue cl stream cc ecc s) rfl ?_
  simp [execStreamRowIssue, enterCc_now runs now, part, issues, desc, running, more, xlat, might, room]

end
end StreamRuns

/-- Settles O30: what the command does is decided by the translation of the stream's next row and by the power of its near end. -/
theorem streamRowsIssue : Obligations.StreamRowsIssue := by
  intro s cl stream cc p ecc d c st t near runs now part issues desc running more
  have h : StreamRuns s cl.val stream.val cc p d := ⟨runs, now, part, issues, desc, running, Nat.not_le.mpr more⟩
  exact ⟨fun _ xlat ready might awake free turn paid first => h.exec_ok ecc xlat ready might awake free turn paid first,
    fun _ xlat unready might => h.exec_unpowered ecc xlat unready might,
    fun _ _ xlat might => h.exec_halt ecc xlat might,
    fun _ xlat might room => h.exec_ask ecc xlat might room⟩

end Sys2Proof.Machine

/-! # STREAM_ROW_DELIVER and STREAM_ROW_ACK (08 R301, R304, R305, R326, R327) -/

namespace Sys2Proof.Machine

/-! ## A stream's counts after a row of it has moved (08 R304, R305) -/

@[simp] theorem endStream_tags (t : Stream) : (endStream t).tags = t.tags := by
  unfold endStream
  (repeat' split) <;> rfl
@[simp] theorem endStream_delivered (t : Stream) : (endStream t).delivered = t.delivered := by
  unfold endStream
  (repeat' split) <;> rfl
@[simp] theorem digestRow_tags (t : Stream) (r : Row) : (digestRow t r).tags = t.tags := by
  unfold digestRow
  (repeat' split) <;> rfl
@[simp] theorem digestRow_delivered (t : Stream) (r : Row) : (digestRow t r).delivered = t.delivered := by
  unfold digestRow
  (repeat' split) <;> rfl

/-- A count of rows moved leaves the streams. -/
theorem getStream_countMoved (s : State) (c i : Nat) (d : StreamDesc) : getStream (countMoved s c d) c i = getStream s c i := by
  rw [getStream, countMoved, getClus_modClus_same]
  dsimp only
  (repeat' split) <;> rfl

/-- A stream after its row `j` has moved. -/
def streamMoved (t : Stream) (j : Nat) : Stream := endStream { t with tags := freeTag t j, delivered := t.delivered + 1 }

theorem getStream_rowMoved (s : State) (c st j : Nat) (d : StreamDesc) : getStream (rowMoved s c st j d) c st = streamMoved (getStream s c st) j := by
  rw [rowMoved, getStream_countMoved, getStream_setStream_same]
  rfl

theorem streamMoved_tags (t : Stream) (j : Nat) : (streamMoved t j).tags = freeTag t j := endStream_tags _
theorem streamMoved_delivered (t : Stream) (j : Nat) : (streamMoved t j).delivered = t.delivered + 1 := endStream_delivered _

/-! ## The write of a row at an unguarded scratchpad row (07 R243, R262; 08 R301) -/

/-- A write in a cc in which nothing else uses the scratchpad, and in the window of no count, changes its row and its core. -/
theorem elasticWriteSp_alone {s : State} {n : Nat} (unused : (getCore s n).mem.uses = []) (uncounted : (getCore s n).mem.cntWindows = [])
    (row : Nat) (v : Row) (p : Party) : ∃ core, elasticWriteSp s n row v p none = setCore (setSpRow s n row v) n core := by
  have alone : collider (getCore s n).mem.uses (getCore s n).mem.cntWindows row p (lcoreNum (getCore s n)) = none := by
    rw [unused, uncounted]; rfl
  simp only [elasticWriteSp, writeSp, alone, ite_self]
  exact ⟨_, rfl⟩

theorem landRow_raw {s : State} {c st cc n row j : Nat} {t : Stream} {d : StreamDesc} (near : nearOf s c st j t d = .sp n row)
    (raw : guardAt s c false (lcoreNum (getCore s n)) row = none) (awake : spAnswer s n (spBank row) = .ready)
    (free : streamSlot (getCore s n) true (spBank row) = true) (r : Row) (marks : BitVec 8) :
    landRow s c st cc t d j r marks = .landed (elasticWriteSp s n row r (streamParty st (farAddr t j)) none) := by
  simp only [landRow, near, raw, gateOf, awake, free, if_true]

/-- A core may begin its wake for a row that has come. -/
def wakeNear (s : State) : Option Nat → State
  | some n => wakeCore s n
  | none => s

theorem held_wakeNear (s : State) (n : Option Nat) : held (wakeNear s n) = held s := by
  cases n <;> simp [wakeNear]
theorem getStream_wakeNear (s : State) (n : Option Nat) (c i : Nat) : getStream (wakeNear s n) c i = getStream s c i := by
  cases n with
  | none => rfl
  | some n =>
    rw [wakeNear, wakeCore]
    split <;> rfl
theorem getCore_wakeNear {s : State} {n : Option Nat} {m : Nat} (other : n ≠ some m) : getCore (wakeNear s n) m = getCore s m := by
  cases n with
  | none => rfl
  | some n =>
    rw [wakeNear, wakeCore]
    split
    · exact getCore_modCore_other _ _ _ _ fun e => other (by rw [e])
    · rfl

theorem deliverRow_landed {s s1 : State} {c st cc j : Nat} {d : StreamDesc} {r : Row} {marks : BitVec 8}
    (live : (getStream s c st).state ≠ .faulted) (landed : landRow s c st cc (getStream s c st) d j r marks = .landed s1) :
    deliverRow s c st cc d j r marks = wakeNear (rowMoved (setStream s1 c st (digestRow (getStream s1 c st) r)) c st j d) (physOf s c d.nearLcore) := by
  simp only [deliverRow, landed, beq_eq_false_iff_ne.mpr live, Bool.false_and, Bool.false_eq_true, if_false]
  cases physOf s c d.nearLcore <;> rfl

/-- What a row delivered to a scratchpad row changes: the row, the count of its stream, and cores alone that it wakes or writes. -/
structure Delivered (s u : State) (c st n row j : Nat) (d : StreamDesc) (r : Row) : Prop where
  written : spRow u n row = r
  tags : (getStream u c st).tags = freeTag (getStream s c st) j
  delivered : (getStream u c st).delivered = (getStream s c st).delivered + 1
  others : ∀ a, (a < spAddr n row ∨ spAddr n row + 512 ≤ a) → readByte u.spMem a = readByte s.spMem a
  cm : u.cmMem = s.cmMem
  dm : u.dmMem = s.dmMem
  cores : ∀ m, m ≠ n → physOf s c d.nearLcore ≠ some m → getCore u m = getCore s m

theorem delivered_wakeNear (s : State) (c st n row j : Nat) (d : StreamDesc) (r : Row) (core : Core) :
    let s1 := setCore (setSpRow s n row r) n core
    Delivered s (wakeNear (rowMoved (setStream s1 c st (digestRow (getStream s1 c st) r)) c st j d) (physOf s c d.nearLcore)) c st n row j d r := by
  intro s1
  have mems : held (wakeNear (rowMoved (setStream s1 c st (digestRow (getStream s1 c st) r)) c st j d) (physOf s c d.nearLcore)) =
      held (setSpRow s n row r) := (held_wakeNear ..).trans (by simp [s1])
  have sp : State.spMem _ = _ := congrArg Held.sp mems
  have stream : getStream (wakeNear (rowMoved (setStream s1 c st (digestRow (getStream s1 c st) r)) c st j d) (physOf s c d.nearLcore)) c st =
      streamMoved (digestRow (getStream s c st) r) j := by
    rw [getStream_wakeNear, getStream_rowMoved, getStream_setStream_same]
    rfl
  refine ⟨?_, ?_, ?_, fun a outside => ?_, congrArg Held.cm mems, congrArg Held.dm mems, fun m other asleep => ?_⟩
  · rw [spRow, sp]
    exact readRow_writeRow_same ..
  · rw [stream, streamMoved_tags, freeTag, digestRow_tags, freeTag]
  · rw [stream, streamMoved_delivered, digestRow_delivered]
  · rw [sp]
    exact readByte_writeBytes_other _ _ _ _ (by rwa [natBytes_length])
  · rw [getCore_wakeNear asleep]
    exact getCore_setCore_other _ _ _ _ other

/-! ## STREAM_ROW_DELIVER (08 R301, R326) -/

/-- In this cc of its cluster, tag `g` is the oldest of a stream. -/
structure OldestTag (s : State) (c st cc : Nat) (d : StreamDesc) (g : StrTag) (rest : List StrTag) : Prop where
  runs : clusterStopped s c = false
  now : (getClus s c).mem.cc = cc
  desc : (getStream s c st).desc = some d
  tags : (getStream s c st).tags = g :: rest

section
variable {s : State} {cl : ClusterId} {stream : Fin 256} {cc : Nat} {d : StreamDesc} {g : StrTag} {rest : List StrTag}

section
variable (h : OldestTag s cl.val stream.val cc d g rest) (reads : d.dirOut = false)
include h reads

theorem exec_streamRowDeliver_data {r : Row} (inner : d.farSpace ≠ 1) (served : g.served = true) (good : g.err = 0) (data : g.data = some r)
    (far : HostReply) (marks : BitVec 8) :
    exec (.streamRowDeliver cl stream cc far marks) s = .next (deliverRow s cl.val stream.val cc d g.j r marks) := by
  obtain ⟨runs, now, desc, tags⟩ := h
  refine Eq.trans (b := execStreamRowDeliver cl stream cc far marks s) rfl ?_
  simp [execStreamRowDeliver, enterCc_now runs now, desc, tags, reads, inner, served, good, data]

theorem exec_streamRowDeliver_hostError (host : d.farSpace = 1) (left : (getClus s cl.val).str.host.contains (stream.val, g.j) = false)
    (marks : BitVec 8) :
    exec (.streamRowDeliver cl stream cc .error marks) s = .next (pumpFor (failRow s cl.val stream.val g.j 6 0x0143) cl.val) := by
  obtain ⟨runs, now, desc, tags⟩ := h
  refine Eq.trans (b := execStreamRowDeliver cl stream cc .error marks s) rfl ?_
  simp only [execStreamRowDeliver, enterCc_now runs now, desc, tags, reads, host, left, Bool.false_eq_true, if_false, if_true]

theorem exec_streamRowDeliver_farError (inner : d.farSpace ≠ 1) (served : g.served = true) (bad : g.err ≠ 0) (far : HostReply) (marks : BitVec 8) :
    exec (.streamRowDeliver cl stream cc far marks) s =
      .next (failRow s cl.val stream.val g.j g.err (if g.err = 9 then 0x0132 else reasonCode g.err)) := by
  obtain ⟨runs, now, desc, tags⟩ := h
  refine Eq.trans (b := execStreamRowDeliver cl stream cc far marks s) rfl ?_
  simp [execStreamRowDeliver, enterCc_now runs now, desc, tags, reads, inner, served, bad]

end

/-! ## STREAM_ROW_ACK (08 R304, R326, R327) -/

section
variable (desc : (getStream s cl.val stream.val).desc = some d) (writes : d.dirOut = true) {far : FarAck} {e : StrTag}
  (acked : ackedTag s cl.val stream.val d (getStream s cl.val stream.val) far = some e)
include desc writes acked

theorem exec_streamRowAck_failed {reason : Nat} (why : ackFailure far e = reason) (failed : reason ≠ 0) :
    exec (.streamRowAck cl stream far) s = .next (calmCheckAt (failRow s cl.val stream.val e.j reason (reasonCode reason)) cl.val) := by
  subst why
  refine Eq.trans (b := execStreamRowAck cl stream far s) rfl ?_
  simp only [execStreamRowAck, desc, writes, if_true, acked, ne_eq, failed, not_false_eq_true]

theorem exec_streamRowAck_done (done : ackFailure far e = 0) (live : (getStream s cl.val stream.val).state ≠ .faulted) :
    exec (.streamRowAck cl stream far) s = .next (calmCheckAt (countMoved (setStream s cl.val stream.val
      (streamMoved (getStream s cl.val stream.val) e.j)) cl.val d) cl.val) := by
  refine Eq.trans (b := execStreamRowAck cl stream far s) rfl ?_
  simp only [execStreamRowAck, desc, writes, if_true, acked, done, ne_eq, not_true_eq_false, if_false, beq_eq_false_iff_ne.mpr live, Bool.false_and,
    Bool.false_eq_true]
  rfl

end

theorem ackedTag_host {t : Stream} {c st j : Nat} (host : d.farSpace = 1) (left : (getClus s c).str.host.contains (st, j) = false) :
    ackedTag s c st d t (.hostDone j) = tagOfRow t j ∧ ackedTag s c st d t (.hostError j) = tagOfRow t j := by
  simp only [ackedTag, host, left, Bool.not_false, and_self, if_true]

theorem ackedTag_inner {t : Stream} {c st : Nat} (inner : d.farSpace ≠ 1) : ackedTag s c st d t .inner = t.tags.find? (fun x => x.served) := if_neg inner

end

/-- Settles O31: a row delivered is one write at its near end, which `delivered_wakeNear` follows; an error fails the row; an acknowledgement frees the
    tag that `ackedTag` names. -/
theorem streamRowsMove : Obligations.StreamRowsMove := by
  refine ⟨fun s cl stream cc n row d g rest r marks runs now desc tags reads inner served good data live near _ raw awake free unused uncounted => ?delivery,
    fun s cl stream cc d g rest runs now desc tags => ⟨fun marks reads host left => ?hostError, fun h marks reads inner served bad => ?farError,
      fun writes host j e tag left => ⟨?ackError, fun good live => ?ackDone⟩,
      fun writes inner e first => ⟨fun bad => ?innerError, fun good live => ?innerDone⟩⟩⟩
  case delivery =>
    obtain ⟨core, write⟩ := elasticWriteSp_alone unused uncounted row r (streamParty stream.val (farAddr (getStream s cl.val stream.val) g.j))
    have landed := landRow_raw (cc := cc) near raw awake free r marks
    rw [write] at landed
    have h : OldestTag s cl.val stream.val cc d g rest := ⟨runs, now, desc, tags⟩
    refine ⟨_, exec_streamRowDeliver_data h reads inner served good data .error marks, ?_⟩
    rw [deliverRow_landed live landed]
    obtain ⟨written, freed, counted, others, cm, dm, cores⟩ := delivered_wakeNear s cl.val stream.val n row g.j d r core
    exact ⟨written, freed, counted, others, cm, dm, cores⟩
  case hostError => exact exec_streamRowDeliver_hostError ⟨runs, now, desc, tags⟩ reads host left marks
  case farError => exact exec_streamRowDeliver_farError ⟨runs, now, desc, tags⟩ reads inner served bad h marks
  case ackError => exact exec_streamRowAck_failed desc writes ((ackedTag_host host left).2.trans tag) rfl (by decide)
  case ackDone => exact exec_streamRowAck_done desc writes ((ackedTag_host host left).1.trans tag) good live
  case innerError => exact exec_streamRowAck_failed desc writes ((ackedTag_inner inner).trans first) rfl bad
  case innerDone => exact exec_streamRowAck_done desc writes ((ackedTag_inner inner).trans first) good live

end Sys2Proof.Machine

/-! # What faults and calm points leave of device memory and its pages (08 R316 to R348) -/

namespace Sys2Proof.Machine

/-! ## What is paged -/

/-- What device memory and its pages are made of, beside the bytes: the uncorrectable rows, the page table, the page faults of each partition, and
    the states of the streams. -/
structure Paging where
  bad : SMap Bool
  entries : SMap Pte
  identity : Bool
  faults : Nat → PageFaults
  streams : Nat → Nat → StrState

/-- The state of stream `i` of a cluster. -/
def streamState (s : State) (c i : Nat) : StrState := (getStream s c i).state

/-- The paging of a state. -/
def paging (s : State) : Paging :=
  { bad := s.dmBad, entries := s.ptes, identity := s.ptIdentity, faults := fun p => (getPart s p).pf, streams := streamState s }

/-- A change of fields that hold none of it leaves the paging. -/
@[simp] theorem paging_with (s : State) (pending free b0 ifRom dalardKey fwKey img loader loaded self groups cores spMem cmMem dmMem dmCorr
      closedRanges time pwr ff stagingDrops hp fab brz tap pins out) :
    paging { s with
      pending := pending, free := free, b0 := b0, ifRom := ifRom, dalardKey := dalardKey, fwKey := fwKey, img := img, loader := loader, loaded := loaded,
      self := self, groups := groups, cores := cores, spMem := spMem, cmMem := cmMem, dmMem := dmMem, dmCorr := dmCorr,
      closedRanges := closedRanges, time := time, pwr := pwr, ff := ff, stagingDrops := stagingDrops, hp := hp, fab := fab,
      brz := brz, tap := tap, pins := pins, out := out } = paging s := rfl

@[simp] theorem paging_ite {c : Prop} [Decidable c] (a b : State) : paging (if c then a else b) = if c then paging a else paging b := apply_ite ..

@[simp] theorem paging_foldl {α : Type} (l : List α) (f : State → α → State) (s : State) (h : ∀ t x, paging (f t x) = paging t) :
    paging (l.foldl f s) = paging s :=
  List.foldlRecOn l f (motive := fun t => paging t = paging s) rfl fun t ht x _ => (h t x).trans ht

/-! ## What leaves it alone (18 R678 to R689; 03 R110 to R116) -/

@[simp] theorem paging_setCore (s n c) : paging (setCore s n c) = paging s := by rfl
@[simp] theorem paging_modCore (s n f) : paging (modCore s n f) = paging s := by rfl
@[simp] theorem paging_emit (s o) : paging (emit s o) = paging s := by rfl
@[simp] theorem paging_setPort (s h p) : paging (setPort s h p) = paging s := by
  unfold setPort
  split <;> rfl
@[simp] theorem paging_modPort (s h f) : paging (modPort s h f) = paging s := paging_setPort ..

/-- A change of a partition that leaves its page faults. -/
@[simp] theorem paging_modPart (s : State) (p : Nat) (f : Part → Part) (hf : ∀ x, (f x).pf = x.pf) : paging (modPart s p f) = paging s := by
  have kept : (fun q => (getPart (modPart s p f) q).pf) = fun q => (getPart s q).pf := by
    funext q
    by_cases h : q = p
    · subst h; rw [getPart_modPart_same, hf]
    · rw [getPart_modPart_other _ _ _ _ h]
  exact congrArg (fun x => { paging s with faults := x }) kept

/-- A change of a cluster that leaves the states of its streams. -/
@[simp] theorem paging_modClus (s : State) (c : Nat) (f : Cluster → Cluster)
    (hf : ∀ x i, (mget ({} : Stream) (f x).str.streams i).state = (mget ({} : Stream) x.str.streams i).state) : paging (modClus s c f) = paging s := by
  have kept : streamState (modClus s c f) = streamState s := by
    funext d i
    by_cases h : d = c
    · subst h; rw [streamState, getStream, getClus_modClus_same, hf]; rfl
    · rw [streamState, getStream, getClus_modClus_other _ _ _ _ h]; rfl
  exact congrArg (fun x => { paging s with streams := x }) kept

@[simp] theorem paging_vecEvent (s h vector m who) : paging (vecEvent s h vector m who) = paging s := paging_modPort ..
@[simp] theorem paging_partEvent (s p vector) : paging (partEvent s p vector) = paging s := paging_vecEvent ..
@[simp] theorem paging_platformEvent (s kind data) : paging (platformEvent s kind data) = paging s := by
  unfold platformEvent
  split <;> rfl
@[simp] theorem paging_recordDevice (s tie i) : paging (recordDevice s tie i) = paging s := by simp [recordDevice]
@[simp] theorem paging_recordCluster (s c tie i) : paging (recordCluster s c tie i) = paging s := by
  simp only [recordCluster]
  (repeat' split) <;> simp

@[simp] theorem paging_emptyQueue (s n t st) : paging (emptyQueue s n t st) = paging s := by simp [emptyQueue, modMsg]
@[simp] theorem paging_emptyQueues (s n st) : paging (emptyQueues s n st) = paging s := by simp [emptyQueues]
@[simp] theorem paging_haltCore (s n st) : paging (haltCore s n st) = paging s := by simp [haltCore]
@[simp] theorem paging_releaseHeld (s n) : paging (releaseHeld s n) = paging s := by simp [releaseHeld]
@[simp] theorem paging_holdCore (s n record) : paging (holdCore s n record) = paging s := by simp [holdCore]
@[simp] theorem paging_fenceCore (s n) : paging (fenceCore s n) = paging s := by simp [fenceCore]
@[simp] theorem paging_fenceUnit (s u) : paging (fenceUnit s u) = paging s := by
  cases u <;> simp [fenceUnit, modCMem]
@[simp] theorem paging_stopLate (s n) : paging (stopLate s n) = paging s := by
  unfold stopLate
  split <;> simp
@[simp] theorem paging_stopAfterCc (s c) : paging (stopAfterCc s c) = paging s := by simp [stopAfterCc]
@[simp] theorem paging_stopByFault (s p c) : paging (stopByFault s p c) = paging s := by simp [stopByFault]
@[simp] theorem paging_applyReaction (s part c reaction u) : paging (applyReaction s part c reaction u) = paging s := by
  cases part <;> simp [applyReaction]
@[simp] theorem paging_raiseIn (s c i u stream) : paging (raiseIn s c i u stream) = paging s := by simp [raiseIn]
@[simp] theorem paging_faultCore (s n slot code pc issue detail u) : paging (faultCore s n slot code pc issue detail u) = paging s := by
  simp [faultCore, latchCore]

@[simp] theorem paging_twinFault (s p code r localDig remoteDig) : paging (twinFault s p code r localDig remoteDig) = paging s := by simp [twinFault]
@[simp] theorem paging_twinArrive (s p isLocal r) : paging (twinArrive s p isLocal r) = paging s := by
  unfold twinArrive
  dsimp only
  split <;> simp
@[simp] theorem paging_twinDigest (s p e) : paging (twinDigest s p e) = paging s := by simp [twinDigest]

/-- An entry of a table whose values all change, where the default stays. -/
theorem mget_map {α : Type} (d : α) (m : SMap α) (f : α → α) (h : f d = d) (k : Nat) : mget d (m.map (fun x => (x.1, f x.2))) k = f (mget d m k) := by
  induction m with
  | nil => exact h.symm
  | cons x r ih =>
    obtain ⟨i, v⟩ := x
    by_cases hi : i = k
    · simp [mget, hi]
    · simp only [List.map_cons, mget, hi, if_false, ih]

@[simp] theorem paging_clearDigests (s p) : paging (clearDigests s p) = paging s :=
  paging_foldl _ _ _ fun t c => paging_modClus t c _ fun x i =>
    (congrArg Stream.state (mget_map ({} : Stream) x.str.streams (fun u => { u with crc := none }) rfl i)).trans rfl
@[simp] theorem paging_formDigest (s p index) : paging (formDigest s p index) = paging s := by simp [formDigest]
@[simp] theorem paging_releaseAll (s p) : paging (releaseAll s p) = paging s := by simp [releaseAll, releaseCore]
@[simp] theorem paging_beginSwitch (s p target calmMode stopAfter) : paging (beginSwitch s p target calmMode stopAfter) = paging s := by
  simp [beginSwitch]
theorem endStop_pf (x : Part) : (endStop x).pf = x.pf := by
  unfold endStop
  split <;> rfl
@[simp] theorem paging_becomeStopped (s p) : paging (becomeStopped s p) = paging s := by simp [becomeStopped, endStop_pf]
@[simp] theorem paging_finishCalm (s p) : paging (finishCalm s p) = paging s := by
  unfold finishCalm
  split <;> simp
@[simp] theorem paging_takeStop (s p) : paging (takeStop s p) = paging s := by
  unfold takeStop
  dsimp only
  split <;> simp
@[simp] theorem paging_takePause (s p) : paging (takePause s p) = paging s := by simp [takePause]
@[simp] theorem paging_reachCalm (s p index step) : paging (reachCalm s p index step) = paging s := by simp [reachCalm]
@[simp] theorem paging_exhaustStep (s p) : paging (exhaustStep s p) = paging s := by
  refine (paging_foldl _ _ _ fun a n => ?_).trans (paging_modPart _ _ _ fun _ => rfl)
  split <;> simp
@[simp] theorem paging_queueFault (s n t) : paging (queueFault s n t) = paging s := by simp [queueFault]
@[simp] theorem paging_calmCheck (s p) : paging (calmCheck s p) = paging s := by
  simp only [calmCheck]
  (repeat' split) <;> simp

end Sys2Proof.Machine

/-! # Device memory (08 R312, R313, R341 to R343) -/

namespace Sys2Proof.Machine

/-! ## A stream that is faulted (08 R326, R334) -/

section
variable (s : State) (c st j reason code : Nat)

theorem streamState_faultStream : streamState (faultStream s c st reason code) c st = .faulted := by
  have raised : paging (faultStream s c st reason code) =
      paging (setStream s c st { getStream s c st with state := .faulted, reason := reason, xlat := none, resumed := false }) := by
    simp [faultStream]
  rw [show streamState (faultStream s c st reason code) c st = _ from congrArg (fun x => x.streams c st) raised]
  simp [paging, streamState]

theorem dmBad_faultStream : (faultStream s c st reason code).dmBad = s.dmBad := by
  have raised : paging (faultStream s c st reason code) =
      paging (setStream s c st { getStream s c st with state := .faulted, reason := reason, xlat := none, resumed := false }) := by
    simp [faultStream]
  exact congrArg Paging.bad raised

theorem streamState_failRow : streamState (failRow s c st j reason code) c st = .faulted := by
  unfold failRow
  dsimp only
  generalize (if (getClus s c).str.host.contains (st, j) then _ else s) = u
  split
  · next late => simp [streamState, late.1]
  · exact streamState_faultStream ..

theorem dmBad_failRow : (failRow s c st j reason code).dmBad = s.dmBad := by
  have freed : (if (getClus s c).str.host.contains (st, j) then
      modClus s c (fun x => { x with str := { x.str with host := x.str.host.erase (st, j) } }) else s).dmBad = s.dmBad := by
    split <;> rfl
  unfold failRow
  dsimp only
  split
  · exact freed
  · exact (dmBad_faultStream ..).trans freed

end

/-! ## The error code of device memory (08 R343) -/

section
variable (s : State) (addr : Nat) (ecc : DramEcc)

theorem dmMem_dmRead : (dmRead s addr ecc).dmMem = s.dmMem := congrArg Held.dm (held_dmRead ..)

/-- A read counts the errors that it corrects in the channel of its address. -/
theorem dmCorr_dmRead : mget {} (dmRead s addr ecc).dmCorr (channelOf addr) = Stat.add (mget {} s.dmCorr (channelOf addr)) ecc.corrected := by
  have kept : (dmRead s addr ecc).dmCorr =
      if ecc.corrected = 0 then s.dmCorr else mmod {} s.dmCorr (channelOf addr) (fun t => t.add ecc.corrected) := by
    unfold dmRead
    dsimp only
    split <;> split <;> rfl
  rw [kept]
  split
  · next none => rw [none]; rfl
  · exact mget_mset_same ..

/-- An error that cannot be corrected stays in its row. -/
theorem dmIsBad_dmRead : dmIsBad (dmRead s addr ecc) addr = (dmIsBad s addr || ecc.uncorrectable) := by
  unfold dmRead dmIsBad
  cases ecc.uncorrectable
  · by_cases none : ecc.corrected = 0 <;> simp [none]
  · simp

end

/-! ## GDDR7_SLOT and GDDR7_REFRESH (08 R313, R341 to R343) -/

/-- The request of row `j` of a stream has left the queue of its channel. -/
def requestTaken (s : State) (c st j : Nat) : State := modClus s c (fun x => { x with str := { x.str with gddr := x.str.gddr.erase (st, j) } })

section
variable {s : State} {cl : ClusterId} {chan : Fin 32} {st j : Nat} {g : StrTag}

/-- A request waits for the channel of its address. -/
theorem channelOf_oldest {c k : Nat} (oldest : oldestFor s c k = some (st, j)) (tag : tagOfRow (getStream s c st) j = some g) : channelOf g.addr = k := by
  simpa [tag] using List.find?_some oldest

theorem exec_gddr7Refresh (oldest : oldestFor s cl.val chan.val = some (st, j)) :
    exec (.gddr7Refresh cl chan) s = .next (modClus s cl.val (fun x => { x with str := { x.str with refreshLost := x.str.refreshLost.bump } })) := by
  refine Eq.trans (b := execGddr7Refresh cl chan s) rfl ?_
  simp only [execGddr7Refresh, oldest]

variable (oldest : oldestFor s cl.val chan.val = some (st, j)) (tag : tagOfRow (getStream s cl.val st) j = some g)
include oldest tag

theorem exec_gddr7Slot_write {r : Row} (data : g.data = some r) (ecc : DramEcc) :
    exec (.gddr7Slot cl chan ecc) s = .next (tagServed (setDmRow (requestTaken s cl.val st j) g.addr r) cl.val st j none 0) := by
  refine Eq.trans (b := execGddr7Slot cl chan ecc s) rfl ?_
  simp only [execGddr7Slot, oldest, tag, data]
  rfl

/-- A read finds the row as it stands, or an uncorrectable one (08 R343). -/
theorem exec_gddr7Slot_read (data : g.data = none) (ecc : DramEcc) :
    exec (.gddr7Slot cl chan ecc) s =
      let t := dmRead (requestTaken s cl.val st j) g.addr ecc
      if dmIsBad t g.addr then .next (failRow t cl.val st j 7 0x0144)
      else .next (tagServed t cl.val st j (some (readRow s.dmMem g.addr)) 0) := by
  refine Eq.trans (b := execGddr7Slot cl chan ecc s) rfl ?_
  simp only [execGddr7Slot, oldest, tag, data, dmMem_dmRead]
  rfl

end

/-- Settles O32: a slot serves the oldest request, a write by `setDmRow`, a read by `dmRead`, whose uncorrectable row faults its stream. -/
theorem deviceMemoryServes : Obligations.DeviceMemoryServes := by
  intro s cl chan st j g c oldest tag s1
  refine ⟨fun ecc r data => ⟨exec_gddr7Slot_write oldest tag data ecc, ?written, ?others⟩, fun data ecc => ⟨?counted, fun whole correct => ?read, fun bad => ?failed⟩,
    exec_gddr7Refresh oldest⟩
  case written => exact readRow_writeRow_same ..
  case others =>
    intro a outside
    exact readByte_writeBytes_other _ _ _ _ (by rwa [natBytes_length])
  case counted =>
    rw [← channelOf_oldest oldest tag]
    exact dmCorr_dmRead ..
  case read =>
    have good : dmIsBad (dmRead (requestTaken s cl.val st j) g.addr ecc) g.addr = false := by
      rw [dmIsBad_dmRead, correct, show dmIsBad (requestTaken s cl.val st j) g.addr = false from whole, Bool.or_self]
    rw [exec_gddr7Slot_read oldest tag data]
    simp only [good, Bool.false_eq_true, if_false]
    rfl
  case failed =>
    have lost : dmIsBad (dmRead (requestTaken s cl.val st j) g.addr ecc) g.addr = true := by
      rw [dmIsBad_dmRead, show dmIsBad (requestTaken s cl.val st j) g.addr = dmIsBad s g.addr from rfl, Bool.or_eq_true]
      exact bad
    rw [exec_gddr7Slot_read oldest tag data]
    simp only [lost, if_true]
    refine ⟨_, rfl, ?_, ?_, streamState_failRow ..⟩
    · exact (congrArg Held.dm (held_failRow ..)).trans (dmMem_dmRead ..)
    · rw [dmIsBad, dmBad_failRow]
      exact lost

end Sys2Proof.Machine

/-! # Pages (08 R319, R320, R330 to R333, R347, R348) -/

namespace Sys2Proof.Machine

/-! ## A range of a memory that is cleared -/

theorem readByte_clearRange_inside {m : Mem} {a n x : Nat} (low : a ≤ x) (high : x < a + n) : readByte (clearRange m a n) x = 0 := by
  refine mget_absent _ _ _ fun cell listed at_ => ?_
  have kept : cell.1 < a ∨ a + n ≤ cell.1 := by simpa using (List.mem_filter.mp listed).2
  omega

theorem readByte_clearRange_outside {m : Mem} {a n x : Nat} (outside : x < a ∨ a + n ≤ x) : readByte (clearRange m a n) x = readByte m x :=
  mget_filter _ _ _ _ fun cell _ at_ => by simpa [at_] using outside

/-! ## The streams that waited for a page run again (08 R332) -/

theorem getStream_setStream_other {s : State} {c i d k : Nat} (t : Stream) (h : (d, k) ≠ (c, i)) : getStream (setStream s c i t) d k = getStream s d k := by
  by_cases hd : d = c
  · subst hd
    have hk : k ≠ i := fun e => h (by rw [e])
    rw [getStream, setStream, getClus_modClus_same]
    exact mget_mset_other _ _ _ _ _ hk
  · rw [getStream, setStream, getClus_modClus_other _ _ _ _ hd]
    rfl

theorem streamState_resumeStream (s : State) (w e : Nat × Nat) :
    streamState (resumeStream s w.1 w.2) e.1 e.2 = if e = w then .running else streamState s e.1 e.2 := by
  split
  · next same => subst same; simp [resumeStream, streamState]
  · next other => rw [streamState, resumeStream, getStream_setStream_other _ other]; rfl

/-- The streams of a list are resumed. -/
def resumeAll (s : State) (ws : List (Nat × Nat)) : State := ws.foldl (fun a w => resumeStream a w.1 w.2) s

/-- `t` has the page table and the partitions of `s`. -/
structure KeepsPages (s t : State) : Prop where
  entries : t.ptes = s.ptes
  identity : t.ptIdentity = s.ptIdentity
  parts : t.parts = s.parts

theorem keepsPages_resumeAll (s : State) (ws : List (Nat × Nat)) : KeepsPages s (resumeAll s ws) :=
  List.foldlRecOn ws _ (motive := KeepsPages s) ⟨rfl, rfl, rfl⟩ fun _ ht _ _ => ⟨ht.entries, ht.identity, ht.parts⟩

theorem streamState_resumeAll (s : State) (ws : List (Nat × Nat)) (e : Nat × Nat) :
    streamState (resumeAll s ws) e.1 e.2 = if e ∈ ws then .running else streamState s e.1 e.2 := by
  induction ws generalizing s with
  | nil => rfl
  | cons w rest ih =>
    rw [show resumeAll s (w :: rest) = resumeAll (resumeStream s w.1 w.2) rest from rfl, ih, streamState_resumeStream]
    by_cases first : e = w <;> simp [first]

/-- A stream of a partition that waits on a page is one of its waiters (08 R331). -/
theorem mem_waiters {s : State} {p page c i : Nat} (cluster : c ∈ clustersOf s p) (bound : i ∈ boundStreams s c)
    (waits : waitsOn (getStream s c i) page = true) : (c, i) ∈ waiters s p page :=
  List.mem_flatMap.mpr ⟨c, cluster, List.mem_map.mpr ⟨i, List.mem_filter.mpr ⟨bound, waits⟩, rfl⟩⟩

/-! ## The end of a resolution (08 R332) -/

/-- A partition after the resolution of a page has succeeded. -/
def resolvedPart (page : Nat) (x : Part) : Part :=
  { x with
    pf := { x.pf with resolving := x.pf.resolving.filter (fun r => r.1 != page), overflow := x.pf.overflow.filter (fun r => r != page) }
    det := { x.det with excPf := x.det.excPf.bump } }

theorem endResolution_success (s : State) (p page : Nat) :
    endResolution s p page 0 = calmCheck (resumeAll (modPart s p (resolvedPart page)) (waiters s p page)) p := rfl

theorem resolvingFor_resolvedPart (page : Nat) (x : Part) : resolvingFor (resolvedPart page x) page = none := by
  have gone : (resolvedPart page x).pf.resolving.find? (fun r => r.1 == page) = none :=
    List.find?_eq_none.mpr fun r listed => by simpa using (List.mem_filter.mp listed).2
  rw [resolvingFor, gone]
  rfl

theorem resolvingFor_congr {x y : Part} (h : x.pf = y.pf) (page : Nat) : resolvingFor x page = resolvingFor y page := by
  rw [resolvingFor, resolvingFor, h]

theorem getPte_congr {s t : State} (entries : t.ptes = s.ptes) (identity : t.ptIdentity = s.ptIdentity) (page : Nat) : getPte t page = getPte s page := by
  rw [getPte, getPte, entries, identity]

section
variable (s : State) (p page : Nat)

theorem getPte_endResolution_success (q : Nat) : getPte (endResolution s p page 0) q = getPte s q := by
  have calm := paging_calmCheck (resumeAll (modPart s p (resolvedPart page)) (waiters s p page)) p
  have same := keepsPages_resumeAll (modPart s p (resolvedPart page)) (waiters s p page)
  rw [endResolution_success, getPte_congr (congrArg Paging.entries calm) (congrArg Paging.identity calm), getPte_congr same.entries same.identity]
  rfl

theorem resolvingFor_endResolution_success : resolvingFor (getPart (endResolution s p page 0) p) page = none := by
  have calm := paging_calmCheck (resumeAll (modPart s p (resolvedPart page)) (waiters s p page)) p
  have same := keepsPages_resumeAll (modPart s p (resolvedPart page)) (waiters s p page)
  rw [endResolution_success, resolvingFor_congr (congrArg (fun x => x.faults p) calm), getPart_congr same.parts, getPart_modPart_same]
  exact resolvingFor_resolvedPart ..

theorem streamState_endResolution_success {c i : Nat} (waits : (c, i) ∈ waiters s p page) : streamState (endResolution s p page 0) c i = .running := by
  have calm := paging_calmCheck (resumeAll (modPart s p (resolvedPart page)) (waiters s p page)) p
  rw [endResolution_success]
  refine (congrArg (fun x => x.streams c i) calm).trans ?_
  exact (streamState_resumeAll _ _ (c, i)).trans (if_pos waits)

end

theorem getPte_setPte_same (s : State) (page : Nat) (e : Pte) : getPte (setPte s page e) page = e := mget_mset_same ..
theorem getPte_setPte_other {s : State} {page q : Nat} (e : Pte) (h : q ≠ page) : getPte (setPte s page e) q = getPte s q :=
  mget_mset_other _ _ _ _ _ h

/-! ## PAGE_ZERO_FILL (08 R330, R332) -/

/-- The frame of a page reads 0, and its rows are whole again. -/
def scrubFrame (s : State) (frame : Nat) : State :=
  { s with dmMem := clearRange s.dmMem (frame * 2097152) 2097152, dmBad := s.dmBad.filter (fun b => b.1 / 4096 != frame) }

theorem exec_pageZeroFill {s : State} {p : PartId} {page : Fin 393216} (zero : resolvingFor (getPart s p.val) page.val = some 1) :
    exec (.pageZeroFill p page) s =
      .next (endResolution (setPte (scrubFrame s (getPte s page.val).frame) page.val { getPte s page.val with state := 1 }) p.val page.val 0) := by
  refine Eq.trans (b := execPageZeroFill p page s) rfl ?_
  simp only [execPageZeroFill, zero, ne_eq, not_true_eq_false, if_false]
  rfl

/-! ## The commands of the owner (08 R319, R320, R347, R348) -/

theorem partDenied_owner {s : State} {h p : Nat} (owner : h = (getPart s p).owner) (held : (getPart s p).state ≠ .none) : partDenied s h p = none := by
  simp [partDenied, owner, held]

section
variable {s : State} {h : Fin 2} {p : PartId} {data : W32} (answers : portAnswers s h.val = true) (granted : partDenied s h.val p.val = none)
include answers granted

theorem exec_pageTableWrite (reserved : data.toNat / 2 ^ 19 % 2 ^ 10 = 0)
    (allowed : pteDenied s p.val (getPart s p.val).pf.ptIndex (data.toNat / 2 ^ 30) (data.toNat % 2 ^ 19) = none) :
    exec (.pageTableWrite h p data) s =
      .next (writePte s p.val (getPart s p.val).pf.ptIndex (data.toNat / 2 ^ 30) (data.toNat % 2 ^ 19)) := by
  have state : natBits data.toNat 30 2 = data.toNat / 2 ^ 30 := by
    have := data.isLt
    rw [natBits, Nat.shiftRight_eq_div_pow, Nat.mod_eq_of_lt (by omega)]
  have frame : natBits data.toNat 0 19 = data.toNat % 2 ^ 19 := rfl
  have between : natBits data.toNat 19 10 = 0 := by rw [natBits, Nat.shiftRight_eq_div_pow, reserved]
  refine Eq.trans (b := execPageTableWrite h p data s) rfl ?_
  rw [execPageTableWrite, state, frame, between, granted, allowed]
  exact hostCmd_granted answers rfl

theorem exec_pfAck_one : exec (.pfAck h p 1) s = .next (ackPage s p.val) := by
  refine Eq.trans (b := execPfAck h p 1 s) rfl ?_
  rw [execPfAck, granted]
  exact hostCmd_granted answers rfl

theorem exec_pfAck_zero : exec (.pfAck h p 0) s = .next s := by
  refine Eq.trans (b := execPfAck h p 0 s) rfl ?_
  rw [execPfAck, granted]
  exact hostCmd_granted answers rfl

end

/-- Where no page waits for room, none enters the queue (08 R348). -/
theorem refillQueue_empty {s : State} {p : Nat} (empty : (getPart s p).pf.overflow = []) (k : Nat) : refillQueue k s p = s := by
  cases k with
  | zero => rfl
  | succ k => simp only [refillQueue, empty]

/-! ## PF_DEADLINE (08 R333) -/

theorem exec_pfDeadline {s : State} {cl : ClusterId} {stream : Fin 256} {p : Nat} {d : StreamDesc} (part : partOfCluster s cl.val = some p)
    (desc : (getStream s cl.val stream.val).desc = some d) (halted : (getStream s cl.val stream.val).state = .halted)
    (unfrozen : (getPart s p).det.phase ≠ 3) (undumped : (getPart s p).det.phase ≠ 6)
    (passed : (getStream s cl.val stream.val).haltTime + 1000 * (getPart s p).pf.deadline ≤ nowNs s) :
    let t := getStream s cl.val stream.val
    exec (.pfDeadline cl stream) s = .next (
      if t.reason = 4 then calmCheck (failHostPage s p (streamPasid s cl.val d) (hostPage (farAddr t t.next)) 0x0A) p
      else endResolution s p (farAddr t t.next / 2097152) 0x0A) := by
  refine Eq.trans (b := execPfDeadline cl stream s) rfl ?_
  have late : ¬ nowNs s < (getStream s cl.val stream.val).haltTime + 1000 * (getPart s p).pf.deadline := Nat.not_lt.mpr passed
  simp only [execPfDeadline, part, desc, halted, unfrozen, undumped, late, ne_eq, not_true_eq_false, decide_false, beq_eq_false_iff_ne.mpr,
    Bool.or_self, Bool.false_eq_true, if_false, not_false_eq_true]
  split <;> rfl

/-- Settles O33: a zero fill is a scrub, an entry and the end of a resolution, which resumes the waiters; the owner's commands and the deadline are
    their equations. -/
theorem pageRows : Obligations.PageRows := by
  refine ⟨fun s p page zero => ?zeroFill, fun s p => ⟨fun h data answers owner inUse => ?owner, fun a empty => refillQueue_empty empty 64,
    fun cl stream d part desc halted unfrozen undumped passed => exec_pfDeadline part desc halted unfrozen undumped passed⟩⟩
  case zeroFill =>
    intro e
    have kept := held_endResolution (setPte (scrubFrame s e.frame) page.val { e with state := 1 }) p.val page.val 0
    have bytes : State.dmMem _ = _ := congrArg Held.dm kept
    refine ⟨_, exec_pageZeroFill zero, fun i hi => ?_, fun a outside => ?_, ?_, fun q other => ?_, resolvingFor_endResolution_success .., congrArg Held.sp kept,
      congrArg Held.cm kept, fun c i bound cluster waits => ?_⟩
    · rw [bytes]
      exact readByte_clearRange_inside (Nat.le_add_right ..) (Nat.add_lt_add_left hi _)
    · rw [bytes]
      exact readByte_clearRange_outside outside
    · rw [getPte_endResolution_success, getPte_setPte_same]
    · rw [getPte_endResolution_success, getPte_setPte_other _ other]
      rfl
    · exact streamState_endResolution_success _ _ _ (mem_waiters cluster bound waits)
  case owner =>
    have granted := partDenied_owner owner inUse
    refine ⟨exec_pageTableWrite answers granted, fun one => ?_, fun zero => ?_⟩
    · subst one
      exact exec_pfAck_one answers granted
    · subst zero
      exact exec_pfAck_zero answers granted

end Sys2Proof.Machine

/-! # The work rings (08 R326; 15 R574, R588 to R592) -/

namespace Sys2Proof.Machine

/-! ## HP_WR_CTL (15 R591, R592, R609) -/

/-- The word that a port writes to HP_WR_CTL to set or clear EN alone. -/
def ringCtlWord (en : Bool) (size burst : Nat) : W32 := BitVec.ofNat 32 ((if en then 1 else 0) <<< 31 ||| size <<< 16 ||| burst)

theorem ringCtlWord_toNat {en : Bool} {size burst : Nat} (hs : size < 32) (hb : burst < 128) :
    (ringCtlWord en size burst).toNat = en.toNat * 2 ^ 31 + size * 2 ^ 16 + burst := by
  have low : size <<< 16 ||| burst = size * 2 ^ 16 + burst := by
    rw [← Nat.shiftLeft_add_eq_or_of_lt (by omega), Nat.shiftLeft_eq]
  have all : (if en then 1 else 0) <<< 31 ||| size <<< 16 ||| burst = en.toNat * 2 ^ 31 + (size * 2 ^ 16 + burst) := by
    rw [Nat.or_assoc, low, ← Nat.shiftLeft_add_eq_or_of_lt (by omega), Nat.shiftLeft_eq]
    cases en <;> rfl
  have := Bool.toNat_le en
  rw [ringCtlWord, BitVec.toNat_ofNat, all, Nat.mod_eq_of_lt (by omega), Nat.add_assoc]

/-- The fields of the word. -/
theorem ringCtlWord_fields {en : Bool} {size burst : Nat} (hs : size < 32) (hb : burst < 128) :
    natBits (ringCtlWord en size burst).toNat 16 5 = size ∧ natBits (ringCtlWord en size burst).toNat 0 7 = burst ∧
      (ringCtlWord en size burst).getLsbD 31 = en := by
  have value := ringCtlWord_toNat (en := en) hs hb
  have := Bool.toNat_le en
  refine ⟨?_, ?_, ?_⟩
  · rw [natBits, value, Nat.shiftRight_eq_div_pow]
    omega
  · rw [natBits, value, Nat.shiftRight_eq_div_pow]
    omega
  · rw [BitVec.getLsbD, value, Nat.testBit_eq_decide_div_mod_eq]
    cases en
    · exact decide_eq_false (by simp only [Bool.toNat_false]; omega)
    · exact decide_eq_true (by simp only [Bool.toNat_true]; omega)

section
variable {s : State} {r : Nat} {en : Bool}

/-- A write that sets or clears EN alone, of a ring whose size and burst are in range (15 R591, R592). -/
theorem writeRingCtl_en (size : 6 ≤ (getRing s r).sizeLog2) (size' : (getRing s r).sizeLog2 ≤ 20) (burst : 1 ≤ (getRing s r).burst)
    (burst' : (getRing s r).burst ≤ 64) (off : en = true → (getRing s r).en = false) (chan : en = true → (getChan s (r / 4) (r % 4)).en = true) :
    writeRingCtl s r (ringCtlWord en (getRing s r).sizeLog2 (getRing s r).burst) =
      some (setRing s r { getRing s r with en := en, state := if en then .polling else .off }) := by
  obtain ⟨fsize, fburst, fen⟩ := ringCtlWord_fields (en := en) (show (getRing s r).sizeLog2 < 32 by omega) (show (getRing s r).burst < 128 by omega)
  have range : ¬ ((getRing s r).sizeLog2 < 6 ∨ 20 < (getRing s r).sizeLog2 ∨ (getRing s r).burst < 1 ∨ 64 < (getRing s r).burst) := by omega
  simp only [writeRingCtl, fsize, fburst, fen, range, if_false]
  cases en
  · simp
  · simp [off rfl, chan rfl]

end

section
variable {s : State} {h : Fin 2} {r : Fin 128}

theorem hostRing_allowed {en : Bool} {t : State} (answers : portAnswers s h.val = true) (allowed : clusDenied s h.val (r.val / 4) = none)
    (write : writeRingCtl s r.val (ringCtlWord en (getRing s r.val).sizeLog2 (getRing s r.val).burst) = some t) :
    hostRing h.val r.val en s = .next t := by
  refine Eq.trans (b := hostCmd s h.val (ringOff r.val 8) (ringCtlWord en (getRing s r.val).sizeLog2 (getRing s r.val).burst)
    (firstDenied [clusDenied s h.val (r.val / 4),
      if (writeRingCtl s r.val (ringCtlWord en (getRing s r.val).sizeLog2 (getRing s r.val).burst)).isNone then some 7 else none])
    (fun t => (writeRingCtl t r.val (ringCtlWord en (getRing s r.val).sizeLog2 (getRing s r.val).burst)).getD t)) rfl ?_
  rw [hostCmd_granted answers (by rw [allowed, write]; rfl), write]
  rfl

/-! ## Polls (15 R588 to R590) -/

theorem exec_ringPoll {p : PartId} {reads : List PollRead} (serves : partServes (getPart s p.val) = true)
    (polls : (getPart s p.val).run.ringPoll ≠ 0) (due : atMultiple s (getPart s p.val).run.ringPoll = true) :
    exec (.ringPoll p reads) s = .next (pollAll s p.val reads) := by
  refine Eq.trans (b := execRingPoll p reads s) rfl ?_
  simp [execRingPoll, serves, polls, due]

/-- The reads of the rows of a ring have gone out, and their completions may come back in this cc of its cluster (15 R588, R589). -/
structure RowsDue (s : State) (r p n cc : Nat) : Prop where
  part : partOfCluster s (r / 4) = some p
  polled : (getRing s r).polled = some n
  sent : (getRing s r).sent = true
  isOpen : hostOpen (getPort s (getPart s p).hostPort) = true
  serves : partServes (getPart s p) = true
  runs : clusterStopped s (r / 4) = false
  now : (getClus s (r / 4)).mem.cc = cc
  paid : ringLeft s (r / 4) cc = 0

theorem exec_ringRowsDeliver_rows {p cc : Nat} {rows : List Row} (due : RowsDue s r.val p rows.length cc) (accepts : accepting (getPart s p) = true) :
    exec (.ringRowsDeliver r cc (some rows)) s =
      .next (pumpFor (deliverRows (setRing s r.val { getRing s r.val with polled := none, sent := false }) r.val rows) (r.val / 4)) := by
  obtain ⟨part, polled, sent, isOpen, serves, runs, now, paid⟩ := due
  refine Eq.trans (b := execRingRowsDeliver r cc (some rows) s) rfl ?_
  simp [execRingRowsDeliver, enterCc_now runs now, part, polled, sent, isOpen, serves, paid, accepts]

theorem exec_ringRowsDeliver_failed {p n cc : Nat} (due : RowsDue s r.val p n cc) :
    exec (.ringRowsDeliver r cc none) s = .next (pumpFor (ringFault s r.val 0x01A0) (r.val / 4)) := by
  obtain ⟨part, polled, sent, isOpen, serves, runs, now, paid⟩ := due
  refine Eq.trans (b := execRingRowsDeliver r cc none s) rfl ?_
  simp [execRingRowsDeliver, enterCc_now runs now, part, polled, sent, isOpen, serves, paid]

/-! ## Completion timeouts (08 R326; 15 R574, R590) -/

theorem exec_completionTimeout_ring {p : Nat} (part : partOfCluster s (r.val / 4) = some p) (port : (getPart s p).hostPort = h.val)
    (sent : (getRing s r.val).sent = true) :
    exec (.completionTimeout h (.ring r)) s = .next (pumpPort (ringFault (logTimeout s h.val) r.val 0x01A0) h.val) := by
  refine Eq.trans (b := execCompletionTimeout h (.ring r) s) rfl ?_
  simp [execCompletionTimeout, part, port, sent]

theorem exec_completionTimeout_stream {cl : ClusterId} {st : Fin 256} {p j : Nat} (part : partOfCluster s cl.val = some p)
    (waiting : hostWaiting s cl.val st.val = some j) (port : (getPart s p).hostPort = h.val) :
    exec (.completionTimeout h (.stream cl st)) s =
      .next (pumpPort (calmCheck (failRow (logTimeout s h.val) cl.val st.val j 6 0x0143) p) h.val) := by
  refine Eq.trans (b := execCompletionTimeout h (.stream cl st) s) rfl ?_
  simp [execCompletionTimeout, part, waiting, port]

end

/-- Settles O37: EN by the fields of the word written; a poll, its rows and a timeout by the equations of their commands. -/
theorem workRings : Obligations.WorkRings := by
  intro s r cc x c
  refine ⟨fun h answers allowed size size' burst burst' => ⟨fun off chan => ?enable, ?disable⟩, fun p reads serves polls due => ?poll,
    fun p n part polled sent => ⟨fun isOpen serves runs now paid => ?deliver, fun h port => ?ringTimeout⟩,
    fun h cl st p j part waiting port => ?streamTimeout⟩
  case enable => exact hostRing_allowed answers allowed (writeRingCtl_en size size' burst burst' (fun _ => off) fun _ => chan)
  case disable =>
    exact hostRing_allowed answers allowed (writeRingCtl_en size size' burst burst' (fun e => nomatch e) fun e => nomatch e)
  case poll => exact exec_ringPoll serves polls due
  case deliver =>
    have due : RowsDue s r.val p n cc := ⟨part, polled, sent, isOpen, serves, runs, now, paid⟩
    refine ⟨fun rows count accepts => ?_, exec_ringRowsDeliver_failed due⟩
    subst count
    exact exec_ringRowsDeliver_rows due accepts
  case ringTimeout => exact exec_completionTimeout_ring part port sent
  case streamTimeout => exact exec_completionTimeout_stream part waiting port

end Sys2Proof.Machine

/-! # The numbers of the host ports (15 R574) -/

namespace Sys2Proof.Machine

/-- Every number but 0 reads host port 1. -/
theorem getPort_two (s : State) : getPort s 2 = getPort s 1 := rfl

/-- A device after reset whose host port 1 has ATS enabled. -/
def atsOnPort1 : State := setPort State.reset 1 { ats := true }

/-- Refutes O34: ATS_INVALIDATE at port 1 adds to what the port has under invalidation, and the statement keeps every port number but 1 as it was,
    2 among them, which reads port 1 again. -/
theorem not_translationRows : ¬ Obligations.TranslationRows := by
  rintro ⟨-, invalidate⟩
  obtain ⟨enabled, -⟩ := invalidate atsOnPort1 1 0 0
  obtain ⟨t, -, -, added, others, -⟩ := enabled rfl
  have unchanged : getPort t 1 = getPort atsOnPort1 1 := others 2 (by decide)
  rw [show (1 : Fin 2).val = 1 from rfl, unchanged] at added
  exact absurd added (by decide)

/-- Refutes O41: H_RESET of port 1 counts a reset of it, and the statement keeps every port number but 1 as it was, 2 among them, which reads
    port 1 again. -/
theorem not_hostLinkRows : ¬ Obligations.HostLinkRows := by
  intro rows
  obtain ⟨reset, -⟩ := rows State.reset 1
  obtain ⟨t, -, counted, -, -, -, -, -, -, others, -⟩ := reset .perst
  have unchanged : getPort t 1 = getPort State.reset 1 := others 2 (by decide)
  rw [show (1 : Fin 2).val = 1 from rfl, unchanged] at counted
  exact absurd counted (by decide)

end Sys2Proof.Machine

/-! # The mesh, the ejection ports and the drop reports (09 R359 to R373, R379, R396) -/

namespace Sys2Proof.Machine

/-! ## MESH_ROW_FORWARD (09 R359 to R363) -/

section
variable {s : State} {c link lane : Nat}

theorem exec_meshRowForward {cl : ClusterId} {link : Fin 5} {cc : Nat} (runs : routerStopped s cl.val = false)
    (slot : slotLane s cl.val link.val cc = lane) (owned : lane ≠ 0xFF) :
    exec (.meshRowForward cl link cc) s = .next (pumpAfter (forwardRow s cl.val link.val lane) cl.val link.val) := by
  refine Eq.trans (b := execMeshRowForward cl link cc s) rfl ?_
  simp [execMeshRowForward, runs, slot, owned]

theorem pumpAfter_inMesh (inMesh : leavesMesh c link = false) : pumpAfter s c link = s := by
  simp [pumpAfter, inMesh]

/-- Link 4 comes from the I/O die (09 R360). -/
theorem leavesMesh_ingress (c : Nat) : leavesMesh c 4 = false := rfl

/-- A row that stays in the mesh reaches the next router's input. -/
theorem sendOnLink_inMesh {d : Nat} {r : MeshRow} (inMesh : leavesMesh c link = false) (next : neighbour c link = some d) :
    sendOnLink s c link lane r = arriveRow s d (inputOf link) lane r := by
  simp [sendOnLink, inMesh, next]

/-- The next router has room for a row of a lane that is not static where its buffer holds fewer than four (09 R363). -/
theorem linkRoom_inMesh {d port : Nat} {h : Header} (moving : ¬ (0x20 ≤ lane ∧ lane < 0x30)) (inMesh : leavesMesh c link = false)
    (next : neighbour c link = some d) (short : (laneBuf s d (inputOf link) lane).length < 4) : linkRoom s c link lane port h = true := by
  simp [linkRoom, inMesh, next, moving, short]

theorem linkRoom_toPort {port : Nat} {h : Header} (leaves : leavesMesh c link = true) : linkRoom s c link lane port h = portRoom s port h := by
  simp [linkRoom, leaves]

/-- The first row of a lane that is not static, of those for a link with room, leaves by it (09 R360 to R363). -/
theorem forwardRow_lane {w : Waiting} {r : MeshRow} (mesh : link ≠ 4) (moving : ¬ (0x20 ≤ lane ∧ lane < 0x30))
    (first : (laneHeads s c lane).find? (fun e => nextLink s c e.2 == some link) = some (w, r))
    (room : linkRoom s c link lane r.msg.fabPort r.msg.header = true) :
    forwardRow s c link lane = sendOnLink (leaveWaiting s c w) c link lane r := by
  simp [forwardRow, forwardLane, mesh, moving, first, room]

/-- In a cc of the cluster's static lane the first static row for a link leaves by it (09 R362, R383). -/
theorem forwardRow_static {e : Nat × MsgRow} (mesh : link ≠ 4) (below : staticLane s c < 0x30)
    (first : (getClus s c).msg.pendingOut.find? (fun r => r.1 == link) = some e) :
    forwardRow s c link (staticLane s c) =
      sendOnLink (modClus s c (fun x => modMsg x (fun m => { m with pendingOut := m.pendingOut.erase e }))) c link (staticLane s c)
        { msg := e.2, kind := 0, reason := 0, remote := none } := by
  have static : 0x20 ≤ staticLane s c ∧ staticLane s c < 0x30 := ⟨Nat.le_add_right .., below⟩
  simp [forwardRow, forwardStatic, mesh, static, first]

/-- Link 4 brings the first row of an ingress lane in from the I/O die where the input has room (09 R360, R362). -/
theorem forwardRow_ingress {e : Nat × MeshRow} (first : (getClus s c).msg.ioIn.find? (fun r => r.1 == lane) = some e)
    (short : (laneBuf s c 4 lane).length < 4) :
    forwardRow s c 4 lane = arriveRow (modClus s c (fun x => modMsg x (fun m => { m with ioIn := m.ioIn.erase e }))) c 4 lane e.2 := by
  simp [forwardRow, forwardIngress, first, short]

end

/-! ## MESSAGE_EJECT (09 R370, R371, R373) -/

section
variable {s : State} {c lcore : Nat} {e : EjectHead}

/-- Refused rows do not hold those behind them (09 R371). -/
theorem ejectFirst_refused {before rest : List EjectHead} (refused : ∀ b ∈ before, ejectOne s c lcore b = none) :
    ejectFirst s c lcore (before ++ rest) = ejectFirst s c lcore rest := by
  induction before with
  | nil => rfl
  | cons b before ih =>
    obtain ⟨head, tail⟩ := List.forall_mem_cons.mp refused
    simp only [List.cons_append, ejectFirst, head, ih tail]

/-- The ejection port takes the first row that is not refused (09 R371, R373). -/
theorem exec_messageEject {cl : ClusterId} {lcore : Fin 32} {marks : BitVec 8} {before rest : List EjectHead} {t : State}
    (runs : routerStopped s cl.val = false) (heads : markRows marks (ejectHeads s cl.val lcore.val) = before ++ e :: rest)
    (refused : ∀ b ∈ before, ejectOne s cl.val lcore.val b = none) (taken : ejectOne s cl.val lcore.val e = some t) :
    exec (.messageEject cl lcore marks) s = .next (calmCheckAt t cl.val) := by
  refine Eq.trans (b := execMessageEject cl lcore marks s) rfl ?_
  simp [execMessageEject, runs, heads, ejectFirst_refused refused, ejectFirst, taken]

section
variable (moving : e.entry = none)
include moving

theorem ejectOne_taken {t : State} (offer : queueOffer (leaveWaiting s c e.place) c lcore (rowTag e.row.header) e.row = .taken t) :
    ejectOne s c lcore e = some t := by
  simp [ejectOne, moving, offer]

theorem ejectOne_discard {reason : Nat}
    (offer : queueOffer (leaveWaiting s c e.place) c lcore (rowTag e.row.header) e.row = .discard reason) :
    ejectOne s c lcore e = some (discardAt (leaveWaiting s c e.place) c lcore (rowTag e.row.header) reason e.row) := by
  simp [ejectOne, moving, offer]

theorem ejectOne_wait (offer : queueOffer (leaveWaiting s c e.place) c lcore (rowTag e.row.header) e.row = .wait) :
    ejectOne s c lcore e = none := by
  simp [ejectOne, moving, offer]

end
end

/-! ## DROP_REPORT (09 R379, R396) -/

/-- A lane's buffer reads as what was set. -/
@[simp] theorem laneBuf_setLaneBuf_same (s : State) (c inp lane : Nat) (rs : List MeshRow) : laneBuf (setLaneBuf s c inp lane rs) c inp lane = rs := by
  simp [laneBuf, setLaneBuf, modMsg]

@[simp] theorem laneBuf_takeReport (s : State) (c reason inp lane : Nat) (h : Header) :
    laneBuf (takeReport s c reason h) c inp lane = laneBuf s c inp lane := by
  simp [laneBuf, takeReport, modMsg]

/-- A first-fault latch that is valid keeps what it holds (03 R129). -/
theorem Latch.put_info_of_valid {α : Type} {l : Latch α} (v : α) (valid : l.valid = true) : (l.put v).info = l.info := by
  rw [Latch.put, if_pos valid]

/-- A report that has arrived at an input leaves the lane's buffer and is taken. -/
theorem exec_dropReport_input {s : State} {cl : ClusterId} {input : Fin 29} {lane : Fin 64} {r : MeshRow} {rest : List MeshRow}
    (runs : routerStopped s cl.val = false) (mesh : input.val < 5) (head : laneBuf s cl.val input.val lane.val = r :: rest) (report : r.kind = 1)
    (arrived : nextLink s cl.val r = none) :
    exec (.dropReport cl input lane) s =
      .next (takeReport (setLaneBuf s cl.val input.val lane.val rest) cl.val r.reason r.msg.header) := by
  refine Eq.trans (b := execDropReport cl input lane s) rfl ?_
  simp [execDropReport, runs, mesh, head, report, arrived]

/-- Settles O35: a link forwards by what owns its cc; the ejection port by the rows refused before the first that is not; a report by what taking it
    changes. -/
theorem meshRows : Obligations.MeshRows := by
  refine ⟨fun s cl cc runs => ⟨?next, ?port, ?static, ?ingress⟩, fun s cl runs => ⟨?eject, ?report⟩⟩
  case next =>
    intro link lane d w r slot kind first inMesh next short
    have moving : ¬ (0x20 ≤ lane ∧ lane < 0x30) := by omega
    have room := linkRoom_inMesh (port := r.msg.fabPort) (h := r.msg.header) moving inMesh next short
    rw [exec_meshRowForward runs slot (by omega), forwardRow_lane (by omega) moving first room, pumpAfter_inMesh inMesh, sendOnLink_inMesh inMesh next]
  case port =>
    intro link lane w r slot kind first leaves room
    rw [exec_meshRowForward runs slot (by omega), forwardRow_lane (by omega) (by omega) first ((linkRoom_toPort leaves).trans room)]
  case static =>
    intro link e slot below first
    rw [exec_meshRowForward runs slot (by omega), forwardRow_static (by omega) below first]
    rfl
  case ingress =>
    intro lane e slot owned first short
    rw [exec_meshRowForward runs slot owned, show (4 : Fin 5).val = 4 from rfl, pumpAfter_inMesh (leavesMesh_ingress _), forwardRow_ingress first short]
    rfl
  case eject =>
    intro lcore marks before e rest heads refused from_ offer
    exact ⟨fun t moving taken => exec_messageEject runs heads refused (ejectOne_taken moving taken),
      fun reason moving discarded => exec_messageEject runs heads refused (ejectOne_discard moving discarded),
      fun moving waits => ejectOne_wait moving waits,
      fun t _ steps => exec_messageEject runs heads refused steps⟩
  case report =>
    intro input lane r rest head report arrived
    refine ⟨_, exec_dropReport_input runs input.isLt head report arrived, by simp, by simp [takeReport, setLaneBuf, modMsg], fun valid => ?_,
      fun d other => ?_, rfl⟩
    · simpa [takeReport, setLaneBuf, modMsg] using Latch.put_info_of_valid _ valid
    · rw [takeReport, getClus_modClus_other _ _ _ _ other, setLaneBuf, getClus_modClus_other _ _ _ _ other]

end Sys2Proof.Machine

/-! # Static routes, combines and multicast members (09 R371, R373, R378, R383 to R394) -/

namespace Sys2Proof.Machine

/-! ## STATIC_ROUTE_FORWARD (09 R371, R373, R378, R383, R386, R387) -/

section
variable {s : State} {c input : Nat} {h : StaticHead}

theorem exec_staticRouteForward {cl : ClusterId} {input : Fin 30} {heads : List StaticHead} (runs : routerStopped s cl.val = false)
    (waiting : staticHeads s cl.val input.val = heads) :
    exec (.staticRouteForward cl input) s = .next (calmCheckAt (forwardFirst s cl.val input.val heads) cl.val) := by
  refine Eq.trans (b := execStaticRouteForward cl input s) rfl ?_
  simp [execStaticRouteForward, runs, waiting]

theorem forwardFirst_step {rest : List StaticHead} {t : State} (step : staticStep s c input h = some t) : forwardFirst s c input (h :: rest) = t := by
  simp [forwardFirst, step]

/-- A row that waits leaves the turn to the rows of the other lanes (09 R371). -/
theorem forwardFirst_wait {rest : List StaticHead} (waits : staticStep s c input h = none) :
    forwardFirst s c input (h :: rest) = forwardFirst (noteWaiting s c h) c input rest := by
  simp [forwardFirst, waits]

/-- A row whose route has no entry is discarded with reason 7 (09 R378). -/
theorem staticStep_noEntry (absent : getRoute s c (routeOf s h.row.header) = none) :
    staticStep s c input h = some (discardRow (leaveWaiting s c h.place) c 7 h.row) := by
  simp [staticStep, absent]

/-- A static multicast row follows an entry that is no combine (09 R383). -/
theorem staticStep_follows {e : RouteEntry} (entry : getRoute s c (routeOf s h.row.header) = some e) (multicast : rowRoute h.row.header = 1)
    (works : (getCombine s c (routeOf s h.row.header)).stopped = false) (copies : e.kind ≠ 3) : staticStep s c input h = followEntry s c e h := by
  simp [staticStep, entry, multicast, works, copies]

/-- A row is copied where every output is open and its turn has come (09 R373, R387). -/
theorem followEntry_copies {e : RouteEntry} (links : linksReady s c e h.row.header = true)
    (cores : ((localCores e).all (fun l => offerOpen (queueOffer s c l e.tag h.row))) = true) (turn : turnOf s c e h.place = true) :
    followEntry s c e h = some ((localCores e).foldl (fun a l => deliverLocal a c l e.tag h.row)
      (copyToLinks (dropRefusals (leaveWaiting s c h.place) c (rowGroup h.row.header) e) c e h.row)) := by
  rw [followEntry, outputsOpen, links, cores, turn]
  rfl

end

/-! ## COMBINE (09 R390 to R392, R394) -/

section
variable {s : State} {cl : ClusterId} {route : Fin 64} {e : RouteEntry}

/-- The rows of a combine entry that works are all there, the first of them `r`. -/
structure CombineReady (s : State) (c route : Nat) (e : RouteEntry) (r : MsgRow) (rest : List MsgRow) : Prop where
  runs : routerStopped s c = false
  entry : getRoute s c route = some e
  combines : e.kind = 3
  works : (getCombine s c route).stopped = false
  rows : combineRows (getCombine s c route) e = some (r :: rest)

/-- The answer of the operation of the group that a first row names, over the rows of a combine (09 R391). -/
def combineAnswer (s : State) (r : MsgRow) (rest : List MsgRow) : Except Nat Row :=
  combineOp (getGroup s (rowGroup r.header)).op ((r :: rest).map (fun x => rowHdr x.header)) ((r :: rest).map (fun x => rowLanes x.row))

section
variable {r : MsgRow} {rest : List MsgRow} (ready : CombineReady s cl.val route.val e r rest)
include ready

theorem exec_combine_error {code : Nat} (answer : combineAnswer s r rest = .error code) :
    exec (.combine cl route) s = .next (calmCheckAt (stopCombine s cl.val route.val code (rowGroup r.header)) cl.val) := by
  obtain ⟨runs, entry, combines, works, rows⟩ := ready
  refine Eq.trans (b := execCombine cl route s) rfl ?_
  rw [combineAnswer] at answer
  simp only [execCombine, entry, runs, combines, works, rows, answer, bne_self_eq_false, Bool.or_self, Bool.false_eq_true, if_false]

theorem exec_combine_sent {v : Row} {t : State} (answer : combineAnswer s r rest = .ok v)
    (sent : let w := getCombine s cl.val route.val
      sendCombined (setCombine s cl.val route.val { w with inputs := [], firstTime := none, seq := w.seq + 1 }) cl.val e
        { header := combinedHeader s cl.val r.header w.seq, row := v, fabPort := e.fabPort } = some t) :
    exec (.combine cl route) s = .next (calmCheckAt t cl.val) := by
  obtain ⟨runs, entry, combines, works, rows⟩ := ready
  refine Eq.trans (b := execCombine cl route s) rfl ?_
  rw [combineAnswer] at answer
  simp only [works] at sent
  simp only [execCombine, entry, runs, combines, works, rows, answer, sent, bne_self_eq_false, Bool.or_self, Bool.false_eq_true, if_false]

end

/-! ## COMBINE_TIMEOUT and MCAST_MEMBER_FENCE (09 R388, R393) -/

theorem exec_combineTimeout {t : Nat} (entry : getRoute s cl.val route.val = some e) (works : (getCombine s cl.val route.val).stopped = false)
    (first : (getCombine s cl.val route.val).firstTime = some t) (counts : deadlinesHeld s cl.val = false)
    (missing : combineRows (getCombine s cl.val route.val) e = none)
    (passed : t + 1000 * (getGroup s (combineGroup (getCombine s cl.val route.val))).deadlineUs ≤ nowNs s) :
    exec (.combineTimeout cl route) s =
      .next (calmCheckAt (stopCombine s cl.val route.val 0x0151 (combineGroup (getCombine s cl.val route.val))) cl.val) := by
  refine Eq.trans (b := execCombineTimeout cl route s) rfl ?_
  simp [execCombineTimeout, entry, works, first, counts, missing, Nat.not_lt.mpr passed]

theorem exec_mcastMemberFence {k : CoreId} {group : Fin 64} {since : Nat} (counts : deadlinesHeld s k.cluster.val = false)
    (member : mget false (getClus s k.cluster.val).msg.members (64 * lcoreNum (getCore s k.num) + group.val) = false)
    (refuses : refusedSince s k.num group.val = some since) (passed : since + 1000 * (getGroup s group.val).deadlineUs ≤ nowNs s) :
    exec (.mcastMemberFence k group) s = .next (calmCheckAt (fenceMember s k.num group.val) k.cluster.val) := by
  refine Eq.trans (b := execMcastMemberFence k group s) rfl ?_
  simp [execMcastMemberFence, refuses, counts, member, Nat.not_lt.mpr passed]

end

/-- Settles O36: the first static row of an input by the step that its entry gives it; a combine by the answer of its operation; the two deadlines by the
    time that has passed. -/
theorem groupRows : Obligations.GroupRows := by
  refine ⟨?static, fun s cl => ⟨fun route e entry works => ⟨?combine, ?timeout⟩, ?fence⟩⟩
  case static =>
    intro s cl input h rest c s1 runs heads
    refine ⟨fun waits => ?_, fun absent => ?_, fun e entry multicast works copies links cores turn => ?_⟩
    · rw [exec_staticRouteForward runs heads, forwardFirst_wait waits]
    · rw [exec_staticRouteForward runs heads, forwardFirst_step (staticStep_noEntry absent)]
    · have step := (staticStep_follows (input := input.val) entry multicast works copies).trans (followEntry_copies links cores turn)
      rw [exec_staticRouteForward runs heads, forwardFirst_step step]
  case combine =>
    intro r rest runs combines all rows answer
    have ready : CombineReady s cl.val route.val e r rest := ⟨runs, entry, combines, works, all⟩
    exact ⟨fun code fails => exec_combine_error ready fails, fun v t gives sent => exec_combine_sent ready gives sent⟩
  case timeout => exact fun t first counts missing passed => exec_combineTimeout entry works first counts missing passed
  case fence => exact fun k group since counts member refuses passed => exec_mcastMemberFence counts member refuses passed

end Sys2Proof.Machine

/-! # The batches of the gatherer (10 R403 to R414; 15 R593 to R597) -/

namespace Sys2Proof.Machine

/-! ## A row that the gatherer writes (07 R242, R262; 10 R403) -/

/-- From `s` to `t` one row of a cluster memory is written: no other byte of the cluster memories changes, nor the scratchpads, nor device memory. -/
structure WritesCmRow (s t : State) (c row : Nat) (v : Row) : Prop where
  row_eq : cmRow t c row = v
  others : ∀ a, (a < cmAddr c row ∨ cmAddr c row + 512 ≤ a) → readByte t.cmMem a = readByte s.cmMem a
  sp : t.spMem = s.spMem
  dm : t.dmMem = s.dmMem

theorem writesCmRow_of_held {s t : State} {c row : Nat} {v : Row} (h : held t = held (setCmRow s c row v)) : WritesCmRow s t c row v := by
  have cm : t.cmMem = writeRow s.cmMem (cmAddr c row) v := congrArg Held.cm h
  refine ⟨?_, fun a outside => ?_, congrArg Held.sp h, congrArg Held.dm h⟩
  · rw [cmRow, cm]
    exact readRow_writeRow_same ..
  · rw [cm]
    exact readByte_writeBytes_other _ _ _ _ (by rwa [natBytes_length])

/-- The channels of a cluster are no part of its memory side. -/
theorem getChan_modCMem (s : State) (c ch : Nat) (f : ClusterMem → ClusterMem) : getChan (modClus s c (fun x => modCMem x f)) c ch = getChan s c ch := by
  rw [getChan, getClus_modClus_same]
  rfl

theorem cmAnswer_setChan (s : State) (c ch b : Nat) (h : Channel) : cmAnswer (setChan s c ch h) c b = cmAnswer s c b := by
  simp only [cmAnswer, cmPower, setChan, getClus_modClus_same]

theorem uses_setChan (s : State) (c ch : Nat) (h : Channel) : (getClus (setChan s c ch h) c).mem.uses = (getClus s c).mem.uses := by
  rw [setChan, getClus_modClus_same]

section
variable {s : State} {c row : Nat} (v : Row)

theorem gatherWrite_ready (ready : cmAnswer s c (cmBank row) = .ready) : gatherWrite s c row v = writeCm s c row v gatherParty none :=
  if_neg (by simp [ready])

theorem held_gatherWrite_ready (ready : cmAnswer s c (cmBank row) = .ready) : held (gatherWrite s c row v) = held (setCmRow s c row v) := by
  rw [gatherWrite_ready v ready, held_writeCm]

/-- A write that is the first use of the cluster's banks in its cc meets no reader, so it leaves the channels as they are. -/
theorem getChan_gatherWrite_ready (ready : cmAnswer s c (cmBank row) = .ready) (unused : (getClus s c).mem.uses = []) (ch : Nat) :
    getChan (gatherWrite s c row v) c ch = getChan s c ch := by
  have alone : collider [] [] row gatherParty 0 = none := rfl
  rw [gatherWrite_ready v ready, writeCm]
  simp only [unused, alone, ite_self]
  exact getChan_modCMem ..

section
variable (i : Nat) (h : Channel) (ready : cmAnswer s c (cmBank row) = .ready)
include ready

/-- A row written along with a change of its channel. -/
theorem held_gatherWrite_setChan : held (gatherWrite (setChan s c i h) c row v) = held (setCmRow s c row v) :=
  held_gatherWrite_ready v ((cmAnswer_setChan ..).trans ready)

theorem getChan_gatherWrite_setChan (unused : (getClus s c).mem.uses = []) : getChan (gatherWrite (setChan s c i h) c row v) c i = h :=
  (getChan_gatherWrite_ready v ((cmAnswer_setChan ..).trans ready) ((uses_setChan ..).trans unused) i).trans (getChan_setChan_same ..)

end
end

/-! ## Banks that are awake (07 R280) -/

section
variable {s : State} {c : Nat}

theorem gatherAsleep_of_ready {row : Nat} (ready : cmAnswer s c (cmBank row) = .ready) : gatherAsleep s c row = false := by
  rw [gatherAsleep, ready]
  rfl

theorem gatherAsleep_of_noLull {row : Nat} (awake : (cmPower s c (cmBank row)).lull = false) : gatherAsleep s c row = false := by
  simp only [gatherAsleep, cmAnswer, answerOf, awake, Bool.false_eq_true, if_false]
  (repeat' split) <;> rfl

/-- No wake begins where no bank sleeps. -/
theorem wakeForRows_awake {rows : List Nat} (awake : ∀ r ∈ rows, gatherAsleep s c r = false) : wakeForRows s c rows = s := by
  refine List.foldlRecOn _ _ (motive := fun t => t = s) rfl fun t same r hr => ?_
  rw [same, awake r hr]
  rfl

end

/-! ## The buffers of a channel (10 R403) -/

@[simp] theorem getBuf_modBuf_same (h : Channel) (k : Nat) (f : BatchBuf → BatchBuf) : getBuf (modBuf h k f) k = f (getBuf h k) := by
  simp only [getBuf, modBuf]
  split <;> rfl

/-- Where buffer 0 alone forms and buffer 1 is free, buffer 0 is the one to be released. -/
theorem forming_of_one {h : Channel} (forms : h.buf0.state = .forming) (free : h.buf1.state = .free) :
    (buffersByAge h).filter (fun k => (getBuf h k).state == .forming) = [0] := by
  have order : buffersByAge h = [0, 1] := by simp [buffersByAge, free]
  rw [order]
  simp [getBuf, forms, free]

/-! ## GATHER_SLOT_WRITE (10 R403, R796) -/

/-- A channel whose buffer `k` has had its row of slot `i` written. -/
def slotWritten (h : Channel) (k i : Nat) : Channel := modBuf h k (fun b => { b with waiting := b.waiting.filter (fun w => w.1 != i) })

section
variable {s : State} {cl : ClusterId} {ch : Fin 4} {cc : Nat}

theorem exec_gatherSlotWrite {k i : Nat} {row : Row} (runs : clusterStopped s cl.val = false) (now : (getClus s cl.val).mem.cc = cc)
    (awake : ∀ n b, (cmPower s n b).lull = false) (next : nextSlotWrite s cl.val cc (getChan s cl.val ch.val) = some (k, i, row)) :
    exec (.gatherSlotWrite cl ch cc) s = .next (gatherWrite (setChan s cl.val ch.val (slotWritten (getChan s cl.val ch.val) k i)) cl.val
      (requestRow (getChan s cl.val ch.val) k i) row) := by
  refine Eq.trans (b := execGatherSlotWrite cl ch cc s) rfl ?_
  simp only [execGatherSlotWrite, enterCc_now runs now, wakeForRows_awake fun r _ => gatherAsleep_of_noLull (awake _ _), next]
  rfl

/-! ## GATHER_DEADLINE (10 R407) -/

/-- The deadline closes buffer 0, or finds it closed; a buffer that does not form stays as it is. -/
theorem exec_gatherDeadline {p : Nat} {h : Channel} (chan : getChan s cl.val ch.val = h) (part : partOfCluster s cl.val = some p)
    (flushes : (getPart s p).run.deadlineFlush = true) (accepts : accepting (getPart s p) = true) (forms : h.buf0.state = .forming)
    (short : h.buf0.refs.length < h.batch) (passed : h.buf0.runFrom + h.buf0.deadline ≤ nowNs s) (other : h.buf1.state ≠ .forming) :
    exec (.gatherDeadline cl ch) s = .next (setChan s cl.val ch.val { h with buf0 := { h.buf0 with flush := true } }) := by
  refine Eq.trans (b := execGatherDeadline cl ch s) rfl ?_
  cases closed : h.buf0.flush with
  | true =>
    have same : { h.buf0 with flush := true } = h.buf0 := by rw [← closed]
    simp [execGatherDeadline, chan, part, flushes, accepts, closed, other, same]
  | false => simp [execGatherDeadline, chan, part, flushes, accepts, forms, short, passed, other, closed]

/-! ## BATCH_RELEASE (10 R404, R406, R407, R796) -/

/-- A buffer that is released with sequence number `seq` and step `step` at time `now`, of a channel of `batch` rows a batch. -/
def releasedBuf (b : BatchBuf) (batch cc : Nat) (seq step now : W64) : BatchBuf :=
  { b with flush := b.refs.length != batch, state := .released, batchSeq := seq, step := step, tRelease := now, relCc := cc + 1,
           taken := 0, returned := 0, gret := [], posted := 0 }

theorem exec_batchRelease {p : Nat} {h : Channel} (chan : getChan s cl.val ch.val = h) (part : partOfCluster s cl.val = some p)
    (runs : clusterStopped s cl.val = false) (now : (getClus s cl.val).mem.cc = cc) (forms : h.buf0.state = .forming) (free : h.buf1.state = .free)
    (full : releasable h ((getPart s p).run.deadlineFlush && accepting (getPart s p)) (nowNs s) h.buf0 = true)
    (ready : cmAnswer s cl.val (cmBank (batchBase h 0)) = .ready) (slot : gatherSlot s cl.val cc (batchBase h 0) true = true)
    (posts : partPosts (getPart s p) = true) :
    exec (.batchRelease cl ch cc) s = .next (releaseBuf s cl.val ch.val 0 cc p) := by
  have first : getBuf h 0 = h.buf0 := rfl
  refine Eq.trans (b := execBatchRelease cl ch cc s) rfl ?_
  simp only [execBatchRelease, enterCc_now runs now, part, chan, forming_of_one forms free, first, full, posts, gatherAsleep_of_ready ready, slot,
    Bool.not_true, Bool.or_self, Bool.false_eq_true, if_false, if_true]

/-- The statistics of a release change two counts of its channel at most. -/
theorem getChan_countRelease {s : State} {c ch : Nat} {h : Channel} (chan : getChan s c ch = h) (p : Nat) (flush : Bool) : ∃ full flushes,
    getChan (countRelease s c ch p flush) c ch = { h with full := full, flushes := flushes } := by
  subst chan
  cases flush with
  | true => exact ⟨(getChan s c ch).full, (getChan s c ch).flushes.bump, getChan_setChan_same ..⟩
  | false => exact ⟨(getChan s c ch).full.bump, (getChan s c ch).flushes, getChan_setChan_same ..⟩

section
variable {c i k : Nat} {h : Channel} (p : Nat) (chan : getChan s c i = h) (ready : cmAnswer s c (cmBank (batchBase h k)) = .ready)
include chan ready

/-- A release writes the header row of its batch. -/
theorem writesCmRow_releaseBuf : WritesCmRow s (releaseBuf s c i k cc p) c (batchBase h k)
    (headerRow { getBuf h k with flush := (getBuf h k).refs.length != h.batch } h.seq (getPart s p).step s.time.now) := by
  refine writesCmRow_of_held ?_
  simp only [releaseBuf, chan, held_countRelease]
  exact held_gatherWrite_setChan _ _ _ ready

/-- A release takes the next sequence number of its channel for buffer `k`. -/
theorem getChan_releaseBuf (unused : (getClus s c).mem.uses = []) : ∃ full flushes, getChan (releaseBuf s c i k cc p) c i =
    { modBuf { h with seq := h.seq + 1 } k (fun b => releasedBuf b h.batch cc h.seq (getPart s p).step s.time.now) with
      full := full, flushes := flushes } := by
  have released : modBuf { h with seq := h.seq + 1 } k (fun b => releasedBuf b h.batch cc h.seq (getPart s p).step s.time.now) =
      modBuf { h with seq := h.seq + 1 } k (fun _ => releasedBuf (getBuf h k) h.batch cc h.seq (getPart s p).step s.time.now) := by
    simp only [modBuf, getBuf]
    split <;> rfl
  rw [released]
  simp only [releaseBuf, chan]
  exact getChan_countRelease (getChan_gatherWrite_setChan _ _ _ ready unused) ..

end

/-! ## BATCH_RETURN (10 R413) -/

theorem exec_batchReturn (k : CoreId) : exec (.batchReturn k ch) s = .next (setChan s k.cluster.val ch.val
    { getChan s k.cluster.val ch.val with
      buf0 := returnBuf s k.num (getChan s k.cluster.val ch.val).buf0, buf1 := returnBuf s k.num (getChan s k.cluster.val ch.val).buf1 }) := rfl

/-! ## COMPLETION_POST (10 R414; 15 R574, R593 to R597; 17 R668) -/

/-- In this cc of its cluster, which lies in partition `p`, a channel has a completion of buffer `k` to post, and its ring and its port work. -/
structure PostReady (s : State) (c ch cc p k : Nat) : Prop where
  runs : clusterStopped s c = false
  now : (getClus s c).mem.cc = cc
  part : partOfCluster s c = some p
  left : postingBuf (getChan s c ch) = some k
  works : (getRing s (ringOf c ch)).state ≠ .error
  posts : partPosts (getPart s p) = true
  opened : hostOpen (getPort s (getPart s p).hostPort) = true

section
variable {p k : Nat} (h : PostReady s cl.val ch.val cc p k) (ok : Bool) (ecc : Ecc)
include h

theorem exec_completionPost_full (full : crSpace (getRing s (ringOf cl.val ch.val)) = false) : exec (.completionPost cl ch cc ok ecc) s =
    .next (setRing s (ringOf cl.val ch.val) { getRing s (ringOf cl.val ch.val) with state := .waitSpace }) := by
  obtain ⟨runs, now, part, left, works, posts, opened⟩ := h
  refine Eq.trans (b := execCompletionPost cl ch cc ok ecc s) rfl ?_
  simp [execCompletionPost, enterCc_now runs now, part, left, works, posts, opened, full]

theorem exec_completionPost_miss {page : Nat} (space : crSpace (getRing s (ringOf cl.val ch.val)) = true)
    (miss : let x := getRing s (ringOf cl.val ch.val)
      let addrs := postAddrs x (getBuf (getChan s cl.val ch.val) k)
      ringMiss s (getPart s p).hostPort x [addrs.1, addrs.2] = some page) :
    exec (.completionPost cl ch cc ok ecc) s = .next (askRing s (getPart s p).hostPort (ringOf cl.val ch.val) page true) := by
  obtain ⟨runs, now, part, left, works, posts, opened⟩ := h
  refine Eq.trans (b := execCompletionPost cl ch cc ok ecc s) rfl ?_
  simp [execCompletionPost, enterCc_now runs now, part, left, works, posts, opened, space, miss]

theorem exec_completionPost_slot (space : crSpace (getRing s (ringOf cl.val ch.val)) = true)
    (translated : let x := getRing s (ringOf cl.val ch.val)
      let addrs := postAddrs x (getBuf (getChan s cl.val ch.val) k)
      ringMiss s (getPart s p).hostPort x [addrs.1, addrs.2] = none)
    (slot : let b := getBuf (getChan s cl.val ch.val) k
      gatherSlot s cl.val cc (resultRow (getChan s cl.val ch.val) k b.posted) false = true)
    (awake : let b := getBuf (getChan s cl.val ch.val) k
      gatherAsleep s cl.val (resultRow (getChan s cl.val ch.val) k b.posted) = false) :
    exec (.completionPost cl ch cc ok ecc) s =
      .next (if ok then postSlot s p cl.val ch.val k ecc else ringFault s (ringOf cl.val ch.val) 0x01A1) := by
  obtain ⟨runs, now, part, left, works, posts, opened⟩ := h
  refine Eq.trans (b := execCompletionPost cl ch cc ok ecc s) rfl ?_
  cases ok <;> simp [execCompletionPost, enterCc_now runs now, part, left, works, posts, opened, space, translated, slot, awake]

end

/-! ## BUFFER_FREE (10 R414, R796; 15 R596) -/

/-- The first row left to zero in this cc is the first in a slot of the gatherer, where no bank of the rows left sleeps. -/
theorem exec_bufferFree {k o : Nat} {h : Channel} {left : List Nat} (chan : getChan s cl.val ch.val = h)
    (rows : (getBuf h k).toZero.getD bufferOffsets = left) (runs : clusterStopped s cl.val = false) (now : (getClus s cl.val).mem.cc = cc)
    (zeroes : zeroingBuf h = some k) (awake : ∀ q ∈ left, gatherAsleep s cl.val (batchBase h k + q) = false)
    (first : left.find? (fun q => gatherSlot s cl.val cc (batchBase h k + q) true) = some o) :
    exec (.bufferFree cl ch cc) s = .next (zeroRow s cl.val ch.val k o left) := by
  have calm : wakeForRows s cl.val (left.map (fun q => batchBase h k + q)) = s := wakeForRows_awake (by simpa using awake)
  have found : left.find? (fun q => gatherSlot s cl.val cc (batchBase h k + q) true && !gatherAsleep s cl.val (batchBase h k + q)) = some o := by
    rw [← first]
    exact List.find?_congr fun q hq => by simp [awake q hq]
  refine Eq.trans (b := execBufferFree cl ch cc s) rfl ?_
  simp only [execBufferFree, enterCc_now runs now, chan, zeroes, rows, calm, found]

section
variable {c i k o : Nat} {h : Channel} (left : List Nat) (chan : getChan s c i = h) (ready : cmAnswer s c (cmBank (batchBase h k + o)) = .ready)
include chan ready

theorem writesCmRow_zeroRow : WritesCmRow s (zeroRow s c i k o left) c (batchBase h k + o) 0 := by
  refine writesCmRow_of_held ?_
  simp only [zeroRow, chan, held_setChan]
  exact held_gatherWrite_ready _ ready

theorem getBuf_zeroRow (unused : (getClus s c).mem.uses = []) : getBuf (getChan (zeroRow s c i k o left) c i) k =
    if (left.erase o).isEmpty then {} else { getBuf h k with toZero := some (left.erase o) } := by
  simp only [zeroRow, chan, getChan_setChan_same, getBuf_modBuf_same, getChan_gatherWrite_ready _ ready unused]

end
end

/-- Settles O38: each command's conditions lead to its one step; a row that the gatherer writes while its cluster's slots are unused changes that row and
    no channel. -/
theorem batchRows : Obligations.BatchRows := by
  refine ⟨fun s cl ch cc p => ?batch, fun s cl ch cc k => ⟨?returned, fun runs now => ⟨?post, ?free⟩⟩⟩
  case batch =>
    intro c h part runs now unused
    refine ⟨?slotWrite, ?deadline, ?release⟩
    case slotWrite =>
      intro k i row awake next ready _
      obtain ⟨written, others, sp, dm⟩ := writesCmRow_of_held (held_gatherWrite_setChan row ch.val (slotWritten h k i) ready)
      exact ⟨_, exec_gatherSlotWrite runs now awake next, written, getChan_gatherWrite_setChan row _ _ ready unused, others, sp, dm⟩
    case deadline => exact fun flushes accepts forms short passed other => exec_gatherDeadline rfl part flushes accepts forms short passed other
    case release =>
      intro forms free full ready slot _ posts
      obtain ⟨written, -, sp, dm⟩ := writesCmRow_releaseBuf (cc := cc) (i := ch.val) p rfl ready
      obtain ⟨fulls, flushes, chan⟩ := getChan_releaseBuf (cc := cc) (i := ch.val) p rfl ready unused
      refine ⟨_, exec_batchRelease rfl part runs now forms free full ready slot posts, written, ?_⟩
      rw [chan]
      exact ⟨rfl, rfl, rfl, rfl, rfl, rfl, sp, dm⟩
  case returned =>
    rintro n rfl
    refine ⟨_, exec_batchReturn n, rfl, rfl, ?_⟩
    rw [getChan_setChan_same]
    exact ⟨rfl, rfl⟩
  case post =>
    intro p ok ecc x b host part left works posts opened
    have post : PostReady s cl.val ch.val cc p k := ⟨runs, now, part, left, works, posts, opened⟩
    exact ⟨fun full => exec_completionPost_full post ok ecc full, fun page space miss => exec_completionPost_miss post ok ecc space miss,
      fun space translated slot awake => exec_completionPost_slot post ok ecc space translated slot awake⟩
  case free =>
    intro o left row zeroes awake first ready unused _
    obtain ⟨written, others, sp, dm⟩ := writesCmRow_zeroRow (i := ch.val) left rfl ready
    exact ⟨_, exec_bufferFree rfl rfl runs now zeroes awake first, written, getBuf_zeroRow left rfl ready unused, others, sp, dm⟩

end Sys2Proof.Machine

/-! # Pause, freeze, save, dump and restore (11 R446 to R457) -/

namespace Sys2Proof.Machine

/-! ## A command by its partition's state and PHASE (11 R446, R457) -/

section
variable {s : State} {p : Nat} {phases : List Nat}

theorem detRefusal_up {x : Part} (up : partIsUp x = true) (phase : x.det.phase ∈ phases) : detRefusal x phases = 0 := by
  have alive : x.state ≠ .faulted := fun faulted => by simp [partIsUp, faulted] at up
  simp [detRefusal, alive, phase, up]

theorem detRefusal_down {x : Part} (down : partIsUp x = false) (alive : x.state ≠ .faulted) : detRefusal x phases = 0x0080 := by
  simp [detRefusal, alive, down]

theorem detRefusal_faulted {x : Part} (faulted : x.state = .faulted) (phase : x.det.phase ∈ phases) : detRefusal x phases = 0x0089 := by
  simp [detRefusal, faulted, phase]

theorem detRefusal_otherPhase {x : Part} (other : x.det.phase ∉ phases) : detRefusal x phases = 0x0080 := by
  simp [detRefusal, other]

theorem detNow_runs {act : State → State} (allowed : detRefusal (getPart s p) phases = 0) : detNow s p phases act = detEnd (act s) p 0 := by
  simp [detNow, allowed]

theorem detNow_refused {act : State → State} {code : Nat} (refused : detRefusal (getPart s p) phases = code) (nonzero : code ≠ 0) :
    detNow s p phases act = detEnd s p code := by
  simp [detNow, refused, nonzero]

end

section
variable {s : State} {p : PartId}

theorem continuePart_pending (pending : (getPart s p.val).det.phase = 1) : continuePart s p.val = setPhase s p.val 0 := by
  simp only [continuePart, pending, if_true]

theorem continuePart_paused (paused : (getPart s p.val).det.phase = 2) :
    continuePart s p.val = finishCalm (restartBatches (setPhase s p.val 0) p.val) p.val := by
  simp [continuePart, paused]

/-! ## The commands of the owner (11 R446, R449 to R452, R454) -/

section
variable {h : Fin 2} (answers : portAnswers s h.val = true) (granted : partDenied s h.val p.val = none)
include answers granted

theorem detCmd_granted (op : Nat) (act : State → State) : detCmd h.val p.val op act s = .next (act s) := hostCmd_granted answers granted

theorem exec_pause : exec (.pause h p) s = .next (detNow s p.val [0] (fun t => setPhase t p.val 1)) :=
  detCmd_granted answers granted 0x01 (fun t => detNow t p.val [0] (fun t => setPhase t p.val 1))
theorem exec_continue : exec (.continue_ h p) s = .next (detNow s p.val [1, 2] (fun t => continuePart t p.val)) :=
  detCmd_granted answers granted 0x02 (fun t => detNow t p.val [1, 2] (fun t => continuePart t p.val))
theorem exec_freeze : exec (.freeze h p) s = .next (detNow s p.val [0, 1] (fun t => freezePart t p.val)) :=
  detCmd_granted answers granted 0x03 (fun t => detNow t p.val [0, 1] (fun t => freezePart t p.val))
theorem exec_thaw : exec (.thaw h p) s = .next (detNow s p.val [3] (fun t => thawPart t p.val)) :=
  detCmd_granted answers granted 0x04 (fun t => detNow t p.val [3] (fun t => thawPart t p.val))

theorem exec_save_paused (paused : (getPart s p.val).det.phase = 2) (alive : (getPart s p.val).state ≠ .faulted)
    (range : saveRangeBad s p.val (getPart s p.val).det.saveRows = false) :
    exec (.save h p) s = .next (beginRows s p.val 4 (getPart s p.val).det.saveRows) := by
  refine (detCmd_granted answers granted 0x05 (fun t => savePart t p.val)).trans ?_
  simp [savePart, paused, alive, range]

theorem exec_dump_frozen (frozen : (getPart s p.val).det.phase = 3) (alive : (getPart s p.val).state ≠ .faulted)
    (range : saveRangeBad s p.val ((getPart s p.val).det.saveRows + dumpExtra s p.val) = false) :
    exec (.dump h p) s = .next (beginRows s p.val 6 ((getPart s p.val).det.saveRows + dumpExtra s p.val)) := by
  refine (detCmd_granted answers granted 0x06 (fun t => dumpPart t p.val)).trans ?_
  simp [dumpPart, frozen, alive, range]

theorem exec_restore_stopped (free : detBusy (getPart s p.val).det = false) (stopped : (getPart s p.val).state = .stopped)
    (still : (getPart s p.val).aborting = false) (image : s.loaded.lsize ≠ 0) (idle : s.loader = none)
    (range : saveRangeBad s p.val (getPart s p.val).det.saveRows = false) :
    exec (.restore h p) s = .next (beginRows s p.val 5 (getPart s p.val).det.saveRows) := by
  refine (detCmd_granted answers granted 0x07 (fun t => restorePart t p.val)).trans ?_
  simp [restorePart, free, stopped, still, image, idle, range]

end

/-! ## The end of a save, a dump or a restore (11 R451, R452, R454, R457) -/

theorem exec_saveEnd (saving : (getPart s p.val).det.phase = 4) (whole : partBad s p.val = false) :
    exec (.saveEnd p) s = .next (endRows (countSaved (writeRows s (getPart s p.val).det.saveAddr.toNat (savedState s p.val false)) p.val)
      p.val (getPart s p.val).det.backPhase 0) := by
  refine Eq.trans (b := execSaveEnd p s) rfl ?_
  simp only [execSaveEnd, saving, whole, ne_eq, not_true_eq_false, Bool.false_eq_true, if_false]

theorem exec_dumpEnd (dumping : (getPart s p.val).det.phase = 6) (whole : partBad s p.val = false) :
    exec (.dumpEnd p) s = .next (endRows (countSaved (writeRows s (getPart s p.val).det.saveAddr.toNat (savedState s p.val true)) p.val)
      p.val 3 0) := by
  refine Eq.trans (b := execDumpEnd p s) rfl ?_
  simp only [execDumpEnd, dumping, whole, ne_eq, not_true_eq_false, Bool.false_eq_true, if_false]

theorem exec_restoreEnd_passes (restoring : (getPart s p.val).det.phase = 5) (passes : restoreError s p.val = none) :
    exec (.restoreEnd p) s = .next (endRows (restoreState s p.val (getPart s p.val).det.saveAddr.toNat) p.val 0 0) := by
  refine Eq.trans (b := execRestoreEnd p s) rfl ?_
  simp only [execRestoreEnd, restoring, passes, ne_eq, not_true_eq_false, if_false]

theorem exec_restoreEnd_fails {code : Nat} (restoring : (getPart s p.val).det.phase = 5) (fails : restoreError s p.val = some code) :
    exec (.restoreEnd p) s = .next (endRows (failRestore s p.val) p.val 0 code) := by
  refine Eq.trans (b := execRestoreEnd p s) rfl ?_
  simp only [execRestoreEnd, restoring, fails, ne_eq, not_true_eq_false, if_false]

end

theorem getPart_detEnd (s : State) (p code : Nat) :
    getPart (detEnd s p code) p = { getPart s p with det := { (getPart s p).det with resultValid := true, code := code } } := by
  rw [detEnd, getPart_congr (partEvent_parts ..), getPart_modPart_same]

theorem getPart_endRows (s : State) (p phase code : Nat) :
    getPart (endRows s p phase code) p = { getPart s p with det := { (getPart s p).det with phase := phase, resultValid := true, code := code } } := by
  rw [endRows, getPart_detEnd, setPhase, getPart_modPart_same]
  rfl

theorem failRestore_faults (s : State) (p : Nat) : (getPart (failRestore s p) p).state = .faulted := by
  rw [failRestore, getPart_modPart_same]

/-- Settles O44: the four commands that end at once by what `detRefusal` answers for the partition; a save, a dump, a restore and their ends by the
    equations of their commands. -/
theorem determinismRows : Obligations.DeterminismRows := by
  refine ⟨fun s h p answers granted => ?commands, fun s p => ⟨fun h answers granted => ⟨exec_save_paused answers granted, exec_dump_frozen answers granted,
    exec_restore_stopped answers granted⟩, exec_saveEnd, exec_dumpEnd, fun restoring => ?restoreEnd⟩⟩
  case commands =>
    intro x
    simp only [exec_pause answers granted, exec_continue answers granted, exec_freeze answers granted, exec_thaw answers granted]
    refine ⟨fun up => ?up, fun down alive => ?down, fun faulted => ?faulted, ?otherPhase⟩
    case up =>
      have runs {phases : List Nat} {act : State → State} (phase : x.det.phase ∈ phases) : detNow s p.val phases act = detEnd (act s) p.val 0 :=
        detNow_runs (detRefusal_up up phase)
      refine ⟨fun free => ?_, fun pending => ?_, fun paused => ?_, fun runnable => ?_, fun frozen => ?_⟩
      · rw [runs (by simp [free])]
      · rw [runs (by simp [pending]), continuePart_pending pending]
      · rw [runs (by simp [paused]), continuePart_paused paused]
      · rw [runs (by simp; omega), freezePart]
      · rw [runs (by simp [frozen])]
    case down =>
      have refused {phases : List Nat} {act : State → State} : detNow s p.val phases act = detEnd s p.val 0x0080 :=
        detNow_refused (detRefusal_down down alive) (by decide)
      simp only [refused, and_self]
    case faulted =>
      have refused {phases : List Nat} {act : State → State} (phase : x.det.phase ∈ phases) : detNow s p.val phases act = detEnd s p.val 0x0089 :=
        detNow_refused (detRefusal_faulted faulted phase) (by decide)
      refine ⟨fun phase => ?_, fun phase => ?_, fun phase => ?_, fun phase => ?_⟩ <;> rw [refused (by simp; omega)]
    case otherPhase =>
      have refused {phases : List Nat} {act : State → State} (other : x.det.phase ∉ phases) : detNow s p.val phases act = detEnd s p.val 0x0080 :=
        detNow_refused (detRefusal_otherPhase other) (by decide)
      refine ⟨fun phase => ?_, fun unpaused uncalm => ?_, fun phase => ?_, fun phase => ?_⟩ <;> rw [refused (by simp; omega)]
  case restoreEnd =>
    split
    next passes => exact exec_restoreEnd_passes restoring passes
    next code fails =>
      refine ⟨_, exec_restoreEnd_fails restoring fails, ?_⟩
      rw [getPart_endRows]
      exact ⟨failRestore_faults .., rfl, rfl⟩

end Sys2Proof.Machine

/-! # The links, the windows and the periods of the fabric ports (12 R486, R491 to R497, R500) -/

namespace Sys2Proof.Machine

/-! ## A port and its contexts read back -/

section
variable {s t : State} {f g dev other : Nat} {x : FabPort}

theorem getFab_congr (ports : t.fab.ports = s.fab.ports) (f : Nat) : getFab t f = getFab s f := congrArg (mget ({} : FabPort) · f) ports

theorem getPeer_congr (peers : (getFab t f).peers = (getFab s f).peers) (dev : Nat) : getPeer t f dev = getPeer s f dev :=
  congrArg (mget ({} : Peer) · dev) peers

@[simp] theorem getFab_modFab_same (s : State) (f : Nat) (change : FabPort → FabPort) : getFab (modFab s f change) f = change (getFab s f) :=
  getFab_setFab_same ..

theorem getFab_modFab_other {change : FabPort → FabPort} (h : g ≠ f) : getFab (modFab s f change) g = getFab s g := mget_mset_other _ _ _ _ _ h

/-- A change of a port that leaves its contexts. -/
theorem getPeer_modFab {change : FabPort → FabPort} (keeps : (change (getFab s f)).peers = (getFab s f).peers) (dev : Nat) :
    getPeer (modFab s f change) f dev = getPeer s f dev :=
  getPeer_congr (by rw [getFab_modFab_same, keeps]) dev

theorem getPeer_setPeer_same (s : State) (f dev : Nat) (p : Peer) : getPeer (setPeer s f dev p) f dev = p := by
  rw [getPeer, setPeer, getFab_modFab_same, mget_mset_same]

theorem getPeer_setPeer_other (s : State) (f : Nat) (p : Peer) (h : other ≠ dev) : getPeer (setPeer s f dev p) f other = getPeer s f other := by
  rw [getPeer, setPeer, getFab_modFab_same, mget_mset_other _ _ _ _ _ h]
  rfl

/-- A key whose entry is not the default is listed with that entry. -/
theorem mem_of_mget_ne {α : Type} {d : α} {m : SMap α} {k : Nat} (h : mget d m k ≠ d) : (k, mget d m k) ∈ m := by
  induction m with
  | nil => exact absurd rfl h
  | cons e r ih =>
    obtain ⟨i, v⟩ := e
    by_cases hi : i = k
    · simp [mget, hi]
    · simp only [mget, hi, if_false] at h ⊢
      exact List.mem_cons_of_mem _ (ih h)

end

/-! ## A fault of the device leaves the fabric and the time base (18 R679) -/

@[simp] theorem recordDevice_fab (s : State) (tie : Option (Nat × Nat)) (i : FfInfo) : (recordDevice s tie i).fab = s.fab := by
  simp only [recordDevice, platformEvent, vecEvent, modPort]
  (repeat' split) <;> simp
@[simp] theorem recordDevice_time (s : State) (tie : Option (Nat × Nat)) (i : FfInfo) : (recordDevice s tie i).time = s.time := by
  simp only [recordDevice, platformEvent, vecEvent, modPort]
  (repeat' split) <;> simp
@[simp] theorem raiseDevice_fab (s : State) (i : FfInfo) : (raiseDevice s i).fab = s.fab := recordDevice_fab ..
@[simp] theorem raiseDevice_time (s : State) (i : FfInfo) : (raiseDevice s i).time = s.time := recordDevice_time ..
@[simp] theorem getFab_raiseDevice (s : State) (i : FfInfo) (f : Nat) : getFab (raiseDevice s i) f = getFab s f := getFab_congr (by rw [raiseDevice_fab]) f

@[simp] theorem settlePps_fab (s : State) : (settlePps s).fab = s.fab := by
  simp only [settlePps]
  (repeat' split) <;> rfl
@[simp] theorem settlePps_time (s : State) : (settlePps s).time = s.time := by
  simp only [settlePps]
  (repeat' split) <;> rfl

/-! ## The SlavePort role leaves the links (14 R561, R562) -/

/-- What a port's link and its traffic are: the link, the time since which it is down, the contexts and the messages that wait. -/
def linkOf (x : FabPort) : Bool × Option Nat × SMap Peer × List (Nat × Frame) := (x.linkUp, x.downSince, x.peers, x.txQueue)

section
variable {s t : State} {f : Nat}

theorem linkOf_modFab {g : Nat} {change : FabPort → FabPort} (keeps : ∀ x, linkOf (change x) = linkOf x) :
    linkOf (getFab (modFab s g change) f) = linkOf (getFab s f) := by
  by_cases h : f = g
  · subst h; rw [getFab_modFab_same, keeps]
  · rw [getFab_modFab_other h]

/-- Ports changed one after the other, each with its link left as it was. -/
theorem linkOf_foldl_modFab {l : List Nat} {change : Nat → FabPort → FabPort} (keeps : ∀ g x, linkOf (change g x) = linkOf x) :
    linkOf (getFab (l.foldl (fun a g => modFab a g (change g)) s) f) = linkOf (getFab s f) :=
  List.foldlRecOn l _ (motive := fun t => linkOf (getFab t f) = linkOf (getFab s f)) rfl fun _ same g _ => (linkOf_modFab (keeps g)).trans same

@[simp] theorem modFab_time (s : State) (f : Nat) (change : FabPort → FabPort) : (modFab s f change).time = s.time := rfl
@[simp] theorem markSlave_time (s : State) (slave : Option Nat) : (markSlave s slave).time = s.time := by simp [markSlave]
@[simp] theorem seedSessions_time (s : State) : (seedSessions s).time = s.time := by simp [seedSessions]

theorem linkOf_untrustTime : linkOf (getFab (untrustTime s) f) = linkOf (getFab s f) := by
  refine congrArg linkOf (getFab_congr ?_ f)
  unfold untrustTime
  split
  · rfl
  · simp [timeFault, modTime]

theorem linkOf_checkTrust : linkOf (getFab (checkTrust s) f) = linkOf (getFab s f) := by
  unfold checkTrust trustTime
  split
  · split
    · rfl
    · exact linkOf_foldl_modFab fun _ x => by split <;> rfl
  · rfl

theorem slave_untrustTime : (untrustTime s).time.slave = s.time.slave := by
  unfold untrustTime
  split
  · rfl
  · simp [timeFault, modTime]

theorem slave_checkTrust : (checkTrust s).time.slave = s.time.slave := by
  unfold checkTrust trustTime
  split
  · split
    · rfl
    · rw [seedSessions_time]; rfl
  · rfl

theorem linkOf_setSlave (slave : Option Nat) : linkOf (getFab (setSlave s slave) f) = linkOf (getFab s f) := by
  have marked : linkOf (getFab (markSlave (modTime s fun t => { t with slave := slave }) slave) f) = linkOf (getFab s f) :=
    linkOf_foldl_modFab fun _ _ => rfl
  unfold setSlave
  dsimp only
  split
  · exact linkOf_untrustTime.trans marked
  · exact linkOf_checkTrust.trans marked

theorem slave_setSlave (slave : Option Nat) : (setSlave s slave).time.slave = slave := by
  have marked : (markSlave (modTime s fun t => { t with slave := slave }) slave).time.slave = slave := by rw [markSlave_time]; rfl
  unfold setSlave
  dsimp only
  split
  · exact slave_untrustTime.trans marked
  · exact slave_checkTrust.trans marked

/-! ## LINK_UP, LINK_DOWN and ADMIN_DOWN (12 R497) -/

theorem getFab_dropLink (up : (getFab s f).linkUp = true) : getFab (dropLink s f) f =
    { getFab s f with linkUp := false, laneLock := 0, downSince := (getFab s f).downSince.or (some (nowNs s)) } := by
  rw [dropLink, getFab_modFab_same, if_pos up]

theorem linkUp_dropLink : (getFab (dropLink s f) f).linkUp = false := by
  rw [dropLink, getFab_modFab_same]
  split
  next => rfl
  next down => exact Bool.eq_false_iff.2 down

/-- With the SlavePort role that a failing link loses, nothing more of its port is lost. -/
theorem linkOf_linkFails : linkOf (getFab (linkFails s f) f) = linkOf (getFab (dropLink s f) f) := by
  unfold linkFails
  dsimp only
  split
  · exact linkOf_setSlave none
  · rfl

theorem linkUp_linkFails : (getFab (linkFails s f) f).linkUp = false :=
  (congrArg Prod.fst linkOf_linkFails).trans linkUp_dropLink

theorem slave_linkFails (holds : s.time.slave = some f) : (linkFails s f).time.slave = none := by
  simp only [linkFails, holds, if_true]
  exact slave_setSlave none

end

section
variable {s : State} {f : Fin 4}

theorem exec_linkUp (inUse : (getFab s f.val).mode ≠ 0) (allowed : (getFab s f.val).adminDown = false) :
    exec (.linkUp f) s = .next (pumpWindow (setFab s f.val { getFab s f.val with
      linkUp := true, laneLock := 15, downSince := if (getFab s f.val).macsecStopped then (getFab s f.val).downSince else none, holdFenced := false }) f.val) := by
  refine Eq.trans (b := execLinkUp f s) rfl ?_
  simp [execLinkUp, inUse, allowed]

theorem exec_linkDown (up : (getFab s f.val).linkUp = true) : exec (.linkDown f) s = .next (linkFails s f.val) := by
  refine Eq.trans (b := execLinkDown f s) rfl ?_
  rw [execLinkDown, if_pos up]

theorem exec_adminDown {h : Fin 2} (answers : portAnswers s h.val = true) (primary : h.val = s.hp.primary) :
    exec (.adminDown h f) s = .next (takeAdminDown s f.val) :=
  Eq.trans (b := execAdminDown h f s) rfl (hostCmd_granted answers (by rw [primaryDenied, if_pos primary]))

end

/-! ## The fence of a context (12 R488) -/

section
variable {s : State} {f dev : Nat}

@[simp] theorem getFab_reportDrop (s : State) (f reason g : Nat) (h : Header) : getFab (reportDrop s f reason h) g = getFab s g := by
  unfold reportDrop
  dsimp only
  split <;> rfl

theorem peers_fabFault (code : Nat) (who : Option Nat) (detail : W64) : (getFab (fabFault s f code who detail) f).peers = (getFab s f).peers := by
  cases who <;> simp only [fabFault, getFab_raiseDevice, getFab_modFab_same]

theorem peers_dropAtPort (reason : Nat) (h : Header) : (getFab (dropAtPort s f reason h) f).peers = (getFab s f).peers := by
  rw [dropAtPort, getFab_reportDrop, getFab_modFab_same]

/-- A context fenced is the one that changes. -/
theorem state_fencePeer (other : Nat) : (getPeer (fencePeer s f dev) f other).state = if other = dev then .fenced else (getPeer s f other).state := by
  unfold fencePeer
  dsimp only
  rw [getPeer_congr (List.foldlRecOn _ _ (motive := fun t => (getFab t f).peers = _) rfl fun _ same fr _ => (peers_dropAtPort 9 fr.header).trans same),
    getPeer_modFab rfl]
  split
  next same => rw [same, getPeer_setPeer_same]
  next differs => rw [getPeer_setPeer_other _ _ _ differs]

theorem state_fenceFaulted (other : Nat) :
    (getPeer (fenceFaulted s f dev) f other).state = if other = dev then .fenced else (getPeer s f other).state := by
  rw [fenceFaulted, getPeer_congr (peers_fabFault ..), state_fencePeer]

/-- Contexts fenced one after the other. -/
theorem state_foldl_fenceFaulted (devs : List Nat) (other : Nat) :
    (getPeer (devs.foldl (fun a d => fenceFaulted a f d) s) f other).state = if other ∈ devs then .fenced else (getPeer s f other).state := by
  induction devs generalizing s with
  | nil => simp
  | cons d rest ih =>
    rw [List.foldl_cons, ih, state_fenceFaulted]
    by_cases first : other = d <;> by_cases later : other ∈ rest <;> simp [first, later]

end

/-! ## LINK_HOLD_EXPIRE (12 R497) -/

/-- The devices whose contexts at a port are open. -/
def openDevs (x : FabPort) : List Nat := (x.peers.filter (fun p => p.2.state == .open_)).map (·.1)

theorem mem_openDevs {s : State} {f dev : Nat} (opened : (getPeer s f dev).state = .open_) : dev ∈ openDevs (getFab s f) := by
  have listed : (dev, getPeer s f dev) ∈ (getFab s f).peers := mem_of_mget_ne fun absent => by
    rw [getPeer, absent] at opened
    exact absurd opened (by decide)
  exact List.mem_map.2 ⟨_, List.mem_filter.2 ⟨listed, by simp [opened]⟩, rfl⟩

/-- A port whose hold has passed: its open contexts are fenced, and 0x0172 is raised once. -/
def holdPassed (s : State) (f : Nat) : State :=
  fabFault (modFab ((openDevs (getFab s f)).foldl (fun a dev => fenceFaulted a f dev) s) f (fun y => { y with downSince := none, holdFenced := true }))
    f 0x0172 none 0

theorem exec_linkHoldExpire {s : State} {f : Fin 4} {since : Nat} (down : (getFab s f.val).downSince = some since)
    (passed : since + 1000000 * (getFab s f.val).linkHoldMs ≤ nowNs s) : exec (.linkHoldExpire f) s = .next (holdPassed s f.val) := by
  refine Eq.trans (b := execLinkHoldExpire f s) rfl ?_
  simp only [execLinkHoldExpire, down, Nat.not_lt.2 passed, if_false]
  rfl

theorem getFab_holdPassed (s : State) (f : Nat) :
    (getFab (holdPassed s f) f).downSince = none ∧ (getFab (holdPassed s f) f).holdFenced = true := by
  simp only [holdPassed, fabFault, getFab_raiseDevice, getFab_modFab_same, and_self]

theorem holdPassed_fences {s : State} {f dev : Nat} (opened : (getPeer s f dev).state = .open_) :
    (getPeer (holdPassed s f) f dev).state = .fenced := by
  rw [holdPassed, getPeer_congr (peers_fabFault ..), getPeer_modFab rfl, state_foldl_fenceFaulted, if_pos (mem_openDevs opened)]

/-! ## WINDOW_OPEN and WINDOW_CLOSE (12 R491, R493) -/

section
variable {s : State} {f : Fin 4} {window : Fin 1024} {v : Window} (listed : (getFab s f.val).windows[window.val]? = some v)
include listed

theorem exec_windowOpen (active : s.fab.active = true) (runs : s.fab.suspended = false) (closed : (getFab s f.val).open_ = none) (period : s.fab.period ≠ 0)
    (begun : v.start ≤ nowNs s % s.fab.period) (lasts : nowNs s % s.fab.period < v.start + v.len) :
    exec (.windowOpen f window) s = .next (pumpWith true (setFab s f.val { getFab s f.val with
      open_ := some (window.val, 100 * nowNs s, nowNs s - nowNs s % s.fab.period + v.start + v.len) }) f.val) := by
  refine Eq.trans (b := execWindowOpen f window s) rfl ?_
  simp [execWindowOpen, listed, active, runs, closed, period, begun, lasts]

theorem exec_windowClose {busy close : Nat} (opened : (getFab s f.val).open_ = some (window.val, busy, close)) (passed : close ≤ nowNs s) :
    exec (.windowClose f window) s = .next (setFab s f.val { getFab s f.val with
      open_ := none, slips := if slipped s f.val v then (getFab s f.val).slips.bump else (getFab s f.val).slips }) := by
  refine Eq.trans (b := execWindowClose f window s) rfl ?_
  simp only [execWindowClose, listed, opened, ne_eq, not_true_eq_false, Nat.not_lt.2 passed, or_self, if_false]

end

/-! ## PERIOD_BOUNDARY and WINDOWS_SUSPEND (12 R486, R491, R494 to R496) -/

section
variable {s : State}

theorem exec_periodBoundary_notDue (taken : boundaryDue s = false) : exec .periodBoundary s = .next s := by
  refine Eq.trans (b := execPeriodBoundary s) rfl ?_
  simp [execPeriodBoundary, taken]

theorem exec_periodBoundary_suspended (active : s.fab.active = true) (suspended : s.fab.suspended = true) (untrusted : s.time.trusted = false)
    (due : boundaryDue s = true) : exec .periodBoundary s =
      .next { s with fab := { s.fab with boundary := some (nowNs s / s.fab.period), suspPeriods := s.fab.suspPeriods.bump } } := by
  refine Eq.trans (b := execPeriodBoundary s) rfl ?_
  simp [execPeriodBoundary, active, suspended, untrusted, due]

theorem exec_periodBoundary_trusted (active : s.fab.active = true) (trusted : s.time.trusted = true) (due : boundaryDue s = true) :
    exec .periodBoundary s = .next ([0, 1, 2, 3].foldl (fun a g => (peerDevs a g).foldl (fun b dev => ageFrames b g dev (getFab b g).retxTimeout) a)
      { s with fab := { s.fab with boundary := some (nowNs s / s.fab.period), suspended := false, holdover := false } }) := by
  refine Eq.trans (b := execPeriodBoundary s) rfl ?_
  simp only [execPeriodBoundary, active, trusted, due, Bool.not_true, Bool.or_self, Bool.false_eq_true, if_false, if_true]

theorem exec_windowsSuspend (active : s.fab.active = true) (runs : s.fab.suspended = false) (untrusted : s.time.trusted = false)
    (drifted : 1000 ≤ drift s.time) :
    ∃ t, exec .windowsSuspend s = .next t ∧ t.fab.suspended = true ∧ t.fab.suspensions = s.fab.suspensions.bump := by
  show ∃ t, execWindowsSuspend s = .next t ∧ _
  simp only [execWindowsSuspend, active, runs, untrusted, Nat.not_lt.2 drifted, Bool.not_true, decide_false, Bool.or_self, Bool.false_eq_true, if_false]
  exact ⟨_, rfl, by simp⟩

end

/-- Settles O47: a link that fails loses the SlavePort role too, which changes nothing of the link itself; a hold that has passed fences each open context;
    the other commands are the equations of their windows and boundaries. -/
theorem fabricPorts : Obligations.FabricPorts := by
  intro s f x
  refine ⟨exec_linkUp, fun up => ⟨_, exec_linkDown up, ?linkDown⟩, fun h answers primary => ⟨_, exec_adminDown answers primary, ?adminDown⟩,
    fun since down passed => ⟨_, exec_linkHoldExpire down passed, ?hold⟩,
    fun window v listed => ⟨exec_windowOpen listed, fun busy close => exec_windowClose listed⟩,
    exec_periodBoundary_suspended, exec_periodBoundary_notDue, exec_periodBoundary_trusted, exec_windowsSuspend⟩
  case linkDown =>
    have kept := linkOf_linkFails (s := s) (f := f.val)
    rw [getFab_dropLink up] at kept
    obtain ⟨isDown, since, peers, queue⟩ : _ ∧ _ ∧ _ ∧ _ := by simpa only [linkOf, Prod.mk.injEq] using kept
    exact ⟨isDown, by simp [since], peers, queue, slave_linkFails⟩
  case adminDown =>
    rw [takeAdminDown, getFab_modFab_same]
    exact ⟨rfl, linkUp_linkFails⟩
  case hold =>
    obtain ⟨expired, fenced⟩ := getFab_holdPassed s f.val
    exact ⟨expired, fenced, fun dev => holdPassed_fences⟩

end Sys2Proof.Machine

/-! # Fabric messages, sessions and frames (12 R465 to R467, R472 to R485) -/

namespace Sys2Proof.Machine

/-! ## FABRIC_MESSAGE_COMPLETE (12 R474, R485) -/

/-- A port without the rows of a message that is whole. -/
def takePartial (s : State) (f : Nat) (rows : List MsgRow) : State := modFab s f (fun x => { x with partial_ := rows.foldl (fun a m => a.erase m) x.partial_ })

/-- The DATA frame of a message whose rows are `rows`, the first of them with header `h`. -/
def messageFrame (s : State) (f : Nat) (h : Header) (rows : List MsgRow) : Frame :=
  { ftype := 1, src := s.self, srcPort := f, dst := rowDev h, header := withRow h 0, rows := rows.map (fun m => m.row) }

theorem getPeer_takePartial (s : State) (f : Nat) (rows : List MsgRow) (dev : Nat) : getPeer (takePartial s f rows) f dev = getPeer s f dev :=
  getPeer_modFab rfl dev

section
variable {s : State} {f : Fin 4} {lane : Fin 64} {r : MsgRow} {rest : List MsgRow} (whole : completeMessage (getFab s f.val) lane.val = some (r :: rest))
include whole

/-- A whole message, by the context of its device. -/
theorem exec_fabricMessageComplete_whole : exec (.fabricMessageComplete f lane) s =
    if (getPeer s f.val (rowDev r.header)).state = .absent then .next (dropAtPort (takePartial s f.val (r :: rest)) f.val 8 r.header)
    else if (getPeer s f.val (rowDev r.header)).state = .fenced then .next (dropAtPort (takePartial s f.val (r :: rest)) f.val 9 r.header)
    else .next (pumpWindow (modFab (takePartial s f.val (r :: rest)) f.val (fun x => { x with
      txQueue := x.txQueue ++ [(rowDev r.header, messageFrame s f.val r.header (r :: rest))] })) f.val) := by
  refine Eq.trans (b := execFabricMessageComplete f lane s) rfl ?_
  rw [← getPeer_takePartial s f.val (r :: rest)]
  simp only [execFabricMessageComplete, whole]
  rfl

end

/-! ## TX_SESSION_OPEN (12 R475, R476) -/

theorem exec_txSessionOpen {s : State} {f : Fin 4} {dev : Fin 1024} (syncing : (getPeer s f.val dev.val).state = .syncing)
    (waits : (getPeer s f.val dev.val).wantSession = true) (up : (getFab s f.val).linkUp = true) (keyed : (getFab s f.val).macsecStopped = false)
    (active : s.fab.active = true) (trusted : s.time.trusted = true) (seeded : (getFab s f.val).seeded = true) :
    exec (.txSessionOpen f dev) s = .next (pumpWindow (modFab (setPeer s f.val dev.val { getPeer s f.val dev.val with
      wantSession := false, txSession := (getFab s f.val).session, syncs := 0, acked := false }) f.val (fun y => { y with session := y.session + 1 })) f.val) := by
  refine Eq.trans (b := execTxSessionOpen f dev s) rfl ?_
  simp [execTxSessionOpen, syncing, waits, up, keyed, active, trusted, seeded]

/-! ## Bytes that come in (12 R465 to R467, R472) -/

section
variable {s : State} {f : Nat} {fr : Frame} {act : State → Frame → State}

theorem takeFrame_misaddressed (misaddressed : fr.dst ≠ s.self) : takeFrame s f fr act = discardFrame s f := by
  simp only [takeFrame, misaddressed, ne_eq, not_false_eq_true, if_true]

theorem takeFrame_untaken (here : fr.dst = s.self) (untaken : (getPeer s f fr.src).state = .absent ∨ (getPeer s f fr.src).state = .fenced) :
    takeFrame s f fr act = discardFrame (modFab s f (fun x => { x with rxFrames := x.rxFrames.bump })) f := by
  simp only [takeFrame, here, ne_eq, not_true_eq_false, untaken, if_true, if_false]

theorem takeFrame_taken (here : fr.dst = s.self) (known : (getPeer s f fr.src).state ≠ .absent) (unfenced : (getPeer s f fr.src).state ≠ .fenced) :
    takeFrame s f fr act = act (takeAck (modFab s f (fun x => { x with rxFrames := x.rxFrames.bump })) f fr.src fr) fr := by
  simp only [takeFrame, here, ne_eq, not_true_eq_false, known, unfenced, or_self, if_false]

end

section
variable {s : State} {f ftype : Nat} {bytes : List Byte} {corrected : Nat} {act : State → Frame → State} (up : (getFab s f).linkUp = true)
include up

theorem receive_bad (comes : arrived f (getFab s f) bytes = .bad) : receive f ftype bytes corrected act s = .next (badFrame (countCorrected s f corrected) f) := by
  simp only [receive, up, comes, Bool.not_true, Bool.false_eq_true, if_false]

theorem receive_discard (comes : arrived f (getFab s f) bytes = .discard) :
    receive f ftype bytes corrected act s = .next (discardFrame (countCorrected s f corrected) f) := by
  simp only [receive, up, comes, Bool.not_true, Bool.false_eq_true, if_false]

theorem receive_frame {fr : Frame} {y : FabPort} (comes : arrived f (getFab s f) bytes = .frame fr y) (ofType : fr.ftype = ftype) :
    receive f ftype bytes corrected act s = .next (takeFrame (countCorrected (setFab s f y) f corrected) f fr act) := by
  simp only [receive, up, comes, ofType, Bool.not_true, Bool.false_eq_true, ne_eq, not_true_eq_false, if_false]

/-- A frame of a command's TYPE, by whom it is for and by its context. -/
theorem receive_cases {fr : Frame} {y : FabPort} (comes : arrived f (getFab s f) bytes = .frame fr y) (ofType : fr.ftype = ftype) :
    let s1 := countCorrected (setFab s f y) f corrected
    let s2 := modFab s1 f (fun x => { x with rxFrames := x.rxFrames.bump })
    let p := getPeer s1 f fr.src
    (fr.dst ≠ s.self → receive f ftype bytes corrected act s = .next (discardFrame s1 f)) ∧
    (fr.dst = s.self → (p.state = .absent ∨ p.state = .fenced) → receive f ftype bytes corrected act s = .next (discardFrame s2 f)) ∧
    (fr.dst = s.self → p.state ≠ .absent → p.state ≠ .fenced → receive f ftype bytes corrected act s = .next (act (takeAck s2 f fr.src fr) fr)) := by
  rw [receive_frame up comes ofType]
  exact ⟨fun misaddressed => congrArg _ (takeFrame_misaddressed misaddressed), fun here untaken => congrArg _ (takeFrame_untaken here untaken),
    fun here known unfenced => congrArg _ (takeFrame_taken here known unfenced)⟩

end

/-- The commands by which the bytes of a frame come in. -/
def comesIn (f : Fin 4) (bytes : List Byte) (corrected : Nat) : List Instr :=
  [.dataFrameReceive f bytes corrected, .dropFrameReceive f bytes corrected, .ackFrameReceive f bytes corrected, .syncFrameReceive f bytes corrected,
    .frameDiscard f (.wire bytes) corrected]

section
variable {s : State} {f : Fin 4} {bytes : List Byte} {corrected : Nat} (up : (getFab s f.val).linkUp = true)
include up

theorem exec_frameDiscard_bad (comes : arrived f.val (getFab s f.val) bytes = .bad) :
    exec (.frameDiscard f (.wire bytes) corrected) s = .next (badFrame (countCorrected s f.val corrected) f.val) := by
  refine Eq.trans (b := execFrameDiscard f (.wire bytes) corrected s) rfl ?_
  simp only [execFrameDiscard, up, comes, Bool.not_true, Bool.false_eq_true, if_false]

theorem exec_frameDiscard_discard (comes : arrived f.val (getFab s f.val) bytes = .discard) :
    exec (.frameDiscard f (.wire bytes) corrected) s = .next (discardFrame (countCorrected s f.val corrected) f.val) := by
  refine Eq.trans (b := execFrameDiscard f (.wire bytes) corrected s) rfl ?_
  simp only [execFrameDiscard, up, comes, Bool.not_true, Bool.false_eq_true, if_false]

theorem exec_frameDiscard_uncorrectable (more : Nat) : exec (.frameDiscard f (.fecUncorrectable more) corrected) s =
    .next (badFrame (modFab (countCorrected s f.val corrected) f.val (fun x => { x with fecUncorr := x.fecUncorr.add (more + 1) })) f.val) := by
  refine Eq.trans (b := execFrameDiscard f (.fecUncorrectable more) corrected s) rfl ?_
  simp only [execFrameDiscard, up, Bool.not_true, Bool.false_eq_true, if_false]

/-- Each command by which bytes come in counts a bad frame, and one to discard. -/
theorem exec_comesIn {i : Instr} (comes : i ∈ comesIn f bytes corrected) :
    (arrived f.val (getFab s f.val) bytes = .bad → exec i s = .next (badFrame (countCorrected s f.val corrected) f.val)) ∧
    (arrived f.val (getFab s f.val) bytes = .discard → exec i s = .next (discardFrame (countCorrected s f.val corrected) f.val)) := by
  simp only [comesIn, List.mem_cons, List.not_mem_nil, or_false] at comes
  obtain rfl | rfl | rfl | rfl | rfl := comes
  case inr.inr.inr.inr => exact ⟨exec_frameDiscard_bad up, exec_frameDiscard_discard up⟩
  all_goals exact ⟨receive_bad up, receive_discard up⟩

end

/-- The command of a frame's TYPE, and what it does beside the acknowledgement (12 R472). -/
def receiver (f : Fin 4) (bytes : List Byte) (corrected : Nat) (fr : Frame) : Option (Instr × (State → State)) :=
  match fr.ftype with
  | 1 => some (.dataFrameReceive f bytes corrected, fun t => sequenceFrame t f.val fr.src fr)
  | 2 => some (.ackFrameReceive f bytes corrected, id)
  | 3 => some (.syncFrameReceive f bytes corrected, fun t => takeSync t f.val fr.src fr)
  | 4 => some (.dropFrameReceive f bytes corrected, fun t => sequenceFrame t f.val fr.src fr)
  | _ => none

/-- The command of a frame's TYPE is a `receive` of that TYPE. -/
theorem exec_receiver {s : State} {f : Fin 4} {bytes : List Byte} {corrected : Nat} {fr : Frame} {i : Instr} {act : State → State}
    (command : receiver f bytes corrected fr = some (i, act)) :
    ∃ effect : State → Frame → State, exec i s = receive f.val fr.ftype bytes corrected effect s ∧ ∀ t, effect t fr = act t := by
  unfold receiver at command
  split at command
  case h_5 => cases command
  all_goals
    next ofType =>
      obtain ⟨rfl, rfl⟩ := Prod.mk.inj (Option.some.inj command)
      rw [ofType]
      exact ⟨_, rfl, fun _ => rfl⟩

/-! ## FRAME_DELIVER (12 R481, R482, R485) -/

section
variable {s : State} {f : Fin 4} {dev : Fin 1024} {fr : Frame} {rest : List Frame} (first : (getPeer s f.val dev.val).ready = fr :: rest)
  (known : (getPeer s f.val dev.val).state ≠ .absent) (unfenced : (getPeer s f.val dev.val).state ≠ .fenced)
include first known unfenced

theorem exec_frameDeliver_rows {q : Nat} (data : fr.ftype ≠ 4) (part : partOfCluster s (rowCluster fr.header) = some q)
    (room : ingressOpen s f.val q (rowCluster fr.header) = true) : exec (.frameDeliver f dev) s = .next (advanceRx (fr.rows.zipIdx.foldl
      (fun a e => enterIngress a f.val q (rowCluster fr.header) (frameRow f.val fr.header e.2 e.1)) s) f.val dev.val) := by
  refine Eq.trans (b := execFrameDeliver f dev s) rfl ?_
  simp only [execFrameDeliver, first, known, unfenced, data, part, room, or_self, Bool.not_true, Bool.false_eq_true, if_false]

theorem exec_frameDeliver_discard (data : fr.ftype ≠ 4) (unmapped : partOfCluster s (rowCluster fr.header) = none) (room : portFree s f.val = true) :
    exec (.frameDeliver f dev) s = .next (pumpWindow (advanceRx (queueDrop s f.val fr.src 1 fr.header) f.val dev.val) f.val) := by
  refine Eq.trans (b := execFrameDeliver f dev s) rfl ?_
  simp only [execFrameDeliver, first, known, unfenced, data, unmapped, room, or_self, if_true, if_false]

theorem exec_frameDeliver_drop {q : Nat} (drop : fr.ftype = 4) (part : partOfCluster s (rowSrcCluster fr.header) = some q)
    (room : ingressOpen s f.val q (rowSrcCluster fr.header) = true) :
    exec (.frameDeliver f dev) s = .next (advanceRx (reportDrop s f.val fr.reason fr.header) f.val dev.val) := by
  refine Eq.trans (b := execFrameDeliver f dev s) rfl ?_
  simp only [execFrameDeliver, first, known, unfenced, drop, part, room, or_self, if_true, if_false]

end

/-- Settles O48: a message and a session by the equations of their commands; bytes by what `receive` makes of them, each TYPE by its own command; a
    delivery by the TYPE of the frame in sequence and the partition of its cluster. -/
theorem fabricFrames : Obligations.FabricFrames := by
  refine ⟨fun s f => ⟨fun lane r rest whole => ?message, fun dev => exec_txSessionOpen⟩, fun s f up => ⟨fun bytes corrected => ?bytes, fun dev fr rest => ?deliver⟩⟩
  case message =>
    rw [exec_fabricMessageComplete_whole whole]
    refine ⟨fun absent => if_pos absent, fun fenced => ?_, fun known unfenced => (if_neg known).trans (if_neg unfenced)⟩
    exact (if_neg fun absent => PeerState.noConfusion (absent.symm.trans fenced)).trans (if_pos fenced)
  case bytes =>
    refine ⟨fun fr y comes i act command => ?_, fun i => exec_comesIn up, exec_frameDiscard_uncorrectable up⟩
    obtain ⟨effect, runs, same⟩ := exec_receiver (s := s) (f := f) (bytes := bytes) (corrected := corrected) (fr := fr) command
    rw [runs, ← same]
    exact receive_cases up comes rfl
  case deliver =>
    intro p first known unfenced
    exact ⟨fun q => exec_frameDeliver_rows first known unfenced, exec_frameDeliver_discard first known unfenced,
      fun q => exec_frameDeliver_drop first known unfenced⟩

end Sys2Proof.Machine

/-! # Every command, the queue and the reset (the model's form, log entry 1; 14 R556; 19 R729) -/

namespace Sys2Proof.Machine

/-- Settles O4: what every command keeps includes the queue. -/
theorem execKeepsQueue : Obligations.ExecKeepsQueue := fun c s t next => ((answers_exec c s).keeps t next).queue

/-! ## Every command answers a next state -/

/-- A command answers a next state. -/
def Completes (r : Res) : Prop := ∃ t, r = .next t

@[simp] theorem completes_next (t : State) : Completes (.next t) := ⟨t, rfl⟩
@[simp] theorem completes_ite {c : Prop} [Decidable c] {a b : Res} : Completes (if c then a else b) ↔ (c → Completes a) ∧ (¬c → Completes b) := by
  split <;> simp [*]

theorem completes_issueNamed {n slot o isNop s} : Completes (issueNamed n slot o isNop s) := by simp [issueNamed]
theorem completes_hostCmd {s h offset data denied act} : Completes (hostCmd s h offset data denied act) := by
  unfold hostCmd
  cases denied <;> simp
theorem completes_hostBank {h b off s} : Completes (hostBank h b off s) := by cases b <;> apply completes_hostCmd
theorem completes_receive {f ftype bytes corrected act s} : Completes (receive f ftype bytes corrected act s) := by
  simp only [receive]
  (repeat' split) <;> simp
theorem completes_whileUp {up act s} : Completes (whileUp up act s) := by simp [whileUp]
theorem completes_spdmReq {conn code need act s} : Completes (spdmReq conn code need act s) := by simp [spdmReq]
theorem completes_tapCmd {act s} : Completes (tapCmd act s) := by simp [tapCmd]

theorem completes_exec (c : Instr) (s : State) : Completes (exec c s) := by
  cases c
  case nop | b | loop | loopi | calm | end_ | xadd | xsub | xmul | xand | xor | xxor | xshl | xshr | xsra | xaddi | xli | trecv | trecvs | srecv | sgo
    | gtake | gret | matcfg | wld | wswap | mmul | laccadd | adrain | vrcp | vsqrt | vrsqrt | vdiv | vexp | vexp2 | vlog | vlog2 | vtanh | vsigm | verf
    | vsin | vcos | vadd | vsub | vmul | vfma | vfms | vfnma | vmin | vmax | vabs | vneg | vmov | vbcast | vsel | vpfmt | viadd | visub | vimul | vand
    | vor | vxor | vshl | vshr | vsra | vshli | vshri | vsrai | vcmp | vclass | mand | mor | mxor | mandn | vacc | vcvt | vcvtn | vcvtw | vbiq
    | vbiqMark | vbiqScale | vbiadd | vbiaddHeader | vbidq | vgust | rsum | rsumi | rmax | rmin | rargmax | rargmin | rcnt | sprd | spwr | rowcmp
    | rowcnt | cmrd | cmwr | cmcnt | rrd | rwr | msend => apply completes_issueNamed
  case bankOff | bankOn => apply completes_hostBank
  case pageTableWrite | pfAck | adminDown | ringEnable | ringDisable | devImgLoad | devImgVerify | devImgDefaultLoad | devImgDefaultVerify | partImgLoad
    | partImgVerify | start | stop | abort | pause | continue_ | freeze | thaw | save | dump | restore | freqChangeCalm
    | freqChangeImmediate => apply completes_hostCmd
  case dataFrameReceive | dropFrameReceive | ackFrameReceive | syncFrameReceive => apply completes_receive
  case i3cEntry | rstact | setEndpointId | getEndpointId | getMctpVersionSupport | getMessageTypeSupport | getVendorDefinedMessageSupport
    | pldmBaseDiscovery | getSensorReading | getStateSensorReadings | setEventReceiver | passComponentTable | updateComponent | activateFirmware
    | getStatus | getFirstFault | getLog | setPrimary | setOwner | enrolImageKey | revokeImageKey | raiseFloor | macsecKey | setSetting
    | enrolOwnerRoot | resetMain => apply completes_whileUp
  case getVersion | getCapabilities | negotiateAlgorithms | getDigests | getCertificate | challenge | getMeasurements | keyExchange | finish | endSession
    | heartbeat => apply completes_spdmReq
  case bypass | idcode | samplePreload | extest | clamp | highz | privateInstruction => apply completes_tapCmd
  case drainRowOffer | hReset | tapReset => exact completes_next _
  case ffClear rec _ => cases rec <;> apply completes_hostCmd
  case rowStallExecute | stallDeadline | faultStopComplete | coreLull | coreWake | pageZeroFill | atsInvalidate | invalidateCompletion |
    meshRowForward | staticRouteForward | messageEject | ringPoll | batchReturn | msixUnmask | bar2Read | bar2Write | holdEnd | holdExpire |
    d3hotEntry | d0Return | saveEnd | dumpEnd | thermalSample | ptpSync | syncTimeout | ppsOut | timeCapture | linkUp | linkDown | txSessionOpen |
    periodBoundary | windowsSuspend | twinDeadline | registerWrite | lowHalfRead | highHalfRead | wideRead | pReset | fReset | mReset | standbyEntry |
    standbyExit | abortEnd | ideKmMessage =>
    simp only [exec, execRowStallExecute, execStallDeadline, execFaultStopComplete, execCoreLull, execCoreWake, execPageZeroFill, execAtsInvalidate,
      execInvalidateCompletion, execMeshRowForward, execStaticRouteForward, execMessageEject, execRingPoll, execBatchReturn, execMsixUnmask,
      execBar2Read, execBar2Write, execHoldEnd, execHoldExpire, execD3hotEntry, execD0Return, execSaveEnd, execDumpEnd, execThermalSample,
      execPtpSync, execSyncTimeout, execPpsOut, execTimeCapture, execLinkUp, execLinkDown, execTxSessionOpen, execPeriodBoundary, execWindowsSuspend,
      execTwinDeadline, execRegisterWrite, execLowHalfRead, execHighHalfRead, execWideRead, execPReset, execFReset, execMReset, execStandbyEntry,
      execStandbyExit, execAbortEnd, execIdeKmMessage, completes_ite, completes_next, implies_true, and_self]
  case lateFault | calmReport | bankLull | bankWake | bankPowerDown | bankReady | moveExecute | cmrdDestinationWrite | remoteRequestServe |
    remoteReply | streamRowIssue | streamRowDeliver | streamRowAck | gddr7Slot | gddr7Refresh | priResponse | pfDeadline | dropReport |
    mcastMemberFence | combine | combineTimeout | ringRowsDeliver | gatherSlotWrite | gatherDeadline | batchRelease | completionPost | bufferFree |
    msixMessage | defaultImageCopyEnd | imageChecksEnd | imageApplyEnd | applyFailure | stopDeadline | restoreEnd | clockGate | clockRestart |
    ptpFrame | referenceLoss | referenceRestore | generatorRelock | linkHoldExpire | fabricMessageComplete | windowOpen | windowClose | frameDiscard |
    frameDeliver | clusterPowerUp | flashRecordCommit | flashTimeout | firmwareData | verifyComplete | applyComplete | atsTranslationCompletion |
    completionTimeout =>
    simp only [exec, execLateFault, execCalmReport, execBankLull, execBankWake, execBankPowerDown, execBankReady, execMoveExecute,
      execCmrdDestinationWrite, execRemoteRequestServe, execRemoteReply, execStreamRowIssue, execStreamRowDeliver, execStreamRowAck, execGddr7Slot,
      execGddr7Refresh, execPriResponse, execPfDeadline, execDropReport, execMcastMemberFence, execCombine, execCombineTimeout, execRingRowsDeliver,
      execGatherSlotWrite, execGatherDeadline, execBatchRelease, execCompletionPost, execBufferFree, execMsixMessage, execDefaultImageCopyEnd,
      execImageChecksEnd, execImageApplyEnd, execApplyFailure, execStopDeadline, execRestoreEnd, execClockGate, execClockRestart, execPtpFrame,
      execReferenceLoss, execReferenceRestore, execGeneratorRelock, execLinkHoldExpire, execFabricMessageComplete, execWindowOpen, execWindowClose,
      execFrameDiscard, execFrameDeliver, execClusterPowerUp, execFlashRecordCommit, execFlashTimeout, execFirmwareData, execVerifyComplete,
      execApplyComplete, execAtsTranslationCompletion, execCompletionTimeout]
    (repeat' split) <;> apply completes_next

/-- Settles O3: a command ends in the next state by the form of its row, a row of a slot, a command of a host port or of the management port, or an event
    of the device; no branch of any row answers otherwise. -/
theorem everyCommandCompletes : Obligations.EveryCommandCompletes := completes_exec

/-- Settles O1. -/
theorem stepRunsFront : Obligations.StepRunsFront := fun c rest s front => by rw [step, front]

/-! ## What reset leaves (19 R729) -/

/-- Settles O6: no memory holds a byte. -/
theorem resetMemories : Obligations.ResetMemories := by
  have empty : Mem.wf [] := ⟨List.Pairwise.nil, by simp⟩
  exact ⟨empty, empty, empty⟩

theorem getPort_reset (h : Nat) : getPort State.reset h = {} := ite_self _

/-- Settles O7: a table with no entry reads as the default entry of its unit, and both ports have their default. -/
theorem resetState : Obligations.ResetState :=
  ⟨rfl, rfl, rfl, rfl, fun _ => rfl, fun _ => ⟨rfl, fun _ => rfl⟩, fun _ => rfl, rfl, fun h => ⟨by rw [portAnswers, getPort_reset]; rfl, by rw [getPort_reset]⟩,
    rfl, rfl, rfl, rfl⟩

/-! ## A step without a command (14 R556) -/

/-- The counter and its fraction as one number of 2⁻³² ns. -/
theorem tickTime_total (t : TimeBlk) : ((((tickTime t).now.toNat * 2 ^ 32 + (tickTime t).frac.toNat : Nat)) : Int) =
    (((t.now.toNat * 2 ^ 32 + t.frac.toNat : Nat) : Int) + 2 * 2 ^ 32 + t.adj) % 2 ^ 96 := by
  simp only [tickTime]
  generalize (((t.now.toNat * 2 ^ 32 + t.frac.toNat : Nat) : Int) + 2 * 2 ^ 32 + t.adj) = total
  push_cast
  rw [BitVec.toNat_ofInt, BitVec.toNat_ofInt, Int.toNat_of_nonneg (by omega), Int.toNat_of_nonneg (by omega)]
  push_cast
  omega

theorem settlePps_low {s : State} (low : s.pins.ppsHigh = false) : settlePps s = s := by simp [settlePps, low]

/-- Settles O2: the step is one tick, which keeps the counter and its fraction as one number, and a pin that is low stays low. -/
theorem idleStepTicks : Obligations.IdleStepTicks := fun s idle => by
  have ticks : step s = .next (tick s) := by rw [step, idle]
  exact ⟨tickTime s.time, ticks, fun low => ticks.trans (congrArg _ (settlePps_low (s := { s with time := tickTime s.time }) low)), rfl, tickTime_total s.time⟩

end Sys2Proof.Machine

/-! # The rows of the CTL slot (03 R79, R87 to R92; 22 R772, R773) -/

namespace Sys2Proof.Machine

section
variable {s : State} {k : CoreId}

/-- A row of the CTL slot that takes part in no calm point ends its cc with the register that it writes and the next PC and loop levels. -/
theorem ctl_row {o : CtlOp} {isNop : Bool} {d : Core} (lone : Lone s k.num 0 (.ctl o)) (still : ∀ t j, afterCtl t j o = t)
    (goes : goCtl (runStart s k.num) (issueOf s k.num) o = setCore s k.num (runUp d)) (inflight : d.inflight = (getCore s k.num).inflight) :
    issueNamed k.num 0 (.ctl o) isNop s = .next (setCore s k.num (afterWord d (nextPc (issueOf s k.num) o))) :=
  lone_own s k.num 0 (.ctl o) isNop d lone still ((issueSlots_ctl ..).trans goes) (by rw [Still, inflight]; exact lone.still)

/-- An X register written as the word issues. -/
theorem setX_runStart (r : Nat) (v : W64) :
    modCore (runStart s k.num) k.num (fun c => setX c r v) = setCore s k.num (runUp (setX (getCore s k.num) r v)) := by
  rw [runStart, modCore, getCore_setCore_same, setCore_setCore]
  rfl

variable {xd xa : BitVec 5}

theorem exec_xCommand (xb : BitVec 5) (o : XOp) (lone : Lone s k.num 0 (.ctl (.x o xd xa xb))) :
    exec (xCommand k xd xa xb o) s = .next (setCore s k.num (afterWord
      (setX (getCore s k.num) xd.toNat (xResult o (getX (getCore s k.num) xa.toNat) (getX (getCore s k.num) xb.toNat))) (nextOf (getCore s k.num)))) := by
  have row : exec (xCommand k xd xa xb o) s = issueNamed k.num 0 (.ctl (.x o xd xa xb)) false s := by cases o <;> rfl
  rw [row]
  exact ctl_row lone (fun _ _ => rfl) (setX_runStart ..) rfl

theorem exec_xaddi (imm : BitVec 14) (lone : Lone s k.num 0 (.ctl (.xaddi xd xa imm))) :
    exec (.xaddi k xd xa imm) s = .next (setCore s k.num (afterWord
      (setX (getCore s k.num) xd.toNat (getX (getCore s k.num) xa.toNat + imm.signExtend 64)) (nextOf (getCore s k.num)))) :=
  ctl_row lone (fun _ _ => rfl) (setX_runStart ..) rfl

theorem exec_xli (kf : BitVec 2) (imm : BitVec 16) (lone : Lone s k.num 0 (.ctl (.xli xd kf imm))) :
    exec (.xli k xd kf imm) s = .next (setCore s k.num (afterWord
      (setX (getCore s k.num) xd.toNat (xliResult (getX (getCore s k.num) xd.toNat) kf imm)) (nextOf (getCore s k.num)))) :=
  ctl_row lone (fun _ _ => rfl) (setX_runStart ..) rfl

theorem exec_b (cond : BitVec 3) (xs : BitVec 5) (target : BitVec 14) (lone : Lone s k.num 0 (.ctl (.b cond xs target))) :
    exec (.b k cond xs target) s = .next (setCore s k.num (afterWord (getCore s k.num) (nextPc (issueOf s k.num) (.b cond xs target)))) :=
  ctl_row lone (fun _ _ => rfl) rfl rfl

theorem exec_loop (xs : BitVec 5) (stop : BitVec 14) (lone : Lone s k.num 0 (.ctl (.loop xs stop))) :
    exec (.loop k xs stop) s = .next (setCore s k.num (afterWord (getCore s k.num) (nextPc (issueOf s k.num) (.loop xs stop)))) :=
  ctl_row lone (fun _ _ => rfl) rfl rfl

theorem exec_loopi (count : BitVec 16) (offset : BitVec 8) (lone : Lone s k.num 0 (.ctl (.loopi count offset))) :
    exec (.loopi k count offset) s = .next (setCore s k.num (afterWord (getCore s k.num) (nextPc (issueOf s k.num) (.loopi count offset)))) :=
  ctl_row lone (fun _ _ => rfl) rfl rfl

/-- A LOOPI of count 0 runs its body no time (22 R773). -/
theorem nextPc_loopi (i : Issue) (count : BitVec 16) (offset : BitVec 8) : nextPc i (.loopi count offset) =
    if count = 0 then (i.pc + offset.toNat + 1, i.c.loops)
    else (i.pc + 1, { count := count.setWidth 32, start := i.pc + 1, stop := i.pc + offset.toNat } :: i.c.loops) := by
  have zero : count.setWidth 32 = 0 ↔ count = 0 := by bv_omega
  simp only [nextPc, zero]

/-- A word of NOPs alone: a NOP is its slot's operation where the word names none. -/
theorem loneWord_nopOf (i : Fin 8) : loneWord i (nopOf i) = {} := by
  fin_cases i <;> rfl

theorem exec_nop (i : Fin 8) (lone : Lone s k.num i (nopOf i)) :
    exec (.nop k i) s = .next (setCore s k.num (afterWord (getCore s k.num) (nextOf (getCore s k.num)))) := by
  have row := lone_own s k.num i (nopOf i) true (getCore s k.num) lone (by simp [loneWord_nopOf]) (by rw [loneWord_nopOf]; rfl) lone.still
  rw [loneWord_nopOf] at row
  exact row

end

/-- Settles O17: each row of the CTL slot is the cc of its word with the register that it writes and the next PC of `nextPc`. -/
theorem controlRows : Obligations.ControlRows := by
  refine ⟨fun s k xd xa xb => ⟨exec_xCommand xb, exec_xaddi, exec_xli⟩, fun s k => ⟨exec_b, exec_loop, fun count offset lone => ?_, exec_nop⟩⟩
  rw [exec_loopi count offset lone, nextPc_loopi]
  rfl

end Sys2Proof.Machine

/-! # Host commands by the port that gives them (15 R577, R578, R605; 16 R628; 18 R698) -/

namespace Sys2Proof.Machine

/-! ## A port that does not answer (15 R605; 16 R628) -/

section
variable {s : State} {h : Nat} {offset : Nat} {data : W32} {denied : Option Nat} {act : State → State}

theorem hostCmd_closed (closed : portAnswers s h = false) : hostCmd s h offset data denied act = .next s := by
  simp [hostCmd, closed]

theorem hostCmd_rejects {r : Nat} (answers : portAnswers s h = true) (refused : denied = some r) :
    ∃ off dat, hostCmd s h offset data denied act = .next (reject s h r off dat) := ⟨offset, data, by simp [hostCmd, answers, refused]⟩

end

theorem hostBank_closed {s : State} {h : Nat} (closed : portAnswers s h = false) (b : BankId) (off : Bool) : hostBank h b off s = .next s := by
  cases b <;> simp only [hostBank, hostCmd_closed closed]

/-- Settles O53: a host command of a port that does not answer is `hostCmd_closed`; a register access, an unmask and a BAR2 access ask the port first. -/
theorem closedPortsAreSilent : Obligations.ClosedPortsAreSilent := by
  intro s h closed b p r f w v o t rec e o2 n d bar e0 e1 c listed
  have mute : (!portAnswers s h.val) = true := by rw [closed]; rfl
  simp only [List.mem_cons, List.not_mem_nil, or_false] at listed
  rcases listed with rfl | rfl | rfl | rfl | rfl | rfl | rfl | rfl | rfl | rfl | rfl | rfl | rfl | rfl | rfl | rfl | rfl | rfl | rfl | rfl | rfl | rfl
    | rfl | rfl | rfl | rfl | rfl | rfl | rfl | rfl | rfl | rfl | rfl
  iterate 2 · apply hostBank_closed closed
  iterate 23 · apply hostCmd_closed closed
  · change execFfClear h rec w s = _
    cases rec <;> simp only [execFfClear, hostCmd_closed closed]
  · exact if_pos mute
  · exact if_pos mute
  · exact if_neg (Bool.eq_false_iff.1 closed)
  · exact if_pos mute
  · exact if_neg (Bool.eq_false_iff.1 closed)
  · exact if_pos (.inl mute)
  · exact if_pos (.inl mute)

/-! ## A partition command of a port that is not the partition's (15 R577, R578; 18 R698) -/

theorem partDenied_reason {s : State} {h p r : Nat} (denied : partDenied s h p = some r) : r = 3 ∨ r = 4 := by
  simp only [partDenied] at denied
  split at denied <;> split at denied <;> cases denied
  · exact .inl rfl
  · exact .inr rfl

theorem firstDenied_some {r : Nat} {d : Option Nat} {rest : List (Option Nat)} (denied : d = some r) : firstDenied (d :: rest) = some r := by
  rw [denied, firstDenied]

/-- Settles O54: the port's own reason is the first of every partition command. -/
theorem onlyTheOwnerCommands : Obligations.OnlyTheOwnerCommands := by
  intro s h p r t answers denied
  refine ⟨partDenied_reason denied, fun c listed => ?_⟩
  simp only [List.mem_cons, List.not_mem_nil, or_false] at listed
  rcases listed with rfl | rfl | rfl | rfl | rfl | rfl | rfl | rfl | rfl | rfl | rfl | rfl | rfl | rfl
  iterate 10 · apply hostCmd_rejects answers denied
  iterate 4 · apply hostCmd_rejects answers (firstDenied_some denied)

/-! ## A read of BAR0 (00 R9; 20 R731, R732, R735) -/

theorem setPort_getPort (s : State) (h : Nat) : setPort s h (getPort s h) = s := by
  unfold setPort getPort
  split <;> rfl

@[simp] theorem setPort_setPort (s : State) (h : Nat) (p q : Port) : setPort (setPort s h p) h q = setPort s h q := by
  unfold setPort
  split <;> rfl

/-- A state is another but for the latch of a port (00 R9). -/
def ButLatch (s : State) (h : Nat) (t : State) : Prop := ∃ l, t = modPort s h (fun p => { p with latch := l })

theorem ButLatch.refl (s : State) (h : Nat) : ButLatch s h s := ⟨(getPort s h).latch, (setPort_getPort s h).symm⟩

theorem ButLatch.trans {s t u : State} {h : Nat} (a : ButLatch s h t) (b : ButLatch t h u) : ButLatch s h u := by
  obtain ⟨l, rfl⟩ := a
  obtain ⟨m, rfl⟩ := b
  exact ⟨m, by simp [modPort]⟩

theorem butLatch_readReg (s : State) (h o : Nat) : ButLatch s h (readReg s h o).2 := by
  unfold readReg
  split
  · exact .refl s h
  · split
    · exact .refl s h
    · exact ⟨_, rfl⟩
    · split
      · split
        · exact ⟨none, rfl⟩
        · exact .refl s h
      · exact .refl s h

theorem butLatch_readRegs (s : State) (h o n : Nat) : ButLatch s h (readRegs s h o n).2 := by
  induction n generalizing s o with
  | zero => exact .refl s h
  | succ n ih => exact (butLatch_readReg s h o).trans (ih _ _)

/-- The first register of a read returns its value where it is no half of a 64-bit value. -/
theorem readRegs_mod {s : State} {h o n : Nat} {r : RegRead} (there : regAt s h o = some r) (alone : r.pair = none) :
    (readRegs s h o (n + 1)).1 % 2 ^ 32 = r.value % 2 ^ 32 := by
  simp only [readRegs, readReg_single there alone]
  omega

theorem readBoth_mod {s : State} {h o : Nat} {r : RegRead} (there : regAt s h o = some r) : (readBoth s h o).1 % 2 ^ 32 = r.value % 2 ^ 32 := by
  simp only [readBoth, there, Option.map_some, Option.getD_some]
  omega

/-- A read completes with what it returns and leaves. -/
theorem completes_butLatch {s : State} {h k : Nat} {o : Nat} {x : Nat × State} (latch : ButLatch s h x.2)
    (value : ∀ r, regAt s h o = some r → r.pair = none → x.1 % 2 ^ 32 = r.value % 2 ^ 32) :
    ∃ (l : Option (BitVec 32 × Nat)) (n v : Nat), (.next (complete h k x) : Res) = .next (emit (modPort s h (fun p => { p with latch := l })) (.readData h n v)) ∧
      (∀ r, regAt s h o = some r → r.pair = none → v % 2 ^ 32 = r.value % 2 ^ 32) := by
  obtain ⟨l, changed⟩ := latch
  exact ⟨l, 4 * k, x.1, by rw [complete, changed], value⟩

section
variable {s : State} {h : Fin 2} {offset : BitVec 25} (answers : portAnswers s h.val = true)
include answers

theorem exec_lowHalfRead : exec (.lowHalfRead h .bar0 offset) s = .next (complete h.val 1 (readReg s h.val (readOffset offset))) := by
  change execLowHalfRead h .bar0 offset s = _
  simp [execLowHalfRead, answers]

theorem exec_highHalfRead_any : exec (.highHalfRead h offset) s = .next (complete h.val 1 (readReg s h.val (readOffset offset))) :=
  if_pos answers

theorem exec_wideRead : exec (.wideRead h .bar0 offset) s = .next (complete h.val 2
    (if readOffset offset % 8 = 0 then readBoth s h.val (readOffset offset) else readRegs s h.val (readOffset offset) 2)) := by
  change execWideRead h .bar0 offset s = _
  simp [execWideRead, answers]

end

/-- Settles O52: a read completes what `readReg`, `readRegs` or `readBoth` leaves, each of which changes the latch alone. -/
theorem readsHaveNoSideEffect : Obligations.ReadsHaveNoSideEffect := by
  intro s h offset answers c listed
  have single (r : RegRead) (there : regAt s h.val (readOffset offset) = some r) (alone : r.pair = none) :
      (readReg s h.val (readOffset offset)).1 % 2 ^ 32 = r.value % 2 ^ 32 := by rw [readReg_single there alone]
  simp only [List.mem_cons, List.not_mem_nil, or_false] at listed
  rcases listed with rfl | rfl | rfl
  · rw [exec_lowHalfRead answers]
    exact completes_butLatch (butLatch_readReg ..) single
  · rw [exec_highHalfRead_any answers]
    exact completes_butLatch (butLatch_readReg ..) single
  · rw [exec_wideRead answers]
    split
    · exact completes_butLatch (.refl s h.val) fun r there _ => readBoth_mod there
    · exact completes_butLatch (butLatch_readRegs ..) fun r => readRegs_mod

end Sys2Proof.Machine

/-! # A walk over units, and what a fault leaves of its partitions (17 R671; 18 R679 to R685) -/

namespace Sys2Proof.Machine

/-! ## A walk over units that changes each once -/

section
variable {s : State} {l : List Nat}

theorem getCore_foldl_modCore {f : Nat → Core → Core} (once : l.Nodup) (n : Nat) :
    getCore (l.foldl (fun a m => modCore a m (f m)) s) n = if n ∈ l then f n (getCore s n) else getCore s n := by
  induction l generalizing s with
  | nil => simp
  | cons m rest ih =>
    obtain ⟨fresh, once⟩ := List.nodup_cons.1 once
    rw [List.foldl_cons, ih once]
    by_cases here : n = m
    · subst here
      simp [fresh]
    · rw [getCore_modCore_other _ _ _ _ here]
      simp [here]

theorem getClus_foldl_modClus {f : Nat → Cluster → Cluster} (once : l.Nodup) (c : Nat) :
    getClus (l.foldl (fun a d => modClus a d (f d)) s) c = if c ∈ l then f c (getClus s c) else getClus s c := by
  induction l generalizing s with
  | nil => simp
  | cons d rest ih =>
    obtain ⟨fresh, once⟩ := List.nodup_cons.1 once
    rw [List.foldl_cons, ih once]
    by_cases here : c = d
    · subst here
      simp [fresh]
    · rw [getClus_modClus_other _ _ _ _ here]
      simp [here]

theorem getPart_foldl_modPart {f : Nat → Part → Part} (once : l.Nodup) (p : Nat) :
    getPart (l.foldl (fun a q => modPart a q (f q)) s) p = if p ∈ l then f p (getPart s p) else getPart s p := by
  induction l generalizing s with
  | nil => simp
  | cons q rest ih =>
    obtain ⟨fresh, once⟩ := List.nodup_cons.1 once
    rw [List.foldl_cons, ih once]
    by_cases here : p = q
    · subst here
      simp [fresh]
    · rw [getPart_modPart_other _ _ _ _ here]
      simp [here]

end

theorem coresOf_nodup (c : Nat) : (coresOf c).Nodup := List.nodup_range.map fun _ _ h => by simpa using h

theorem clustersOf_nodup (s : State) (p : Nat) : (clustersOf s p).Nodup := List.nodup_range.filter _

/-- What a walk leaves alone in each step it leaves alone. -/
theorem foldl_keeps {α β : Type} {g : State → β} {f : State → α → State} (l : List α) (s : State) (keeps : ∀ t x, g (f t x) = g t) : g (l.foldl f s) = g s :=
  List.foldlRecOn l f (motive := fun t => g t = g s) rfl fun t ht x _ => (keeps t x).trans ht

/-! ## A fault leaves its partitions but for DEGRADED and the stop (18 R681, R682) -/

section
variable {s : State}

@[simp] theorem platformEvent_parts (kind data : Nat) : (platformEvent s kind data).parts = s.parts := by
  unfold platformEvent
  split <;> rfl
@[simp] theorem recordDevice_parts (tie : Option (Nat × Nat)) (i : FfInfo) : (recordDevice s tie i).parts = s.parts := by
  simp only [recordDevice]
  split <;> simp
@[simp] theorem emptyQueues_parts (n : Nat) (st : TqState) : (emptyQueues s n st).parts = s.parts := foldl_keeps _ _ fun _ _ => rfl
@[simp] theorem haltCore_parts (n : Nat) (st : RunState) : (haltCore s n st).parts = s.parts := by
  simp only [haltCore]
  (repeat' split) <;> rfl
@[simp] theorem fenceUnit_parts (u : FUnit) : (fenceUnit s u).parts = s.parts := by
  cases u <;> simp [fenceUnit, fenceCore, emptyQueue]
@[simp] theorem stopLate_parts (n : Nat) : (stopLate s n).parts = s.parts := by
  unfold stopLate
  (repeat' split) <;> simp
@[simp] theorem stopAfterCc_parts (c : Nat) : (stopAfterCc s c).parts = s.parts := foldl_keeps _ _ fun _ _ => stopLate_parts _

section
variable {β : Type} {g : Part → β} (degrade : ∀ x : Part, g { x with degraded := true } = g x)
  (stop : ∀ x : Part, g { x with faultStop := true, stopPending := false } = g x)
include degrade stop

theorem getPart_applyReaction (part : Option Nat) (c reaction : Nat) (u : FUnit) (q : Nat) :
    g (getPart (applyReaction s part c reaction u) q) = g (getPart s q) := by
  have fenced : g (getPart (fenceUnit s u) q) = g (getPart s q) := by rw [getPart_congr (fenceUnit_parts u)]
  have changed {t : State} {p : Nat} {f : Part → Part} (hf : ∀ x, g (f x) = g x) : g (getPart (modPart t p f) q) = g (getPart t q) := by
    by_cases here : q = p
    · subst here; rw [getPart_modPart_same, hf]
    · rw [getPart_modPart_other _ _ _ _ here]
  simp only [applyReaction, stopByFault]
  repeat' split
  · rfl
  · exact fenced
  · rfl
  · rw [getPart_congr (partEvent_parts ..), changed degrade, fenced]
  · rfl
  · rw [getPart_congr (stopAfterCc_parts _), getPart_congr (partEvent_parts ..), changed stop, fenced]
  · exact fenced

/-- A field of a partition that no fault touches reads the same after a fault. -/
theorem getPart_raiseIn (c : Nat) (i : FfInfo) (u : FUnit) (stream : Bool) (q : Nat) : g (getPart (raiseIn s c i u stream) q) = g (getPart s q) := by
  rw [raiseIn, getPart_applyReaction degrade stop, getPart_congr (recordDevice_parts ..), getPart_congr (recordCluster_parts ..)]

end

end

end Sys2Proof.Machine

/-! # TWIN_DEADLINE and FF_CLEAR (13 R541; 18 R690 to R694) -/

namespace Sys2Proof.Machine

/-! ## TWIN_DEADLINE (13 R541) -/

/-- The records that wait at the two sides of a partition's comparator. -/
def twinRecords (x : Part) : List TwinRec × List TwinRec := (x.twin.localRecs, x.twin.remoteRecs)

theorem twinRecords_twinFault (s : State) (p code : Nat) (r : TwinRec) (localDig remoteDig : W64) (q : Nat) :
    twinRecords (getPart (twinFault s p code r localDig remoteDig) q) = twinRecords (getPart s q) := by
  refine (getPart_raiseIn (g := twinRecords) (fun _ => rfl) (fun _ => rfl) _ _ _ _ q).trans ?_
  by_cases here : q = p
  · subst here; rw [getPart_modPart_same]; rfl
  · rw [getPart_modPart_other _ _ _ _ here]

theorem exec_twinDeadline (s : State) (p : PartId) : ∃ u, exec (.twinDeadline p) s = .next u ∧ twinRecords (getPart u p.val) =
    ((getPart s p.val).twin.localRecs.filter (fun r => !twinLate s (getPart s p.val).twin r),
      (getPart s p.val).twin.remoteRecs.filter (fun r => !twinLate s (getPart s p.val).twin r)) := by
  refine ⟨_, rfl, ?_⟩
  rw [foldl_keeps (g := fun t => twinRecords (getPart t p.val)) _ _ fun _ _ => twinRecords_twinFault .., getPart_modPart_same]
  rfl

/-! ## The clear of a record (18 R690, R691) -/

section
variable {r : FfRecord} {code : Nat} {causes : List Nat} (valid : r.latch.valid = true)
include valid

theorem clearRecord_otherCode (other : code ≠ r.latch.info.code) : clearRecord r code causes = { r with refused := true, cause := 0xFFFF } := by
  simp [clearRecord, valid, other]

theorem clearRecord_clears (same : code = r.latch.info.code) (gone : causes = []) :
    clearRecord r code causes = { r with latch := r.latch.clear, refused := false, cause := 0 } := by
  simp [clearRecord, valid, same, gone]

theorem clearRecord_persists {c : Nat} {rest : List Nat} (same : code = r.latch.info.code) (persist : causes = c :: rest) :
    clearRecord r code causes = { r with refused := true, cause := c } := by
  simp [clearRecord, valid, same, persist]

end

/-! ## FF_CLEAR (18 R690, R694) -/

section
variable {s : State} {h : Fin 2} {code : W32} (answers : portAnswers s h.val = true) (small : code.toNat < 65536)
include answers small

theorem exec_ffClear_device (primary : h.val = s.hp.primary) : exec (.ffClear h none code) s = .next (clearDevice s code.toNat) := by
  have high : natBits code.toNat 16 16 = 0 := by simp [natBits, Nat.shiftRight_eq_div_pow, Nat.div_eq_of_lt small]
  have low : natBits code.toNat 0 16 = code.toNat := by simp [natBits, Nat.mod_eq_of_lt small]
  change execFfClear h none code s = _
  simp only [execFfClear, high, low]
  exact hostCmd_granted answers (by simp [firstDenied, primaryDenied, primary])

theorem exec_ffClear_cluster {c : ClusterId} (granted : clusDenied s h.val c.val = none) :
    exec (.ffClear h (some c) code) s = .next (clearCluster s c.val code.toNat) := by
  have high : natBits code.toNat 16 16 = 0 := by simp [natBits, Nat.shiftRight_eq_div_pow, Nat.div_eq_of_lt small]
  have low : natBits code.toNat 0 16 = code.toNat := by simp [natBits, Nat.mod_eq_of_lt small]
  change execFfClear h (some c) code s = _
  simp only [execFfClear, high, low]
  exact hostCmd_granted answers (by simp [firstDenied, granted])

end

section
variable {s : State} {code : Nat} (valid : s.ff.latch.valid = true)
include valid

theorem clearDevice_clears (same : code = s.ff.latch.info.code) (gone : persistingCodes s = []) :
    clearDevice s code = { s with ff := { s.ff with latch := s.ff.latch.clear, refused := false, cause := 0 } } := by
  simp [clearDevice, clearRecord_clears valid same gone, Latch.clear]

theorem clearDevice_otherCode (other : code ≠ s.ff.latch.info.code) :
    clearDevice s code = platformEvent { s with ff := { s.ff with refused := true, cause := 0xFFFF } } 1 s.ff.latch.info.code := by
  simp [clearDevice, clearRecord_otherCode valid other, valid]

theorem clearDevice_persists {c : Nat} {rest : List Nat} (same : code = s.ff.latch.info.code) (persist : persistingCodes s = c :: rest) :
    clearDevice s code = platformEvent { s with ff := { s.ff with refused := true, cause := c } } 1 s.ff.latch.info.code := by
  simp [clearDevice, clearRecord_persists valid same persist, valid]

end

section
variable {s : State} {c code : Nat}

/-- The unit latches of a cluster are cleared, its record left. -/
theorem clearUnits_clears : (getClus (clearUnits s c) c).ff = (getClus s c).ff ∧ ∀ n ∈ coresOf c, (getCore (clearUnits s c) n).fault.valid = false := by
  have cores : (getClus ((coresOf c).foldl (fun a n => modCore a n (fun k => { k with fault := k.fault.clear })) s) c).ff = (getClus s c).ff :=
    foldl_keeps (g := fun t => (getClus t c).ff) _ _ fun _ _ => rfl
  have cleared {n : Nat} (inside : n ∈ coresOf c) :
      (getCore ((coresOf c).foldl (fun a n => modCore a n (fun k => { k with fault := k.fault.clear })) s) n).fault.valid = false := by
    rw [getCore_foldl_modCore (f := fun _ k => { k with fault := k.fault.clear }) (coresOf_nodup c), if_pos inside]
    rfl
  unfold clearUnits
  dsimp only
  (repeat' split) <;> exact ⟨by simp [cores], fun n inside => by simpa only [getCore_modPart, getCore_modClus] using cleared inside⟩

theorem clearCluster_clears (valid : (getClus s c).ff.latch.valid = true) (same : code = (getClus s c).ff.latch.info.code) :
    (getClus (clearCluster s c code) c).ff.latch.valid = false ∧ ∀ n ∈ coresOf c, (getCore (clearCluster s c code) n).fault.valid = false := by
  have cleared : clearCluster s c code = clearUnits (modClus s c fun x => { x with
      ff := { (getClus s c).ff with latch := (getClus s c).ff.latch.clear, refused := false, cause := 0 } }) c := by
    simp [clearCluster, clearRecord_clears valid same, valid, Latch.clear]
  rw [cleared]
  refine ⟨?_, clearUnits_clears.2⟩
  rw [clearUnits_clears.1, getClus_modClus_same]
  rfl

theorem clearCluster_otherCode (valid : (getClus s c).ff.latch.valid = true) (other : code ≠ (getClus s c).ff.latch.info.code) :
    clearCluster s c code = modClus s c (fun x => { x with ff := { x.ff with refused := true, cause := 0xFFFF } }) := by
  simp [clearCluster, clearRecord_otherCode valid other, valid, modClus]

end

/-- Settles O49: the faults of the discarded records leave the records that stay; a clear is the case of `clearRecord` that its code and causes choose. -/
theorem twinAndClear : Obligations.TwinAndClear := by
  refine fun s => ⟨fun p => ?twin, fun h code answers small => ⟨fun primary valid => ?device, fun c granted valid => ?cluster⟩⟩
  case twin =>
    obtain ⟨u, done, records⟩ := exec_twinDeadline s p
    obtain ⟨locals, remotes⟩ := Prod.mk.inj records
    exact ⟨u, done, locals, remotes⟩
  case device =>
    simp only [exec_ffClear_device answers small primary]
    exact ⟨fun same gone => congrArg _ (clearDevice_clears valid same gone), fun other => congrArg _ (clearDevice_otherCode valid other),
      fun c rest same persist => congrArg _ (clearDevice_persists valid same persist)⟩
  case cluster =>
    simp only [exec_ffClear_cluster answers small granted]
    exact ⟨fun same => ⟨_, rfl, clearCluster_clears valid same⟩, fun other => congrArg _ (clearCluster_otherCode valid other)⟩

end Sys2Proof.Machine

/-! # Register writes (15 R575, R600; 18 R698) -/

namespace Sys2Proof.Machine

/-- The reason for which the block of an offset takes no write (20 R736; 18 R698). -/
def closedAt (s : State) (o : Nat) : Option Nat :=
  if 0x1000000 ≤ o ∧ o < 0x1200000 then blockClosed s ((o - 0x1000000) / 0x10000) (o % 0x10000) else none

/-! ## A 4-byte write at its offset (18 R698) -/

section
variable {s : State} {h o : Nat} {data : W32}

theorem applyWrite_unmapped (nothing : regAt s h o = none) : applyWrite s h o data = reject s h 0xA o data := by
  simp [applyWrite, nothing]

variable (there : regAt s h o ≠ none)
include there

theorem applyWrite_mapped : applyWrite s h o data = match closedAt s o, writeRule s h o data with
    | some r, _ => reject s h r o data
    | none, none => reject s h 9 o data
    | none, some w => match ruleDenied w data with
      | some r => reject s h r o data
      | none => w.act s := by
  have mapped : (regAt s h o).isNone = false := Option.isNone_eq_false_iff.2 (Option.isSome_iff_ne_none.2 there)
  simp only [applyWrite, mapped, closedAt]
  rfl

theorem applyWrite_closed {r : Nat} (closed : closedAt s o = some r) : applyWrite s h o data = reject s h r o data := by
  rw [applyWrite_mapped there, closed]

theorem applyWrite_readOnly (opened : closedAt s o = none) (fixed : writeRule s h o data = none) : applyWrite s h o data = reject s h 9 o data := by
  rw [applyWrite_mapped there, opened, fixed]

theorem applyWrite_denied {w : WriteRule} {r : Nat} (opened : closedAt s o = none) (rule : writeRule s h o data = some w)
    (denied : ruleDenied w data = some r) : applyWrite s h o data = reject s h r o data := by
  simp only [applyWrite_mapped there, opened, rule, denied]

theorem applyWrite_acts {w : WriteRule} (opened : closedAt s o = none) (rule : writeRule s h o data = some w) (granted : ruleDenied w data = none) :
    applyWrite s h o data = w.act s := by
  simp only [applyWrite_mapped there, opened, rule, granted]

end

/-! ## A write in BAR4 (15 R575, R600) -/

theorem mergeBytes_whole (old new : W32) : mergeBytes old new 0xF = new := by
  have all : BitVec.ofNat 32 (maskOf 32 fun i => (0xF : BitVec 4).getLsbD (i / 8)) = BitVec.allOnes 32 := by decide
  rw [mergeBytes, all, BitVec.not_allOnes, BitVec.and_zero, BitVec.zero_or, BitVec.and_allOnes]

/-- A whole write in the MSI-X table, by the field of the entry that its offset names. -/
theorem writeBar4_field (s : State) (h : Nat) (vector : Fin 2048) (field : Fin 4) (data : W32) :
    writeBar4 s h (16 * vector.val + 4 * field.val) data 0xF =
      let v : Vec := mget {} (getPort s h).vecs vector.val
      match field with
      | 0 => setVec s h vector.val { v with addr := v.addr.extractLsb' 32 32 ++ data }
      | 1 => setVec s h vector.val { v with addr := data ++ v.addr.extractLsb' 0 32 }
      | 2 => setVec s h vector.val { v with data := data }
      | 3 => if data.getLsbD 0 then setVec s h vector.val { v with masked := true } else unmask s h vector.val := by
  have inTable : ¬0x8000 ≤ 16 * vector.val + 4 * field.val := by omega
  have entry : (16 * vector.val + 4 * field.val) / 16 = vector.val := by omega
  have place : (16 * vector.val + 4 * field.val) % 16 / 4 = field.val := by omega
  simp only [writeBar4, inTable, if_false, entry, place, mergeBytes_whole]
  fin_cases field <;> rfl

/-! ## REGISTER_WRITE -/

section
variable {s : State} {h : Fin 2} {offset : BitVec 25} {data : W32} {enables : BitVec 4} (answers : portAnswers s h.val = true)
include answers

theorem exec_registerWrite_partial (torn : enables ≠ 0xF ∨ offset.toNat % 4 ≠ 0) :
    exec (.registerWrite h .bar0 offset data enables) s = .next (reject s h.val 2 offset.toNat data) := by
  change execRegisterWrite h .bar0 offset data enables s = _
  simp only [execRegisterWrite, answers, Bool.not_true, Bool.false_eq_true, reduceCtorEq, if_false, if_pos torn]

theorem exec_registerWrite_whole (whole : enables = 0xF) (aligned : offset.toNat % 4 = 0) :
    exec (.registerWrite h .bar0 offset data enables) s = .next (applyWrite s h.val offset.toNat data) := by
  change execRegisterWrite h .bar0 offset data enables s = _
  simp [execRegisterWrite, answers, whole, aligned]

theorem exec_registerWrite_bar4 {vector : Fin 2048} (field : Fin 4) (at_ : offset.toNat = 16 * vector.val + 4 * field.val) :
    exec (.registerWrite h .bar4 offset data 0xF) s = .next (writeBar4 s h.val (16 * vector.val + 4 * field.val) data 0xF) := by
  have aligned : offset.toNat / 4 * 4 = 16 * vector.val + 4 * field.val := by omega
  change execRegisterWrite h .bar4 offset data 0xF s = _
  simp [execRegisterWrite, answers, aligned]

end

/-- Settles O50: a write in BAR0 is one case of `applyWrite`, and in BAR4 one field of the entry that it names. -/
theorem registerWrites : Obligations.RegisterWrites := by
  refine fun s h offset data enables answers => ⟨exec_registerWrite_partial answers, fun whole aligned => ?bar0, fun vector => ?bar4⟩
  case bar0 =>
    simp only [exec_registerWrite_whole answers whole aligned]
    exact ⟨fun nothing => congrArg _ (applyWrite_unmapped nothing), fun r there closed => congrArg _ (applyWrite_closed there closed),
      fun there opened fixed => congrArg _ (applyWrite_readOnly there opened fixed),
      fun w r there opened rule denied => congrArg _ (applyWrite_denied there opened rule denied),
      fun w there opened rule granted => congrArg _ (applyWrite_acts there opened rule granted)⟩
  case bar4 =>
    have field (k : Fin 4) (at_ : offset.toNat = 16 * vector.val + 4 * k.val) :=
      (exec_registerWrite_bar4 (data := data) answers k at_).trans (congrArg _ (writeBar4_field s h.val vector k data))
    exact ⟨field 0, field 1, field 2, field 3⟩

end Sys2Proof.Machine

/-! # MSI-X messages and the BAR2 window (15 R575, R580, R581, R599, R600, R602; 08 R343) -/

namespace Sys2Proof.Machine

/-! ## MSIX_MESSAGE and MSIX_UNMASK (15 R599, R600, R602) -/

section
variable {s : State} {h : Fin 2} {vector : Fin 2048}

/-- The entry of a vector at a port. -/
def vecAt (s : State) (h : Fin 2) (vector : Fin 2048) : Vec := mget {} (getPort s h.val).vecs vector.val

section
variable {d : Nat} (due : (vecAt s h vector).due = some d) (past : d ≤ nowNs s)
include due past

theorem exec_msixMessage_due : exec (.msixMessage h vector) s =
    if (vecAt s h vector).masked then .next (setVec s h.val vector.val { vecAt s h vector with due := none, causes := [], pba := true })
    else if !hostOpen (getPort s h.val) then .next s
    else .next (sendMsix s h.val vector.val (vecAt s h vector)) := by
  refine Eq.trans (b := execMsixMessage h vector s) rfl ?_
  unfold vecAt at due ⊢
  simp only [execMsixMessage, due, Nat.not_lt.2 past, if_false]

theorem exec_msixMessage_masked (masked : (vecAt s h vector).masked = true) :
    exec (.msixMessage h vector) s = .next (setVec s h.val vector.val { vecAt s h vector with due := none, causes := [], pba := true }) := by
  rw [exec_msixMessage_due due past, if_pos masked]

theorem exec_msixMessage_sent (clear : (vecAt s h vector).masked = false) (opened : hostOpen (getPort s h.val) = true) :
    exec (.msixMessage h vector) s = .next (sendMsix s h.val vector.val (vecAt s h vector)) := by
  rw [exec_msixMessage_due due past, clear, opened]
  rfl

end

section
variable (answers : portAnswers s h.val = true)
include answers

theorem exec_msixUnmask : exec (.msixUnmask h vector) s = .next (
    if !(vecAt s h vector).pba then setVec s h.val vector.val { vecAt s h vector with masked := false }
    else if hostOpen (getPort s h.val) then sendMsix s h.val vector.val { vecAt s h vector with masked := false }
    else setVec s h.val vector.val { vecAt s h vector with masked := false, pba := false, due := some (nowNs s) }) := if_pos answers

theorem exec_msixUnmask_idle (none : (vecAt s h vector).pba = false) :
    exec (.msixUnmask h vector) s = .next (setVec s h.val vector.val { vecAt s h vector with masked := false }) := by
  rw [exec_msixUnmask answers, none]
  rfl

theorem exec_msixUnmask_sent (kept : (vecAt s h vector).pba = true) (opened : hostOpen (getPort s h.val) = true) :
    exec (.msixUnmask h vector) s = .next (sendMsix s h.val vector.val { vecAt s h vector with masked := false }) := by
  rw [exec_msixUnmask answers, kept, opened]
  rfl

theorem exec_msixUnmask_waits (kept : (vecAt s h vector).pba = true) (closed : hostOpen (getPort s h.val) = false) :
    exec (.msixUnmask h vector) s =
      .next (setVec s h.val vector.val { vecAt s h vector with masked := false, pba := false, due := some (nowNs s) }) := by
  rw [exec_msixUnmask answers, kept, closed]
  rfl

end

end

/-- Settles O39. -/
theorem msixRows : Obligations.MsixRows := fun _ _ _ =>
  ⟨fun _ => exec_msixMessage_masked, fun _ => exec_msixMessage_sent, exec_msixUnmask_idle, exec_msixUnmask_sent, exec_msixUnmask_waits⟩

/-! ## BAR2_READ and BAR2_WRITE (15 R580, R581; 08 R343) -/

theorem dmMem_dmReadRange (s : State) (a n : Nat) (ecc0 ecc1 : DramEcc) : (dmReadRange s a n ecc0 ecc1).dmMem = s.dmMem := by
  simp only [dmReadRange]
  split <;> simp only [dmMem_dmRead]

@[simp] theorem getPort_modPort_same (s : State) (h : Nat) (f : Port → Port) : getPort (modPort s h f) h = f (getPort s h) := getPort_setPort_same ..

theorem refuseBar2_counts (s : State) (h a : Nat) : (refuseBar2 s h a).dmMem = s.dmMem ∧
    (getPort (refuseBar2 s h a) h).bar2Refused = (getPort s h).bar2Refused.bump ∧ (refuseBar2 s h a).stagingDrops = s.stagingDrops := by
  refine ⟨setPort_dmMem .., ?_, setPort_stagingDrops ..⟩
  rw [refuseBar2, getPort_modPort_same]

section
variable {s : State} {h : Fin 2} {offset : BitVec 36} (answers : portAnswers s h.val = true)
include answers

theorem exec_bar2Read {n : Fin 513} (inside : offset.toNat + n.val ≤ 2 ^ 36) (ecc0 ecc1 : DramEcc) : exec (.bar2Read h offset n ecc0 ecc1) s =
    let a := bar2Addr (getPort s h.val) offset
    let s1 := dmReadRange s a n.val ecc0 ecc1
    if bar2Refused s h.val a n.val then .next (emit (refuseBar2 s h.val a) (.readData h.val n.val (2 ^ (8 * n.val) - 1)))
    else if rangeBad s1 a n.val then .next (emit (useFree s1) (.readData h.val n.val (Config.bar2Bad s.free % 2 ^ (8 * n.val))))
    else .next (emit s1 (.readData h.val n.val (bytesNat (readBytes s.dmMem a n.val)))) :=
  if_neg (by simpa [answers, inBar2] using inside)

theorem exec_bar2Write {data : List Byte} (short : data.length ≤ 512) (inside : offset.toNat + data.length ≤ 2 ^ 36) :
    exec (.bar2Write h offset data) s =
    let a := bar2Addr (getPort s h.val) offset
    if bar2Refused s h.val a data.length then
      .next (if rangeClosed s a data.length then { refuseBar2 s h.val a with stagingDrops := (refuseBar2 s h.val a).stagingDrops.bump } else refuseBar2 s h.val a)
    else .next { s with
      dmMem := writeBytes s.dmMem a data
      dmBad := s.dmBad.filter (fun b => !decide (a ≤ 512 * b.1 ∧ 512 * b.1 + 512 ≤ a + data.length)) } :=
  if_neg (by simpa [answers, inBar2, short] using inside)

end

/-- Settles O40: an access inside BAR2 of a port that answers is refused, or reads or writes the bytes at its address. -/
theorem bar2Rows : Obligations.Bar2Rows := by
  intro s h offset answers a
  refine ⟨fun n inside granted ecc0 ecc1 => ?read, fun n inside refused ecc0 ecc1 => ?readRefused, fun data short inside granted => ?write,
    fun data short inside refused => ?writeRefused⟩
  case read =>
    intro s1
    rw [exec_bar2Read answers inside]
    simp only [show bar2Refused s h.val (bar2Addr (getPort s h.val) offset) n.val = false from granted]
    exact ⟨dmMem_dmReadRange .., fun whole => if_neg (Bool.eq_false_iff.1 whole), fun bad => ⟨_, if_pos bad⟩⟩
  case readRefused =>
    rw [exec_bar2Read answers inside]
    exact if_pos refused
  case write =>
    refine ⟨_, (exec_bar2Write answers short inside).trans (if_neg (Bool.eq_false_iff.1 granted)), fun i hi => ?_,
      fun b => readByte_writeBytes_other _ _ _ b, rfl, rfl, rfl, rfl, rfl, rfl, rfl⟩
    exact (readByte_writeBytes_same _ _ _ _ hi).trans (List.getD_eq_getElem _ _ hi)
  case writeRefused =>
    refine ⟨_, (exec_bar2Write answers short inside).trans (if_pos refused), ?_⟩
    obtain ⟨memory, counted, drops⟩ := refuseBar2_counts s h.val a
    change _ ∧ _ ∧ _ = if rangeClosed s (bar2Addr (getPort s h.val) offset) data.length then _ else _
    split
    · exact ⟨memory, counted, congrArg Stat.bump drops⟩
    · exact ⟨memory, counted, drops⟩

end Sys2Proof.Machine

/-! # The device record (18 R679, R685, R695; 16 R616) -/

namespace Sys2Proof.Machine

theorem recordFault_empty {r : FfRecord} (empty : r.latch.valid = false) (i : FfInfo) :
    (recordFault r none i).latch.valid = true ∧ (recordFault r none i).latch.info = i := by
  simp [recordFault, Latch.put, empty]

theorem recordFault_full {r : FfRecord} (full : r.latch.valid = true) (i : FfInfo) :
    (recordFault r none i).latch.valid = true ∧ (recordFault r none i).latch.info = r.latch.info := by
  simp [recordFault, Latch.put, full]

theorem recordFault_valid (r : FfRecord) (i : FfInfo) : (recordFault r none i).latch.valid = true := by
  cases before : r.latch.valid with
  | false => exact (recordFault_empty before i).1
  | true => exact (recordFault_full before i).1

section
variable {s : State}

theorem platformEvent_eq (kind data : Nat) : ∃ out, platformEvent s kind data = { s with out := out } := by
  unfold platformEvent
  split <;> exact ⟨_, rfl⟩

/-- What the report of a fault or an event touches: interrupts at the host ports and outputs (18 R695; 16 R616). -/
theorem recordDevice_eq (tie : Option (Nat × Nat)) (i : FfInfo) :
    ∃ hp out, recordDevice s tie i = { s with ff := recordFault s.ff tie i, hp := hp, out := out } := by
  have port (t : State) (h : Nat) (p : Port) : ∃ hp, setPort t h p = { t with hp := hp } := by
    unfold setPort
    split <;> exact ⟨_, rfl⟩
  unfold recordDevice
  dsimp only
  split
  · obtain ⟨hp, vector⟩ : ∃ hp, vecEvent { s with ff := recordFault s.ff tie i } s.hp.primary s.hp.devFaultVec 0 none =
        { s with ff := recordFault s.ff tie i, hp := hp } := port ..
    obtain ⟨out, platform⟩ := platformEvent_eq (s := emit { s with ff := recordFault s.ff tie i, hp := hp } (.console 32 i.code)) 1 i.code
    exact ⟨hp, out, by rw [vector, platform]; rfl⟩
  · exact ⟨s.hp, s.out, rfl⟩

theorem raiseDevice_eq (i : FfInfo) : ∃ j hp out, j.code = i.code ∧
    raiseDevice s i = { s with ff := recordFault s.ff none j, hp := hp, out := out } := by
  let j : FfInfo := { i with reaction := reactionOf s none i.code false, cls := classOfCode i.code, pcore := 0x1F, time := s.time.now }
  obtain ⟨hp, out, done⟩ := recordDevice_eq (s := s) none j
  exact ⟨j, hp, out, rfl, done⟩

end

end Sys2Proof.Machine

/-! # The time base (14 R556 to R569; 15 R602; 21 R754) -/

namespace Sys2Proof.Machine

/-! ## What the time base leaves of the units -/

/-- The cores, the clusters, the partitions and device memory. -/
def units (s : State) : SMap Core × SMap Cluster × SMap Part × Mem := (s.cores, s.clus, s.parts, s.dmMem)

section
variable {s : State}

/-- A fault of the time base is one in the device record, with its code and the index of its reference (14 R562, R566). -/
theorem timeFault_eq (code index : Nat) (detail : W64) : ∃ i hp out, i.code = code ∧ i.index = index ∧
    timeFault s code index detail = { s with ff := recordFault s.ff none i, hp := hp, out := out } := by
  obtain ⟨hp, out, done⟩ := recordDevice_eq (s := s) none
    { code := code, kind := 13, index := index, detail := detail, reaction := reactionOf s none code false, cls := classOfCode code, pcore := 0x1F, time := s.time.now }
  exact ⟨_, hp, out, rfl, rfl, done⟩

theorem settlePps_eq : ∃ pins out, settlePps s = { s with pins := pins, out := out } := by
  unfold settlePps
  extract_lets ended
  split
  · exact ⟨_, _, rfl⟩
  · exact ⟨s.pins, s.out, rfl⟩

/-- The time base of a counter that has become untrusted (14 R562). -/
def untrusted (t : TimeBlk) : TimeBlk := { t with trusted := false, goodSyncs := 0, untrustedSince := t.now.toNat, untrustCount := t.untrustCount.bump }

theorem untrustTime_eq (trusted : s.time.trusted = true) : ∃ i hp fab pins out, i.code = 0x0193 ∧
    untrustTime s = { s with time := untrusted s.time, ff := recordFault s.ff none i, hp := hp, fab := fab, pins := pins, out := out } := by
  obtain ⟨i, hp, out, code, -, fault⟩ := timeFault_eq
    (s := { s with time := untrusted s.time, fab := { s.fab with holdover := s.fab.holdover || s.fab.active } }) 0x0193 0 0
  obtain ⟨pins, out', settled⟩ := settlePps_eq (s := { s with
    time := untrusted s.time, fab := { s.fab with holdover := s.fab.holdover || s.fab.active }, ff := recordFault s.ff none i, hp := hp, out := out })
  refine ⟨i, hp, { s.fab with holdover := s.fab.holdover || s.fab.active }, pins, out', code, ?_⟩
  rw [untrustTime, trusted, Bool.not_true, if_neg Bool.false_ne_true]
  exact (congrArg settlePps fault).trans settled

theorem untrustTime_idle (untrusted : s.time.trusted = false) : untrustTime s = s := by simp [untrustTime, untrusted]

/-- Ports of the fabric changed one after the other. -/
theorem foldl_modFab_eq (l : List Nat) (change : Nat → FabPort → FabPort) : ∃ fab, l.foldl (fun a f => modFab a f (change f)) s = { s with fab := fab } := by
  induction l generalizing s with
  | nil => exact ⟨s.fab, rfl⟩
  | cons f rest ih =>
    obtain ⟨fab, done⟩ := ih (s := modFab s f (change f))
    exact ⟨fab, done⟩

theorem seedSessions_eq : ∃ fab, seedSessions s = { s with fab := fab } := foldl_modFab_eq _ _

theorem trustTime_eq (untrusted : s.time.trusted = false) :
    ∃ fab, trustTime s = { s with time := { s.time with trusted := true, everTrusted := true, standby := false }, fab := fab } := by
  rw [trustTime, untrusted, if_neg Bool.false_ne_true]
  exact seedSessions_eq

theorem trustTime_idle (trusted : s.time.trusted = true) : trustTime s = s := if_pos trusted

theorem trusted_trustTime : (trustTime s).time.trusted = true := by
  cases before : s.time.trusted with
  | true => rw [trustTime_idle before, before]
  | false =>
    obtain ⟨fab, done⟩ := trustTime_eq before
    rw [done]

theorem checkTrust_eq : ∃ fab, checkTrust s = { s with
    time := if mayTrust s.time && !s.time.trusted then { s.time with trusted := true, everTrusted := true, standby := false } else s.time, fab := fab } := by
  cases may : mayTrust s.time with
  | false => exact ⟨s.fab, by simp [checkTrust, may]⟩
  | true =>
    cases before : s.time.trusted with
    | true => exact ⟨s.fab, by simp [checkTrust, may, trustTime_idle before]⟩
    | false =>
      obtain ⟨fab, done⟩ := trustTime_eq before
      exact ⟨fab, by simp [checkTrust, may, done]⟩

/-- The counter becomes untrusted: counted, with fault 0x0193 (14 R562). -/
theorem untrustTime_untrusts (trusted : s.time.trusted = true) : (untrustTime s).time = untrusted s.time ∧
    (s.ff.latch.valid = false → (untrustTime s).ff.latch.valid = true ∧ (untrustTime s).ff.latch.info.code = 0x0193) := by
  obtain ⟨i, hp, fab, pins, out, code, done⟩ := untrustTime_eq trusted
  rw [done]
  refine ⟨rfl, fun empty => ?_⟩
  obtain ⟨valid, kept⟩ := recordFault_empty empty i
  exact ⟨valid, (congrArg FfInfo.code kept).trans code⟩

theorem trusted_untrustTime : (untrustTime s).time.trusted = false := by
  cases before : s.time.trusted with
  | true => rw [(untrustTime_untrusts before).1]; rfl
  | false => rw [untrustTime_idle before, before]

theorem timeFault_records (code index : Nat) (detail : W64) : let t := timeFault s code index detail
    t.ff.faults = s.ff.faults.bump ∧ t.ff.latch.valid = true ∧ (s.ff.latch.valid = false → t.ff.latch.info.code = code ∧ t.ff.latch.info.index = index) ∧
      (s.ff.latch.valid = true → t.ff.latch.info = s.ff.latch.info) := by
  obtain ⟨i, hp, out, hcode, hindex, done⟩ := timeFault_eq (s := s) code index detail
  simp only [done]
  refine ⟨rfl, recordFault_valid _ i, fun empty => ?_, fun full => (recordFault_full full i).2⟩
  rw [(recordFault_empty empty i).2]
  exact ⟨hcode, hindex⟩

/-! ## PTP_SYNC (14 R559 to R562) -/

/-- The state after the servo has taken the offset of a Sync: stepped or not, with the new ADJ. -/
def measured (s : State) (off : Int) : State :=
  modTime (useFree (if mayStep s off && Config.servoSteps s.free then stepTime s off else s)) (fun t => { t with
    offset := satOffset off
    adj := (Config.servoAdj s.free).val - 1717986
    lastSync := t.now.toNat
    goodSyncs := if off.natAbs ≤ 100 then t.goodSyncs + 1 else 0 })

/-- A time base after the servo, beside the counter and its steps: the measure of the Sync, and the conditions of trust as they were. -/
structure Measured (t u : TimeBlk) (off : Int) : Prop where
  offset : u.offset = satOffset off
  adj : -1717986 ≤ u.adj ∧ u.adj ≤ 1717986
  lastSync : u.lastSync = u.now.toNat
  goodSyncs : u.goodSyncs = if off.natAbs ≤ 100 then t.goodSyncs + 1 else 0
  trusted : u.trusted = t.trusted
  slave : u.slave = t.slave
  freeRun : u.freeRun = t.freeRun
  refclkLost : u.refclkLost = t.refclkLost
  untrustCount : u.untrustCount = t.untrustCount

/-- A counter is as it was, or stepped by the offset (14 R560). -/
def Stepped (t u : TimeBlk) (may : Bool) (off : Int) : Prop :=
  (u.now = t.now ∧ u.steps = t.steps ∧ u.lastStep = t.lastStep) ∨
    (may = true ∧ u.now = BitVec.ofInt 64 ((t.now.toNat : Int) - off) ∧ u.steps = t.steps.bump ∧ u.lastStep = -off)

theorem measured_measures (off : Int) : Measured s.time (measured s off).time off ∧ Stepped s.time (measured s off).time (mayStep s off) off := by
  have adj : -1717986 ≤ ((Config.servoAdj s.free).val : Int) - 1717986 ∧ ((Config.servoAdj s.free).val : Int) - 1717986 ≤ 1717986 := by omega
  unfold measured
  split
  · next steps => exact ⟨⟨rfl, adj, rfl, rfl, rfl, rfl, rfl, rfl, rfl⟩, .inr ⟨(Bool.and_eq_true_iff.1 steps).1, rfl, rfl, rfl⟩⟩
  · exact ⟨⟨rfl, adj, rfl, rfl, rfl, rfl, rfl, rfl, rfl⟩, .inl ⟨rfl, rfl, rfl⟩⟩

theorem measured_keeps (off : Int) : units (measured s off) = units s ∧ (measured s off).ff = s.ff := by
  unfold measured
  split <;> exact ⟨rfl, rfl⟩

theorem units_settlePps : units (settlePps s) = units s := by
  obtain ⟨pins, out, done⟩ := settlePps_eq (s := s)
  rw [done]; rfl

theorem ff_settlePps : (settlePps s).ff = s.ff := by
  obtain ⟨pins, out, done⟩ := settlePps_eq (s := s)
  rw [done]

theorem units_untrustTime : units (untrustTime s) = units s := by
  cases before : s.time.trusted with
  | false => rw [untrustTime_idle before]
  | true =>
    obtain ⟨i, hp, fab, pins, out, -, done⟩ := untrustTime_eq before
    rw [done]; rfl

theorem units_checkTrust : units (checkTrust s) = units s := by
  obtain ⟨fab, done⟩ := checkTrust_eq (s := s)
  rw [done]; rfl

theorem takeSyncMessage_eq (off : Int) : takeSyncMessage s off =
    settlePps (if s.time.trusted && decide (1000 < off.natAbs) then untrustTime (measured s off) else checkTrust (measured s off)) := by
  rw [← (measured_measures off).1.trusted]
  rfl

theorem units_takeSyncMessage (off : Int) : units (takeSyncMessage s off) = units s := by
  rw [takeSyncMessage_eq, units_settlePps]
  split
  · rw [units_untrustTime, (measured_keeps off).1]
  · rw [units_checkTrust, (measured_keeps off).1]

/-- A Sync beyond 1 µs at a trusted counter makes it untrusted (14 R562). -/
theorem takeSyncMessage_far {off : Int} (trusted : s.time.trusted = true) (far : 1000 < off.natAbs) :
    (takeSyncMessage s off).time = untrusted (measured s off).time ∧
      (s.ff.latch.valid = false → (takeSyncMessage s off).ff.latch.valid = true ∧ (takeSyncMessage s off).ff.latch.info.code = 0x0193) := by
  have untrusts := untrustTime_untrusts ((measured_measures off).1.trusted.trans trusted)
  rw [(measured_keeps off).2] at untrusts
  have cond : (s.time.trusted && decide (1000 < off.natAbs)) = true := by simp [trusted, far]
  rw [takeSyncMessage_eq, if_pos cond, settlePps_time, ff_settlePps]
  exact untrusts

/-- Any other Sync makes the counter trusted where its conditions hold (14 R561). -/
theorem takeSyncMessage_near {off : Int} (near : s.time.trusted = false ∨ off.natAbs ≤ 1000) : (takeSyncMessage s off).time =
    if mayTrust (measured s off).time && !s.time.trusted then { (measured s off).time with trusted := true, everTrusted := true, standby := false }
    else (measured s off).time := by
  have cond : ¬(s.time.trusted && decide (1000 < off.natAbs)) = true := by
    rcases near with untrusted | near
    · simp [untrusted]
    · simp [Nat.not_lt.2 near]
  obtain ⟨fab, done⟩ := checkTrust_eq (s := measured s off)
  rw [takeSyncMessage_eq, if_neg cond, settlePps_time, done, (measured_measures off).1.trusted]

/-- The servo's conditions of trust after a Sync on the port that holds the SlavePort role (14 R561). -/
theorem mayTrust_measured {off : Int} {f : Nat} (slave : s.time.slave = some f) (servo : s.time.freeRun = false) :
    mayTrust (measured s off).time = (!s.time.refclkLost && decide (off.natAbs ≤ 100 ∧ 7 ≤ s.time.goodSyncs)) := by
  have m := (measured_measures (s := s) off).1
  rw [mayTrust, m.slave, m.freeRun, m.refclkLost, m.goodSyncs, slave, servo]
  by_cases good : off.natAbs ≤ 100 <;> simp [good]

/-- A Sync on the port that holds the SlavePort role: its measure, and what it does to the trust (14 R559 to R562). -/
theorem takeSyncMessage_time {off : Int} {f : Nat} (slave : s.time.slave = some f) (servo : s.time.freeRun = false) :
    let t := (takeSyncMessage s off).time
    (1000 < off.natAbs → t.trusted = false ∧ t.untrustCount = if s.time.trusted then s.time.untrustCount.bump else s.time.untrustCount) ∧
    (off.natAbs ≤ 1000 → s.time.trusted = true → t.trusted = true) ∧
    (off.natAbs ≤ 100 → 7 ≤ s.time.goodSyncs → s.time.refclkLost = false → t.trusted = true ∧ t.everTrusted = true ∨ s.time.trusted = true) ∧
    (s.time.trusted = false → (100 < off.natAbs ∨ s.time.goodSyncs < 7 ∨ s.time.refclkLost = true) → t.trusted = false) := by
  have may := mayTrust_measured (off := off) slave servo
  have m := (measured_measures (s := s) off).1
  cases before : s.time.trusted with
  | true =>
    refine ⟨fun far => ?_, fun near _ => ?_, fun _ _ _ => .inr rfl, fun h => absurd h (by decide)⟩
    · rw [(takeSyncMessage_far before far).1]
      exact ⟨rfl, congrArg Stat.bump m.untrustCount⟩
    · simp only [takeSyncMessage_near (.inr near), before, Bool.not_true, Bool.and_false, Bool.false_eq_true, if_false]
      exact m.trusted.trans before
  | false =>
    have same := takeSyncMessage_near (s := s) (off := off) (.inl before)
    rw [before, Bool.not_false, Bool.and_true, may] at same
    have stays (bad : 100 < off.natAbs ∨ s.time.goodSyncs < 7 ∨ s.time.refclkLost = true) : (takeSyncMessage s off).time = (measured s off).time := by
      rw [same, if_neg]
      simp only [Bool.and_eq_true, Bool.not_eq_true', decide_eq_true_eq]
      rintro ⟨present, small, enough⟩
      rcases bad with large | few | lost
      · omega
      · omega
      · exact absurd (present.symm.trans lost) Bool.false_ne_true
    refine ⟨fun far => ?_, fun _ h => absurd h Bool.false_ne_true, fun small enough present => .inl ?_, fun _ bad => ?_⟩
    · rw [stays (.inl (by omega))]
      exact ⟨m.trusted.trans before, m.untrustCount⟩
    · rw [same, present, decide_eq_true ⟨small, enough⟩]
      exact ⟨rfl, rfl⟩
    · rw [stays bad]
      exact m.trusted.trans before

/-- The measure of a Sync stays through the judgement of the trust. -/
theorem takeSyncMessage_measure (off : Int) : let t := (takeSyncMessage s off).time
    t.offset = satOffset off ∧ -1717986 ≤ t.adj ∧ t.adj ≤ 1717986 ∧ t.lastSync = t.now.toNat ∧
      t.goodSyncs = (if off.natAbs ≤ 100 then s.time.goodSyncs + 1 else 0) ∧ Stepped s.time t (mayStep s off) off := by
  obtain ⟨m, stepped⟩ := measured_measures (s := s) off
  by_cases near : s.time.trusted = false ∨ off.natAbs ≤ 1000
  case neg =>
    obtain ⟨trusted, far⟩ := not_or.1 near
    have large : ¬ off.natAbs ≤ 100 := by omega
    rw [(takeSyncMessage_far (Bool.not_eq_false _ ▸ trusted) (Nat.not_le.1 far)).1, if_neg large]
    exact ⟨m.offset, m.adj.1, m.adj.2, m.lastSync, rfl, stepped⟩
  case pos =>
    rw [takeSyncMessage_near near]
    split <;> exact ⟨m.offset, m.adj.1, m.adj.2, m.lastSync, m.goodSyncs, stepped⟩

/-! ## The SlavePort role (14 R559, R562; 12 R500) -/

theorem getFab_foldl_modFab {l : List Nat} {change : Nat → FabPort → FabPort} (once : l.Nodup) (f : Nat) :
    getFab (l.foldl (fun a g => modFab a g (change g)) s) f = if f ∈ l then change f (getFab s f) else getFab s f := by
  induction l generalizing s with
  | nil => simp
  | cons g rest ih =>
    obtain ⟨fresh, once⟩ := List.nodup_cons.1 once
    rw [List.foldl_cons, ih once]
    by_cases same : f = g
    · subst same
      simp [fresh]
    · simp [same, getFab_modFab_other same]

theorem ports_untrustTime : (untrustTime s).fab.ports = s.fab.ports := by
  unfold untrustTime
  split
  · rfl
  · simp [timeFault, raiseDevice, modTime]

/-- A session counter seeded leaves the SlavePort role of its port. -/
theorem ptpSlave_checkTrust (f : Nat) : (getFab (checkTrust s) f).ptpSlave = (getFab s f).ptpSlave := by
  unfold checkTrust trustTime
  split
  · split
    · rfl
    · rw [seedSessions, getFab_foldl_modFab (change := fun _ x => if x.seeded then x else { x with seeded := true, session := _ }) (by decide)]
      split
      · split <;> rfl
      · rfl
  · rfl

theorem ptpSlave_markSlave (slave : Option Nat) (f : Fin 4) : (getFab (markSlave s slave) f.val).ptpSlave = (slave == some f.val) := by
  have port : f.val ∈ [0, 1, 2, 3] := by
    simp only [List.mem_cons, List.not_mem_nil, or_false]
    omega
  rw [markSlave, getFab_foldl_modFab (change := fun g x => { x with ptpSlave := slave == some g }) (by decide), if_pos port]

theorem ptpSlave_setSlave (slave : Option Nat) (f : Fin 4) : (getFab (setSlave s slave) f.val).ptpSlave = (slave == some f.val) := by
  simp only [setSlave]
  split
  · rw [getFab_congr ports_untrustTime, ptpSlave_markSlave]
  · rw [ptpSlave_checkTrust, ptpSlave_markSlave]

/-- Without a port that holds the role, and without FREE_RUN, the counter is not trusted. -/
theorem trusted_setSlave_none (servo : s.time.freeRun = false) (held : s.time.slave ≠ none) : (setSlave s none).time.trusted = false := by
  have lost : (Option.isNone (none : Option Nat) && !s.time.freeRun && s.time.slave.isSome) = true := by
    simp [servo, Option.isSome_iff_ne_none, held]
  simp only [setSlave, lost, if_true]
  exact trusted_untrustTime

/-! ## PTP_FRAME and SYNC_TIMEOUT (14 R559, R562; 12 R492) -/

theorem exec_ptpFrame_silent {f : Fin 4} (slave : Option (Fin 4)) (silent : (getFab s f.val).ptp = false ∨ (getFab s f.val).linkUp = false) :
    exec (.ptpFrame f slave) s = .next s := by
  refine Eq.trans (b := execPtpFrame f slave s) rfl ?_
  simp only [execPtpFrame]
  rw [if_pos (by simpa using silent)]

/-- The port with one frame more in its queue of PTP frames. -/
def queuedPtp (s : State) (f : Nat) : State := setFab s f { getFab s f with ptpQueue := (getFab s f).ptpQueue + 1 }

theorem exec_ptpFrame {f : Fin 4} (slave : Option (Fin 4)) (ptp : (getFab s f.val).ptp = true) (up : (getFab s f.val).linkUp = true) :
    exec (.ptpFrame f slave) s = match slave with
      | some g => if (getFab s g.val).ptp then .next (setSlave (queuedPtp s f.val) (some g.val)) else .next (queuedPtp s f.val)
      | none => .next (setSlave (queuedPtp s f.val) none) := by
  refine Eq.trans (b := execPtpFrame f slave s) rfl ?_
  simp only [execPtpFrame]
  rw [if_neg (by simp [ptp, up])]
  cases slave <;> rfl

theorem exec_syncTimeout : exec .syncTimeout s =
    if !s.time.trusted ∨ s.time.freeRun ∨ s.time.slave.isNone ∨ s.time.since s.time.lastSync < 1000000 * s.time.syncTimeout then .next s
    else .next (untrustTime s) := rfl

/-! ## Reference clocks (14 R561, R562, R565 to R567; 15 R602) -/

/-- The state without REFCLK, every generator holding over (14 R566). -/
def withoutRefclk (s : State) : State := holdOver (modTime s (fun t => { t with refclkLost := true }))

theorem exec_referenceLoss_refclk (present : s.time.refclkLost = false) : exec (.referenceLoss .refclk) s =
    .next (untrustTime (timeFault (withoutRefclk s) 0x0190 0 0)) := by
  refine Eq.trans (b := execReferenceLoss .refclk s) rfl ?_
  simp only [execReferenceLoss, present, Bool.false_eq_true, if_false]
  rfl

/-- Clusters changed one after the other. -/
theorem foldl_modClus_eq (l : List Nat) (change : Nat → Cluster → Cluster) : ∃ clus, l.foldl (fun a c => modClus a c (change c)) s = { s with clus := clus } := by
  induction l generalizing s with
  | nil => exact ⟨s.clus, rfl⟩
  | cons c rest ih =>
    obtain ⟨clus, done⟩ := ih (s := modClus s c (change c))
    exact ⟨clus, done⟩

theorem withoutRefclk_eq : ∃ clus, withoutRefclk s = { s with time := { s.time with refclkLost := true }, clus := clus } :=
  foldl_modClus_eq (s := modTime s (fun t => { t with refclkLost := true })) _ _

theorem holdover_withoutRefclk {c : Nat} (h : c < 32) : (getClus (withoutRefclk s) c).holdover = true := by
  rw [withoutRefclk, holdOver, getClus_foldl_modClus (f := fun _ x => { x with holdover := true }) List.nodup_range, if_pos (List.mem_range.2 h)]

theorem refclkLost_untrustTime : (untrustTime s).time.refclkLost = s.time.refclkLost := by
  cases before : s.time.trusted with
  | true => rw [(untrustTime_untrusts before).1]; rfl
  | false => rw [untrustTime_idle before]

theorem refclkLost_trustTime : (trustTime s).time.refclkLost = s.time.refclkLost := by
  cases before : s.time.trusted with
  | true => rw [trustTime_idle before]
  | false =>
    obtain ⟨fab, done⟩ := trustTime_eq before
    rw [done]

/-- A fault already in the device record stays its first. -/
theorem latch_untrustTime (full : s.ff.latch.valid = true) :
    (untrustTime s).ff.latch.valid = true ∧ (untrustTime s).ff.latch.info = s.ff.latch.info := by
  cases before : s.time.trusted with
  | true =>
    obtain ⟨i, hp, fab, pins, out, -, done⟩ := untrustTime_eq before
    rw [done]
    exact recordFault_full full i
  | false => rw [untrustTime_idle before]; exact ⟨full, rfl⟩

theorem clus_untrustTime : (untrustTime s).clus = s.clus := congrArg (fun u => u.2.1) units_untrustTime

theorem timeFault_keeps (code index : Nat) (detail : W64) :
    (timeFault s code index detail).time = s.time ∧ (timeFault s code index detail).clus = s.clus := by
  obtain ⟨i, hp, out, -, -, fault⟩ := timeFault_eq (s := s) code index detail
  rw [fault]
  exact ⟨rfl, rfl⟩

/-- REFCLK is lost: its fault is the first of the two, and the counter is not trusted. -/
theorem refclkLoss_parts : let t := untrustTime (timeFault (withoutRefclk s) 0x0190 0 0)
    t.time.refclkLost = true ∧ t.time.trusted = false ∧ (∀ c, c < 32 → (getClus t c).holdover = true) ∧
      (s.ff.latch.valid = false → t.ff.latch.valid = true ∧ t.ff.latch.info.code = 0x0190) := by
  obtain ⟨clus, gone⟩ := withoutRefclk_eq (s := s)
  obtain ⟨time, clusters⟩ := timeFault_keeps (s := withoutRefclk s) 0x0190 0 0
  obtain ⟨-, valid, first, -⟩ := timeFault_records (s := withoutRefclk s) 0x0190 0 0
  have lost : (withoutRefclk s).time.refclkLost = true := by rw [gone]
  have record : (withoutRefclk s).ff = s.ff := by rw [gone]
  rw [record] at first
  generalize timeFault (withoutRefclk s) 0x0190 0 0 = a at time clusters valid first
  refine ⟨?_, trusted_untrustTime, fun c h => ?_, fun empty => ?_⟩
  · rw [refclkLost_untrustTime, time, lost]
  · have cluster : getClus (untrustTime a) c = getClus (withoutRefclk s) c :=
      congrArg (mget ({} : Cluster) · c) (clus_untrustTime.trans clusters)
    rw [cluster, holdover_withoutRefclk h]
  · obtain ⟨stays, same⟩ := latch_untrustTime valid
    exact ⟨stays, (congrArg FfInfo.code same).trans (first empty).1⟩

/-- The page requests of partitions are not kept at the port. -/
theorem getPort_recallPri (h : Nat) : getPort (recallPri s h) h = getPort s h := by
  have ports : (recallPri s h).hp = s.hp := foldl_keeps (g := State.hp) _ _ fun t p => by
    split <;> rfl
  rw [getPort, getPort, ports]

/-- The port of a lost reference has no link, and holds. -/
theorem getPort_loseHostRef (h : Nat) : (getPort (loseHostRef s h) h).refLost = true ∧ (getPort (loseHostRef s h) h).linkUp = false ∧
    (getPort (loseHostRef s h) h).hold = true := by
  have lost : (getPort (recallPri (modPort s h (fun p => { p with refLost := true })) h) h).refLost = true := by
    rw [getPort_recallPri, getPort_modPort_same]
  rw [loseHostRef, startHold, getPort_modPort_same]
  refine ⟨?_, ?_, ?_⟩
  · split <;> exact lost
  · split <;> rfl
  · split
    · next holds => exact holds
    · rfl

/-! ## The time pins (14 R568, R569; 21 R754) -/

/-- PPS_OUT may be driven: the main side runs, PPS_EN is set, and DRIFT is below 1 µs. -/
def PpsDriven (s : State) : Prop := s.brz.mainRuns = true ∧ s.time.ppsEn = true ∧ drift s.time < 1000
/-- The counter is at a whole second for which the pin has not risen. -/
def PpsWhole (s : State) : Prop :=
  (s.time.now.toNat % 1000000000 ≤ 10 ∨ 999999990 ≤ s.time.now.toNat % 1000000000) ∧ ∀ t, s.pins.pps = some t → 20 < s.time.since t
/-- The pulse under way has not lasted its 100 µs. -/
def PpsLasts (s : State) : Prop := ∃ t, s.pins.pps = some t ∧ s.time.since t < 100000

theorem ppsDue_iff : ppsDue s = true ↔ PpsDriven s ∧ PpsWhole s := by
  unfold ppsDue PpsDriven PpsWhole nowNs
  cases s.pins.pps <;> simp [and_assoc]

theorem ppsEnded_iff : ((match s.pins.pps with | some t => decide (100000 ≤ s.time.since t) | none => true) || !s.time.ppsEn ||
    decide (1000 ≤ drift s.time) || !s.brz.mainRuns) = true ↔ ¬(PpsDriven s ∧ PpsLasts s) := by
  unfold PpsDriven PpsLasts
  cases s.pins.pps with
  | none => simp
  | some t =>
    simp only [Bool.or_eq_true, decide_eq_true_eq, Bool.not_eq_true', Option.some.injEq, exists_eq_left', ← Bool.not_eq_true, ← Nat.not_lt]
    tauto

theorem settlePps_falls (high : s.pins.ppsHigh = true) (ended : ¬(PpsDriven s ∧ PpsLasts s)) :
    settlePps s = emit { s with pins := { s.pins with ppsHigh := false } } (.pin 0 false) := by
  simp only [settlePps, high, Bool.true_and]
  exact if_pos (ppsEnded_iff.2 ended)

theorem settlePps_stays (h : s.pins.ppsHigh = false ∨ (PpsDriven s ∧ PpsLasts s)) : settlePps s = s := by
  rcases h with low | runs
  · simp [settlePps, low]
  · simp only [settlePps]
    rw [if_neg]
    intro falls
    exact ppsEnded_iff.1 (Bool.and_eq_true_iff.1 falls).2 runs

theorem exec_ppsOut : exec .ppsOut s =
    if ppsDue s then .next (emit { s with pins := { s.pins with ppsHigh := true, pps := some (nowNs s) } } (.pin 0 true))
    else .next (settlePps s) := rfl

theorem exec_timeCapture_far (far : ∀ e, s.time.lastEdge = some e → 1000 ≤ s.time.since e) : exec .timeCapture s =
    .next { s with time := { s.time with capture := s.time.now, captureSeq := s.time.captureSeq + 1, lastEdge := some s.time.now.toNat } } := by
  refine Eq.trans (b := execTimeCapture s) rfl ?_
  simp only [execTimeCapture]
  rw [if_neg]
  · rfl
  · split
    · next e edge => simpa using far e edge
    · simp

theorem exec_timeCapture_near {e : Nat} (edge : s.time.lastEdge = some e) (near : s.time.since e < 1000) : exec .timeCapture s = .next s := by
  refine Eq.trans (b := execTimeCapture s) rfl ?_
  simp only [execTimeCapture, edge, near, decide_true, if_true]

theorem exec_ptpSync_servo (f : Fin 4) (offset : BitVec 64) (slave : s.time.slave = some f.val) (servo : s.time.freeRun = false) :
    exec (.ptpSync f offset) s = .next (takeSyncMessage s offset.toInt) := by
  refine Eq.trans (b := execPtpSync f offset s) rfl ?_
  rw [execPtpSync, if_neg (by simp [slave, servo])]

end

/-- Settles O46: a Sync through the servo and the judgement of the trust, a reference through its fault, a pin by whether it may be driven. -/
theorem timeRows : Obligations.TimeRows := by
  refine ⟨fun s => ⟨fun f offset => ⟨fun idle => ?_, fun slave servo => ⟨_, exec_ptpSync_servo f offset slave servo, ?_⟩⟩,
    fun f slave => ⟨fun silent => exec_ptpFrame_silent slave silent, fun ptp up => ⟨fun isNone => ?_, fun g isSome role => ?_, fun g isSome other => ?_⟩⟩,
    fun a slave => ⟨slave_setSlave slave, ptpSlave_setSlave slave, ?_⟩,
    fun idle => ?_, fun trusted servo held due => ?_, fun a trusted => ?_, fun a => timeFault_records,
    fun lost => if_pos lost, fun present => ⟨exec_referenceLoss_refclk present, refclkLoss_parts⟩,
    fun lost => if_pos lost, fun present => ⟨if_neg (by simp [present]), getPort_loseHostRef 0⟩,
    fun lost => if_pos lost, fun present => ⟨if_neg (by simp [present]), getPort_loseHostRef 1⟩,
    fun lost => if_pos lost, fun present => if_neg (by simp [present]),
    fun present => if_pos (by simp [present]), fun lost => ⟨fun may => ⟨?_, trusted_trustTime, ?_⟩, fun may => ?_⟩, rfl, rfl, rfl⟩,
    fun s => ⟨fun driven whole => ?_, fun no high ended => ?_, fun no stays => ?_, exec_timeCapture_far, fun e edge near => exec_timeCapture_near edge near⟩⟩
  · refine Eq.trans (b := execPtpSync f offset s) rfl (if_pos ?_)
    exact idle
  · obtain ⟨offsets, low, high, last, good, stepped⟩ := takeSyncMessage_measure (s := s) offset.toInt
    obtain ⟨far, near, eighth, early⟩ := takeSyncMessage_time (off := offset.toInt) slave servo
    have kept := units_takeSyncMessage (s := s) offset.toInt
    exact ⟨offsets, low, high, last, good, stepped, far, fun large trusted => (takeSyncMessage_far trusted large).2, near, eighth, early,
      congrArg (fun u => u.1) kept, congrArg (fun u => u.2.1) kept, congrArg (fun u => u.2.2.1) kept, congrArg (fun u => u.2.2.2) kept⟩
  · rw [exec_ptpFrame slave ptp up, isNone]
    rfl
  · rw [exec_ptpFrame slave ptp up, isSome]
    exact if_pos role
  · rw [exec_ptpFrame slave ptp up, isSome]
    exact if_neg (by simp [other])
  · rintro rfl servo held
    exact trusted_setSlave_none servo held
  · rw [exec_syncTimeout, if_pos (by simpa using idle)]
  · rw [exec_syncTimeout, if_neg (by simp [trusted, servo, held, Nat.not_lt.2 due])]
  · obtain ⟨time, record⟩ := untrustTime_untrusts trusted
    simp only [time]
    exact ⟨rfl, rfl, rfl, rfl, record⟩
  · refine Eq.trans (b := execReferenceRestore .refclk s) rfl ?_
    simp only [execReferenceRestore, lost, Bool.not_true, Bool.false_eq_true, if_false, checkTrust]
    rw [if_pos may]
  · exact refclkLost_trustTime
  · refine Eq.trans (b := execReferenceRestore .refclk s) rfl ?_
    simp only [execReferenceRestore, lost, Bool.not_true, Bool.false_eq_true, if_false, checkTrust]
    rw [if_neg (by simp [may])]
  · rw [exec_ppsOut, if_pos (ppsDue_iff.2 ⟨driven, whole⟩)]
    rfl
  · rw [exec_ppsOut, if_neg (fun due => no (ppsDue_iff.1 due)), settlePps_falls high ended]
  · rw [exec_ppsOut, if_neg (fun due => no (ppsDue_iff.1 due)), settlePps_stays stays]

end Sys2Proof.Machine

/-! # The TAP (16 R626; 21 R757 to R761) -/

namespace Sys2Proof.Machine

section
variable {s : State}

/-! ## TRST_N and the pins -/

theorem tapCmd_held (act : State → State) (h : s.tap.held = true) : tapCmd act s = .next s := if_pos h

theorem tapCmd_free (act : State → State) (h : s.tap.held = false) : tapCmd act s = .next (act s) := by
  simp [tapCmd, h]

/-- With the main side down an instruction that acts on the pins comes into force with what it drives. -/
theorem tapPins_down (i : TapInstr) (pins : Tap → Tap) (h : s.brz.mainUp = false) :
    tapPins i pins s = modTap (loadTap s i) pins := by
  simp [tapPins, h]

/-- While MAIN_UP is set it is refused: BYPASS is selected, and the instruction register captures 0b000001. -/
theorem tapPins_up (i : TapInstr) (pins : Tap → Tap) (h : s.brz.mainUp = true) :
    tapPins i pins s = modTap (loadTap s .bypass) (fun t => { t with captured := 1 }) := if_pos h

/-! ## The public instructions -/

theorem exec_bypass : exec .bypass s = tapCmd (fun t => emit (loadTap t .bypass) (.tdo 1 0)) s := rfl
theorem exec_idcode : exec .idcode s = tapCmd (fun t => emit (loadTap t .idcode) (.tdo 32 (idcodeValue t.b0))) s := rfl
theorem exec_samplePreload (p : Nat) (l : Option Nat) : exec (.samplePreload p l) s =
    tapCmd (fun t => emit (modTap (loadTap t .samplePreload) (fun x => { x with boundary := l.getD p })) (.tdo 0 p)) s := rfl
theorem exec_extest : exec .extest s = tapCmd (tapPins .extest (fun x => { x with driven := some x.boundary })) s := rfl
theorem exec_clamp : exec .clamp s = tapCmd (tapPins .clamp (fun x => { x with driven := some x.boundary })) s := rfl
theorem exec_highz : exec .highz s = tapCmd (tapPins .highz (fun x => { x with highz := true })) s := rfl

/-! ## The challenge state -/

theorem enterChallenge_same {c : BitVec 6} (h : s.tap.instr = .challenge c) : enterChallenge s c = s := if_pos h

theorem enterChallenge_new {c : BitVec 6} (h : s.tap.instr ≠ .challenge c) :
    enterChallenge s c = emit (modTap (loadTap s (.challenge c)) (fun x => { x with challenge := Config.tapChallenge s.free }))
      (.tdo 0 (Config.tapChallenge s.free)) := if_neg h

/-- What a response opens: the TAP of the state, unlocked where it already was or where the response verifies. -/
def answered (s : State) (r : Option (List Byte)) : State :=
  modTap s (fun x => { x with unlocked := x.unlocked || (match r with | some r => Config.testVerifies x.challenge r | none => false) })

theorem answered_none : answered s none = s := by
  simp only [answered, modTap, Bool.or_false]

theorem answered_locked {r : List Byte} (locked : s.tap.unlocked = false)
    (fails : Config.testVerifies s.tap.challenge r = false) : answered s (some r) = s := by
  have same : ({ s.tap with unlocked := s.tap.unlocked || Config.testVerifies s.tap.challenge r } : Tap) = s.tap := by
    rw [locked, fails, Bool.or_false, ← locked]
  exact congrArg (fun t => { s with tap := t }) same

theorem answered_open {r : List Byte} (opens : s.tap.unlocked = true ∨ Config.testVerifies s.tap.challenge r = true) :
    answered s (some r) = { s with tap := { s.tap with unlocked := true } } := by
  have verdict : (s.tap.unlocked || Config.testVerifies s.tap.challenge r) = true := by simpa using opens
  simp only [answered, modTap, verdict]

/-- The write that an instruction of the challenge state carries: accepted for a record of Dalard's while unlocked. -/
def jtagWrite (s : State) (w : Option (BitVec 4 × List Byte)) : State :=
  match w with
  | some (n, data) =>
    if s.tap.unlocked && jtagRecord n.toNat data.length then
      queueWrite s { rtype := n.toNat, body := .payload (.bytes data.length (bytesNat data)), retries := 0, reply := none } else s
  | none => s

theorem jtagWrite_locked (w : Option (BitVec 4 × List Byte)) (locked : s.tap.unlocked = false) : jtagWrite s w = s := by
  cases w with
  | none => rfl
  | some p => simp [jtagWrite, locked]

theorem exec_privateInstruction (c : BitVec 6) (r : Option (List Byte)) (w : Option (BitVec 4 × List Byte)) :
    exec (.privateInstruction c r w) s = tapCmd (fun t => jtagWrite (answered (enterChallenge t c) r) w) s := by
  refine Eq.trans (b := execPrivateInstruction c r w s) rfl ?_
  simp only [execPrivateInstruction]
  cases w <;> rfl

theorem exec_private_free (free : s.tap.held = false) (c : BitVec 6) (r : Option (List Byte)) (w : Option (BitVec 4 × List Byte)) :
    exec (.privateInstruction c r w) s = .next (jtagWrite (answered (enterChallenge s c) r) w) := by
  rw [exec_privateInstruction, tapCmd_free _ free]

end

/-- The identification code of either revision bit (21 R760). -/
theorem idcodeValue_eq (b : Bool) : idcodeValue b = if b then 0x18864FDD else 0x08864FDD := by
  cases b <;> decide

/-- Settles O60: TRST_N decides first; then each public instruction by MAIN_UP, and one of the challenge state by its challenge and response. -/
theorem tapRows : Obligations.TapRows := by
  intro s
  rw [exec_bypass, exec_idcode, exec_extest, exec_clamp, exec_highz]
  refine ⟨fun held => ?_, fun free => ?_, fun _ => rfl⟩
  · refine ⟨tapCmd_held _ held, tapCmd_held _ held, fun p l => ?_, tapCmd_held _ held,
      tapCmd_held _ held, tapCmd_held _ held, fun c v w => ?_⟩
    · rw [exec_samplePreload, tapCmd_held _ held]
    · rw [exec_privateInstruction, tapCmd_held _ held]
  rw [tapCmd_free _ free, tapCmd_free _ free, tapCmd_free _ free, tapCmd_free _ free, tapCmd_free _ free, idcodeValue_eq]
  refine ⟨rfl, rfl, fun p l => ?_, fun down => ?_, fun down => ?_, fun down => ?_,
    fun up i hi => ?_, fun c w => ⟨fun other => ?_, fun same => enterChallenge_same same, fun locked => ?_,
      fun r locked fails => ?_, fun r opens => ⟨?_, fun n data => ?_⟩⟩⟩
  · rw [exec_samplePreload, tapCmd_free _ free]
    exact ⟨_, rfl, rfl, rfl⟩
  · rw [tapPins_down _ _ down]
    exact ⟨_, rfl, rfl, rfl⟩
  · rw [tapPins_down _ _ down]
    exact ⟨_, rfl, rfl, rfl⟩
  · rw [tapPins_down _ _ down]
    exact ⟨_, rfl, rfl, rfl⟩
  · simp only [List.mem_cons, List.not_mem_nil, or_false] at hi
    refine ⟨modTap (loadTap s .bypass) (fun t => { t with captured := 1 }), ?_, rfl, rfl, rfl, rfl⟩
    rcases hi with rfl | rfl | rfl
    · rw [exec_extest, tapCmd_free _ free, tapPins_up _ _ up]
    · rw [exec_clamp, tapCmd_free _ free, tapPins_up _ _ up]
    · rw [exec_highz, tapCmd_free _ free, tapPins_up _ _ up]
  · rw [enterChallenge_new other]
    exact ⟨rfl, rfl, rfl, rfl⟩
  · rw [exec_private_free free, answered_none, jtagWrite_locked w locked]
  · rw [exec_private_free free, answered_locked locked fails, jtagWrite_locked w locked]
  · rw [exec_private_free free, answered_open opens]
    rfl
  · rw [exec_private_free free, answered_open opens]
    simp only [jtagWrite, Bool.true_and]

end Sys2Proof.Machine

/-! # The SPDM requests (16 R615, R636, R643 to R645) -/

namespace Sys2Proof.Machine

section
variable {s : State} {conn : Nat}

/-- A connection whose transport answers is not asked to retry: its port is open. -/
theorem not_retries_of_connUp (up : connUp s conn = true) : ¬ (conn ≠ 0 ∧ retries s (conn - 1) = true) := by
  rintro ⟨doe, retry⟩
  simp only [connUp, Bool.and_eq_true, Bool.or_eq_true, beq_iff_eq, doe, false_or] at up
  simp [retries, up.2.1] at retry

variable (up : connUp s conn = true) (boots : s.brz.code ≠ 0x0101) (verified : s.brz.code ≠ 0x0102)
include up boots verified

/-- From its step of the negotiation on, a request is served. -/
theorem spdmReq_served (code : Nat) {need : Nat} (act : State → State) (ready : need ≤ (getConn s conn).negotiated) :
    spdmReq conn code need act s = .next (act s) := by
  rw [spdmReq, if_neg (not_retries_of_connUp up), up, Bool.not_true, if_neg Bool.false_ne_true, if_neg (not_or_intro boots verified), if_neg (Nat.not_lt.2 ready)]

/-- Before that step it is unexpected. -/
theorem spdmReq_early (code : Nat) {need : Nat} (act : State → State) (early : (getConn s conn).negotiated < need) :
    spdmReq conn code need act s = .next (spdmError s conn code spdmUnexpected) := by
  rw [spdmReq, if_neg (not_retries_of_connUp up), up, Bool.not_true, if_neg Bool.false_ne_true, if_neg (not_or_intro boots verified), if_pos early]

end

/-- A request for one measurement names its block. -/
theorem measureBlocks_single (s : State) {i : Nat} (h : i ∈ measureIndices) : measureBlocks s i = some [i, measuredDigest s i] := by
  have notCount : i ≠ 0 := by rintro rfl; exact absurd h (by decide)
  have notAll : i ≠ 0xFF := by rintro rfl; exact absurd h (by decide)
  rw [measureBlocks, if_neg notCount, if_neg notAll, if_pos (by simpa using h)]

section
variable {s : State} {conn : Fin 3} (up : connUp s conn.val = true) (boots : s.brz.code ≠ 0x0101) (verified : s.brz.code ≠ 0x0102)
include up boots verified

theorem exec_getVersion :
    exec (.getVersion conn) s = .next (emit (setConn s conn.val { negotiated := 1 }) (.answer (connVia s conn.val) (spdmCmd 0x84) 0 [0x12])) := by
  refine Eq.trans (b := execGetVersion conn s) rfl (spdmReq_served up boots verified _ _ (Nat.zero_le _))

theorem exec_getCapabilities (ready : 1 ≤ (getConn s conn.val).negotiated) :
    exec (.getCapabilities conn) s = .next (freeAnswer (setConn s conn.val { getConn s conn.val with negotiated := max 2 (getConn s conn.val).negotiated })
      (connVia s conn.val) (spdmCmd 0xE1) [0x23F6]) := by
  refine Eq.trans (b := execGetCapabilities conn s) rfl (spdmReq_served up boots verified _ _ ready)

theorem exec_negotiateAlgorithms (ready : 2 ≤ (getConn s conn.val).negotiated) (o : SpdmOffer) :
    exec (.negotiateAlgorithms conn o) s = .next (if o.ed448 && o.sha3_512 && o.secp384r1 && o.aes256Gcm then
      freeAnswer (setConn s conn.val { getConn s conn.val with negotiated := 3 }) (connVia s conn.val) (spdmCmd 0xE3) [1, 1, 0x800, 0x20, 0x10, 2]
      else spdmError s conn.val 0xE3 spdmInvalid) := by
  refine Eq.trans (b := execNegotiateAlgorithms conn o s) rfl (spdmReq_served up boots verified _ _ ready)

section
variable (early : (getConn s conn.val).negotiated < 3)
include early

theorem exec_getDigests_early : exec (.getDigests conn) s = .next (spdmError s conn.val 0x81 spdmUnexpected) := by
  refine Eq.trans (b := execGetDigests conn s) rfl (spdmReq_early up boots verified _ _ early)

theorem exec_keyExchange_early : exec (.keyExchange conn) s = .next (spdmError s conn.val 0xE4 spdmUnexpected) := by
  refine Eq.trans (b := execKeyExchange conn s) rfl (spdmReq_early up boots verified _ _ early)

end

section
variable (ready : 3 ≤ (getConn s conn.val).negotiated)
include ready

theorem exec_getDigests : exec (.getDigests conn) s = .next (freeAnswer s (connVia s conn.val) (spdmCmd 0x81) [1]) := by
  refine Eq.trans (b := execGetDigests conn s) rfl (spdmReq_served up boots verified _ _ ready)

theorem exec_getCertificate : exec (.getCertificate conn 0) s = .next (freeAnswer s (connVia s conn.val) (spdmCmd 0x82) [0, certData s]) := by
  refine Eq.trans (b := execGetCertificate conn 0 s) rfl (spdmReq_served up boots verified _ _ ready)

theorem exec_challenge (nonce : BitVec 256) :
    exec (.challenge conn 0 nonce) s = .next (freeAnswer s (connVia s conn.val) (spdmCmd 0x83) [0, nonce.toNat]) := by
  refine Eq.trans (b := execChallenge conn 0 nonce s) rfl (spdmReq_served up boots verified _ _ ready)

theorem exec_getMeasurements (i : Byte) (nonce : BitVec 256) (h : i.toNat ∈ measureIndices) : exec (.getMeasurements conn i nonce) s =
    .next (freeAnswer s (connVia s conn.val) (spdmCmd 0xE0) [i.toNat, measuredDigest s i.toNat, nonce.toNat]) := by
  refine Eq.trans (b := execGetMeasurements conn i nonce s) rfl ((spdmReq_served up boots verified _ _ ready).trans ?_)
  simp only [measureBlocks_single s h]
  rfl

theorem exec_keyExchange : exec (.keyExchange conn) s =
    .next (freeAnswer (setConn s conn.val { getConn s conn.val with handshake := true, session := false, root := none }) (connVia s conn.val) (spdmCmd 0xE4) []) := by
  refine Eq.trans (b := execKeyExchange conn s) rfl (spdmReq_served up boots verified _ _ ready)

theorem exec_finish (shaking : (getConn s conn.val).handshake = true) (checks : Bool) (root : Option Nat) : exec (.finish conn checks root) s =
    .next (if checks then freeAnswer (setConn s conn.val { getConn s conn.val with handshake := false, session := true, root := root })
        (connVia s conn.val) (spdmCmd 0xE5) []
      else spdmError (setConn s conn.val { getConn s conn.val with handshake := false }) conn.val 0xE5 spdmInvalid) := by
  refine Eq.trans (b := execFinish conn checks root s) rfl ((spdmReq_served up boots verified _ _ ready).trans ?_)
  simp only [shaking]
  cases checks <;> rfl

section
variable (inSession : (getConn s conn.val).session = true)
include inSession

theorem exec_endSession : exec (.endSession conn) s =
    .next (freeAnswer (setConn s conn.val { getConn s conn.val with session := false, root := none }) (connVia s conn.val) (spdmCmd 0xEC) []) := by
  refine Eq.trans (b := execEndSession conn s) rfl ((spdmReq_served up boots verified _ _ ready).trans ?_)
  simp only [inSession, if_true]

theorem exec_heartbeat : exec (.heartbeat conn) s = .next (freeAnswer s (connVia s conn.val) (spdmCmd 0xE8) []) := by
  refine Eq.trans (b := execHeartbeat conn s) rfl ((spdmReq_served up boots verified _ _ ready).trans ?_)
  simp only [inSession, if_true]

end

end

end

/-- Settles O58: each request is served from its step of the negotiation on, and unexpected before it. -/
theorem spdmRows : Obligations.SpdmRows := fun _ _ up boots verified =>
  ⟨exec_getVersion up boots verified, exec_getCapabilities up boots verified, exec_negotiateAlgorithms up boots verified,
    fun early => ⟨exec_getDigests_early up boots verified early, exec_keyExchange_early up boots verified early⟩,
    fun ready => ⟨exec_getDigests up boots verified ready, exec_getCertificate up boots verified ready,
      exec_challenge up boots verified ready, exec_getMeasurements up boots verified ready, exec_keyExchange up boots verified ready,
      fun shaking root => ⟨exec_finish up boots verified ready shaking true root, exec_finish up boots verified ready shaking false root⟩,
      fun inSession => ⟨exec_endSession up boots verified ready inSession, exec_heartbeat up boots verified ready inSession⟩⟩⟩

end Sys2Proof.Machine

/-! # Writes of flash records (16 R622 to R625, R649; 18 R700) -/

namespace Sys2Proof.Machine

/-! ## The record in force while another copy is written (16 R620 to R622) -/

@[simp] theorem mget_mdel_same (d : α) (m : SMap α) (k : Nat) : mget d (mdel m k) k = d := by
  induction m with
  | nil => rfl
  | cons e r ih =>
    obtain ⟨i, v⟩ := e
    by_cases same : i = k
    · simpa [mdel, same] using ih
    · simpa [mdel, mget, same] using ih

theorem mget_mdel_other (d : α) (m : SMap α) {k j : Nat} (h : j ≠ k) : mget d (mdel m k) j = mget d m j := by
  induction m with
  | nil => rfl
  | cons e r ih =>
    obtain ⟨i, v⟩ := e
    by_cases same : i = k
    · simpa [mdel, mget, same, Ne.symm h] using ih
    · by_cases here : i = j
      · simp [mdel, mget, here, h]
      · simpa [mdel, mget, same, here] using ih

/-- A table whose entries are wrapped reads as the table, wrapped. -/
theorem map_mset (f : α → β) (m : SMap α) (k : Nat) (v : α) :
    (mset m k v).map (fun e => (e.1, f e.2)) = mset (m.map (fun e => (e.1, f e.2))) k (f v) := by
  induction m with
  | nil => rfl
  | cons e r ih =>
    obtain ⟨i, w⟩ := e
    by_cases before : k < i
    · simp [mset, before]
    · by_cases same : i = k
      · simp [mset, same]
      · simp [mset, before, same, ih]

theorem map_mdel (f : α → β) (m : SMap α) (k : Nat) :
    (mdel m k).map (fun e => (e.1, f e.2)) = mdel (m.map (fun e => (e.1, f e.2))) k := by
  simp [mdel, List.filter_map, Function.comp_def]

/-- A copy whose COMMIT is still erased is not valid. -/
theorem programmed_not_valid (t : Nat) (seq : BitVec 32) (v : FlashPayload) : copyValid t (programmed t seq v) = false := by
  have erased : ((programmed t seq v).commit == commitWord) = false := (rfl : (BitVec.allOnes 32 == commitWord) = false)
  simp [copyValid, erased]

/-- The record in force depends on the valid copies of its two banks only (16 R621). -/
theorem recordInForce_congr {b c : Breeze} {t : Nat} (h0 : validCopy c t 0 = validCopy b t 0) (h1 : validCopy c t 1 = validCopy b t 1) :
    recordInForce c t = recordInForce b t := by
  unfold recordInForce bankInForce
  rw [h0, h1]
  split
  · split <;> simp [h0, h1]
  · simp [h0]
  · simp [h1]
  · rfl

/-- Without a valid copy at its spare location, a record in force stays where the other location stays (16 R622). -/
theorem recordInForce_withoutSpare {b c : Breeze} {t : Nat} (gone : validCopy c t (spareBank b t) = none)
    (kept : validCopy c t (1 - spareBank b t) = validCopy b t (1 - spareBank b t)) : recordInForce c t = recordInForce b t := by
  cases first : validCopy b t 0 with
  | none =>
    have spare : spareBank b t = 0 := by
      unfold spareBank bankInForce
      rw [first]
      cases validCopy b t 1 <;> rfl
    rw [spare] at gone kept
    exact recordInForce_congr (gone.trans first.symm) kept
  | some x =>
    cases second : validCopy b t 1 with
    | none =>
      have spare : spareBank b t = 1 := by simp [spareBank, bankInForce, first, second]
      rw [spare] at gone kept
      exact recordInForce_congr kept (gone.trans second.symm)
    | some y =>
      cases newer : newerSeq y.seq x.seq with
      | true =>
        have spare : spareBank b t = 0 := by simp [spareBank, bankInForce, first, second, newer]
        rw [spare] at gone kept
        simp only [Nat.sub_zero, second] at kept
        simp [recordInForce, bankInForce, first, second, newer, gone, kept]
      | false =>
        have spare : spareBank b t = 1 := by simp [spareBank, bankInForce, first, second, newer]
        rw [spare] at gone kept
        simp only [Nat.sub_self, first] at kept
        simp [recordInForce, bankInForce, first, second, newer, gone, kept]

theorem spareBank_lt (b : Breeze) (t : Nat) : spareBank b t < 2 := by
  unfold spareBank
  split <;> decide

/-- The location at which the spare copy of a record lies (16 R622). -/
def spareLocation (b : Breeze) (t : Nat) : Nat := 2 * t + spareBank b t

/-- Every other location is one of another record, or of the other bank. -/
theorem validCopy_congr {b c : Breeze} {t r bank : Nat} (hb : bank < 2) (other : r ≠ t ∨ bank ≠ spareBank b t)
    (h : ∀ k, k ≠ spareLocation b t → mget none (c.flash.map (fun e => (e.1, some e.2))) k = mget none (b.flash.map (fun e => (e.1, some e.2))) k) :
    validCopy c r bank = validCopy b r bank := by
  have spare := spareBank_lt b t
  unfold validCopy flashCopy
  rw [h]
  unfold spareLocation
  omega

/-- A flash that changes at the spare location of one record only, and holds no valid copy there, has the same records in force. -/
theorem recordInForce_ofSpare {b c : Breeze} {t : Nat} (gone : validCopy c t (spareBank b t) = none)
    (h : ∀ k, k ≠ spareLocation b t → mget none (c.flash.map (fun e => (e.1, some e.2))) k = mget none (b.flash.map (fun e => (e.1, some e.2))) k) (r : Nat) :
    recordInForce c r = recordInForce b r := by
  have spare := spareBank_lt b t
  by_cases own : r = t
  · subst own
    exact recordInForce_withoutSpare gone (validCopy_congr (by omega) (.inr (by omega)) h)
  · exact recordInForce_congr (validCopy_congr (by decide) (.inl own) h) (validCopy_congr (by decide) (.inl own) h)

/-! ## What a write leaves -/

section
variable {s : State}

theorem inForce_eraseSpare (t r : Nat) : recordInForce (eraseSpare s t).brz r = recordInForce s.brz r := by
  apply recordInForce_ofSpare (t := t)
  · simp [validCopy, flashCopy, eraseSpare, modBrz, map_mdel]
  · intro k other
    exact (congrArg (mget none · k) (map_mdel some s.brz.flash _)).trans (mget_mdel_other _ _ other)

theorem inForce_programSpare (t r : Nat) (v : FlashPayload) : recordInForce (programSpare s t v).brz r = recordInForce s.brz r := by
  apply recordInForce_ofSpare (t := t)
  · simp [validCopy, flashCopy, programSpare, modBrz, map_mset, programmed_not_valid, Option.filter]
  · intro k other
    exact (congrArg (mget none · k) (map_mset some s.brz.flash _ _)).trans (mget_mset_other _ _ _ _ _ other)

@[simp] theorem inForce_beginWrite (r : Nat) : recordInForce (beginWrite s).brz r = recordInForce s.brz r := by
  unfold beginWrite
  split
  · dsimp only
    split
    · rw [inForce_programSpare, inForce_eraseSpare]
    · rw [inForce_eraseSpare]
  · rfl

/-- Beyond the flash, a write that begins changes nothing. -/
theorem beginWrite_eq : ∃ flash, beginWrite s = { s with brz := { s.brz with flash := flash } } := by
  unfold beginWrite
  split
  · dsimp only
    split <;> exact ⟨_, rfl⟩
  · exact ⟨s.brz.flash, rfl⟩

theorem endWrite_eq : ∃ flash, endWrite s = { s with brz := { s.brz with writes := s.brz.writes.tail, flash := flash } } := beginWrite_eq

@[simp] theorem inForce_endWrite (r : Nat) : recordInForce (endWrite s).brz r = recordInForce s.brz r :=
  inForce_beginWrite r

theorem replyWrite_eq (w : FlashWrite) (status : Nat) : ∃ out, replyWrite s w status = { s with out := out } := by
  unfold replyWrite
  split <;> exact ⟨_, rfl⟩

/-- The update that a write leaves when it is abandoned. -/
def updateAfter (b : Breeze) (w : FlashWrite) : Option FwUpdate := if w.body = .update then none else b.update

/-- What abandoning a write does: FLASH_ERR and fault 0x01B0, and the next write begins (16 R624). -/
theorem abandonWrite_eq (w : FlashWrite) : ∃ i hp out flash, i.code = 0x01B0 ∧ abandonWrite s w =
    { s with ff := recordFault s.ff none i, hp := hp, out := out,
             brz := { s.brz with flashErr := true, update := updateAfter s.brz w, writes := s.brz.writes.tail, flash := flash } } := by
  obtain ⟨i, hp, out, code, fault⟩ := raiseDevice_eq
    (s := modBrz s (fun b => { b with flashErr := true, update := updateAfter b w })) { code := 0x01B0, kind := 14, index := w.rtype }
  obtain ⟨out', reply⟩ := replyWrite_eq
    (s := { s with ff := recordFault s.ff none i, hp := hp, out := out, brz := { s.brz with flashErr := true, update := updateAfter s.brz w } }) w 6
  obtain ⟨flash, ended⟩ := endWrite_eq
    (s := { s with ff := recordFault s.ff none i, hp := hp, out := out', brz := { s.brz with flashErr := true, update := updateAfter s.brz w } })
  exact ⟨i, hp, out', flash, code, (congrArg (fun t => endWrite (replyWrite t w 6)) fault).trans ((congrArg endWrite reply).trans ended)⟩

theorem inForce_abandonWrite (w : FlashWrite) (r : Nat) : recordInForce (abandonWrite s w).brz r = recordInForce s.brz r := by
  obtain ⟨i, hp, out, -, fault⟩ := raiseDevice_eq
    (s := modBrz s (fun b => { b with flashErr := true, update := updateAfter b w })) { code := 0x01B0, kind := 14, index := w.rtype }
  obtain ⟨out', reply⟩ := replyWrite_eq
    (s := { s with ff := recordFault s.ff none i, hp := hp, out := out, brz := { s.brz with flashErr := true, update := updateAfter s.brz w } }) w 6
  have done : abandonWrite s w = endWrite _ := congrArg endWrite ((congrArg (fun t => replyWrite t w 6) fault).trans reply)
  rw [done, inForce_endWrite]
  rfl

/-! ## FLASH_RECORD_COMMIT and FLASH_TIMEOUT (16 R622, R624, R625; 18 R700) -/

variable {w : FlashWrite} {rest : List FlashWrite} (head : s.brz.writes = w :: rest)
include head

theorem exec_flashRecordCommit (ok : Bool) : exec (.flashRecordCommit ok) s =
    .next (if !writeWhole s w then s else if ok then finishWrite s w else mismatch s w) := by
  refine Eq.trans (b := execFlashRecordCommit ok s) rfl ?_
  simp only [execFlashRecordCommit, head]

theorem exec_flashTimeout : exec .flashTimeout s = .next (abandonWrite s w) := by
  refine Eq.trans (b := execFlashTimeout s) rfl ?_
  simp only [execFlashTimeout, head]

/-- A write whose data Breeze holds whole is committed as it reads back. -/
theorem exec_flashRecordCommit_payload {v : FlashPayload} (whole : w.body ≠ .update) (payload : writePayload s w.body = some v) :
    exec (.flashRecordCommit true) s = .next (endWrite (replyWrite (commitRecord s w.rtype v) w 0)) := by
  have stands : writeWhole s w = true := by simp [writeWhole, whole]
  rw [exec_flashRecordCommit head, stands, finishWrite, payload]
  rfl

theorem exec_flashRecordCommit_update {u : FwUpdate} (body : w.body = .update) (update : s.brz.update = some u)
    (whole : u.bytes = u.size) (unread : u.readBack = false) : exec (.flashRecordCommit true) s =
      .next (if u.applying then endUpdate s u true else { s with brz := { s.brz with update := some { u with readBack := true } } }) := by
  have stands : writeWhole s w = true := by simp [writeWhole, update, whole, unread]
  have read : finishWrite s w = updateRead s := by rw [finishWrite, body]; rfl
  rw [exec_flashRecordCommit head, stands, read, updateRead, update]
  simp only [whole, ne_eq, not_true, if_false]
  rfl

end

/-- Settles O56: by whether the write stands whole in flash, whether it reads back, and whether it was repeated. -/
theorem flashWrites : Obligations.FlashWrites := by
  intro s w rest head
  obtain ⟨i, hp, out, flash, code, abandoned⟩ := abandonWrite_eq (s := s) w
  refine ⟨fun v body => ?_, fun c body => ?_, fun u body update whole unread => exec_flashRecordCommit_update head body update whole unread,
    fun ok missing => ?_, fun whole first => ?_, fun whole again => ?_, exec_flashTimeout head, ?_, ?_, fun empty => ?_, inForce_abandonWrite w⟩
  · exact exec_flashRecordCommit_payload head (by simp [body]) (by rw [body]; rfl)
  · exact exec_flashRecordCommit_payload head (by simp [body]) (by rw [body]; rfl)
  · rw [exec_flashRecordCommit head, missing]
    rfl
  · rw [exec_flashRecordCommit head, whole, mismatch, if_pos first, modBrz, head]
    rfl
  · rw [exec_flashRecordCommit head, whole, mismatch, if_neg again]
    rfl
  · rw [abandoned]
  · rw [abandoned, head]
    rfl
  · rw [abandoned]
    exact (congrArg FfInfo.code (recordFault_empty empty i).2).trans code

end Sys2Proof.Machine

/-! # The management port and the firmware update (16 R611 to R617, R622, R636, R639, R648 to R651) -/

namespace Sys2Proof.Machine

theorem whileUp_up {s : State} {up : State → Bool} (act : State → State) (h : up s = true) : whileUp up act s = .next (act s) := if_pos h

theorem whileUp_down {s : State} {up : State → Bool} (act : State → State) (h : up s = false) : whileUp up act s = .next s := by
  simp [whileUp, h]

section
variable {s : State}

theorem breezeFull_of_down (down : breezeUp s = false) : breezeFull s = false := by simp [breezeFull, down]

theorem breezeUp_of_full (full : breezeFull s = true) : breezeUp s = true := (Bool.and_eq_true .. ▸ full).1

/-- ROM recovery answers MCTP control only (16 R615, R636). -/
theorem messageTypes_eq (up : breezeUp s = true) : messageTypes s = if s.brz.bstate = 1 then [1] else [1, 5, 6, 0x7F] := by
  by_cases recovery : s.brz.bstate = 1 <;> simp [messageTypes, breezeFull, up, recovery]

theorem one_mem_messageTypes : 1 ∈ messageTypes s := by
  unfold messageTypes
  split <;> decide

/-! ## The commands as what Breeze does where it answers -/

theorem exec_i3cEntry (a : BitVec 7) : exec (.i3cEntry a) s = whileUp breezeUp (fun t => modBrz t (fun b => { b with i3c := true, i3cAddr := some a.toNat })) s := rfl

theorem exec_rstact : exec .rstact s = whileUp breezeUp (fun t => modBrz t (fun b => { b with i3c := false, i3cAddr := none })) s := rfl

theorem exec_setEndpointId (e : Byte) : exec (.setEndpointId e) s = whileUp breezeUp (fun t =>
    if e = 0 ∨ e = 0xFF then answer t (mctpCmd 1) 2 []
    else answer (modBrz t (fun b => { b with eid := some e.toNat })) (mctpCmd 1) 0 [e.toNat]) s := rfl

theorem exec_getEndpointId : exec .getEndpointId s = whileUp breezeUp (fun t => answer t (mctpCmd 2) 0 [t.brz.eid.getD 0]) s := rfl

theorem exec_getMctpVersionSupport (m : Byte) : exec (.getMctpVersionSupport m) s = whileUp breezeUp (fun t =>
    if m = 0xFF ∨ m = 0 ∨ (messageTypes t).contains m.toNat then freeAnswer t (mgtVia t.brz) (mctpCmd 4) [] else answer t (mctpCmd 4) 0x80 []) s := rfl

theorem exec_getMessageTypeSupport : exec .getMessageTypeSupport s = whileUp breezeUp (fun t => answer t (mctpCmd 5) 0 (messageTypes t)) s := rfl

theorem exec_getVendorDefinedMessageSupport (n : Byte) : exec (.getVendorDefinedMessageSupport n) s = whileUp breezeUp (fun t =>
    if n = 0 ∧ breezeFull t then freeAnswer t (mgtVia t.brz) (mctpCmd 6) [0xFF] else answer t (mctpCmd 6) 2 []) s := rfl

theorem exec_pldmBaseDiscovery (n : Byte) : exec (.pldmBaseDiscovery n) s = whileUp breezeUp (fun t =>
    if 1 ≤ n.toNat ∧ n.toNat ≤ 5 then freeAnswer t (mgtVia t.brz) (pldmCmd 0 n.toNat) [] else answer t (pldmCmd 0 n.toNat) 5 []) s := rfl

theorem exec_getSensorReading (n : BitVec 16) : exec (.getSensorReading n) s = whileUp breezeFull (fun t => numericReading t n.toNat) s := rfl

theorem exec_getStateSensorReadings (n : BitVec 16) : exec (.getStateSensorReadings n) s = whileUp breezeFull (fun t =>
    match stateReading t n.toNat with
    | some d => answer t (pldmCmd 2 0x21) 0 d
    | none => answer t (pldmCmd 2 0x21) 0x80 []) s := rfl

theorem exec_setEventReceiver (e : Byte) : exec (.setEventReceiver e) s = whileUp breezeFull (fun t =>
    answer (modBrz t (fun b => { b with receiver := some e.toNat })) (pldmCmd 2 0x04) 0 []) s := rfl

/-! ## Sensors (16 R617, R639) -/

theorem numericReading_junction {n : Nat} {e} (low : 1 ≤ n) (high : n ≤ 0x22) (read : s.pwr.tj.find? (fun e => e.1 == n - 1) = some e) :
    numericReading s n = answer s (pldmCmd 2 0x11) 0 [0, sfld e.2 0 16] := by
  simp only [numericReading, low, high, and_self, if_true, read]

theorem numericReading_current {n : Nat} (low : 0x30 ≤ n) (high : n ≤ 0x38) :
    numericReading s n = freeAnswer s (mgtVia s.brz) (pldmCmd 2 0x11) [0] := by
  have notJunction : ¬(1 ≤ n ∧ n ≤ 0x22) := by omega
  simp only [numericReading, notJunction, low, high, and_self, if_false, if_true]

theorem stateReading_partition (p : PartId) : stateReading s (0x41 + p.val) = some [partCode (getPart s p.val).state] := by
  have notTime : 0x41 + p.val ≠ 0x40 := by omega
  have partition : 0x41 ≤ 0x41 + p.val ∧ 0x41 + p.val ≤ 0x50 := by omega
  simp only [stateReading, notTime, partition, if_false, and_self, if_true, Nat.add_sub_cancel_left]

theorem exec_getStateSensorReadings_some (full : breezeFull s = true) {n : BitVec 16} {d : List Nat} (read : stateReading s n.toNat = some d) :
    exec (.getStateSensorReadings n) s = .next (answer s (pldmCmd 2 0x21) 0 d) := by
  rw [exec_getStateSensorReadings, whileUp_up _ full, read]

/-! ## The management port -/

theorem management_silent (down : breezeUp s = false) (a : BitVec 7) (n m : BitVec 16) (e : Byte) :
    exec (.i3cEntry a) s = .next s ∧ exec (.setEndpointId e) s = .next s ∧ exec (.getSensorReading n) s = .next s ∧
      exec (.getStateSensorReadings m) s = .next s ∧ exec .getEndpointId s = .next s := by
  have less := breezeFull_of_down down
  rw [exec_i3cEntry, exec_setEndpointId, exec_getSensorReading, exec_getStateSensorReadings, exec_getEndpointId]
  exact ⟨whileUp_down _ down, whileUp_down _ down, whileUp_down _ less, whileUp_down _ less, whileUp_down _ down⟩

section
variable (up : breezeUp s = true)
include up

theorem exec_setEndpointId_valid {e : Byte} (notNull : e ≠ 0) (notAll : e ≠ 0xFF) :
    exec (.setEndpointId e) s = .next (answer { s with brz := { s.brz with eid := some e.toNat } } (mctpCmd 1) 0 [e.toNat]) := by
  rw [exec_setEndpointId, whileUp_up _ up, if_neg (not_or_intro notNull notAll)]
  rfl

theorem exec_setEndpointId_invalid {e : Byte} (bad : e = 0 ∨ e = 0xFF) : exec (.setEndpointId e) s = .next (answer s (mctpCmd 1) 2 []) := by
  rw [exec_setEndpointId, whileUp_up _ up, if_pos bad]

/-- MCTP base, control and PLDM's own type are answered with a version. -/
theorem exec_getMctpVersionSupport_served {m : Byte} (h : m.toNat ∈ [0, 1, 0xFF]) :
    exec (.getMctpVersionSupport m) s = .next (freeAnswer s (mgtVia s.brz) (mctpCmd 4) []) := by
  have served : m = 0xFF ∨ m = 0 ∨ (messageTypes s).contains m.toNat = true := by
    simp only [List.mem_cons, List.not_mem_nil, or_false] at h
    obtain h | h | h := h
    · exact .inr (.inl (BitVec.eq_of_toNat_eq h))
    · exact .inr (.inr (by rw [h]; exact List.contains_iff_mem.2 one_mem_messageTypes))
    · exact .inl (BitVec.eq_of_toNat_eq h)
  rw [exec_getMctpVersionSupport, whileUp_up _ up, if_pos served]

theorem exec_pldmBaseDiscovery_served {n : Byte} (low : 1 ≤ n.toNat) (high : n.toNat ≤ 5) :
    exec (.pldmBaseDiscovery n) s = .next (freeAnswer s (mgtVia s.brz) (pldmCmd 0 n.toNat) []) := by
  rw [exec_pldmBaseDiscovery, whileUp_up _ up, if_pos ⟨low, high⟩]

end

theorem exec_getVendorDefinedMessageSupport_zero (full : breezeFull s = true) :
    exec (.getVendorDefinedMessageSupport 0) s = .next (freeAnswer s (mgtVia s.brz) (mctpCmd 6) [0xFF]) := by
  rw [exec_getVendorDefinedMessageSupport, whileUp_up _ (breezeUp_of_full full), if_pos ⟨rfl, full⟩]

/-! ## The firmware update (16 R648 to R651) -/

theorem inForce_answer (command status : Nat) (data : List Nat) (r : Nat) : recordInForce (answer s command status data).brz r = recordInForce s.brz r := rfl

/-- An update that ends without its commit leaves every record in force (16 R624, R650). -/
theorem inForce_endUpdate_failed (u : FwUpdate) (r : Nat) : recordInForce (endUpdate s u false).brz r = recordInForce s.brz r := by
  simp only [endUpdate, Bool.false_eq_true, if_false]
  rw [inForce_answer, inForce_endWrite]
  rfl

theorem update_endUpdate_failed (u : FwUpdate) : (endUpdate s u false).brz.update = none := by
  obtain ⟨flash, ended⟩ := endWrite_eq (s := modBrz s (fun b => { b with update := none, offered := b.offered.filter (· != u.rtype) }))
  simp only [endUpdate, Bool.false_eq_true, if_false]
  rw [ended]
  rfl

section
variable {component : BitVec 16} {size : Nat}

theorem exec_passComponentTable (up : breezeUp s = true) : exec (.passComponentTable component size) s =
    .next (match componentOk s component.toNat size with
      | some r => answer { s with brz := { s.brz with offered := r :: s.brz.offered.filter (· != r) } } (pldmCmd 5 0x13) 0 [0]
      | none => answer s (pldmCmd 5 0x13) 0 [1]) :=
  Eq.trans (b := execPassComponentTable component size s) rfl (whileUp_up _ up)

theorem exec_updateComponent_refused (up : breezeUp s = true) (refused : componentOk s component.toNat size = none) :
    exec (.updateComponent component size) s = .next (answer s (pldmCmd 5 0x14) 0 [1]) := by
  refine Eq.trans (b := execUpdateComponent component size s) rfl ((whileUp_up _ up).trans ?_)
  simp only [refused]

theorem exec_updateComponent_begins (up : breezeUp s = true) {r : Nat} (accepted : componentOk s component.toNat size = some r)
    (idle : s.brz.update = none) (offered : r ∈ s.brz.offered) : exec (.updateComponent component size) s = .next (answer (queueWrite
        { s with brz := { s.brz with update := some { rtype := r, size := size } } }
        { rtype := r, body := .update, retries := 0, reply := none }) (pldmCmd 5 0x14) 0 [0]) := by
  refine Eq.trans (b := execUpdateComponent component size s) rfl ((whileUp_up _ up).trans ?_)
  have free : ¬(s.brz.update.isSome = true ∨ (!s.brz.offered.contains r) = true) := by simp [idle, offered]
  simp only [accepted]
  rw [if_neg free]
  rfl

theorem exec_activateFirmware (up : breezeUp s = true) : exec (.activateFirmware component false) s = .next (answer s (pldmCmd 5 0x1A) 0 []) := by
  refine Eq.trans (b := execActivateFirmware component false s) rfl ((whileUp_up _ up).trans ?_)
  simp only [Bool.false_eq_true, false_and, if_false]

end

section
variable {u : FwUpdate} (update : s.brz.update = some u) (running : updateInProgress s = true)
include update running

/-- What FIRMWARE_DATA does while its write is in progress: data that does not follow, or that comes too late, is refused. -/
theorem exec_firmwareData (offset : Nat) (data : List Byte) : exec (.firmwareData offset data) s =
    .next (if u.verified.isSome ∨ offset ≠ u.bytes ∨ 4096 < data.length ∨ u.size < offset + data.length then answer s (pldmCmd 5 0x15) 0x83 []
      else addData s u data) := by
  refine Eq.trans (b := execFirmwareData offset data s) rfl ?_
  simp only [execFirmwareData, update, running, Bool.not_true, Bool.false_eq_true, if_false]
  split <;> rfl

theorem exec_firmwareData_disorder {offset : Nat} (data : List Byte) (other : offset ≠ u.bytes) :
    exec (.firmwareData offset data) s = .next (answer s (pldmCmd 5 0x15) 0x83 []) := by
  rw [exec_firmwareData update running, if_pos (.inr (.inl other))]

theorem exec_firmwareData_next {data : List Byte} (open_ : u.verified = none) (short : data.length ≤ 4096) (fits : u.bytes + data.length ≤ u.size) :
    exec (.firmwareData u.bytes data) s = .next (addData s u data) := by
  rw [exec_firmwareData update running, if_neg (by simp [open_, short, fits])]

theorem exec_verifyComplete (open_ : u.verified = none) (whole : u.bytes = u.size) : exec .verifyComplete s =
    .next (answer { s with brz := { s.brz with update := some { u with verified := some (verifyResult s u.rtype (updatePayload u) == 0) } } }
      (pldmCmd 5 0x18) (verifyResult s u.rtype (updatePayload u)) []) := by
  refine Eq.trans (b := execVerifyComplete s) rfl ?_
  simp only [execVerifyComplete, update]
  rw [if_neg (by simp [running, whole, open_])]
  rfl

/-- APPLY_COMPLETE waits for the read-back of a verified payload, and ends the update otherwise. -/
theorem exec_applyComplete {ok : Bool} (verified : u.verified = some ok) (first : u.applying = false) : exec .applyComplete s =
    .next (if ok && !u.readBack then { s with brz := { s.brz with update := some { u with applying := true } } } else endUpdate s u ok) := by
  refine Eq.trans (b := execApplyComplete s) rfl ?_
  simp only [execApplyComplete, update, verified]
  rw [if_neg (by simp [running, first])]
  split <;> rfl

end

/-! ## The obligation -/

theorem management_answers (up : breezeUp s = true) :
    (∀ a, exec (.i3cEntry a) s = .next { s with brz := { s.brz with i3c := true, i3cAddr := some a.toNat } }) ∧
    exec .rstact s = .next { s with brz := { s.brz with i3c := false, i3cAddr := none } } ∧
    exec .getEndpointId s = .next (answer s (mctpCmd 2) 0 [s.brz.eid.getD 0]) ∧
    exec .getMessageTypeSupport s = .next (answer s (mctpCmd 5) 0 (if s.brz.bstate = 1 then [1] else [1, 5, 6, 0x7F])) := by
  refine ⟨fun a => ?_, ?_, ?_, ?_⟩
  · rw [exec_i3cEntry, whileUp_up _ up]
    rfl
  · rw [exec_rstact, whileUp_up _ up]
    rfl
  · rw [exec_getEndpointId, whileUp_up _ up]
  · rw [exec_getMessageTypeSupport, whileUp_up _ up, messageTypes_eq up]

end

/-- Settles O57: silence before the boot, then each request by whether Breeze answers it, and the update along its steps. -/
theorem managementRows : Obligations.ManagementRows := by
  refine ⟨fun s => ⟨fun down a n m e => management_silent down a n m e, fun up => ?_, fun full => ?_⟩, fun s up => ⟨fun component size r ok => ?_, fun component size refused => ?_, fun u update running => ?_, fun component => exec_activateFirmware up⟩⟩
  · obtain ⟨entry, reset, endpoint, types⟩ := management_answers up
    exact ⟨entry, reset, fun e => exec_setEndpointId_valid up, fun e => exec_setEndpointId_invalid up, endpoint,
      fun m => exec_getMctpVersionSupport_served up, types, fun n => exec_pldmBaseDiscovery_served up⟩
  · refine ⟨exec_getVendorDefinedMessageSupport_zero full, fun n e low high read => ?_, fun n low high => ?_,
      exec_getStateSensorReadings_some full rfl, fun p => exec_getStateSensorReadings_some full ?_, fun e => ?_⟩
    · rw [exec_getSensorReading, whileUp_up _ full, numericReading_junction low high read]
    · rw [exec_getSensorReading, whileUp_up _ full, numericReading_current low high]
    · rw [BitVec.toNat_ofNat, Nat.mod_eq_of_lt (by omega)]
      exact stateReading_partition p
    · rw [exec_setEventReceiver, whileUp_up _ full]
      rfl
  · exact ⟨by rw [exec_passComponentTable up, ok], exec_updateComponent_begins up ok⟩
  · exact ⟨by rw [exec_passComponentTable up, refused], exec_updateComponent_refused up refused⟩
  · refine ⟨fun data open_ short fits => exec_firmwareData_next update running open_ short fits,
      fun offset data other => exec_firmwareData_disorder update running data other,
      fun open_ whole => exec_verifyComplete update running open_ whole, fun first => ⟨fun ok unread => ?_, fun ok read => ?_, fun failed => ?_⟩⟩
    · rw [exec_applyComplete update running ok first, unread]
      rfl
    · rw [exec_applyComplete update running ok first, read]
      rfl
    · exact ⟨exec_applyComplete update running failed first, update_endUpdate_failed u, inForce_endUpdate_failed u⟩

end Sys2Proof.Machine

/-! # The Dalard management commands (16 R652 to R657, R798) -/

namespace Sys2Proof.Machine

section
variable {s : State}

/-! ## Status and act (16 R798) -/

/-- With no condition against it a command acts. -/
theorem dalardCmd_acts (full : breezeFull s = true) (code : Nat) {conds : State → List (Bool × Nat)} (act : State → State)
    (clear : firstStatus (conds s) = 0) : dalardCmd code conds act s = .next (act s) := by
  rw [dalardCmd, whileUp_up _ full]
  simp only [clear, if_true]

/-- Otherwise it is answered with its first status. -/
theorem dalardCmd_refused (full : breezeFull s = true) (code : Nat) {conds : State → List (Bool × Nat)} (act : State → State)
    {status : Nat} (refused : firstStatus (conds s) = status) (bad : status ≠ 0) :
    dalardCmd code conds act s = .next (answer s (dalard code) status []) := by
  rw [dalardCmd, whileUp_up _ full]
  simp only [refused, if_neg bad]

@[simp] theorem firstStatus_nil : firstStatus [] = 0 := rfl
@[simp] theorem firstStatus_true (n : Nat) (r : List (Bool × Nat)) : firstStatus ((true, n) :: r) = n := rfl
@[simp] theorem firstStatus_false (n : Nat) (r : List (Bool × Nat)) : firstStatus ((false, n) :: r) = firstStatus r := rfl

/-! ## The commands by their conditions -/

theorem exec_getStatus : exec .getStatus s = dalardCmd 0x01 (fun _ => []) (fun t =>
    answer t (dalard 0x01) 0 [bootStatus t.brz, 256 * t.brz.pair.2.1 + t.brz.pair.1, t.brz.pair.2.2.1, t.brz.pair.2.2.2, flashStatus t.brz]) s := rfl

theorem exec_getFirstFault : exec .getFirstFault s = dalardCmd 0x02 (fun _ => []) (fun t =>
    answer t (dalard 0x02) 0 (((ffRegs 0 t.ff).filter (fun e => e.1 != 0x30)).flatMap (fun e => regBytes e.2))) s := rfl

theorem exec_getLog (n : W32) : exec (.getLog n) s = dalardCmd 0x03 (fun _ => []) (fun t => answer t (dalard 0x03) 0
    ((t.brz.log.filter (fun e => decide (n.toNat ≤ e.seq.toNat))).reverse.flatMap (fun e => [e.seq.toNat, e.time.toNat, e.index, e.digest, e.ident]))) s := rfl

theorem exec_setPrimary (b : Bool) (port persist : Byte) : exec (.setPrimary b port persist) s =
    dalardCmd 0x10 (fun t => [(decide (2 ≤ port.toNat ∨ 2 ≤ persist.toNat), 2), (!ownerSession t b, 3), (!t.brz.mainUp, 5)]) (fun t =>
      if persist = 1 then changeSettings { t with hp := { t.hp with primary := port.toNat } } 0x10 (.primary port.toNat)
      else answer { t with hp := { t.hp with primary := port.toNat } } (dalard 0x10) 0 []) s := rfl

/-- The messages of a partition whose moderation time has not come, moved to its new owner's port (15 R579). -/
def movedVectors (s : State) (part port : Nat) : State :=
  if (getPart s part).owner = port then s else (partVectors s part).foldl (moveVector part (getPart s part).owner port) s

theorem exec_setOwner (b : Bool) (part port : Byte) : exec (.setOwner b part port) s =
    dalardCmd 0x11 (fun t => [(decide (16 ≤ part.toNat ∨ 2 ≤ port.toNat), 2), (!ownerSession t b, 3), (!t.brz.mainUp, 5)]) (fun t =>
      answer (modPart (movedVectors t part.toNat port.toNat) part.toNat (fun x => { x with owner := port.toNat })) (dalard 0x11) 0 []) s := rfl

theorem exec_enrolImageKey (b : Bool) (slot : Byte) (key : BitVec 456) : exec (.enrolImageKey b slot key) s =
    dalardCmd 0x20 (fun t => [(decide (slot.toNat < 1 ∨ 7 < slot.toNat), 2), (!ownerSession t b, 3), ((settingsOf t.brz).revoked.contains (keyDigest key.toNat), 4)])
      (fun t => changeSettings t 0x20 (.enrol slot.toNat key.toNat)) s := rfl

theorem exec_revokeImageKey (b : Bool) (slot : Byte) : exec (.revokeImageKey b slot) s =
    dalardCmd 0x21 (fun t => [(decide (7 < slot.toNat), 2), (!ownerSession t b, 3),
        (slot == 0 || (settingsKey t slot.toNat).isNone || decide (16 ≤ (settingsOf t.brz).revoked.length), 4)])
      (fun t => changeSettings t 0x21 (.revoke slot.toNat (keyDigest ((settingsKey t slot.toNat).getD 0)))) s := rfl

theorem exec_raiseFloor (b : Bool) (target : FloorTarget) (value : W32) : exec (.raiseFloor b target value) s =
    dalardCmd 0x22 (fun t => [(floorTargetBad target, 2), (!ownerSession t b, 3), (decide (value.toNat ≤ floorInForce t target), 4)])
      (fun t => changeSettings t 0x22 (floorChange value.toNat target)) s := rfl

theorem exec_macsecKey (b : Bool) (port : Byte) (an : MacsecAssoc) (sak : BitVec 256) (ssci : BitVec 32) (salt : BitVec 96) :
    exec (.macsecKey b port an sak ssci salt) s =
    dalardCmd 0x30 (fun t => [(decide (4 ≤ port.toNat), 2), (!ownerSession t b, 3), (!t.brz.mainUp, 5)])
      (fun t => answer (pumpWindow (modFab t port.toNat (fun x => installKey x an { sak := sak, ssci := ssci, salt := salt, pn := 1 })) port.toNat) (dalard 0x30) 0 []) s := rfl

theorem exec_setSetting (b : Bool) (setting : Setting) : exec (.setSetting b setting) s =
    dalardCmd 0x40 (fun t => [(settingBad setting, 2), (!ownerSession t b, 3)]) (fun t => changeSettings t 0x40 (.setting setting)) s := rfl

theorem exec_enrolOwnerRoot (b : Bool) (root : Nat) : exec (.enrolOwnerRoot b root) s =
    dalardCmd 0x50 (fun t => [(!(if (settingsOf t.brz).ownerRoot.isNone then anySession t b else ownerSession t b), 3)])
      (fun t => changeSettings t 0x50 (.ownerRoot root)) s := rfl

theorem exec_resetMain (b : Bool) (env : BootEnv) : exec (.resetMain b env) s =
    dalardCmd 0x60 (fun t => [(!ownerSession t b, 3)]) (fun t => fReset (answer t (dalard 0x60) 0 []) 3 env) s := rfl

/-! ## SET_OWNER (15 R579; 16 R652) -/

/-- A message that moves between the ports leaves the cores. -/
theorem moveVector_cores (p old new : Nat) (v : Nat) : (moveVector p old new s v).cores = s.cores := by
  have port (t : State) (h : Nat) (f : Port → Port) : (modPort t h f).cores = t.cores := by
    unfold modPort setPort
    split <;> rfl
  unfold moveVector
  dsimp only
  split
  · split
    · rw [port, port]
    · rfl
  · rfl

theorem movedVectors_cores (part port : Nat) : (movedVectors s part port).cores = s.cores := by
  unfold movedVectors
  split
  · rfl
  · exact foldl_keeps (g := State.cores) _ _ fun _ _ => moveVector_cores ..

theorem getPart_modPart_owner (p o : Nat) : (getPart (modPart s p (fun x => { x with owner := o })) p).owner = o := by
  rw [getPart_modPart_same]

/-! ## Outside and inside an owner session -/

section
variable (full : breezeFull s = true) {b : Bool}
include full

/-- Outside an owner session each command with valid operands is answered with status 0x03. -/
theorem dalard_outside (outside : ownerSession s b = false) :
    (∀ p q : Byte, p.toNat < 2 → q.toNat < 2 → exec (.setPrimary b p q) s = .next (answer s (dalard 0x10) 3 [])) ∧
    (∀ p q : Byte, p.toNat < 16 → q.toNat < 2 → exec (.setOwner b p q) s = .next (answer s (dalard 0x11) 3 [])) ∧
    (∀ n : Byte, 1 ≤ n.toNat → n.toNat ≤ 7 → (∀ k, exec (.enrolImageKey b n k) s = .next (answer s (dalard 0x20) 3 [])) ∧
      exec (.revokeImageKey b n) s = .next (answer s (dalard 0x21) 3 [])) ∧
    (∀ g v, floorTargetBad g = false → exec (.raiseFloor b g v) s = .next (answer s (dalard 0x22) 3 [])) ∧
    (∀ p : Byte, p.toNat < 4 → ∀ an sak ssci salt, exec (.macsecKey b p an sak ssci salt) s = .next (answer s (dalard 0x30) 3 [])) ∧
    (∀ g, settingBad g = false → exec (.setSetting b g) s = .next (answer s (dalard 0x40) 3 [])) ∧
    (∀ env, exec (.resetMain b env) s = .next (answer s (dalard 0x60) 3 [])) := by
  refine ⟨fun p q hp hq => ?_, fun p q hp hq => ?_, fun n low high => ⟨fun k => ?_, ?_⟩, fun g v good => ?_,
    fun p hp an sak ssci salt => ?_, fun g good => ?_, fun env => ?_⟩
  · rw [exec_setPrimary]
    exact dalardCmd_refused full _ _ (by simp [outside, Nat.not_le.2 hp, Nat.not_le.2 hq]) (by decide)
  · rw [exec_setOwner]
    exact dalardCmd_refused full _ _ (by simp [outside, Nat.not_le.2 hp, Nat.not_le.2 hq]) (by decide)
  · rw [exec_enrolImageKey]
    exact dalardCmd_refused full _ _ (by simp [outside, Nat.not_lt.2 low, Nat.not_lt.2 high]) (by decide)
  · rw [exec_revokeImageKey]
    exact dalardCmd_refused full _ _ (by simp [outside, Nat.not_lt.2 high]) (by decide)
  · rw [exec_raiseFloor]
    exact dalardCmd_refused full _ _ (by simp [outside, good]) (by decide)
  · rw [exec_macsecKey]
    exact dalardCmd_refused full _ _ (by simp [outside, Nat.not_le.2 hp]) (by decide)
  · rw [exec_setSetting]
    exact dalardCmd_refused full _ _ (by simp [outside, good]) (by decide)
  · rw [exec_resetMain]
    exact dalardCmd_refused full _ _ (by simp [outside]) (by decide)

section
variable (inside : ownerSession s b = true)
include inside

/-! ### On the running main side -/

section
variable (main : s.brz.mainUp = true)
include main

theorem exec_setPrimary_inside {p q : Byte} (hp : p.toNat < 2) (hq : q.toNat < 2) : exec (.setPrimary b p q) s =
    .next (if q = 1 then changeSettings { s with hp := { s.hp with primary := p.toNat } } 0x10 (.primary p.toNat)
      else answer { s with hp := { s.hp with primary := p.toNat } } (dalard 0x10) 0 []) := by
  rw [exec_setPrimary]
  exact dalardCmd_acts full _ _ (by simp [inside, main, Nat.not_le.2 hp, Nat.not_le.2 hq])

theorem exec_setOwner_inside {part port : Byte} (hpart : part.toNat < 16) (hport : port.toNat < 2) : exec (.setOwner b part port) s =
    .next (answer (modPart (movedVectors s part.toNat port.toNat) part.toNat (fun x => { x with owner := port.toNat })) (dalard 0x11) 0 []) := by
  rw [exec_setOwner]
  exact dalardCmd_acts full _ _ (by simp [inside, main, Nat.not_le.2 hpart, Nat.not_le.2 hport])

theorem exec_macsecKey_inside (f : Fin 4) (an : MacsecAssoc) (sak : BitVec 256) (ssci : BitVec 32) (salt : BitVec 96) :
    exec (.macsecKey b (BitVec.ofNat 8 f.val) an sak ssci salt) s =
    .next (answer (pumpWindow (modFab s f.val (fun x => installKey x an { sak := sak, ssci := ssci, salt := salt, pn := 1 })) f.val) (dalard 0x30) 0 []) := by
  have port : (BitVec.ofNat 8 f.val).toNat = f.val := by
    rw [BitVec.toNat_ofNat, Nat.mod_eq_of_lt (by omega)]
  rw [exec_macsecKey]
  refine (dalardCmd_acts full _ _ (by simp [inside, main, port, Nat.not_le.2 f.isLt])).trans ?_
  rw [port]

end

/-! ### A change of SETTINGS -/

theorem exec_enrolImageKey_inside {n : Byte} {k : BitVec 456} (low : 1 ≤ n.toNat) (high : n.toNat ≤ 7)
    (unrevoked : (settingsOf s.brz).revoked.contains (keyDigest k.toNat) = false) :
    exec (.enrolImageKey b n k) s = .next (changeSettings s 0x20 (.enrol n.toNat k.toNat)) := by
  rw [exec_enrolImageKey]
  exact dalardCmd_acts full _ _ (by rw [unrevoked]; simp [inside, Nat.not_lt.2 low, Nat.not_lt.2 high])

theorem exec_revokeImageKey_inside {n : Byte} {k : Nat} (low : 1 ≤ n.toNat) (high : n.toNat ≤ 7)
    (key : settingsKey s n.toNat = some k) (room : (settingsOf s.brz).revoked.length < 16) :
    exec (.revokeImageKey b n) s = .next (changeSettings s 0x21 (.revoke n.toNat (keyDigest k))) := by
  have used : (n == 0#8) = false := beq_eq_false_iff_ne.2 (by rintro rfl; exact absurd low (by decide))
  rw [exec_revokeImageKey]
  refine (dalardCmd_acts full _ _ (by simp [inside, Nat.not_lt.2 high, used, key, Nat.not_le.2 room])).trans ?_
  rw [key]
  rfl

theorem exec_raiseFloor_inside {g : FloorTarget} {v : W32} (good : floorTargetBad g = false) (higher : floorInForce s g < v.toNat) :
    exec (.raiseFloor b g v) s = .next (changeSettings s 0x22 (floorChange v.toNat g)) := by
  rw [exec_raiseFloor]
  exact dalardCmd_acts full _ _ (by simp [inside, good, Nat.not_le.2 higher])

theorem exec_setSetting_inside {g : Setting} (good : settingBad g = false) :
    exec (.setSetting b g) s = .next (changeSettings s 0x40 (.setting g)) := by
  rw [exec_setSetting]
  exact dalardCmd_acts full _ _ (by simp [inside, good])

theorem exec_resetMain_inside (env : BootEnv) : exec (.resetMain b env) s = .next (fReset (answer s (dalard 0x60) 0 []) 3 env) := by
  rw [exec_resetMain]
  exact dalardCmd_acts full _ _ (by simp [inside])

end

theorem exec_enrolOwnerRoot_inside {root : Nat}
    (granted : (if (settingsOf s.brz).ownerRoot.isNone then anySession s b else ownerSession s b) = true) :
    exec (.enrolOwnerRoot b root) s = .next (changeSettings s 0x50 (.ownerRoot root)) := by
  rw [exec_enrolOwnerRoot]
  exact dalardCmd_acts full _ _ (by rw [granted]; rfl)

end

end

/-- Settles O59: outside an owner session each command stops at status 0x03; inside one no condition is left and it acts. -/
theorem dalardCommands : Obligations.DalardCommands := by
  refine fun s full => ⟨?_, ?_, fun n => ?_, fun b outside => dalard_outside full outside, fun b inside => ?_,
    fun b root granted => exec_enrolOwnerRoot_inside full granted⟩
  · rw [exec_getStatus]
    exact ⟨_, dalardCmd_acts full _ _ rfl⟩
  · rw [exec_getFirstFault]
    exact ⟨_, dalardCmd_acts full _ _ rfl⟩
  · rw [exec_getLog]
    exact ⟨_, dalardCmd_acts full _ _ rfl⟩
  · refine ⟨fun main p hp => ⟨?_, ?_, fun q _ => ?_⟩, fun n k => exec_enrolImageKey_inside full inside,
      fun n k => exec_revokeImageKey_inside full inside, fun g v => exec_raiseFloor_inside full inside,
      fun main => exec_macsecKey_inside full inside main, fun g => exec_setSetting_inside full inside, exec_resetMain_inside full inside⟩
    · exact exec_setPrimary_inside full inside main hp (by decide)
    · exact exec_setPrimary_inside full inside main hp (by decide)
    · have part : (BitVec.ofNat 8 q.val).toNat = q.val := by
        rw [BitVec.toNat_ofNat, Nat.mod_eq_of_lt (by omega)]
      refine ⟨_, exec_setOwner_inside full inside main (by rw [part]; exact q.isLt) hp, ?_, movedVectors_cores ..⟩
      rw [part]
      exact getPart_modPart_owner ..

end Sys2Proof.Machine

/-! # Frequency changes and thermal limits (14 R550 to R555, R567, R571; 19 R714 to R720) -/

namespace Sys2Proof.Machine

section
variable {s : State}

/-! ## What stays of a partition and of a cluster -/

/-- The clock of a cluster: its own switch, its gate, its step, and a throttle that waits. -/
def clockOf (x : Cluster) : Option Bool × Option Nat × Nat × Option Bool := (x.own, x.gated, x.step, x.throttleWait)

theorem getPart_countPauses {ps : List Nat} (once : ps.Nodup) (o : Nat) : getPart (countPauses s ps) o =
    if o ∈ ps then { getPart s o with freq := { (getPart s o).freq with linkPause := (getPart s o).freq.linkPause.bump } } else getPart s o :=
  getPart_foldl_modPart once o

theorem linkPause_countPauses {ps : List Nat} (once : ps.Nodup) (o : Nat) : (getPart (countPauses s ps) o).freq.linkPause =
    if o ∈ ps then (getPart s o).freq.linkPause.bump else (getPart s o).freq.linkPause := by
  rw [getPart_countPauses once]
  split <;> rfl

theorem countPauses_keeps (ps : List Nat) : (countPauses s ps).clus = s.clus ∧ (countPauses s ps).cores = s.cores :=
  ⟨foldl_keeps (g := State.clus) _ _ fun _ _ => rfl, foldl_keeps (g := State.cores) _ _ fun _ _ => rfl⟩

theorem pausedBy_nodup (cs : List Nat) : (pausedBy s cs).Nodup := List.nodup_range.filter _

/-- A link pause counted leaves the clusters of a partition and its frequency but for the count. -/
theorem countPauses_part (ps : List Nat) (p : Nat) : ∃ n, getPart (countPauses s ps) p = { getPart s p with freq := { (getPart s p).freq with linkPause := n } } := by
  unfold countPauses
  induction ps generalizing s with
  | nil => exact ⟨(getPart s p).freq.linkPause, rfl⟩
  | cons q rest ih =>
    obtain ⟨n, done⟩ := ih (s := modPart s q (fun x => { x with freq := { x.freq with linkPause := x.freq.linkPause.bump } }))
    refine ⟨n, done.trans ?_⟩
    by_cases same : p = q
    · subst same
      rw [getPart_modPart_same]
    · rw [getPart_modPart_other _ _ _ _ same]

/-! ## A frequency command (14 R550, R551, R567, R571) -/

theorem firstDenied_freq {h p : Nat} {target : BitVec 3} (allowed : partDenied s h p = none) (step : target.toNat < 6) :
    firstDenied [partDenied s h p, if 6 ≤ target.toNat then some 2 else none] = none := by
  simp [firstDenied, allowed, Nat.not_le.2 step]

section
variable {h : Fin 2} {p : PartId} {target : BitVec 3} (answers : portAnswers s h.val = true) (allowed : partDenied s h.val p.val = none) (step : target.toNat < 6)
include answers allowed step

theorem exec_freqChangeCalm : exec (.freqChangeCalm h p target) s = .next (freqCalm s p.val target.toNat) := by
  refine Eq.trans (b := freqCmd h.val p.val false target s) rfl ?_
  rw [freqCmd, hostCmd_granted answers (firstDenied_freq allowed step)]
  rfl

theorem exec_freqChangeImmediate : exec (.freqChangeImmediate h p target) s = .next (freqImmediate s p.val target.toNat) := by
  refine Eq.trans (b := freqCmd h.val p.val true target s) rfl ?_
  rw [freqCmd, hostCmd_granted answers (firstDenied_freq allowed step)]
  rfl

end

theorem freqCalm_changes {p target : Nat} (change : (getPart s p).freq.pending.isSome = true ∨ target ≠ (getPart s p).freq.current) :
    freqCalm s p target = setPart s p { getPart s p with freq := { (getPart s p).freq with pending := some target, waitRelock := false } } := by
  have differs : ¬((getPart s p).freq.pending.isNone = true ∧ target = (getPart s p).freq.current) := by
    rintro ⟨idle, same⟩
    rcases change with pending | other
    · simp [Option.isNone_iff_eq_none.1 idle] at pending
    · exact other same
  simp only [freqCalm]
  rw [if_neg differs]
  rfl

/-- A change of a partition's frequency registers leaves its clusters, and their generators. -/
theorem holdsOver_modPart {p : Nat} {f : Part → Part} (keeps : (f (getPart s p)).clusters = (getPart s p).clusters) :
    holdsOver (modPart s p f) p = holdsOver s p := by
  have clusters : clustersOf (modPart s p f) p = clustersOf s p := by
    rw [clustersOf, clustersOf, getPart_modPart_same, keeps]
  rw [holdsOver, clusters]
  rfl

theorem freqImmediate_begins {p : Nat} (target : Nat) (free : (getPart s p).freq.switching = false) (locked : holdsOver s p = false) :
    freqImmediate s p target = setPart s p { getPart s p with freq := { (getPart s p).freq with
      pending := none, switching := true, gated := false, target := target, calmMode := false, stopAfter := false, waitRelock := false, byReset := false, current := target } } := by
  have relocked := holdsOver_modPart (s := s) (p := p)
    (f := fun x => { x with freq := { x.freq with pending := some target, waitRelock := true } }) rfl
  simp only [freqImmediate, releaseImmediate, getPart_modPart_same, relocked, free, locked, Bool.not_false, Bool.and_true, if_true]
  rw [beginSwitch, modPart, getPart_modPart_same]
  exact setPart_setPart ..

/-! ## CLOCK_GATE (14 R552, R555; 19 R715) -/

theorem exec_clockGate_part {p : PartId} (switching : (getPart s p.val).freq.switching = true) (running : (getPart s p.val).freq.gated = false) :
    exec (.clockGate (.part p)) s = .next (gatePart s p.val) := by
  refine Eq.trans (b := execClockGate (.part p) s) rfl ?_
  simp only [execClockGate]
  rw [if_neg (by simp [switching, running])]

theorem exec_clockGate_cluster {c : ClusterId} (own : (getClus s c.val).own.isSome = true) (running : (getClus s c.val).gated = none) :
    exec (.clockGate (.cluster c)) s = .next (gateCluster s c.val) := by
  refine Eq.trans (b := execClockGate (.cluster c) s) rfl ?_
  simp only [execClockGate]
  rw [if_neg (by simp [running, Option.isSome_iff_ne_none.1 own])]

theorem gatePart_freq (p : Nat) : (getPart (gatePart s p) p).freq.gated = true ∧ (getPart (gatePart s p) p).freq.gatedAt = nowNs s := by
  obtain ⟨n, done⟩ := countPauses_part (s := modPart s p (fun x => { x with freq := { x.freq with gated := true, gatedAt := nowNs s, paused := pausedBy s (switchClusters s p) } }))
    (pausedBy s (switchClusters s p)) p
  rw [gatePart, done, getPart_modPart_same]
  exact ⟨rfl, rfl⟩

theorem gatePart_linkPause (p o : Nat) : (getPart (gatePart s p) o).freq.linkPause =
    if o ∈ pausedBy s (switchClusters s p) then (getPart s o).freq.linkPause.bump else (getPart s o).freq.linkPause := by
  have same : (getPart (modPart s p (fun x => { x with freq := { x.freq with gated := true, gatedAt := nowNs s, paused := pausedBy s (switchClusters s p) } })) o).freq.linkPause =
      (getPart s o).freq.linkPause := by
    by_cases own : o = p
    · rw [own, getPart_modPart_same]
    · rw [getPart_modPart_other _ _ _ _ own]
  rw [gatePart, linkPause_countPauses (pausedBy_nodup _), same]

theorem gateCluster_linkPause (c o : Nat) : (getPart (gateCluster s c) o).freq.linkPause =
    if o ∈ pausedBy s [c] then (getPart s o).freq.linkPause.bump else (getPart s o).freq.linkPause :=
  linkPause_countPauses (pausedBy_nodup _) o

theorem getClus_gateCluster (c d : Nat) : getClus (gateCluster s c) d =
    getClus (modClus s c (fun x => { x with gated := some (nowNs s), paused := pausedBy s [c] })) d :=
  congrArg (mget ({} : Cluster) · d) (countPauses_keeps _).1

/-! ## CLOCK_RESTART (14 R552, R554, R555; 19 R715 to R718) -/

theorem resumeDeadlines_cases (since c : Nat) :
    resumeDeadlines s since c = s ∨ resumeDeadlines s since c = extendDeadlines s c since (nowNs s) := ite_eq_or_eq ..

theorem clus_extendDeadlines (c began now : Nat) : (extendDeadlines s c began now).clus = (modClus s c (extendCluster began now)).clus :=
  foldl_keeps (g := State.clus) _ _ fun _ _ => by split <;> rfl

/-- Deadlines that go on leave the clock of every cluster, and the partitions. -/
theorem clockOf_resumeDeadlines (since c d : Nat) : clockOf (getClus (resumeDeadlines s since c) d) = clockOf (getClus s d) := by
  rcases resumeDeadlines_cases (s := s) since c with same | extended
  · rw [same]
  · have cluster : getClus (extendDeadlines s c since (nowNs s)) d = getClus (modClus s c (extendCluster since (nowNs s))) d :=
      congrArg (mget ({} : Cluster) · d) (clus_extendDeadlines ..)
    rw [extended, cluster]
    by_cases own : d = c
    · rw [own, getClus_modClus_same]
      rfl
    · rw [getClus_modClus_other _ _ _ _ own]

theorem resumeDeadlines_parts (since c : Nat) : (resumeDeadlines s since c).parts = s.parts := by
  rcases resumeDeadlines_cases (s := s) since c with same | extended
  · rw [same]
  · rw [extended]
    exact foldl_keeps (g := State.parts) _ _ fun _ _ => by split <;> rfl

theorem takeThrottleWait_idle {c : Nat} (idle : (getClus s c).throttleWait = none) : takeThrottleWait s c = s := by
  rw [takeThrottleWait, idle]

theorem foldl_takeThrottleWait_idle {cs : List Nat} (idle : ∀ c ∈ cs, (getClus s c).throttleWait = none) : cs.foldl takeThrottleWait s = s := by
  induction cs with
  | nil => rfl
  | cons c rest ih =>
    rw [List.foldl_cons, takeThrottleWait_idle (idle c (List.mem_cons_self ..))]
    exact ih fun d h => idle d (List.mem_cons_of_mem _ h)

theorem exec_clockRestart_cluster {cl : ClusterId} {down : Bool} {since : Nat} (own : (getClus s cl.val).own = some down) (gated : (getClus s cl.val).gated = some since) :
    exec (.clockRestart (.cluster cl)) s = .next (restartCluster s cl.val down since) := by
  refine Eq.trans (b := execClockRestart (.cluster cl) s) rfl ?_
  simp only [execClockRestart, own, gated]

/-- The step to which a cluster's own switch takes it: 5 in a throttle, else the step in force for its partition. -/
def ownStep (s : State) (c : Nat) (down : Bool) : Nat :=
  if down then 5 else match partOfCluster s c with
    | some p => (getPart s p).freq.current
    | none => 0

/-- A cluster's generator at the step of its own switch, its deadlines going on (19 R715 to R718). -/
def restarted (s : State) (c : Nat) (down : Bool) (since : Nat) : State :=
  resumeDeadlines (modClus (countPauses s ((pausedBy s [c]).filter (fun o => !(getClus s c).paused.contains o))) c
    (fun x => { x with step := ownStep s c down, own := none, gated := none, paused := [] })) since c

theorem restartCluster_eq (c : Nat) (down : Bool) (since : Nat) : restartCluster s c down since = takeThrottleWait (restarted s c down since) c := rfl

theorem clockOf_restarted {c : Nat} (down : Bool) (since : Nat) (idle : (getClus s c).throttleWait = none) :
    clockOf (getClus (restarted s c down since) c) = (none, none, ownStep s c down, none) := by
  have clusters (ps : List Nat) : getClus (countPauses s ps) c = getClus s c :=
    congrArg (mget ({} : Cluster) · c) (countPauses_keeps ps).1
  rw [restarted, clockOf_resumeDeadlines, getClus_modClus_same, clusters, ← idle]
  rfl

theorem clockOf_restartCluster {c : Nat} (down : Bool) (since : Nat) (idle : (getClus s c).throttleWait = none) :
    clockOf (getClus (restartCluster s c down since) c) = (none, none, ownStep s c down, none) := by
  have clock := clockOf_restarted down since idle
  rw [restartCluster_eq, takeThrottleWait_idle (congrArg (fun k => k.2.2.2) clock)]
  exact clock

/-- The clusters that restart at a step, one after the other; their deadlines go on. -/
def restepped (s : State) (target since : Nat) (cs : List Nat) : State :=
  cs.foldl (fun a c => resumeDeadlines (modClus a c (fun x => { x with step := target })) since c) s

theorem restepped_parts (target since : Nat) (cs : List Nat) : (restepped s target since cs).parts = s.parts :=
  foldl_keeps (g := State.parts) _ _ fun _ _ => resumeDeadlines_parts ..

theorem clockOf_restepped {cs : List Nat} (target since : Nat) (once : cs.Nodup) (d : Nat) : clockOf (getClus (restepped s target since cs) d) =
    if d ∈ cs then ((getClus s d).own, (getClus s d).gated, target, (getClus s d).throttleWait) else clockOf (getClus s d) := by
  unfold restepped
  induction cs generalizing s with
  | nil => simp
  | cons c rest ih =>
    obtain ⟨fresh, once⟩ := List.nodup_cons.1 once
    have step := clockOf_resumeDeadlines (s := modClus s c (fun x => { x with step := target })) since c d
    rw [List.foldl_cons, ih once]
    by_cases own : d = c
    · subst own
      rw [if_neg fresh, if_pos (List.mem_cons_self ..), step, getClus_modClus_same]
      rfl
    · rw [getClus_modClus_other _ _ _ _ own] at step
      simp only [List.mem_cons, own, false_or]
      simp only [clockOf, Prod.mk.injEq] at step ⊢
      obtain ⟨h1, h2, h3, h4⟩ := step
      rw [h1, h2, h3, h4]

/-- The clusters of a switch at its target step, and the pauses of rows that came to their routers meanwhile (14 R552, R555). -/
def switched (s : State) (p target : Nat) : State :=
  restepped (countPauses s ((pausedBy s (switchClusters s p)).filter (fun o => !(getPart s p).freq.paused.contains o))) target (getPart s p).freq.gatedAt (switchClusters s p)

/-- The registers of a partition whose switch has ended. -/
def switchEnded (x : Part) : Part :=
  { x with freq := { x.freq with switching := false, gated := false, byReset := false, quiet := false, paused := [] }, det := { x.det with excFreq := x.det.excFreq.bump } }

theorem switchClusters_nodup (p : Nat) : (switchClusters s p).Nodup := (clustersOf_nodup s p).filter _

theorem clockOf_switched (p target c : Nat) : clockOf (getClus (switched s p target) c) =
    if c ∈ switchClusters s p then ((getClus s c).own, (getClus s c).gated, target, (getClus s c).throttleWait) else clockOf (getClus s c) := by
  have clusters (ps : List Nat) : getClus (countPauses s ps) c = getClus s c :=
    congrArg (mget ({} : Cluster) · c) (countPauses_keeps ps).1
  rw [switched, clockOf_restepped _ _ (switchClusters_nodup p), clusters]

theorem throttleWait_switched {p target c : Nat} : (getClus (switched s p target) c).throttleWait = (getClus s c).throttleWait := by
  have clock := clockOf_switched (s := s) p target c
  split at clock <;> exact congrArg (fun k => k.2.2.2) clock

theorem step_switched {p target c : Nat} (own : c ∈ clustersOf s p) : (getClus (switched s p target) c).step =
    if switchesWith (getClus s c) then target else (getClus s c).step := by
  have clock := congrArg (fun k => k.2.2.1) (clockOf_switched (s := s) p target c)
  simp only [switchClusters, List.mem_filter, own, true_and] at clock
  refine Eq.trans clock ?_
  split <;> rfl

/-- A plain restart without throttles that wait: the clusters at their step, and the switch of the partition ended. -/
theorem restartClocks_eq {p : Nat} (target : Nat) (plain : (getPart s p).freq.byReset = false) (idle : ∀ c ∈ clustersOf s p, (getClus s c).throttleWait = none) :
    restartClocks s p target = modPart (switched s p target) p switchEnded := by
  have none_waits : (clustersOf s p).foldl takeThrottleWait (modPart (switched s p target) p switchEnded) = modPart (switched s p target) p switchEnded :=
    foldl_takeThrottleWait_idle fun c own => throttleWait_switched.trans (idle c own)
  refine Eq.trans ?_ none_waits
  simp only [restartClocks, plain, Bool.false_eq_true, if_false]
  rfl

theorem getPart_switched (p target : Nat) : ∃ n, getPart (switched s p target) p = { getPart s p with freq := { (getPart s p).freq with linkPause := n } } := by
  obtain ⟨n, done⟩ := countPauses_part (s := s) ((pausedBy s (switchClusters s p)).filter (fun o => !(getPart s p).freq.paused.contains o)) p
  exact ⟨n, (getPart_congr (restepped_parts ..) p).trans done⟩

/-! ### The participants behind the switch (03 R114, R115) -/

theorem calm_releaseCore (m n : Nat) : (getCore (releaseCore s m) n).calm = if n = m then none else (getCore s n).calm := by
  by_cases same : n = m
  · subst same
    rw [releaseCore, getCore_modCore_same, if_pos rfl]
    split
    · rfl
    · next idle => simpa using idle
  · rw [releaseCore, getCore_modCore_other _ _ _ _ same, if_neg same]

theorem calm_foldl_releaseCore (l : List Nat) (n : Nat) : (getCore (l.foldl releaseCore s) n).calm = if n ∈ l then none else (getCore s n).calm := by
  induction l generalizing s with
  | nil => simp
  | cons m rest ih =>
    rw [List.foldl_cons, ih, calm_releaseCore]
    by_cases here : n ∈ rest
    · simp [here]
    · simp [here]

theorem releaseAll_parts (p : Nat) : (releaseAll s p).parts = (modPart s p (fun x => { x with calmHeld := false })).parts :=
  foldl_keeps (g := State.parts) _ _ fun _ _ => rfl

theorem releaseAll_clus (p : Nat) : (releaseAll s p).clus = s.clus := foldl_keeps (g := State.clus) _ _ fun _ _ => rfl

/-- What a partition does as its switch ends: its participants are released, or its stop takes effect. -/
def afterSwitch (s : State) (p : Nat) (calmMode stopAfter : Bool) : State :=
  if !calmMode then s else if stopAfter then becomeStopped s p else releaseAll s p

theorem afterSwitch_clus (p : Nat) (calmMode stopAfter : Bool) : (afterSwitch s p calmMode stopAfter).clus = s.clus := by
  unfold afterSwitch
  split
  · rfl
  · split
    · rfl
    · exact releaseAll_clus p

theorem afterSwitch_freq (p : Nat) (calmMode stopAfter : Bool) : (getPart (afterSwitch s p calmMode stopAfter) p).freq = (getPart s p).freq := by
  unfold afterSwitch
  split
  · rfl
  · split
    · rw [becomeStopped, getPart_modPart_same, endStop]
      split <;> rfl
    · rw [getPart_congr (releaseAll_parts p), getPart_modPart_same]

theorem exec_clockRestart_part {p : PartId} (gated : (getPart s p.val).freq.gated = true) : exec (.clockRestart (.part p)) s =
    .next (releaseImmediate (afterSwitch (restartClocks s p.val (getPart s p.val).freq.target) p.val (getPart s p.val).freq.calmMode (getPart s p.val).freq.stopAfter) p.val) := by
  refine Eq.trans (b := execClockRestart (.part p) s) rfl ?_
  simp only [execClockRestart, gated, Bool.not_true, Bool.false_eq_true, if_false]
  rfl

theorem releaseImmediate_idle {p : Nat} (idle : (getPart s p).freq.pending = none) : releaseImmediate s p = s := by
  simp only [releaseImmediate, idle]

/-- CLOCK_RESTART of a partition with no other change pending and no throttle that waits. -/
theorem clockRestart_part {p : PartId} (gated : (getPart s p.val).freq.gated = true) (quiet : (getPart s p.val).freq.pending = none)
    (plain : (getPart s p.val).freq.byReset = false) (idle : ∀ c ∈ clustersOf s p.val, (getClus s c).throttleWait = none) :
    ∃ t, exec (.clockRestart (.part p)) s = .next t ∧ (getPart t p.val).freq.switching = false ∧ (getPart t p.val).freq.gated = false ∧
      (∀ c ∈ clustersOf s p.val, (getClus t c).step = if switchesWith (getClus s c) then (getPart s p.val).freq.target else (getClus s c).step) ∧
      ((getPart s p.val).freq.calmMode = true → (getPart s p.val).freq.stopAfter = false → (getPart t p.val).calmHeld = false ∧ ∀ n ∈ partCores s p.val, (getCore t n).calm = none) := by
  obtain ⟨pauses, part⟩ := getPart_switched (s := s) p.val (getPart s p.val).freq.target
  have restart := restartClocks_eq (getPart s p.val).freq.target plain idle
  have ended : getPart (restartClocks s p.val (getPart s p.val).freq.target) p.val =
      switchEnded { getPart s p.val with freq := { (getPart s p.val).freq with linkPause := pauses } } := by
    rw [restart, getPart_modPart_same, part]
  have freq := afterSwitch_freq (s := restartClocks s p.val (getPart s p.val).freq.target) p.val (getPart s p.val).freq.calmMode (getPart s p.val).freq.stopAfter
  rw [ended] at freq
  rw [exec_clockRestart_part gated, releaseImmediate_idle ((congrArg Freq.pending freq).trans quiet)]
  refine ⟨_, rfl, congrArg Freq.switching freq, congrArg Freq.gated freq, fun c own => ?_, fun calm goes => ?_⟩
  · have cluster : getClus (afterSwitch (restartClocks s p.val (getPart s p.val).freq.target) p.val (getPart s p.val).freq.calmMode (getPart s p.val).freq.stopAfter) c =
        getClus (switched s p.val (getPart s p.val).freq.target) c :=
      congrArg (mget ({} : Cluster) · c) ((afterSwitch_clus ..).trans ((congrArg State.clus restart).trans rfl))
    rw [cluster, step_switched own]
  · have cores : partCores (restartClocks s p.val (getPart s p.val).freq.target) p.val = partCores s p.val := by
      rw [partCores, partCores, clustersOf, clustersOf, ended]
      rfl
    rw [calm, goes]
    refine ⟨?_, fun n own => ?_⟩
    · exact congrArg Part.calmHeld ((getPart_congr (releaseAll_parts p.val) p.val).trans (getPart_modPart_same ..))
    · exact (calm_foldl_releaseCore _ n).trans (if_pos (cores ▸ own))

/-! ## Thermal limits (19 R714 to R720) -/

/-- The readings with one more (19 R714). -/
def sampled (s : State) (sensor : Nat) (v : Int) : State :=
  { s with pwr := { s.pwr with tj := mset s.pwr.tj sensor v, tjMax := min 4095 (max s.pwr.tjMax v.toNat) } }

theorem exec_thermalSample (sensor : Fin 34) (reading : BitVec 16) : exec (.thermalSample sensor reading) s =
    .next (if s.pwr.railsGood then hotReading (sampled s sensor.val reading.toInt) sensor.val reading.toInt
      else if s.pwr.thermtrip && allCool (sampled s sensor.val reading.toInt).pwr then releaseTrip (sampled s sensor.val reading.toInt)
      else sampled s sensor.val reading.toInt) := by
  refine Eq.trans (b := execThermalSample sensor reading s) rfl ?_
  simp only [execThermalSample]
  split <;> rfl

/-! ### A trip leaves the power block and the clusters but for their stop -/

theorem haltCore_keeps (n : Nat) (st : RunState) : (haltCore s n st).clus = s.clus ∧ (haltCore s n st).pwr = s.pwr := by
  simp only [haltCore]
  (repeat' split) <;> exact ⟨rfl, rfl⟩

theorem stopCluster_keeps (c : Nat) : (stopCluster s c).clus = s.clus ∧ (stopCluster s c).pwr = s.pwr :=
  ⟨foldl_keeps (g := State.clus) _ _ fun _ _ => (haltCore_keeps ..).1, foldl_keeps (g := State.pwr) _ _ fun _ _ => (haltCore_keeps ..).2⟩

theorem stopLate_keeps (n : Nat) : (stopLate s n).clus = s.clus ∧ (stopLate s n).pwr = s.pwr := by
  unfold stopLate
  split
  · split
    · exact haltCore_keeps ..
    · exact ⟨rfl, rfl⟩
  · exact ⟨rfl, rfl⟩

theorem throttled_stopAfterCc (c d : Nat) : (getClus (stopAfterCc s c) d).throttled = (getClus s d).throttled ∧ (stopAfterCc s c).pwr = s.pwr := by
  have clusters : (stopAfterCc s c).clus = (modClus s c (fun x => { x with stopAt := some (latestCcs s c) })).clus :=
    foldl_keeps (g := State.clus) _ _ fun _ _ => (stopLate_keeps ..).1
  have power : (stopAfterCc s c).pwr = s.pwr := (foldl_keeps (g := State.pwr) _ _ fun _ _ => (stopLate_keeps ..).2).trans rfl
  have cluster : getClus (stopAfterCc s c) d = getClus (modClus s c (fun x => { x with stopAt := some (latestCcs s c) })) d :=
    congrArg (mget ({} : Cluster) · d) clusters
  refine ⟨?_, power⟩
  rw [cluster]
  by_cases own : d = c
  · rw [own, getClus_modClus_same]
  · rw [getClus_modClus_other _ _ _ _ own]

theorem partEvent_keeps (p : Nat) (vector : Part → Nat) : (partEvent s p vector).clus = s.clus ∧ (partEvent s p vector).pwr = s.pwr := by
  simp only [partEvent, vecEvent, modPort, setPort]
  split <;> exact ⟨rfl, rfl⟩

theorem throttled_tripPart (p d : Nat) : (getClus (tripPart s p) d).throttled = (getClus s d).throttled ∧ (tripPart s p).pwr = s.pwr := by
  have stops (l : List Nat) (a : State) : (l.foldl stopCluster a).clus = a.clus ∧ (l.foldl stopCluster a).pwr = a.pwr :=
    ⟨foldl_keeps (g := State.clus) _ _ fun _ _ => (stopCluster_keeps _).1, foldl_keeps (g := State.pwr) _ _ fun _ _ => (stopCluster_keeps _).2⟩
  obtain ⟨clusters, power⟩ := stops (clustersOf s p) (stopByFault s p (lowestCluster s p))
  have cluster : getClus (tripPart s p) d = getClus (stopByFault s p (lowestCluster s p)) d := congrArg (mget ({} : Cluster) · d) clusters
  rw [cluster, tripPart, power, stopByFault]
  split
  · obtain ⟨kept, same⟩ := throttled_stopAfterCc (s := partEvent (modPart s p (fun x => { x with faultStop := true, stopPending := false })) p (·.faultVec)) (lowestCluster s p) d
    obtain ⟨events, power⟩ := partEvent_keeps (s := modPart s p (fun x => { x with faultStop := true, stopPending := false })) p (·.faultVec)
    refine ⟨kept.trans ?_, same.trans power⟩
    exact congrArg Cluster.throttled (congrArg (mget ({} : Cluster) · d) events)
  · exact ⟨rfl, rfl⟩

/-- The device with its fault recorded and its partitions stopped (19 R720). -/
def tripStopped (s : State) : State :=
  ((List.range 16).filter (fun p => partIsUp (getPart s p))).foldl tripPart (raiseDevice s { code := 0x01C0, kind := 15 })

theorem tripStopped_keeps (d : Nat) : (getClus (tripStopped s) d).throttled = (getClus s d).throttled ∧ (tripStopped s).pwr = s.pwr := by
  obtain ⟨i, hp, out, -, fault⟩ := raiseDevice_eq (s := s) { code := 0x01C0, kind := 15 }
  rw [tripStopped, fault]
  refine ⟨foldl_keeps (g := fun a => (getClus a d).throttled) _ _ fun _ _ => (throttled_tripPart _ d).1, ?_⟩
  exact foldl_keeps (g := State.pwr) _ _ fun _ _ => (throttled_tripPart _ 0).2

/-- Every clock gated. -/
def allGated (s : State) : State := (List.range 32).foldl (fun a c => modClus a c (fun x => { x with tripGated := true })) s

theorem getClus_allGated (d : Nat) : getClus (allGated s) d = if d ∈ List.range 32 then { getClus s d with tripGated := true } else getClus s d :=
  getClus_foldl_modClus (f := fun _ x => { x with tripGated := true }) List.nodup_range d

theorem allGated_pwr : (allGated s).pwr = s.pwr := foldl_keeps (g := State.pwr) _ _ fun _ _ => rfl

/-- THERMTRIP_N falls. -/
def tripped (s : State) : State := { s with pwr := { s.pwr with thermtrip := true }, pins := { s.pins with thermtripLow := true } }

theorem trip_eq : trip s = tripped (allGated (tripStopped s)) := by
  unfold trip allGated tripStopped
  rfl

theorem getClus_tripped (d : Nat) : getClus (tripped s) d = getClus s d := rfl

/-- A trip keeps the throttles and the readings; it gates every clock, and THERMTRIP_N falls. -/
theorem trip_keeps (d : Nat) : (getClus (trip s) d).throttled = (getClus s d).throttled ∧ (trip s).pwr = { s.pwr with thermtrip := true } ∧
    (trip s).pins.thermtripLow = true ∧ (d < 32 → (getClus (trip s) d).tripGated = true) := by
  obtain ⟨throttled, power⟩ := tripStopped_keeps (s := s) d
  rw [trip_eq]
  refine ⟨?_, ?_, rfl, fun h => ?_⟩
  · rw [getClus_tripped, getClus_allGated, ← throttled]
    split <;> rfl
  · rw [tripped, allGated_pwr, power]
  · rw [getClus_tripped, getClus_allGated, if_pos (List.mem_range.2 h)]

/-- What a reading does to its cluster leaves the power block, and the clocks that a trip gates. -/
theorem clusterReading_keeps (c : Nat) (v : Int) (d : Nat) :
    (clusterReading s c v).pwr = s.pwr ∧ (getClus (clusterReading s c v) d).tripGated = (getClus s d).tripGated := by
  have changed (f : Cluster → Cluster) (keeps : (f (getClus s c)).tripGated = (getClus s c).tripGated) :
      (modClus s c f).pwr = s.pwr ∧ (getClus (modClus s c f) d).tripGated = (getClus s d).tripGated := by
    refine ⟨rfl, ?_⟩
    by_cases own : d = c
    · rw [own, getClus_modClus_same, keeps]
    · rw [getClus_modClus_other _ _ _ _ own]
  have throttles : (throttleCluster s c).pwr = s.pwr ∧ (getClus (throttleCluster s c) d).tripGated = (getClus s d).tripGated := by
    have begun := changed (fun x => { x with throttled := true, own := some true, throttleWait := none, coolSince := none }) rfl
    simp only [throttleCluster]
    split <;> exact begun
  simp only [clusterReading]
  split
  · split
    · unfold beginThrottle
      split
      · exact changed _ rfl
      · exact throttles
    · exact ⟨rfl, rfl⟩
  · split
    · exact changed _ rfl
    · split
      · split
        · unfold endThrottle
          split <;> exact changed _ rfl
        · exact ⟨rfl, rfl⟩
      · exact changed _ rfl

theorem throttled_throttleCluster (c : Nat) : (getClus (throttleCluster s c) c).throttled = true := by
  have begun : (getClus (modClus s c (fun x => { x with throttled := true, own := some true, throttleWait := none, coolSince := none })) c).throttled = true := by
    rw [getClus_modClus_same]
  simp only [throttleCluster]
  split <;> exact begun

/-- From 105 °C on a cluster that is free to throttles; below it stays as it is (19 R715). -/
theorem clusterReading_throttles {c : Nat} (v : Int) (cool : (getClus s c).throttled = false) (free : clusterSwitching s c = false) :
    (getClus (clusterReading s c v) c).throttled = decide (1050 ≤ v) := by
  simp only [clusterReading, cool, Bool.not_false, if_true]
  by_cases hot : 1050 ≤ v
  · rw [if_pos hot, beginThrottle, free, decide_eq_true hot]
    exact throttled_throttleCluster c
  · rw [if_neg hot, cool, decide_eq_false hot]

/-- After 10 ms at 100 °C or less the throttle of a cluster that is free to ends (19 R716). -/
theorem clusterReading_ends {c since : Nat} {v : Int} (throttled : (getClus s c).throttled = true) (free : clusterSwitching s c = false)
    (cooling : (getClus s c).coolSince = some since) (low : v ≤ 1000) (long : since + coolTime ≤ nowNs s) :
    (getClus (clusterReading s c v) c).throttled = false := by
  simp only [clusterReading, throttled, Bool.not_true, Bool.false_eq_true, if_false, Int.not_lt.2 low, cooling]
  rw [if_pos long, endThrottle, free]
  simp [unthrottleCluster]

/-- What a reading with the main side powered does to its cluster, before a trip. -/
def taken (s : State) (sensor : Nat) (v : Int) : State := if sensor < 32 then clusterReading s sensor v else s

theorem hotReading_eq (sensor : Nat) (v : Int) : hotReading s sensor v = if 1150 ≤ v ∧ s.pwr.thermtrip = false then trip (taken s sensor v) else taken s sensor v := by
  simp only [hotReading, Bool.not_eq_true']
  rfl

theorem taken_keeps (sensor : Nat) (v : Int) (d : Nat) : (taken s sensor v).pwr = s.pwr ∧ (getClus (taken s sensor v) d).tripGated = (getClus s d).tripGated := by
  unfold taken
  split
  · exact clusterReading_keeps ..
  · exact ⟨rfl, rfl⟩

theorem throttled_hotReading (sensor : Nat) (v : Int) (d : Nat) : (getClus (hotReading s sensor v) d).throttled = (getClus (taken s sensor v) d).throttled := by
  rw [hotReading_eq]
  split
  · exact (trip_keeps d).1
  · rfl

theorem tj_hotReading (sensor : Nat) (v : Int) : (hotReading s sensor v).pwr.tj = s.pwr.tj := by
  have readings := congrArg PwrBlk.tj (taken_keeps (s := s) sensor v 0).1
  rw [hotReading_eq]
  split
  · rw [(trip_keeps 0).2.1]
    exact readings
  · exact readings

theorem tj_thermalSample (sensor : Fin 34) (reading : BitVec 16) {t : State} (done : exec (.thermalSample sensor reading) s = .next t) :
    mget 0 t.pwr.tj sensor.val = reading.toInt := by
  rw [exec_thermalSample] at done
  injection done with done
  have kept : t.pwr.tj = mset s.pwr.tj sensor.val reading.toInt := by
    rw [← done]
    split
    · exact tj_hotReading ..
    · split <;> rfl
  rw [kept, mget_mset_same]

end

/-- Settles O45, along the life of a switch: its command, its gate and its restart; and a reading through its cluster and the trip. -/
theorem clockAndThermal : Obligations.ClockAndThermal := by
  refine ⟨fun s p => ⟨fun h target answers allowed step => ⟨fun change => ?_, fun free locked => ?_⟩,
    fun switching running => ?_, fun cl own running => ?_, fun cl down since own gated idle => ?_, clockRestart_part, fun cl present held alone => ?_⟩,
    fun s sensor reading => ⟨_, exec_thermalSample sensor reading, tj_thermalSample sensor reading (exec_thermalSample sensor reading), ?_⟩⟩
  · rw [exec_freqChangeCalm answers allowed step, freqCalm_changes change]
  · rw [exec_freqChangeImmediate answers allowed step, freqImmediate_begins _ free locked]
  · exact ⟨exec_clockGate_part switching running, (gatePart_freq p.val).1, (gatePart_freq p.val).2, gatePart_linkPause p.val,
      (countPauses_keeps _).1, (countPauses_keeps _).2⟩
  · refine ⟨exec_clockGate_cluster own running, ?_, fun d other => ?_, (countPauses_keeps _).2, gateCluster_linkPause cl.val⟩
    · rw [getClus_gateCluster, getClus_modClus_same]
    · rw [getClus_gateCluster, getClus_modClus_other _ _ _ _ other]
  · have clock := clockOf_restartCluster down since idle
    have step := congrArg (fun k => k.2.2.1) clock
    refine ⟨_, exec_clockRestart_cluster own gated, congrArg (fun k => k.1) clock, congrArg (fun k => k.2.1) clock, fun h => step.trans ?_, fun o h part => step.trans ?_⟩
    · exact if_pos h
    · simp only [ownStep, h, part, Bool.false_eq_true, if_false]
  · refine Eq.trans (b := execGeneratorRelock cl s) rfl ?_
    have unheld : ¬(s.time.refclkLost || !(getClus s cl.val).holdover) = true := by simp [present, held]
    simp only [execGeneratorRelock]
    rw [if_neg unheld, alone]
  · refine ⟨fun good small cool free => ?_, fun since good small throttled free cooling low long => ?_, fun good hot first => ?_, fun good mild => ?_⟩
    · rw [if_pos good, throttled_hotReading, taken, if_pos small]
      exact clusterReading_throttles _ cool free
    · rw [if_pos good, throttled_hotReading, taken, if_pos small]
      exact clusterReading_ends throttled free cooling low long
    · rw [if_pos good, hotReading_eq, if_pos ⟨hot, first⟩]
      refine ⟨?_, (trip_keeps 0).2.2.1, fun c h => (trip_keeps c).2.2.2 h⟩
      rw [(trip_keeps 0).2.1]
    · rw [if_pos good, hotReading_eq, if_neg (fun h => by omega)]
      exact ⟨(congrArg PwrBlk.thermtrip (taken_keeps _ _ 0).1).trans rfl, fun c => (taken_keeps _ _ c).2⟩

end Sys2Proof.Machine

/-! # Resets of the device and Standby (16 R627, R635; 19 R710, R722 to R729) -/

namespace Sys2Proof.Machine

/-! ## What the boot leaves beside Breeze (16 R627 to R641) -/

/-- The state without what Breeze keeps for itself, but for the flash, MAIN_UP and whether the main side runs, and without the outputs. -/
def beside (s : State) : State := { s with brz := { flash := s.brz.flash, mainUp := s.brz.mainUp, mainRuns := s.brz.mainRuns }, out := [] }

section
variable (s : State)

@[simp] theorem beside_modBrz {f : Breeze → Breeze} (flash : (f s.brz).flash = s.brz.flash) (up : (f s.brz).mainUp = s.brz.mainUp)
    (runs : (f s.brz).mainRuns = s.brz.mainRuns) : beside (modBrz s f) = beside s := by
  simp only [beside, modBrz, flash, up, runs]
@[simp] theorem beside_platformEvent (kind data) : beside (platformEvent s kind data) = beside s := by
  unfold platformEvent
  split <;> rfl
@[simp] theorem beside_logAppend (index digest ident) : beside (logAppend s index digest ident) = beside s := by rfl
@[simp] theorem beside_remeasure (index digest ident) : beside (remeasure s index digest ident) = beside s := by
  unfold remeasure
  split <;> rfl
@[simp] theorem beside_setBstate (v) : beside (setBstate s v) = beside s := by
  unfold setBstate
  split <;> simp
@[simp] theorem beside_bootLine (kind v) : beside (bootLine s kind v) = beside s := by rfl
@[simp] theorem beside_atStage (n) : beside (atStage s n) = beside s := by simp [atStage]
@[simp] theorem beside_bootCode (code) : beside (bootCode s code) = beside s := by simp [bootCode]
@[simp] theorem beside_failStage (code bstate) : beside (failStage s code bstate) = beside s := by simp [failStage]

/-- A stage of the boot after those before it. -/
theorem beside_thenStage (x f) (h : ∀ s, beside (f s).1 = beside s) : beside (thenStage x f).1 = beside x.1 := by
  unfold thenStage
  split
  · exact h _
  · rfl

@[simp] theorem beside_stage1 : beside (stage1 s).1 = beside s := by
  simp only [stage1]
  split <;> simp
@[simp] theorem beside_stage2 (env) : beside (stage2 env s).1 = beside s := by
  simp only [stage2]
  split <;> simp
@[simp] theorem beside_runBreeze (v) : beside (runBreeze s v) = beside s := by simp [runBreeze]
@[simp] theorem beside_stage3 : beside (stage3 s).1 = beside s := by
  simp only [stage3]
  (repeat' split) <;> simp
@[simp] theorem beside_measureGrade : beside (measureGrade s) = beside s := by
  simp only [measureGrade]
  split <;> simp
@[simp] theorem beside_setGrade : beside (setGrade s) = beside s := by
  simp only [setGrade]
  split <;> simp
@[simp] theorem beside_takeGrade : beside (takeGrade s) = beside s := by
  unfold takeGrade
  split <;> simp
@[simp] theorem beside_stage4 : beside (stage4 s).1 = beside s := by
  simp only [stage4]
  (repeat' split) <;> simp
@[simp] theorem beside_reportPair (p) : beside (reportPair s p) = beside s := by simp [reportPair]
@[simp] theorem beside_measureCompat (waived) : beside (measureCompat s waived) = beside s := by simp [measureCompat]
@[simp] theorem beside_stage5 : beside (stage5 s).1 = beside s := by
  simp only [stage5]
  (repeat' split) <;> simp
@[simp] theorem beside_bootBreeze (env) : beside (bootBreeze env s).1 = beside s := by
  simp [bootBreeze, beside_thenStage]

/-! ## What a boot leaves of the main side -/

/-- The state beside Breeze, of the power block only the kind and the cause of the last reset. -/
def behind (s : State) : State := { beside s with pwr := { kind := s.pwr.kind, cause := s.pwr.cause } }

theorem behind_of_beside {s t : State} (h : beside t = beside s) : behind t = behind s :=
  congrArg (fun u : State => { u with pwr := { kind := u.pwr.kind, cause := u.pwr.cause } }) h

@[simp] theorem behind_setBstate (v) : behind (setBstate s v) = behind s := behind_of_beside (beside_setBstate s v)
@[simp] theorem behind_failStage (code bstate) : behind (failStage s code bstate) = behind s := behind_of_beside (beside_failStage s code bstate)
@[simp] theorem behind_atStage (n) : behind (atStage s n) = behind s := behind_of_beside (beside_atStage s n)
@[simp] theorem behind_stage4 : behind (stage4 s).1 = behind s := behind_of_beside (beside_stage4 s)
@[simp] theorem behind_stage5 : behind (stage5 s).1 = behind s := behind_of_beside (beside_stage5 s)
@[simp] theorem behind_bootBreeze (env) : behind (bootBreeze env s).1 = behind s := behind_of_beside (beside_bootBreeze s env)
@[simp] theorem behind_modBrz {f : Breeze → Breeze} (flash : (f s.brz).flash = s.brz.flash) (up : (f s.brz).mainUp = s.brz.mainUp)
    (runs : (f s.brz).mainRuns = s.brz.mainRuns) : behind (modBrz s f) = behind s := behind_of_beside (beside_modBrz s flash up runs)

/-- The rails and the power-up turns, among the power block. -/
theorem behind_power (good : Bool) (turns : List Nat) : behind { s with pwr := { s.pwr with railsGood := good, stagger := turns } } = behind s := rfl

@[simp] theorem behind_stage6 (env) : behind (stage6 env s) = behind s := by
  have rails := (behind_power (atStage s 6) (railsOk env) (atStage s 6).pwr.stagger).trans (behind_atStage s 6)
  have turns := (behind_power (atStage s 6) (railsOk env) (List.range 32)).trans (behind_atStage s 6)
  simp only [stage6]
  split
  · exact (behind_setBstate ..).trans rails
  · split
    · exact (behind_failStage ..).trans rails
    · exact (behind_modBrz _ rfl rfl rfl).trans turns

@[simp] theorem behind_bootMain (env) : behind (bootMain env s) = behind s := by
  simp only [bootMain]
  split <;> simp

@[simp] theorem behind_bootAll (env) : behind (bootAll env s) = behind s := by
  simp only [bootAll]
  split <;> simp

@[simp] theorem behind_regrade : behind (regrade s) = behind s := by
  unfold regrade
  split
  · exact behind_of_beside (beside_setGrade s)
  · rfl

@[simp] theorem behind_bootFromF (env) : behind (bootFromF env s) = behind s := by
  simp only [bootFromF]
  (repeat' split) <;> simp

end

/-! ## The main side at its reset values (19 R722, R726, R729) -/

/-- The flash is kept, and no memory, no partition and no core holds anything. -/
structure Returned (s t : State) : Prop where
  flash : t.brz.flash = s.brz.flash
  spMem : t.spMem = []
  cmMem : t.cmMem = []
  parts : t.parts = []
  cores : t.cores = []

theorem Returned.of_behind {s t u : State} (h : Returned s t) (same : behind u = behind t) : Returned s u where
  flash := (congrArg (fun a : State => a.brz.flash) same).trans h.flash
  spMem := (congrArg State.spMem same).trans h.spMem
  cmMem := (congrArg State.cmMem same).trans h.cmMem
  parts := (congrArg State.parts same).trans h.parts
  cores := (congrArg State.cores same).trans h.cores

theorem power_of_behind {t u : State} (same : behind u = behind t) : u.pwr.kind = t.pwr.kind ∧ u.pwr.cause = t.pwr.cause := by
  have kind := congrArg (fun a : State => a.pwr.kind) same
  have cause := congrArg (fun a : State => a.pwr.cause) same
  exact ⟨kind, cause⟩

theorem ff_of_behind {t u : State} (same : behind u = behind t) : u.ff = t.ff := by
  have record := congrArg State.ff same
  exact record

theorem pwr_of_beside {t u : State} (same : beside u = beside t) : u.pwr = t.pwr := by
  have power := congrArg State.pwr same
  exact power

/-- What the resets leave, as the obligation reads it. -/
def Emptied (s t : State) : Prop := t.brz.flash = s.brz.flash ∧ t.spMem = [] ∧ t.cmMem = [] ∧
  (∀ p, (getPart t p).state = .none) ∧ (∀ n, (getCore t n).state = .noTask ∨ (getCore t n).state = .disabled)

theorem Returned.emptied {s t : State} (h : Returned s t) : Emptied s t := by
  refine ⟨h.flash, h.spMem, h.cmMem, fun p => ?_, fun n => .inl ?_⟩
  · rw [getPart, h.parts]
    rfl
  · rw [getCore, h.cores]
    rfl

section
variable (s : State)

@[simp] theorem beside_forgetImages : beside (forgetImages s) = beside s := foldl_keeps (g := beside) _ _ fun _ _ => beside_remeasure ..

/-- The main side reset, before the measurements of the images are forgotten. -/
def mainReset (s : State) : State :=
  { pending := s.pending, free := s.free + 1, b0 := s.b0, ifRom := s.ifRom, dalardKey := s.dalardKey, fwKey := s.fwKey, out := s.out, dmMem := lostMemory s
    ff := s.ff, time := s.time, brz := breezeAtF s.brz, tap := s.tap, pins := s.pins
    pwr := { thermtrip := s.pwr.thermtrip, tjMax := s.pwr.tjMax, cause := s.pwr.cause, kind := s.pwr.kind }
    hp := { primary := (settingsOf s.brz).primary % 2, p0 := freshPort s.hp.p0, p1 := freshPort s.hp.p1 } }

theorem resetMainSide_eq : resetMainSide s = forgetImages (settlePps (mainReset s)) := rfl

theorem beside_resetMainSide : ∃ pins, beside (resetMainSide s) = beside { mainReset s with pins := pins } := by
  obtain ⟨pins, out, settled⟩ := settlePps_eq (s := mainReset s)
  exact ⟨pins, by rw [resetMainSide_eq, beside_forgetImages, settled]; rfl⟩

theorem resetMainSide_returned : Returned s (resetMainSide s) := by
  obtain ⟨pins, same⟩ := beside_resetMainSide s
  exact Returned.of_behind (t := { mainReset s with pins := pins }) ⟨rfl, rfl, rfl, rfl, rfl⟩ (behind_of_beside same)

theorem resetMainSide_ff : (resetMainSide s).ff = s.ff := by
  obtain ⟨pins, same⟩ := beside_resetMainSide s
  rw [ff_of_behind (behind_of_beside same)]
  rfl

theorem resetMainSide_railsGood : (resetMainSide s).pwr.railsGood = false := by
  obtain ⟨pins, same⟩ := beside_resetMainSide s
  rw [pwr_of_beside same]
  rfl

/-! ## F and P resets (16 R627; 19 R726 to R730; 21 R748) -/

/-- A state from which the boot of an F reset goes on (19 R726, R730). -/
def forBoot (t : State) (cause : Nat) (good : Bool) : State := { t with pwr := { t.pwr with cause := cause, kind := 1, railsGood := good } }

theorem Returned.forBoot {s t : State} (h : Returned s t) (cause : Nat) (good : Bool) : Returned s (forBoot t cause good) :=
  ⟨h.flash, h.spMem, h.cmMem, h.parts, h.cores⟩

theorem ff_forBoot (t : State) (cause : Nat) (good : Bool) : (forBoot t cause good).ff = t.ff := rfl

theorem pwr_forBoot (t : State) (cause : Nat) (good : Bool) : (forBoot t cause good).pwr.kind = 1 ∧ (forBoot t cause good).pwr.cause = cause := ⟨rfl, rfl⟩

theorem seedIfTrusted_returned {s t : State} (h : Returned s t) :
    Returned s (seedIfTrusted t) ∧ (seedIfTrusted t).pwr = t.pwr ∧ (seedIfTrusted t).ff = t.ff := by
  unfold seedIfTrusted
  split
  · obtain ⟨fab, seeded⟩ := seedSessions_eq (s := t)
    rw [seeded]
    exact ⟨⟨h.flash, h.spMem, h.cmMem, h.parts, h.cores⟩, rfl, rfl⟩
  · exact ⟨h, rfl, rfl⟩

theorem fReset_eq (cause : Nat) (env : BootEnv) :
    fReset s cause env = bootFromF env (seedIfTrusted (forBoot (resetMainSide s) cause (railsOk env))) := rfl

theorem fReset_parts (cause : Nat) (env : BootEnv) :
    Returned s (fReset s cause env) ∧ (fReset s cause env).pwr.kind = 1 ∧ (fReset s cause env).pwr.cause = cause ∧ (fReset s cause env).ff = s.ff := by
  obtain ⟨returned, power, record⟩ := seedIfTrusted_returned ((resetMainSide_returned s).forBoot cause (railsOk env))
  have same := behind_bootFromF (seedIfTrusted (forBoot (resetMainSide s) cause (railsOk env))) env
  rw [← fReset_eq] at same
  obtain ⟨kind, why⟩ := power_of_behind same
  obtain ⟨one, named⟩ := pwr_forBoot (resetMainSide s) cause (railsOk env)
  rw [power] at kind why
  rw [ff_forBoot, resetMainSide_ff] at record
  exact ⟨returned.of_behind same, kind.trans one, why.trans named, (ff_of_behind same).trans record⟩

/-- The device at its reset values but for the flash, from which a P reset boots. -/
def resetForP (s : State) (env : BootEnv) : State :=
  { pending := s.pending, free := s.free + 1, b0 := s.b0, ifRom := s.ifRom, dalardKey := s.dalardKey, fwKey := s.fwKey, out := s.out, dmMem := lostMemory s
    pwr := { railsGood := railsOk env }
    brz := { flash := s.brz.flash, listen := (settingsOf s.brz).mgtAddr }, tap := { held := s.tap.held }
    hp := { primary := (settingsOf s.brz).primary % 2, p0 := freshPort s.hp.p0, p1 := freshPort s.hp.p1 } }

theorem exec_pReset (env : BootEnv) : exec (.pReset env) s = .next (bootAll env (resetForP s env)) := rfl

/-! ## M resets (16 R635; 19 R727) -/

theorem beside_restartLog : beside (restartLog s) = beside s := by
  have begun : beside (modBrz s (fun b => { b with log := [], logSeq := 0, logWrapped := false })) = beside s := beside_modBrz _ rfl rfl rfl
  refine Eq.trans (foldl_keeps (g := beside) _ _ fun t e => ?_) begun
  split <;> rfl

theorem beside_runAgain : beside (runAgain s) = beside (modBrz s (fun b => { b with mainUp := true })) := beside_setBstate ..

/-- The main side, which a change beside Breeze does not reach. -/
theorem mainSide_of_beside {t u : State} (same : beside t = beside u) : t.cores = u.cores ∧ t.clus = u.clus ∧ t.parts = u.parts ∧
    t.hp = u.hp ∧ t.fab = u.fab ∧ t.spMem = u.spMem ∧ t.cmMem = u.cmMem ∧ t.dmMem = u.dmMem ∧ t.pwr = u.pwr := by
  have units := congrArg (fun a : State => (a.cores, a.clus, a.parts, a.hp, a.fab, a.spMem, a.cmMem, a.dmMem, a.pwr)) same
  simp only [Prod.mk.injEq] at units
  exact units

theorem breeze_of_beside {t u : State} (same : beside t = beside u) : t.brz.flash = u.brz.flash ∧ t.brz.mainRuns = u.brz.mainRuns ∧ t.brz.mainUp = u.brz.mainUp := by
  have breeze := congrArg (fun a : State => (a.brz.flash, a.brz.mainRuns, a.brz.mainUp)) same
  simp only [Prod.mk.injEq] at breeze
  exact breeze

/-- Beside a running main side an M reset leaves everything but Breeze: MAIN_UP tells how stages 1 to 4 ended. -/
theorem beside_mResetRunning (env : BootEnv) : beside (mResetRunning s env) =
    beside (modBrz s (fun b => { b with mainRuns := true, mainUp := (bootBreeze env (modBrz s breezeAtM)).2 })) := by
  have booted := beside_bootBreeze (modBrz s breezeAtM) env
  simp only [mResetRunning, beside_restartLog]
  split
  · next good =>
    rw [beside_runAgain, good]
    exact congrArg (fun u : State => { u with brz := { u.brz with mainUp := true } }) booted
  · next bad =>
    rw [Bool.eq_false_iff.2 bad]
    exact booted

/-! ## Standby (19 R722 to R725) -/

theorem bstate_setBstate (v : Nat) : (setBstate s v).brz.bstate = v := by
  unfold setBstate
  split
  · assumption
  · obtain ⟨out, event⟩ := platformEvent_eq (s := modBrz s (fun b => { b with bstate := v })) 0 v
    rw [event]
    rfl

/-- The time base as it is left by the entry into Standby. -/
def timeInStandby (s t : State) : State := { t with time := { t.time with untrustedSince := nowNs s, standby := true } }

theorem Returned.timeInStandby {s t : State} (h : Returned s t) (since : State) : Returned s (timeInStandby since t) :=
  ⟨h.flash, h.spMem, h.cmMem, h.parts, h.cores⟩

theorem pwr_timeInStandby (t : State) : (timeInStandby s t).pwr = t.pwr := rfl

theorem exec_standbyEntry (good : s.pwr.railsGood = true) : exec .standbyEntry s = .next (setBstate (timeInStandby s (resetMainSide s)) 4) := by
  refine Eq.trans (b := execStandbyEntry s) rfl ?_
  simp only [execStandbyEntry, good, Bool.not_true, Bool.false_eq_true, if_false]
  rfl

theorem standbyEntry_parts : Returned s (setBstate (timeInStandby s (resetMainSide s)) 4) ∧
    (setBstate (timeInStandby s (resetMainSide s)) 4).pwr.railsGood = false := by
  refine ⟨((resetMainSide_returned s).timeInStandby s).of_behind (behind_setBstate ..), ?_⟩
  rw [pwr_of_beside (beside_setBstate ..), pwr_timeInStandby, resetMainSide_railsGood]

/-- The time base taken up on the return from Standby leaves Breeze. -/
theorem timeOnReturn_brz (env : BootEnv) : (timeOnReturn s env).brz = s.brz := by
  have untrusts : (untrustTime s).brz = s.brz := by
    cases before : s.time.trusted with
    | false => rw [untrustTime_idle before]
    | true =>
      obtain ⟨i, hp, fab, pins, out, -, done⟩ := untrustTime_eq before
      rw [done]
  have trusts (t : State) : (trustTime t).brz = t.brz := by
    cases before : t.time.trusted with
    | true => rw [trustTime_idle before]
    | false =>
      obtain ⟨fab, done⟩ := trustTime_eq before
      rw [done]
  simp only [timeOnReturn]
  split
  · rw [trusts]
    exact untrusts
  · exact untrusts

theorem exec_standbyExit (env : BootEnv) (bad : s.pwr.railsGood = false) : exec (.standbyExit env) s = .next (fReset (timeOnReturn s env) 4 env) := by
  refine Eq.trans (b := execStandbyExit env s) rfl ?_
  simp only [execStandbyExit, bad, Bool.false_eq_true, if_false]

/-! ## The pins of an F reset, and a cluster's turn (19 R710, R726) -/

/-- The levels of the host ports' pins with which an F reset begins. -/
def pinsLow (s : State) (low : Bool) : State :=
  modPort (modPort s 0 (fun p => { p with perst := p.perst || low })) 1 (fun p => { p with perst := p.perst || low })

theorem exec_fReset (cause : FCause) (env : BootEnv) : exec (.fReset cause env) s = .next (fReset (pinsLow s (cause == .bothPerst)) (causeOf cause) env) := rfl

theorem pinsLow_keeps (low : Bool) : (pinsLow s low).brz = s.brz ∧ (pinsLow s low).ff = s.ff := ⟨rfl, rfl⟩

theorem exec_clusterPowerUp {cl : ClusterId} {rest : List Nat} (turn : s.pwr.stagger = cl.val :: rest) : exec (.clusterPowerUp cl) s =
    .next (bootOn (modClus { s with pwr := { s.pwr with stagger := rest } } cl.val (fun x => { x with powered := true }))) := by
  refine Eq.trans (b := execClusterPowerUp cl s) rfl ?_
  simp only [execClusterPowerUp, turn, if_true]

theorem exec_mReset (env : BootEnv) : exec (.mReset env) s = .next (if s.brz.mainRuns then mResetRunning { s with time := { s.time with xtalLost := false } } env
    else mResetDown { s with time := { s.time with xtalLost := false } } env) := rfl

end

theorem Returned.of_flash {s t u : State} (h : Returned t u) (same : t.brz = s.brz) : Returned s u :=
  ⟨h.flash.trans (congrArg Breeze.flash same), h.spMem, h.cmMem, h.parts, h.cores⟩

/-- Settles O55: each reset by the state from which its boot goes on, which the boot leaves but for Breeze and the power block. -/
theorem deviceResets : Obligations.DeviceResets := by
  refine fun s env => ⟨⟨_, exec_pReset s env, ?_⟩, fun cause => ⟨_, exec_fReset s cause env, ?_⟩, fun runs => ?_, fun down => ?_,
    fun cl rest turn => exec_clusterPowerUp s turn, fun good => ⟨_, exec_standbyEntry s good, ?_⟩, fun bad => ⟨_, exec_standbyExit s env bad, ?_⟩⟩
  · have same := behind_bootAll (resetForP s env) env
    obtain ⟨kind, cause⟩ := power_of_behind same
    have returned : Returned s (resetForP s env) := ⟨rfl, rfl, rfl, rfl, rfl⟩
    exact ⟨(returned.of_behind same).emptied, kind, cause⟩
  · obtain ⟨returned, kind, why, record⟩ := fReset_parts (pinsLow s (cause == .bothPerst)) (causeOf cause) env
    obtain ⟨breeze, ff⟩ := pinsLow_keeps s (cause == .bothPerst)
    refine ⟨(returned.of_flash breeze).emptied, kind, why.trans ?_, congrArg (fun r => r.latch) (record.trans ff)⟩
    cases cause <;> rfl
  · have same := beside_mResetRunning { s with time := { s.time with xtalLost := false } } env
    obtain ⟨flash, main, up⟩ := breeze_of_beside same
    have units := mainSide_of_beside same
    refine ⟨_, ?_, flash, main, up, units⟩
    rw [exec_mReset, if_pos runs]
  · rw [exec_mReset, if_neg (by simp [down])]
    rfl
  · obtain ⟨returned, power⟩ := standbyEntry_parts s
    exact ⟨returned.emptied, power, bstate_setBstate ..⟩
  · obtain ⟨returned, kind, why, -⟩ := fReset_parts (timeOnReturn s env) 4 env
    exact ⟨(returned.of_flash (timeOnReturn_brz s env)).emptied, kind, why⟩

end Sys2Proof.Machine

/-! # The partition commands (17 R661 to R670; 19 R729) -/

namespace Sys2Proof.Machine

section
variable {s : State} {p : Nat}

/-! ## The cores and clusters of a partition -/

theorem partCores_congr {t : State} (same : (getPart t p).clusters = (getPart s p).clusters) : partCores t p = partCores s p := by
  rw [partCores, partCores, clustersOf, clustersOf, same]

theorem clusOf_of_mem {c n : Nat} (own : n ∈ coresOf c) : clusOf n = c := by
  obtain ⟨i, low, rfl⟩ := List.mem_map.1 own
  have := List.mem_range.1 low
  unfold clusOf
  omega

theorem partCores_nodup : (partCores s p).Nodup := by
  rw [partCores, List.nodup_flatMap]
  refine ⟨fun c _ => coresOf_nodup c, (clustersOf_nodup s p).imp fun {c d} other => ?_⟩
  intro n inC inD
  exact other ((clusOf_of_mem inC).symm.trans (clusOf_of_mem inD))

/-- A walk establishes what one of its steps establishes and each step keeps. -/
theorem foldl_establishes {α : Type} {P : State → Prop} {f : State → α → State} {l : List α} {x : α} (member : x ∈ l) (s : State)
    (establishes : ∀ t, P (f t x)) (keeps : ∀ t y, P t → P (f t y)) : P (l.foldl f s) := by
  induction l generalizing s with
  | nil => exact absurd member List.not_mem_nil
  | cons y rest ih =>
    have stays (t : State) (holds : P t) : P (rest.foldl f t) :=
      List.foldlRecOn rest f (motive := P) holds fun t ht z _ => keeps t z ht
    rcases List.mem_cons.1 member with rfl | later
    · exact stays _ (establishes s)
    · exact ih later _

/-! ## The outcome of a command (17 R663) -/

theorem partCmd_granted {h op : Nat} {act : State → State} (answers : portAnswers s h = true) (allowed : partDenied s h p = none) :
    partCmd h p op act s = .next (act s) := hostCmd_granted answers allowed

theorem getPart_partEnd (code : Nat) : getPart (partEnd s p code) p = { getPart s p with resultValid := true, code := code } := getPart_modPart_same ..

/-! ## START (17 R664, R665) -/

/-- The state whose cores a START sets going: a KEPT start point releases its participants and restarts its batches, and cores in Lull wake. -/
def readied (s : State) (p : Nat) : State := wakePart (if (getPart s p).kept then restartBatches (releaseAll s p) p else s) p

theorem wakeCore_parts (n : Nat) : (wakeCore s n).parts = s.parts := by
  unfold wakeCore
  split <;> rfl

theorem wakePart_parts : (wakePart s p).parts = s.parts := foldl_keeps (g := State.parts) _ _ fun _ _ => wakeCore_parts _

theorem restartBatches_keeps : (restartBatches s p).parts = s.parts ∧ (restartBatches s p).cores = s.cores :=
  ⟨foldl_keeps (g := State.parts) _ _ fun _ _ => rfl, foldl_keeps (g := State.cores) _ _ fun _ _ => rfl⟩

theorem readied_part : ∃ held, getPart (readied s p) p = { getPart s p with calmHeld := held } := by
  rw [readied, getPart_congr wakePart_parts]
  split
  · refine ⟨false, ?_⟩
    rw [getPart_congr restartBatches_keeps.1, getPart_congr (releaseAll_parts p), getPart_modPart_same]
  · exact ⟨(getPart s p).calmHeld, rfl⟩

/-- What a START reads of a core. -/
def startView (c : Core) : RunState × Nat × Option Task := (c.state, c.pc, c.task)

theorem startView_releaseCore {n : Nat} (stopped : (getCore s n).state = .stopped) (m : Nat) :
    startView (getCore (releaseCore s m) n) = startView (getCore s n) := by
  by_cases same : n = m
  · subst same
    rw [releaseCore, getCore_modCore_same]
    split
    · simp [startView, stopped]
    · rfl
  · rw [releaseCore, getCore_modCore_other _ _ _ _ same]

theorem startView_wakeCore (m n : Nat) : startView (getCore (wakeCore s m) n) = startView (getCore s n) := by
  unfold wakeCore
  split
  · by_cases same : n = m
    · rw [same, getCore_modCore_same]
      rfl
    · rw [getCore_modCore_other _ _ _ _ same]
  · rfl

/-- A stopped core is found as it stopped. -/
theorem startView_readied {n : Nat} (stopped : (getCore s n).state = .stopped) : startView (getCore (readied s p) n) = startView (getCore s n) := by
  have wakes (t : State) : startView (getCore (wakePart t p) n) = startView (getCore t n) :=
    foldl_keeps (g := fun t => startView (getCore t n)) _ _ fun _ _ => startView_wakeCore ..
  rw [readied, wakes]
  split
  · have restarts : getCore (restartBatches (releaseAll s p) p) n = getCore (releaseAll s p) n := congrArg (mget ({} : Core) · n) restartBatches_keeps.2
    rw [restarts]
    exact List.foldlRecOn (partCores s p) releaseCore (motive := fun t => startView (getCore t n) = startView (getCore s n)) rfl
      fun t same m _ => (startView_releaseCore ((congrArg (fun v => v.1) same).trans stopped) m).trans same
  · rfl

theorem start_stopped {c : Core} (kept : Bool) (stopped : c.state = .stopped) (task : c.task.isSome = true) :
    ((if kept then startKept else startFresh) c).state = .running ∧ ((if kept then startKept else startFresh) c).pc = if kept then c.pc else (taskOf c).entry := by
  have ready : startable c = true := by simp [startable, stopped, task]
  cases kept
  · simp [startFresh, ready, taskOf]
  · simp [startKept, ready]

/-- The cores of a partition set going. -/
def setGoing (s : State) (p : Nat) : State :=
  (partCores (readied s p) p).foldl (fun a n => modCore a n (if (getPart s p).kept then startKept else startFresh)) (readied s p)

/-- The groups and the clusters of a partition as it starts. -/
def unitsStarted (s : State) (p : Nat) : State :=
  (clustersOf (setGoing s p) p).foldl (fun a c => modClus a c (fun x => { cameBefore x with stopAt := none })) (openGroups (setGoing s p) p)

theorem startPart_eq : startPart s p = partEnd (modPart (unitsStarted s p) p (fun y =>
    { y with state := .running, kept := false, restored := false, hostPort := y.owner, starts := y.starts.bump })) p 0 := rfl

theorem unitsStarted_keeps : (unitsStarted s p).parts = (readied s p).parts ∧ (unitsStarted s p).cores = (setGoing s p).cores := by
  have going : (setGoing s p).parts = (readied s p).parts := foldl_keeps (g := State.parts) _ _ fun _ _ => rfl
  have parts : (unitsStarted s p).parts = (openGroups (setGoing s p) p).parts := foldl_keeps (g := State.parts) _ _ fun _ _ => rfl
  have cores : (unitsStarted s p).cores = (openGroups (setGoing s p) p).cores := foldl_keeps (g := State.cores) _ _ fun _ _ => rfl
  exact ⟨parts.trans going, cores⟩

theorem getPart_startPart : ∃ held, getPart (startPart s p) p = { getPart s p with
    state := .running, kept := false, restored := false, hostPort := (getPart s p).owner, starts := (getPart s p).starts.bump, calmHeld := held, resultValid := true, code := 0 } := by
  obtain ⟨held, ready⟩ := readied_part (s := s) (p := p)
  refine ⟨held, ?_⟩
  rw [startPart_eq, getPart_partEnd, getPart_modPart_same, getPart_congr unitsStarted_keeps.1, ready]

theorem getCore_startPart {n : Nat} (own : n ∈ partCores s p) (stopped : (getCore s n).state = .stopped) (task : (getCore s n).task.isSome = true) :
    (getCore (startPart s p) n).state = .running ∧
      (getCore (startPart s p) n).pc = if (getPart s p).kept then (getCore s n).pc else (taskOf (getCore s n)).entry := by
  obtain ⟨held, ready⟩ := readied_part (s := s) (p := p)
  have cores : partCores (readied s p) p = partCores s p := partCores_congr (by rw [ready])
  have core : getCore (startPart s p) n = getCore (setGoing s p) n := congrArg (mget ({} : Core) · n) (unitsStarted_keeps (s := s) (p := p)).2
  obtain ⟨state, pc, task'⟩ : (getCore (readied s p) n).state = (getCore s n).state ∧ (getCore (readied s p) n).pc = (getCore s n).pc ∧
      (getCore (readied s p) n).task = (getCore s n).task := by
    simpa only [startView, Prod.mk.injEq] using startView_readied (p := p) stopped
  have goes := start_stopped (getPart s p).kept (state.trans stopped) ((congrArg Option.isSome task').trans task)
  rw [pc, taskOf, task'] at goes
  rw [core, setGoing, cores, getCore_foldl_modCore (f := fun _ => if (getPart s p).kept then startKept else startFresh) partCores_nodup, if_pos own]
  exact goes

/-! ## STOP and its deadline (17 R666 to R668) -/

/-- A partition whose stop is pending, its cores in Lull waking. -/
def stopping (s : State) (p : Nat) : State :=
  modPart (wakePart s p) p (fun x => { x with state := .stopping, stopPending := true, stopTime := some (nowNs s), det := { x.det with phase := 0 } })

theorem stopPart_eq : stopPart s p = if (getPart s p).det.phase = 2 ∨ participants (stopping s p) p = [] then takeStop (stopping s p) p else stopping s p := by
  simp only [← List.isEmpty_iff]
  rfl

theorem stopPart_pends (unpaused : (getPart s p).det.phase ≠ 2) (active : participants (stopping s p) p ≠ []) : stopPart s p = stopping s p := by
  rw [stopPart_eq, if_neg (not_or_intro unpaused active)]

theorem stopPart_takes (atOnce : (getPart s p).det.phase = 2 ∨ participants (stopping s p) p = []) : stopPart s p = takeStop (stopping s p) p := by
  rw [stopPart_eq, if_pos atOnce]

theorem getPart_stopping : getPart (stopping s p) p =
    { getPart s p with state := .stopping, stopPending := true, stopTime := some (nowNs s), det := { (getPart s p).det with phase := 0 } } := by
  rw [stopping, getPart_modPart_same, getPart_congr wakePart_parts]

/-- Without a frequency change that waits, a pending stop takes effect. -/
theorem takeStop_stopped {t : Nat} (began : (getPart s p).stopTime = some t) (quiet : (getPart s p).freq.pending = none) :
    let y := getPart (takeStop s p) p
    y.state = .stopped ∧ y.kept = true ∧ y.stopPending = false ∧ y.resultValid = true ∧ y.code = 0 := by
  have stops : takeStop s p = becomeStopped (modPart s p (fun x => { x with calmHeld := true, det := { x.det with excPause := x.det.excPause.bump } })) p := by
    simp only [takeStop, getPart_modPart_same, quiet]
  simp only [stops, becomeStopped, getPart_modPart_same, endStop, began]
  exact ⟨trivial, trivial, trivial, trivial, trivial⟩

theorem exec_stopDeadline_idle {q : PartId} (idle : (getPart s q.val).stopTime = none) : exec (.stopDeadline q) s = .next s := by
  refine Eq.trans (b := execStopDeadline q s) rfl ?_
  simp only [execStopDeadline, idle]

theorem exec_stopDeadline {q : PartId} {t : Nat} (began : (getPart s q.val).stopTime = some t) : exec (.stopDeadline q) s =
    if nowNs s < t + 1000 * (getPart s q.val).stopDeadline then .next s
    else .next (setPart s q.val { getPart s q.val with stopTime := none, resultValid := true, code := 0x00A2 }) := by
  refine Eq.trans (b := execStopDeadline q s) rfl ?_
  simp only [execStopDeadline, began, partEnd, modPart_modPart]
  rfl

/-! ## The T reset (17 R670; 19 R729) -/

/-- A core that has been reset: it issues nothing, and its queues are closed and empty. -/
def CoreAtRest (c : Core) : Prop := issuing c = false ∧ ∀ q ∈ c.tq, q.2.state = .closed ∧ q.2.entries = []

theorem resetCore_atRest (t off : Bool) (c : Core) : CoreAtRest (resetCore t off c) := by
  constructor
  · simp only [issuing, resetCore, restState]
    (repeat' split) <;> rfl
  · intro q member
    obtain ⟨e, -, rfl⟩ := List.mem_map.1 member
    exact ⟨rfl, rfl⟩

theorem emptyQueues_other {m n : Nat} (other : n ≠ m) (st : TqState) : getCore (emptyQueues s m st) n = getCore s n :=
  foldl_keeps (g := fun t => getCore t n) _ _ fun t k => by
    rw [emptyQueue, getCore_modClus]
    exact getCore_modCore_other _ _ _ _ other

/-- One core of a cluster on the way to its reset. -/
def coreToReset (t : Bool) (a : State) (c n : Nat) : State :=
  modCore (emptyQueues a n .closed) n (resetCore t ((getClus a c).disabled.getLsbD (pcoreOf n)))

/-- The cores of a cluster reset. -/
def coresReset (t : Bool) (s : State) (c : Nat) : State := (coresOf c).foldl (fun a n => coreToReset t a c n) s

theorem resetCluster_eq (t : Bool) (c : Nat) : resetCluster t s c = offRings (modClus (coresReset t s c) c (resetUnits t)) c := rfl

theorem getCore_offRings (a : State) (c n : Nat) : getCore (offRings a c) n = getCore a n := rfl
theorem getClus_offRings (a : State) (c d : Nat) : getClus (offRings a c) d = getClus a d := rfl

theorem getCore_resetCluster (t : Bool) (c n : Nat) : getCore (resetCluster t s c) n = getCore (coresReset t s c) n := by
  rw [resetCluster_eq, getCore_offRings, getCore_modClus]

theorem coreToReset_atRest {t : Bool} {a : State} {c m n : Nat} (h : n = m ∨ CoreAtRest (getCore a n)) : CoreAtRest (getCore (coreToReset t a c m) n) := by
  by_cases same : n = m
  · rw [same, coreToReset, getCore_modCore_same]
    exact resetCore_atRest ..
  · rw [coreToReset, getCore_modCore_other _ _ _ _ same, emptyQueues_other same]
    exact h.resolve_left same

theorem resetCluster_establishes (t : Bool) {c n : Nat} (own : n ∈ coresOf c) : CoreAtRest (getCore (resetCluster t s c) n) := by
  rw [getCore_resetCluster]
  exact foldl_establishes (P := fun a => CoreAtRest (getCore a n)) own s (fun _ => coreToReset_atRest (.inl rfl)) fun _ _ rest => coreToReset_atRest (.inr rest)

theorem resetCluster_keepsRest (t : Bool) {c n : Nat} (rest : CoreAtRest (getCore s n)) : CoreAtRest (getCore (resetCluster t s c) n) := by
  rw [getCore_resetCluster]
  exact List.foldlRecOn (coresOf c) _ (motive := fun a => CoreAtRest (getCore a n)) rest fun _ held _ _ => coreToReset_atRest (.inr held)

/-! ### The streams and rings of a cluster -/

/-- The streams of a cluster stand idle. -/
def StreamsIdle (s : State) (c : Nat) : Prop := ∀ i, (getStream s c i).state = .idle
/-- The rings of a cluster are disabled. -/
def RingsOff (s : State) (c : Nat) : Prop := ∀ ch : Fin 4, (getRing s (ringOf c ch.val)).en = false

theorem emptyQueue_str (n t : Nat) (st : TqState) (c : Nat) : (getClus (emptyQueue s n t st) c).str = (getClus s c).str ∧ (emptyQueue s n t st).hp = s.hp := by
  refine ⟨?_, rfl⟩
  by_cases own : c = clusOf n
  · rw [own, emptyQueue, getClus_modClus_same, getClus_modCore]
    rfl
  · rw [emptyQueue, getClus_modClus_other _ _ _ _ own, getClus_modCore]

theorem emptyQueues_str (n : Nat) (st : TqState) (c : Nat) : (getClus (emptyQueues s n st) c).str = (getClus s c).str ∧ (emptyQueues s n st).hp = s.hp :=
  ⟨foldl_keeps (g := fun a => (getClus a c).str) _ _ fun _ _ => (emptyQueue_str ..).1, foldl_keeps (g := State.hp) _ _ fun _ _ => (emptyQueue_str _ _ _ 0).2⟩

theorem coreToReset_str (t : Bool) (a : State) (d m c : Nat) : (getClus (coreToReset t a d m) c).str = (getClus a c).str ∧ (coreToReset t a d m).hp = a.hp := by
  obtain ⟨str, hp⟩ := emptyQueues_str (s := a) m .closed c
  rw [coreToReset, getClus_modCore]
  exact ⟨str, hp⟩

theorem coresReset_str (t : Bool) (d c : Nat) : (getClus (coresReset t s d) c).str = (getClus s c).str ∧ (coresReset t s d).hp = s.hp :=
  ⟨foldl_keeps (g := fun a => (getClus a c).str) _ _ fun _ _ => (coreToReset_str ..).1, foldl_keeps (g := State.hp) _ _ fun _ _ => (coreToReset_str _ _ _ _ 0).2⟩

theorem streams_resetUnits (t : Bool) (x : Cluster) : (resetUnits t x).str.streams = x.str.streams.map (fun e => (e.1, resetStream e.2)) := rfl

theorem resetCluster_str (t : Bool) (d c : Nat) : (getClus (resetCluster t s d) c).str.streams =
    if c = d then (getClus s c).str.streams.map (fun e => (e.1, resetStream e.2)) else (getClus s c).str.streams := by
  rw [resetCluster_eq, getClus_offRings]
  by_cases own : c = d
  · rw [own, getClus_modClus_same, if_pos rfl, streams_resetUnits, (coresReset_str t d d).1]
  · rw [getClus_modClus_other _ _ _ _ own, if_neg own, (coresReset_str t d c).1]

theorem resetCluster_streams (t : Bool) {d c : Nat} (h : c = d ∨ StreamsIdle s c) : StreamsIdle (resetCluster t s d) c := by
  intro i
  rw [getStream, resetCluster_str]
  split
  · rw [mget_map _ _ _ rfl]
    rfl
  · next other => exact h.resolve_left other i

/-- A table whose entries change by their keys reads as the entry changed. -/
theorem mget_mapKeys {α : Type} (d : α) (m : SMap α) (f : Nat → α → α) (k : Nat) (h : f k d = d) :
    mget d (m.map (fun e => (e.1, f e.1 e.2))) k = f k (mget d m k) := by
  induction m with
  | nil => exact h.symm
  | cons e r ih =>
    obtain ⟨i, v⟩ := e
    by_cases same : i = k
    · simp [mget, same]
    · simpa [mget, same] using ih

theorem getRing_offRings (c r : Nat) : getRing (offRings s c) r = if r / 4 = c then offRing (getRing s r) else getRing s r := by
  have mapped := mget_mapKeys ({} : Ring) s.hp.rings (fun r x => if r / 4 = c then offRing x else x) r (by split <;> rfl)
  exact mapped

theorem getRing_modClus (a : State) (c r : Nat) (f : Cluster → Cluster) : getRing (modClus a c f) r = getRing a r := rfl

theorem resetCluster_rings (t : Bool) {d c : Nat} (h : c = d ∨ RingsOff s c) : RingsOff (resetCluster t s d) c := by
  intro ch
  have rings : getRing (coresReset t s d) (ringOf c ch.val) = getRing s (ringOf c ch.val) := by
    rw [getRing, (coresReset_str t d c).2, ← getRing]
  have place : ringOf c ch.val / 4 = c := by
    unfold ringOf
    omega
  rw [resetCluster_eq, getRing_offRings, getRing_modClus, rings, place]
  split
  · rfl
  · next other => exact h.resolve_left other ch

/-! ### The whole partition -/

theorem str_modClus {f : Cluster → Cluster} (keeps : ∀ x, (f x).str = x.str) (d c : Nat) : (getClus (modClus s d f) c).str = (getClus s c).str := by
  by_cases own : c = d
  · rw [own, getClus_modClus_same, keeps]
  · rw [getClus_modClus_other _ _ _ _ own]

theorem getPart_goPlan : ∃ freq, getPart (goPlan s p) p = { getPart s p with freq := freq } := by
  refine ⟨(getPart (goPlan s p) p).freq, ?_⟩
  rw [goPlan, getPart_modPart_same]

theorem goPlan_keeps : (goPlan s p).cores = s.cores ∧ (goPlan s p).hp = s.hp ∧ (goPlan s p).clus = s.clus := ⟨rfl, rfl, rfl⟩

/-- The clusters of a partition without throttles or switches of their own (19 R719). -/
def unthrottled (s : State) (p : Nat) : State :=
  (clustersOf s p).foldl (fun a c => modClus a c (fun x => { x with throttled := false, throttleWait := none, coolSince := none, own := none, gated := none, paused := [] })) s

/-- The partition on its way to its CLOCK_PLAN steps, its registers at them at once (14 R571, R572). -/
def planned (s : State) (p : Nat) : State :=
  modPart (goPlan (unthrottled s p) p) p (fun x => { x with freq := { x.freq with quiet := x.freq.switching } })

theorem returnSteps_eq : returnSteps s p = (clustersOf s p).foldl (fun a c => modClus a c (fun x => { x with step := x.planStep })) (planned s p) := rfl

theorem unthrottled_keeps : (unthrottled s p).cores = s.cores ∧ (unthrottled s p).hp = s.hp ∧ (unthrottled s p).parts = s.parts ∧
    ∀ c, (getClus (unthrottled s p) c).str = (getClus s c).str :=
  ⟨foldl_keeps (g := State.cores) _ _ fun _ _ => rfl, foldl_keeps (g := State.hp) _ _ fun _ _ => rfl, foldl_keeps (g := State.parts) _ _ fun _ _ => rfl,
    fun c => foldl_keeps (g := fun a => (getClus a c).str) _ _ fun _ _ => str_modClus (by exact fun _ => rfl) _ c⟩

/-- The return to the steps leaves the cores, the streams, the rings, and of the partition all but its frequency. -/
theorem returnSteps_keeps : (returnSteps s p).cores = s.cores ∧ (returnSteps s p).hp = s.hp ∧
    (∀ c, (getClus (returnSteps s p) c).str = (getClus s c).str) ∧ ∃ freq, getPart (returnSteps s p) p = { getPart s p with freq := freq } := by
  obtain ⟨cores, hp, parts, str⟩ := unthrottled_keeps (s := s) (p := p)
  obtain ⟨freq, plan⟩ := getPart_goPlan (s := unthrottled s p) (p := p)
  obtain ⟨planCores, planHp, planClus⟩ := goPlan_keeps (s := unthrottled s p) (p := p)
  have steps (a : State) (l : List Nat) : (l.foldl (fun a c => modClus a c (fun x => { x with step := x.planStep })) a).cores = a.cores ∧
      (l.foldl (fun a c => modClus a c (fun x => { x with step := x.planStep })) a).hp = a.hp ∧
      (l.foldl (fun a c => modClus a c (fun x => { x with step := x.planStep })) a).parts = a.parts ∧
      ∀ c, (getClus (l.foldl (fun a c => modClus a c (fun x => { x with step := x.planStep })) a) c).str = (getClus a c).str :=
    ⟨foldl_keeps (g := State.cores) _ _ fun _ _ => rfl, foldl_keeps (g := State.hp) _ _ fun _ _ => rfl, foldl_keeps (g := State.parts) _ _ fun _ _ => rfl,
      fun c => foldl_keeps (g := fun a => (getClus a c).str) _ _ fun _ _ => str_modClus (by exact fun _ => rfl) _ c⟩
  obtain ⟨stepCores, stepHp, stepParts, stepStr⟩ := steps (planned s p) (clustersOf s p)
  have clusters (c : Nat) : getClus (planned s p) c = getClus (unthrottled s p) c := congrArg (mget ({} : Cluster) · c) planClus
  rw [returnSteps_eq]
  refine ⟨stepCores.trans (planCores.trans cores), stepHp.trans (planHp.trans hp), fun c => (stepStr c).trans ?_, { freq with quiet := freq.switching }, ?_⟩
  · rw [clusters, str]
  · rw [getPart_congr stepParts, planned, getPart_modPart_same, plan, getPart_congr parts]

/-- The clusters of a partition reset, one after the other. -/
def clustersReset (s : State) (p : Nat) : State := (clustersOf s p).foldl (resetCluster true) s

theorem parts_offRings (a : State) (c : Nat) : (offRings a c).parts = a.parts := rfl
theorem parts_modClus (a : State) (c : Nat) (f : Cluster → Cluster) : (modClus a c f).parts = a.parts := rfl

theorem resetCluster_parts (t : Bool) (c : Nat) : (resetCluster t s c).parts = s.parts := by
  rw [resetCluster_eq, parts_offRings, parts_modClus]
  exact foldl_keeps (g := State.parts) _ _ fun a n => emptyQueues_parts n .closed

theorem clustersReset_parts : (clustersReset s p).parts = s.parts := foldl_keeps (g := State.parts) _ _ fun _ _ => resetCluster_parts true _

theorem clustersReset_cores {n : Nat} (own : n ∈ partCores s p) : CoreAtRest (getCore (clustersReset s p) n) := by
  obtain ⟨c, member, inC⟩ := List.mem_flatMap.1 own
  exact foldl_establishes (P := fun a => CoreAtRest (getCore a n)) member s (fun _ => resetCluster_establishes true inC) fun _ _ => resetCluster_keepsRest true

theorem clustersReset_streams {c : Nat} (member : c ∈ clustersOf s p) : StreamsIdle (clustersReset s p) c :=
  foldl_establishes (P := fun a => StreamsIdle a c) member s (fun _ => resetCluster_streams true (.inl rfl)) fun _ _ idle => resetCluster_streams true (.inr idle)

theorem clustersReset_rings {c : Nat} (member : c ∈ clustersOf s p) : RingsOff (clustersReset s p) c :=
  foldl_establishes (P := fun a => RingsOff a c) member s (fun _ => resetCluster_rings true (.inl rfl)) fun _ _ off => resetCluster_rings true (.inr off)

theorem resetPartition_eq : resetPartition s p =
    modPart { returnSteps (resetGroups (clustersReset s p) p) p with
      closedRanges := (returnSteps (resetGroups (clustersReset s p) p) p).closedRanges.filter (fun r => r.1 != p) } p resetPart := rfl

theorem resetGroups_keeps (a : State) (q : Nat) : (resetGroups a q).cores = a.cores ∧ (resetGroups a q).hp = a.hp ∧ (resetGroups a q).clus = a.clus ∧ (resetGroups a q).parts = a.parts :=
  ⟨rfl, rfl, rfl, rfl⟩

/-- What a T reset leaves: a partition without marks, its cores at rest, its streams idle and its rings disabled. -/
theorem resetPartition_parts : (∃ freq, getPart (resetPartition s p) p = resetPart { getPart s p with freq := freq }) ∧
    (∀ n ∈ partCores s p, CoreAtRest (getCore (resetPartition s p) n)) ∧ ∀ c ∈ clustersOf s p, StreamsIdle (resetPartition s p) c ∧ RingsOff (resetPartition s p) c := by
  obtain ⟨cores, hp, str, freq, part⟩ := returnSteps_keeps (s := resetGroups (clustersReset s p) p) (p := p)
  obtain ⟨groupCores, groupHp, groupClus, groupParts⟩ := resetGroups_keeps (clustersReset s p) p
  refine ⟨⟨freq, ?_⟩, fun n own => ?_, fun c member => ⟨fun i => ?_, fun ch => ?_⟩⟩
  · rw [resetPartition_eq, getPart_modPart_same]
    refine congrArg resetPart (Eq.trans ?_ (part.trans ?_))
    · rfl
    · rw [getPart_congr groupParts, getPart_congr clustersReset_parts]
  · have core : getCore (resetPartition s p) n = getCore (clustersReset s p) n := congrArg (mget ({} : Core) · n) (cores.trans groupCores)
    rw [core]
    exact clustersReset_cores own
  · have stream : getStream (resetPartition s p) c i = getStream (clustersReset s p) c i :=
      congrArg (fun u : StrEng => mget ({} : Stream) u.streams i) ((str c).trans (congrArg (fun m => (mget ({} : Cluster) m c).str) groupClus))
    rw [stream]
    exact clustersReset_streams member i
  · have ring : getRing (resetPartition s p) (ringOf c ch.val) = getRing (clustersReset s p) (ringOf c ch.val) :=
      congrArg (fun u : HostBlk => mget ({} : Ring) u.rings (ringOf c ch.val)) (hp.trans groupHp)
    rw [ring]
    exact clustersReset_rings member ch

/-! ## The scrub (11 R457; 19 R729) -/

theorem readByte_clearRange_zero {m : Mem} {a n x : Nat} (zero : readByte m x = 0) : readByte (clearRange m a n) x = 0 := by
  by_cases inside : a ≤ x ∧ x < a + n
  · exact readByte_clearRange_inside inside.1 inside.2
  · rw [readByte_clearRange_outside (by omega), zero]

/-- One core of a scrub. -/
def coreScrubbed (a : State) (n : Nat) : State :=
  modCore { a with spMem := clearRange a.spMem (spAddr n 0) 16777216 } n (fun c => modMem c (fun m => { m with valid := [], ovf := [], ecc := [] }))

/-- One cluster memory of a scrub. -/
def clusScrubbed (a : State) (c : Nat) : State :=
  modClus { a with cmMem := clearRange a.cmMem (cmAddr c 0) 134217728 } c (fun x => modCMem x (fun m => { m with valid := [], ovf := [], ecc := [] }))

theorem coreScrubbed_keeps (a : State) (n : Nat) : (coreScrubbed a n).spMem = clearRange a.spMem (spAddr n 0) 16777216 ∧
    (coreScrubbed a n).cmMem = a.cmMem ∧ (coreScrubbed a n).dmMem = a.dmMem := ⟨rfl, rfl, rfl⟩
theorem clusScrubbed_keeps (a : State) (c : Nat) : (clusScrubbed a c).cmMem = clearRange a.cmMem (cmAddr c 0) 134217728 ∧
    (clusScrubbed a c).spMem = a.spMem ∧ (clusScrubbed a c).dmMem = a.dmMem := ⟨rfl, rfl, rfl⟩

theorem scrubPart_eq : scrubPart s p = (clustersOf s p).foldl clusScrubbed ((partCores s p).foldl coreScrubbed s) := rfl

theorem scrubPart_sp {n i : Nat} (own : n ∈ partCores s p) (inside : i < 16777216) : readByte (scrubPart s p).spMem (spAddr n 0 + i) = 0 := by
  have clusters : (scrubPart s p).spMem = ((partCores s p).foldl coreScrubbed s).spMem := foldl_keeps (g := State.spMem) _ _ fun a c => (clusScrubbed_keeps a c).2.1
  rw [clusters]
  refine foldl_establishes (P := fun a => readByte a.spMem (spAddr n 0 + i) = 0) own s (fun a => ?_) fun a m zero => ?_
  · rw [(coreScrubbed_keeps a n).1]
    exact readByte_clearRange_inside (by omega) (by omega)
  · rw [(coreScrubbed_keeps a m).1]
    exact readByte_clearRange_zero zero

theorem scrubPart_cm {c i : Nat} (own : c ∈ clustersOf s p) (inside : i < 134217728) : readByte (scrubPart s p).cmMem (cmAddr c 0 + i) = 0 := by
  rw [scrubPart_eq]
  refine foldl_establishes (P := fun a => readByte a.cmMem (cmAddr c 0 + i) = 0) own _ (fun a => ?_) fun a d zero => ?_
  · rw [(clusScrubbed_keeps a c).1]
    exact readByte_clearRange_inside (by omega) (by omega)
  · rw [(clusScrubbed_keeps a d).1]
    exact readByte_clearRange_zero zero

theorem scrubPart_dm : (scrubPart s p).dmMem = s.dmMem := by
  rw [scrubPart_eq]
  exact (foldl_keeps (g := State.dmMem) _ _ fun a c => (clusScrubbed_keeps a c).2.2).trans (foldl_keeps (g := State.dmMem) _ _ fun a n => (coreScrubbed_keeps a n).2.2)

theorem exec_abortEnd (q : PartId) : exec (.abortEnd q) s = if !(getPart s q.val).aborting then .next s else
    .next (if (getPart s q.val).state = .faulted then
        partEvent (modPart (scrubPart s q.val) q.val (fun y => { y with aborting := false, resultValid := true, code := 0 })) q.val (·.faultVec)
      else modPart (scrubPart s q.val) q.val (fun y => { y with aborting := false, resultValid := true, code := 0 })) := by
  refine Eq.trans (b := execAbortEnd q s) rfl ?_
  simp only [execAbortEnd, partEnd, modPart_modPart]

end

/-! ## The commands by state and PHASE (17 R663, R664, R666, R669, R671) -/

section
variable {s : State} {h : Fin 2} {p : PartId} (answers : portAnswers s h.val = true) (allowed : partDenied s h.val p.val = none)
include answers allowed

theorem exec_start : exec (.start h p) s = .next (startCmd s p.val) := by
  refine Eq.trans (b := execStart h p s) rfl ?_
  rw [execStart, partCmd_granted answers allowed]

theorem exec_stop : exec (.stop h p) s = .next (stopCmd s p.val) := by
  refine Eq.trans (b := execStop h p s) rfl ?_
  rw [execStop, partCmd_granted answers allowed]

theorem exec_abort : exec (.abort h p) s = .next (abortCmd s p.val) := by
  refine Eq.trans (b := execAbort h p s) rfl ?_
  rw [execAbort, partCmd_granted answers allowed]

end

section
variable {s : State} {p : Nat}

theorem startCmd_busy (busy : phaseBusy (getPart s p) = true) : startCmd s p = partEnd s p 0x00A4 := if_pos busy
theorem stopCmd_busy (busy : phaseBusy (getPart s p) = true) : stopCmd s p = partEnd s p 0x00A4 := if_pos busy

section
variable (free : phaseBusy (getPart s p) = false)
include free

theorem startCmd_state (bad : (getPart s p).state ≠ .stopped ∨ (getPart s p).aborting = true) : startCmd s p = partEnd s p 0x00A0 := by
  rw [startCmd, free, if_neg Bool.false_ne_true, if_pos bad]

theorem startCmd_taskless (stopped : (getPart s p).state = .stopped) (whole : (getPart s p).aborting = false)
    (idle : ∀ n ∈ partCores s p, (getCore s n).task = none) : startCmd s p = partEnd s p 0x00A1 := by
  rw [startCmd, free, if_neg Bool.false_ne_true, if_neg (by simp [stopped, whole]), if_pos]
  simpa using idle

theorem startCmd_starts (stopped : (getPart s p).state = .stopped) (whole : (getPart s p).aborting = false)
    (tasked : ∃ n ∈ partCores s p, (getCore s n).task.isSome = true) : startCmd s p = startPart s p := by
  rw [startCmd, free, if_neg Bool.false_ne_true, if_neg (by simp [stopped, whole]), if_neg]
  simpa [Option.isSome_iff_ne_none] using tasked

theorem stopCmd_again (stopping : (getPart s p).state = .stopping) (plain : (getPart s p).faultStop = false) : stopCmd s p = partEnd s p 0 := by
  rw [stopCmd, free, if_neg Bool.false_ne_true, if_pos (by simp [stopping, plain])]

theorem stopCmd_state (bad : ((getPart s p).state ≠ .running ∧ (getPart s p).state ≠ .stopping) ∨ (getPart s p).faultStop = true) :
    stopCmd s p = partEnd s p 0x00A0 := by
  have fresh : ¬((getPart s p).state = .stopping ∧ (!(getPart s p).faultStop) = true) := by
    rintro ⟨stopping, plain⟩
    rcases bad with ⟨-, other⟩ | fault
    · exact other stopping
    · simp [fault] at plain
  rw [stopCmd, free, if_neg Bool.false_ne_true, if_neg fresh, if_pos (bad.imp_left And.left)]

theorem stopCmd_stops (running : (getPart s p).state = .running) (plain : (getPart s p).faultStop = false) : stopCmd s p = stopPart s p := by
  rw [stopCmd, free, if_neg Bool.false_ne_true, if_neg (by simp [running]), if_neg (by simp [running, plain])]

end

theorem abortCmd_frozen (frozen : (getPart s p).det.phase = 3) : abortCmd s p = partEnd s p 0x00A4 := if_pos frozen

section
variable (free : (getPart s p).det.phase ≠ 3)
include free

theorem abortCmd_state (bad : (getPart s p).state = .none ∨ (getPart s p).state = .loading) : abortCmd s p = partEnd s p 0x00A0 := by
  rw [abortCmd, if_neg free, if_pos bad]

theorem abortCmd_recorded (faulted : (getPart s p).state = .faulted) (records : recordsValid s p = true) : abortCmd s p = partEnd s p 0x00A3 := by
  rw [abortCmd, if_neg free, if_neg (by simp [faulted]), if_pos ⟨faulted, records⟩]

theorem abortCmd_aborts (held : (getPart s p).state ≠ .none) (loaded : (getPart s p).state ≠ .loading)
    (clear : (getPart s p).state = .faulted → recordsValid s p = false) : abortCmd s p = abortPart s p := by
  have unrecorded : ¬((getPart s p).state = .faulted ∧ recordsValid s p = true) := fun ⟨faulted, records⟩ =>
    Bool.false_ne_true ((clear faulted).symm.trans records)
  rw [abortCmd, if_neg free, if_neg (not_or_intro held loaded), if_neg unrecorded]

end

end

/-- Settles O43: each command by the first of its conditions that fails; a START through its cores, a STOP through its participants, an ABORT through the T reset. -/
theorem partitionCommands : Obligations.PartitionCommands := by
  refine fun s p => ⟨fun h answers allowed => ?_, fun a => ?_, exec_stopDeadline_idle, fun t began => ⟨fun early => ?_, fun late => ?_⟩,
    fun still => ?_, fun aborting => ?_, fun n own i => scrubPart_sp own, fun c own i => scrubPart_cm own, scrubPart_dm⟩
  · rw [exec_start answers allowed, exec_stop answers allowed, exec_abort answers allowed]
    refine ⟨fun busy => ?_, fun free bad => ?_, fun free stopped whole idle => ?_, fun free stopped whole tasked => ?_, fun free stopping plain => ?_,
      fun free bad => ?_, fun free running plain => ?_, fun frozen => ?_, fun free bad => ?_, fun free faulted records => ?_, fun free held loaded clear => ?_⟩
    · rw [startCmd_busy busy, stopCmd_busy busy]
      exact ⟨rfl, rfl⟩
    · rw [startCmd_state free bad]
      rfl
    · rw [startCmd_taskless free stopped whole idle]
      rfl
    · obtain ⟨calm, part⟩ := getPart_startPart (s := s) (p := p.val)
      have memories := held_startPart s p.val
      rw [startCmd_starts free stopped whole tasked]
      refine ⟨_, rfl, ?_⟩
      rw [part]
      exact ⟨rfl, rfl, rfl, rfl, rfl, rfl, congrArg Held.sp memories, congrArg Held.cm memories, congrArg Held.dm memories,
        fun n own => getCore_startPart own⟩
    · rw [stopCmd_again free stopping plain]
      rfl
    · rw [stopCmd_state free bad]
      rfl
    · rw [stopCmd_stops free running plain]
      refine ⟨fun unpaused active => ?_, fun atOnce => ⟨?_, fun quiet => ?_⟩⟩
      · exact congrArg Host.Outcome.next (stopPart_pends unpaused active)
      · exact congrArg Host.Outcome.next (stopPart_takes atOnce)
      · have part := getPart_stopping (s := s) (p := p.val)
        exact takeStop_stopped (s := stopping s p.val) (t := nowNs s) (by rw [part]) (by rw [part]; exact quiet)
    · rw [abortCmd_frozen frozen]
      rfl
    · rw [abortCmd_state free bad]
      rfl
    · rw [abortCmd_recorded free faulted records]
      rfl
    · rw [abortCmd_aborts free held loaded clear]
      rfl
  · obtain ⟨⟨freq, part⟩, cores, clusters⟩ := resetPartition_parts (s := a) (p := p.val)
    simp only [part]
    exact ⟨rfl, rfl, rfl, rfl, cores, clusters⟩
  · rw [exec_stopDeadline began, if_pos early]
  · rw [exec_stopDeadline began, if_neg (Nat.not_lt.2 late)]
  · rw [exec_abortEnd, still]
    rfl
  · rw [exec_abortEnd, aborting]
    rfl

end Sys2Proof.Machine

/-! # The words of the slots (03 R78 to R80; 22 R767 to R793) -/

namespace Sys2Proof.Decode

section
variable {m n : Nat}

/-! ## A slot as a row of fields: what each field reads -/

theorem fld_append_high (x : BitVec m) (y : BitVec n) (lo k : Nat) (h : n ≤ lo) : (x ++ y).extractLsb' lo k = x.extractLsb' (lo - n) k :=
  BitVec.extractLsb'_append_eq_of_le h

theorem fld_append_low (x : BitVec m) (y : BitVec n) (lo k : Nat) (h : lo + k ≤ n) : (x ++ y).extractLsb' lo k = y.extractLsb' lo k :=
  BitVec.extractLsb'_append_eq_of_add_le h

theorem bit_append_high (x : BitVec m) (y : BitVec n) (i : Nat) (h : n ≤ i) : (x ++ y).getLsbD i = x.getLsbD (i - n) := by
  simp [BitVec.getLsbD_append, Nat.not_lt.2 h]

theorem bit_append_low (x : BitVec m) (y : BitVec n) (i : Nat) (h : i < n) : (x ++ y).getLsbD i = y.getLsbD i := by
  simp [BitVec.getLsbD_append, h]

theorem bit_b1 (b : Bool) : (b1 b).getLsbD 0 = b := by simp

/-! ## Reserved bits (03 R80): a mask holds of a row of fields where it holds of each field -/

/-- The bits `x`, which stand from bit `lo` of a slot up, hold no 1 outside `mask`. -/
def KeepsMask (mask : BitVec 24) (lo : Nat) (x : BitVec n) : Prop :=
  ∀ i, i < n → lo + i < 24 → mask.getLsbD (lo + i) = false → x.getLsbD i = false

theorem reservedZero_iff_keepsMask (w : W32) (mask : BitVec 24) : reservedZero w mask = true ↔ KeepsMask mask 0 w := by
  have bits : reservedZero w mask = true ↔ ∀ i, i < 24 → (w.getLsbD i && !mask.getLsbD i) = false := by
    rw [reservedZero, beq_iff_eq]
    constructor
    · intro h i hi
      simpa [hi] using congrArg (fun v => BitVec.getLsbD v i) h
    · intro h
      apply BitVec.eq_of_getLsbD_eq
      intro i hi
      simpa [hi] using h i hi
  rw [bits]
  constructor
  · intro h i _ hi hm
    rw [Nat.zero_add] at hi hm
    simpa [hm] using h i hi
  · intro h i hi
    cases hm : mask.getLsbD i
    · simpa using h i (by omega) (by omega) (by rwa [Nat.zero_add])
    · simp

theorem keepsMask_append (mask : BitVec 24) (lo : Nat) (x : BitVec m) (y : BitVec n) :
    KeepsMask mask lo (x ++ y) ↔ KeepsMask mask (lo + n) x ∧ KeepsMask mask lo y := by
  constructor
  · intro h
    refine ⟨fun i hi hl hm => ?_, fun i hi hl hm => ?_⟩
    · have := h (n + i) (by omega) (by omega) (by rwa [← Nat.add_assoc])
      simpa [BitVec.getLsbD_append] using this
    · have := h i (by omega) hl hm
      simpa [BitVec.getLsbD_append, hi] using this
  · rintro ⟨hx, hy⟩ i hi hl hm
    rw [BitVec.getLsbD_append]
    split
    · exact hy i ‹_› hl hm
    · have e : lo + n + (i - n) = lo + i := by omega
      exact hx (i - n) (by omega) (by omega) (by rwa [e])

theorem keepsMask_zero (mask : BitVec 24) (lo n : Nat) : KeepsMask mask lo 0#n := by
  intro i _ _ _
  simp

/-- A field that the mask leaves whole. -/
theorem keepsMask_used (mask : BitVec 24) (lo : Nat) (x : BitVec n) (h : mask.extractLsb' lo n = BitVec.allOnes n) : KeepsMask mask lo x := by
  intro i hi _ hm
  have := congrArg (fun v => v.getLsbD i) h
  simp [hi, hm] at this

/-- The opcode's bits are no mask's. -/
theorem keepsMask_high (mask : BitVec 24) (lo : Nat) (x : BitVec n) (h : 24 ≤ lo) : KeepsMask mask lo x := by
  intro i _ hl _
  omega

theorem only_eq_some {α : Type} {w : W32} {mask : BitVec 24} {o p : α} : only w mask o = some p ↔ reservedZero w mask = true ∧ o = p := by
  unfold only
  split <;> simp_all

/-- A reserved bit is 0. -/
theorem bit_reserved {w : W32} {mask : BitVec 24} (res : reservedZero w mask = true) (i : Nat) (low : i < 24) (h : mask.getLsbD i = false) : bit w i = false :=
  (reservedZero_iff_keepsMask w mask).1 res i (by omega) (by omega) (by rwa [Nat.zero_add])

theorem keepsMask_fld {w : W32} {mask : BitVec 24} (res : reservedZero w mask = true) (lo n : Nat) : KeepsMask mask lo (fld w lo n) := by
  intro i hi hl hm
  simp [hi, bit_reserved res (lo + i) hl hm]

/-! ## A slot from its fields -/

/-- The bits `x` are those of the slot `w` from bit `lo` up. -/
def StandsAt (w : W32) (lo : Nat) (x : BitVec n) : Prop := x = w.extractLsb' lo n

theorem standsAt_word (w x : W32) : StandsAt w 0 x ↔ x = w := by
  rw [StandsAt, BitVec.extractLsb'_eq_self]

theorem standsAt_append (w : W32) (lo : Nat) (x : BitVec m) (y : BitVec n) :
    StandsAt w lo (x ++ y) ↔ StandsAt w (lo + n) x ∧ StandsAt w lo y := by
  have parts : w.extractLsb' lo (m + n) = w.extractLsb' (lo + n) m ++ w.extractLsb' lo n := by
    apply BitVec.eq_of_getLsbD_eq
    intro i hi
    rw [BitVec.getLsbD_append, BitVec.getLsbD_extractLsb']
    split
    next low => simp [hi, low]
    next high => simp [show i - n < m by omega, hi, show lo + n + (i - n) = lo + i by omega]
  unfold StandsAt
  rw [parts]
  constructor
  · intro h
    have hx := congrArg (BitVec.extractLsb' n m) h
    have hy := congrArg (BitVec.extractLsb' 0 n) h
    rw [BitVec.extractLsb'_append_eq_left, BitVec.extractLsb'_append_eq_left] at hx
    rw [BitVec.extractLsb'_append_eq_right, BitVec.extractLsb'_append_eq_right] at hy
    exact ⟨hx, hy⟩
  · rintro ⟨rfl, rfl⟩
    rfl

theorem standsAt_fld (w : W32) (lo a n : Nat) (h : lo = a) : StandsAt w lo (fld w a n) := by
  subst h
  rfl

theorem standsAt_bit (w : W32) (lo a : Nat) (h : lo = a) : StandsAt w lo (b1 (bit w a)) := by
  subst h
  apply BitVec.eq_of_getLsbD_eq
  intro i hi
  obtain rfl : i = 0 := by omega
  simp

theorem standsAt_reserved {w : W32} {mask : BitVec 24} (res : reservedZero w mask = true) (lo n : Nat) (fits : lo + n ≤ 24)
    (h : mask.extractLsb' lo n = 0) : StandsAt w lo 0#n := by
  apply BitVec.eq_of_getLsbD_eq
  intro i hi
  have hm : mask.getLsbD (lo + i) = false := by
    simpa [hi] using congrArg (fun v => BitVec.getLsbD v i) h
  simp [hi, bit_reserved res (lo + i) (by omega) hm]

theorem standsAt_opcode {w : W32} {k : Nat} (h : opcode w = k) (lo : Nat) (e : lo = 24) : StandsAt w lo (BitVec.ofNat 8 k) := by
  subst h e
  exact BitVec.ofNat_toNat ..

/-- A slot with nothing but an opcode. -/
theorem bare_eq {w : W32} {k : Nat} (op : opcode w = k) (res : reservedZero w 0 = true) : (BitVec.ofNat 8 k ++ 0#24 : BitVec 32) = w := by
  rw [← standsAt_word]
  exact (standsAt_append w 0 _ _).2 ⟨standsAt_opcode op _ rfl, standsAt_reserved res 0 24 (by decide) (by decide)⟩

end

/-! ## The CTL slot (22 R772) -/

theorem ctl_encCtl (o : CtlOp) : ctl (encCtl o) = some o := by
  cases o with
  | nop => rfl
  | end_ => rfl
  | x o xd xa xb =>
    cases o <;>
      simp (disch := decide) only [ctl, encCtl, xOpcode, opcode, fld_append_high, fld_append_low, Nat.reduceSub, BitVec.extractLsb'_eq_self, BitVec.reduceToNat,
        only, reservedZero_iff_keepsMask, keepsMask_append, keepsMask_zero, keepsMask_used, keepsMask_high, if_true, and_true]
  | _ =>
    simp (disch := decide) only [ctl, encCtl, opcode, fld_append_high, fld_append_low, Nat.reduceSub, BitVec.extractLsb'_eq_self, BitVec.reduceToNat,
      bit_append_high, bit_append_low, bit_b1, only, reservedZero_iff_keepsMask, keepsMask_append, keepsMask_zero, keepsMask_used, keepsMask_high, if_true,
        and_true]

theorem encCtl_of_ctl {w : W32} {o : CtlOp} (h : ctl w = some o) : encCtl o = w := by
  unfold ctl at h
  split at h
  case h_1 op =>
    obtain ⟨res, rfl⟩ := only_eq_some.1 h
    exact bare_eq op res
  case h_6 op =>
    obtain ⟨res, rfl⟩ := only_eq_some.1 h
    exact bare_eq op res
  case h_4 op =>
    cases h
    rw [← standsAt_word]
    simp (disch := decide) only [encCtl, standsAt_append, standsAt_fld, standsAt_opcode op, and_true]
  case h_16 op =>
    cases h
    rw [← standsAt_word]
    simp (disch := decide) only [encCtl, standsAt_append, standsAt_fld, standsAt_opcode op, and_true]
  case h_18 => cases h
  all_goals
    rename_i op
    obtain ⟨res, rfl⟩ := only_eq_some.1 h
    rw [← standsAt_word]
    simp (disch := decide) only [encCtl, xOpcode, BitVec.ofNat_eq_ofNat, standsAt_append, standsAt_fld, standsAt_bit, standsAt_reserved res,
      standsAt_opcode op, and_true]

/-! ## The SIN slot (22 R775) -/

theorem sin_encSin (o : SinOp) : sin (encSin o) = some o := by
  cases o with
  | nop => rfl
  | _ =>
    simp (disch := decide) only [sin, encSin, opcode, fld_append_high, fld_append_low, Nat.reduceSub, BitVec.extractLsb'_eq_self, BitVec.reduceToNat,
      bit_append_high, bit_append_low, bit_b1, only, reservedZero_iff_keepsMask, keepsMask_append, keepsMask_zero, keepsMask_used, keepsMask_high, if_true,
        and_true]

theorem encSin_of_sin {w : W32} {o : SinOp} (h : sin w = some o) : encSin o = w := by
  unfold sin at h
  split at h
  case h_1 op =>
    obtain ⟨res, rfl⟩ := only_eq_some.1 h
    exact bare_eq op res
  case h_8 => cases h
  all_goals
    rename_i op
    obtain ⟨res, rfl⟩ := only_eq_some.1 h
    rw [← standsAt_word]
    simp (disch := decide) only [encSin, standsAt_append, standsAt_fld, standsAt_bit, standsAt_reserved res, standsAt_opcode op, and_true]

/-! ## The RED, MEM and MSG slots (22 R788, R789, R793) -/

theorem red_encRed (o : RedOp) : red (encRed o) = some o := by
  cases o with
  | nop => rfl
  | red o a =>
    cases o <;>
      simp (disch := decide) only [red, encRed, redOpcode, opcode, fld_append_high, fld_append_low, Nat.reduceSub, BitVec.extractLsb'_eq_self,
        BitVec.reduceToNat,
        bit_append_high, bit_append_low, bit_b1, only, reservedZero_iff_keepsMask, keepsMask_append, keepsMask_zero, keepsMask_used, keepsMask_high, if_true,
          and_true]

theorem encRed_of_red {w : W32} {o : RedOp} (h : red w = some o) : encRed o = w := by
  unfold red at h
  split at h
  case h_1 op =>
    obtain ⟨res, rfl⟩ := only_eq_some.1 h
    exact bare_eq op res
  case h_9 => cases h
  all_goals
    rename_i op
    obtain ⟨res, rfl⟩ := only_eq_some.1 h
    rw [← standsAt_word]
    simp (disch := decide) only [encRed, redOpcode, BitVec.ofNat_eq_ofNat, standsAt_append, standsAt_fld, standsAt_bit, standsAt_reserved res,
      standsAt_opcode op, and_true]

theorem mem_encMem (o : MemOp) : mem (encMem o) = some o := by
  cases o with
  | nop => rfl
  | _ =>
    simp (disch := decide) only [mem, encMem, opcode, fld_append_high, fld_append_low, Nat.reduceSub, BitVec.extractLsb'_eq_self, BitVec.reduceToNat,
      bit_append_high, bit_append_low, bit_b1, only, reservedZero_iff_keepsMask, keepsMask_append, keepsMask_zero, keepsMask_used, keepsMask_high, if_true,
        and_true]

theorem encMem_of_mem {w : W32} {o : MemOp} (h : mem w = some o) : encMem o = w := by
  unfold mem at h
  split at h
  case h_1 op =>
    obtain ⟨res, rfl⟩ := only_eq_some.1 h
    exact bare_eq op res
  case h_11 => cases h
  all_goals
    rename_i op
    obtain ⟨res, rfl⟩ := only_eq_some.1 h
    rw [← standsAt_word]
    simp (disch := decide) only [encMem, standsAt_append, standsAt_fld, standsAt_bit, standsAt_reserved res, standsAt_opcode op, and_true]

theorem msg_encMsg (o : MsgOp) : msg (encMsg o) = some o := by
  cases o with
  | nop => rfl
  | msend =>
    simp (disch := decide) only [msg, encMsg, opcode, fld_append_high, fld_append_low, Nat.reduceSub, BitVec.extractLsb'_eq_self, BitVec.reduceToNat,
      only, reservedZero_iff_keepsMask, keepsMask_append, keepsMask_zero, keepsMask_used, keepsMask_high, if_true, and_true]

theorem encMsg_of_msg {w : W32} {o : MsgOp} (h : msg w = some o) : encMsg o = w := by
  unfold msg at h
  split at h
  case h_1 op =>
    obtain ⟨res, rfl⟩ := only_eq_some.1 h
    exact bare_eq op res
  case h_2 op =>
    obtain ⟨res, rfl⟩ := only_eq_some.1 h
    rw [← standsAt_word]
    simp (disch := decide) only [encMsg, standsAt_append, standsAt_fld, standsAt_reserved res, standsAt_opcode op, and_true]
  case h_3 => cases h

/-! ## The MAT slot (22 R776, R777) -/

/-- What an MMUL's source field must satisfy is that it keeps the mask of its source. -/
theorem keepsMask_source (source : BitVec 12) (mask : BitVec 24) : ((source.setWidth 24 &&& ~~~mask &&& 0xFFF) == 0) = true ↔ KeepsMask mask 0 source := by
  have low : ∀ i, i < 24 → (0xFFF#24).getLsbD i = decide (i < 12) := by decide
  rw [beq_iff_eq]
  constructor
  · intro h i hi hl hm
    rw [Nat.zero_add] at hl hm
    simpa only [BitVec.getLsbD_and, BitVec.getLsbD_not, BitVec.getLsbD_setWidth, BitVec.ofNat_eq_ofNat, BitVec.getLsbD_zero, hl, hm, low i hl, hi,
      decide_true, Bool.true_and, Bool.and_true, Bool.not_false] using congrArg (fun v => BitVec.getLsbD v i) h
  · intro h
    apply BitVec.eq_of_getLsbD_eq
    intro i hi
    by_cases short : i < 12
    · cases hm : mask.getLsbD i
      · simp [h i short (by omega) (by rwa [Nat.zero_add])]
      · simp [hm]
    · simp [low i hi, short]

/-- Above its source field an MMUL has no reserved bit. -/
theorem keepsMask_above_source {src : BitVec 2} (named : src ≠ 3) {n : Nat} (lo : Nat) (x : BitVec n) (above : 12 ≤ lo) : KeepsMask (mmulSourceMask src) lo x := by
  have used : ∀ src : BitVec 2, src ≠ 3 → ∀ i : Fin 24, 12 ≤ i.val → (mmulSourceMask src).getLsbD i = true := by decide
  intro i _ hl hm
  rw [used src named ⟨lo + i, hl⟩ (by simp only; omega)] at hm
  cases hm

theorem mat_encMat {o : MatIns} (h : wfMat o = true) : mat (encMat o) = some o := by
  cases o with
  | nop => rfl
  | wswap => rfl
  | mmul e z swap src source =>
    obtain ⟨named, keeps⟩ := Bool.and_eq_true_iff.1 h
    have named : src ≠ 3 := by simpa using named
    have keeps := (keepsMask_source source _).1 keeps
    simp (disch := decide) only [mat, encMat, opcode, fld_append_high, fld_append_low, Nat.reduceSub, BitVec.extractLsb'_eq_self, BitVec.reduceToNat,
      bit_append_high, bit_append_low, bit_b1, only, reservedZero_iff_keepsMask, keepsMask_append, keepsMask_above_source named, keeps, named,
      if_true, if_false, and_true]
  | _ =>
    simp (disch := decide) only [mat, encMat, opcode, fld_append_high, fld_append_low, Nat.reduceSub, BitVec.extractLsb'_eq_self, BitVec.reduceToNat,
      bit_append_high, bit_append_low, bit_b1, only, reservedZero_iff_keepsMask, keepsMask_append, keepsMask_zero, keepsMask_used, keepsMask_high, if_true,
        and_true]

/-- The fields of an MMUL are the whole of its slot. -/
theorem mmul_eq {w : W32} (op : opcode w = 4) : encMat (.mmul (fld w 16 8) (bit w 15) (bit w 14) (fld w 12 2) (fld w 0 12)) = w := by
  rw [← standsAt_word]
  simp (disch := decide) only [encMat, standsAt_append, standsAt_fld, standsAt_bit, standsAt_opcode op, and_true]

theorem wfMat_mmul {w : W32} (named : fld w 12 2 ≠ 3) (res : reservedZero w (mmulSourceMask (fld w 12 2)) = true) :
    wfMat (.mmul (fld w 16 8) (bit w 15) (bit w 14) (fld w 12 2) (fld w 0 12)) = true := by
  simp only [wfMat, Bool.and_eq_true, bne_iff_ne]
  exact ⟨named, (keepsMask_source _ _).2 (keepsMask_fld res 0 12)⟩

theorem encMat_of_mat {w : W32} {o : MatIns} (h : mat w = some o) : wfMat o = true ∧ encMat o = w := by
  unfold mat at h
  split at h
  case h_1 op =>
    obtain ⟨res, rfl⟩ := only_eq_some.1 h
    exact ⟨rfl, bare_eq op res⟩
  case h_4 op =>
    obtain ⟨res, rfl⟩ := only_eq_some.1 h
    exact ⟨rfl, bare_eq op res⟩
  case h_5 op =>
    obtain ⟨named, h⟩ := Option.ite_none_left_eq_some.1 h
    obtain ⟨res, rfl⟩ := only_eq_some.1 h
    exact ⟨wfMat_mmul named res, mmul_eq op⟩
  case h_8 => cases h
  all_goals
    rename_i op
    obtain ⟨res, rfl⟩ := only_eq_some.1 h
    refine ⟨rfl, ?_⟩
    rw [← standsAt_word]
    simp (disch := decide) only [encMat, standsAt_append, standsAt_fld, standsAt_bit, standsAt_reserved res, standsAt_opcode op, and_true]

/-! ## The formats of the VEC slots (22 R779) -/

section
variable (op : BitVec 8)

@[simp] theorem opcode_encV3 (a : V3) : opcode (encV3 op a) = op.toNat := by
  simp (disch := decide) only [opcode, encV3, fld_append_high, Nat.reduceSub, BitVec.extractLsb'_eq_self]
@[simp] theorem opcode_encBi (a : BI) : opcode (encBi op a) = op.toNat := by
  simp (disch := decide) only [opcode, encBi, fld_append_high, Nat.reduceSub, BitVec.extractLsb'_eq_self]
@[simp] theorem opcode_encMl (a : ML) : opcode (encMl op a) = op.toNat := by
  simp (disch := decide) only [opcode, encMl, fld_append_high, Nat.reduceSub, BitVec.extractLsb'_eq_self]
@[simp] theorem opcode_encN (a : NArgs) : opcode (encN op a) = op.toNat := by
  cases a <;> simp (disch := decide) only [opcode, encN, fld_append_high, Nat.reduceSub, BitVec.extractLsb'_eq_self]
@[simp] theorem opcode_encW (a : WArgs) : opcode (encW op a) = op.toNat := by
  cases a <;> simp (disch := decide) only [opcode, encW, fld_append_high, Nat.reduceSub, BitVec.extractLsb'_eq_self]

@[simp] theorem v3_encV3 (a : V3) : v3 (encV3 op a) = a := by
  simp (disch := decide) only [v3, encV3, fld_append_high, fld_append_low, Nat.reduceSub, BitVec.extractLsb'_eq_self, bit_append_high, bit_append_low, bit_b1]
@[simp] theorem bi_encBi (a : BI) : bi (encBi op a) = a := by
  simp (disch := decide) only [bi, encBi, fld_append_high, fld_append_low, Nat.reduceSub, BitVec.extractLsb'_eq_self]
@[simp] theorem ml_encMl (a : ML) : ml (encMl op a) = a := by
  simp (disch := decide) only [ml, encMl, fld_append_high, fld_append_low, Nat.reduceSub, BitVec.extractLsb'_eq_self, bit_append_high, bit_append_low, bit_b1]

/-- The low bits of an opcode that follows a base opcode. -/
theorem fld_encV3_low (a : V3) : fld (encV3 op a) 24 3 = op.extractLsb' 0 3 := by
  simp (disch := decide) only [encV3, fld_append_high, Nat.reduceSub]

end

section
variable {w : W32} {k : Nat}

theorem encV3_v3 (op : opcode w = k) : encV3 (BitVec.ofNat 8 k) (v3 w) = w := by
  rw [← standsAt_word]
  simp (disch := decide) only [encV3, v3, standsAt_append, standsAt_fld, standsAt_bit, standsAt_opcode op, and_true]
theorem encBi_bi (op : opcode w = k) : encBi (BitVec.ofNat 8 k) (bi w) = w := by
  rw [← standsAt_word]
  simp (disch := decide) only [encBi, bi, standsAt_append, standsAt_fld, standsAt_opcode op, and_true]
theorem encMl_ml (op : opcode w = k) (res : reservedZero w 0xFFF03E = true) : encMl (BitVec.ofNat 8 k) (ml w) = w := by
  rw [← standsAt_word]
  simp (disch := decide) only [encMl, ml, standsAt_append, standsAt_fld, standsAt_bit, standsAt_reserved res, standsAt_opcode op, and_true]

end

/-! ## The opcodes of the VEC slots (22 R784) -/

theorem vfn_fnOpcode (f : VFn) : vfn (fnOpcode f).toNat = some f := by cases f <;> rfl

theorem fnOpcode_of_vfn {k : Nat} {f : VFn} (h : vfn k = some f) : fnOpcode f = BitVec.ofNat 8 k := by
  unfold vfn at h
  split at h <;> cases h <;> rfl

theorem vfn_range {k : Nat} {f : VFn} (h : vfn k = some f) : 1 ≤ k ∧ k ≤ 0x0D := by
  unfold vfn at h
  split at h <;> cases h <;> decide

theorem vfn_eq_none {k : Nat} (h : k = 0 ∨ 0x0D < k) : vfn k = none := by
  refine Option.eq_none_iff_forall_ne_some.2 fun f found => ?_
  have := vfn_range found
  omega

theorem vlane_laneOpcode (o : VLane) : ∃ m, vlane (laneOpcode o).toNat = some (o, m) := by cases o <;> exact ⟨_, rfl⟩

theorem laneOpcode_of_vlane {k : Nat} {o : VLane} {m : BitVec 24} (h : vlane k = some (o, m)) : laneOpcode o = BitVec.ofNat 8 k := by
  unfold vlane at h
  split at h <;> cases h <;> rfl

theorem vlane_range {k : Nat} {p : VLane × BitVec 24} (h : vlane k = some p) : 0x28 ≤ k ∧ k ≤ 0x2E ∨ 0x50 ≤ k ∧ k ≤ 0x5B := by
  unfold vlane at h
  split at h <;> cases h <;> decide

theorem vlane_eq_none {k : Nat} (h : k < 0x28 ∨ 0x2E < k ∧ k < 0x50 ∨ 0x5B < k) : vlane k = none := by
  refine Option.eq_none_iff_forall_ne_some.2 fun p found => ?_
  have := vlane_range found
  omega

/-! ## A VEC slot by its opcode (22 R784) -/

section
variable {w : W32}

theorem vec_fused (h : 0x80 ≤ opcode w) : vec w = vfused w := if_pos h

theorem vec_fn {f : VFn} (h : vfn (opcode w) = some f) : vec w = only w 0xFFFFFE (.fn f (v3 w)) := by
  have := vfn_range h
  simp (disch := omega) only [vec, if_neg, h]

theorem vec_lane {o : VLane} {m : BitVec 24} (h : vlane (opcode w) = some (o, m)) : vec w = only w m (.lane o (v3 w)) := by
  have := vlane_range h
  simp (disch := omega) only [vec, if_neg, vfn_eq_none, h]

theorem vec_arith (o : VArith) (lo : (arithOpcode o).toNat ≤ opcode w) (hi : opcode w ≤ (arithOpcode o).toNat + 4) :
    vec w = some (.arith o (fld w 24 3) (v3 w)) := by
  cases o <;> simp only [arithOpcode, BitVec.ofNat_eq_ofNat, BitVec.reduceToNat, Nat.reduceAdd] at lo hi <;>
    simp (disch := omega) only [vec, if_neg, if_pos, vfn_eq_none]

theorem vec_cvtn (lo : 0x30 ≤ opcode w) (hi : opcode w ≤ 0x3C) : vec w = vcvtn w (opcode w - 0x30) := by
  simp (disch := omega) only [vec, if_neg, if_pos, vfn_eq_none, vlane_eq_none]

theorem vec_cvtw (lo : 0x40 ≤ opcode w) (hi : opcode w ≤ 0x4C) : vec w = vcvtw w (opcode w - 0x40) := by
  simp (disch := omega) only [vec, if_neg, if_pos, vfn_eq_none, vlane_eq_none]

theorem vec_upper (h : 0x4D ≤ opcode w ∧ opcode w ≤ 0x4F ∨ 0x5C ≤ opcode w ∧ opcode w ≤ 0x7F) : vec w = vecUpper w (opcode w) := by
  simp (disch := omega) only [vec, if_neg, vfn_eq_none, vlane_eq_none]

end

/-! ## VEC operations by their words -/

section
variable {n : Nat}

/-- An opcode that counts from a base opcode. -/
theorem toNat_base_add (base : BitVec 8) (x : BitVec n) (short : base.toNat + 2 ^ n ≤ 256) : (base + x.setWidth 8).toNat = base.toNat + x.toNat := by
  have := x.isLt
  rw [BitVec.toNat_add, BitVec.toNat_setWidth, Nat.mod_eq_of_lt (a := x.toNat) (by omega)]
  omega

/-- The fields of an opcode that counts from a base opcode. -/
theorem low_base_add (base : BitVec 8) (x : BitVec n) (short : n ≤ 8) (aligned : base.extractLsb' 0 n = 0) : (base + x.setWidth 8).extractLsb' 0 n = x := by
  have start : base.setWidth n = 0#n := by rw [BitVec.setWidth_eq_extractLsb' short, aligned]; rfl
  rw [← BitVec.setWidth_eq_extractLsb' short, BitVec.setWidth_add _ _ short, start, BitVec.setWidth_setWidth_of_le _ short]
  simp

theorem base_add_eq {base : BitVec 8} {x : BitVec n} {k : Nat} (h : base.toNat + x.toNat = k) : base + x.setWidth 8 = BitVec.ofNat 8 k := by
  apply BitVec.eq_of_toNat_eq
  rw [BitVec.toNat_add, BitVec.toNat_setWidth, BitVec.toNat_ofNat, Nat.add_mod_mod, h]

/-- The low bits of an opcode. -/
theorem toNat_fld_opcode (w : W32) (short : n ≤ 8) : (fld w 24 n).toNat = opcode w % 2 ^ n := by
  rw [opcode, BitVec.extractLsb'_toNat, BitVec.extractLsb'_toNat, Nat.mod_mod_of_dvd _ (Nat.pow_dvd_pow 2 short)]

theorem opcode_cmp (cond : BitVec 3) (a : MD) : opcode (encVec (.cmp cond a)) = 0x60 + cond.toNat := by
  simp (disch := decide) only [opcode, encVec, fld_append_high, Nat.reduceSub, BitVec.extractLsb'_eq_self]
  exact toNat_base_add 0x60 cond (by decide)

theorem opcode_acc (form : BitVec 3) (a : AC) : opcode (encVec (.acc form a)) = 0x68 + form.toNat := by
  simp (disch := decide) only [opcode, encVec, fld_append_high, Nat.reduceSub, BitVec.extractLsb'_eq_self]
  exact toNat_base_add 0x68 form (by decide)

theorem opcode_gust (seed : BitVec 4) (a : GU) : opcode (encVec (.gust seed a)) = 0x70 + seed.toNat := by
  simp (disch := decide) only [opcode, encVec, fld_append_high, Nat.reduceSub, BitVec.extractLsb'_eq_self]
  exact toNat_base_add 0x70 seed (by decide)

theorem reservedZero_encV3 (op : BitVec 8) (a : V3) (mask : BitVec 24) : reservedZero (encV3 op a) mask = reservedZero (encV3 0 a) mask := by
  rw [Bool.eq_iff_iff]
  simp (disch := decide) only [reservedZero_iff_keepsMask, encV3, keepsMask_append, keepsMask_high]

theorem reservedZero_encV3_x0 (op : BitVec 8) {a : V3} (h : a.x0 = false) : reservedZero (encV3 op a) 0xFFFFFE = true := by
  have none_left : b1 a.x0 = 0#1 := by rw [h]; rfl
  simp (disch := decide) only [reservedZero_iff_keepsMask, encV3, none_left, keepsMask_append, keepsMask_high, keepsMask_used, keepsMask_zero, and_true]

/-- The fused operations are those with bit 31 (22 R779). -/
theorem fused_iff {w : W32} : 0x80 ≤ opcode w ↔ fld w 31 1 = 1#1 := by
  have code : opcode w = w.toNat / 2 ^ 24 % 2 ^ 8 := by
    rw [opcode, BitVec.extractLsb'_toNat, Nat.shiftRight_eq_div_pow]
  have top : (fld w 31 1).toNat = w.toNat / 2 ^ 31 % 2 ^ 1 := by
    rw [BitVec.extractLsb'_toNat, Nat.shiftRight_eq_div_pow]
  rw [← BitVec.toNat_inj, code, top]
  simp only [BitVec.toNat_ofNat]
  omega

theorem fused_encVec (o : VFused) (a : VF) : vec (encVec (.fused o a)) = some (.fused o a) := by
  have high : 0x80 ≤ opcode (encVec (.fused o a)) := by
    rw [fused_iff]
    simp (disch := decide) only [encVec, fld_append_high, Nat.reduceSub, BitVec.extractLsb'_eq_self]
  rw [vec_fused high]
  cases o <;> simp (disch := decide) only [vfused, encVec, fusedCode, fld_append_high, fld_append_low, Nat.reduceSub, BitVec.extractLsb'_eq_self,
    BitVec.reduceToNat, bit_append_high, bit_append_low, bit_b1]

theorem arith_encVec (o : VArith) {rm : BitVec 3} (a : V3) (mode : rm.toNat ≤ 4) : vec (encVec (.arith o rm a)) = some (.arith o rm a) := by
  have op : opcode (encVec (.arith o rm a)) = (arithOpcode o).toNat + rm.toNat := by
    rw [encVec, opcode_encV3, toNat_base_add _ _ (by cases o <;> decide)]
  have low := low_base_add (arithOpcode o) rm (by decide) (by cases o <;> decide)
  rw [vec_arith o (by omega) (by omega), encVec, fld_encV3_low, v3_encV3, low]

theorem lane_encVec {o : VLane} {a : V3} (h : wfVec (.lane o a) = true) : vec (encVec (.lane o a)) = some (.lane o a) := by
  obtain ⟨m, named⟩ := vlane_laneOpcode o
  have res : reservedZero (encV3 0 a) m = true := by
    simpa only [wfVec, named] using h
  rw [encVec, vec_lane (by rw [opcode_encV3, named]), v3_encV3, only, reservedZero_encV3, res, if_pos rfl]

theorem fn_encVec (f : VFn) {a : V3} (h : a.x0 = false) : vec (encVec (.fn f a)) = some (.fn f a) := by
  rw [encVec, vec_fn (by rw [opcode_encV3, vfn_fnOpcode]), v3_encV3, only, reservedZero_encV3_x0 _ h, if_pos rfl]

theorem cvtn_encVec {format : BitVec 4} {a : NArgs} (h : wfVec (.cvtn format a) = true) : vec (encVec (.cvtn format a)) = some (.cvtn format a) := by
  obtain ⟨known, kind⟩ := Bool.and_eq_true_iff.1 h
  have known : format.toNat ≤ 12 := of_decide_eq_true known
  have op : opcode (encVec (.cvtn format a)) = 0x30 + format.toNat := by
    rw [encVec, opcode_encN]
    exact toNat_base_add 0x30 format (by decide)
  rw [vec_cvtn (by omega) (by omega), op, Nat.add_sub_cancel_left, vcvtn]
  cases a with
  | nn =>
    have kind : isMx format.toNat = false := by simpa using kind
    simp (disch := decide) only [kind, encVec, encN, BitVec.ofNat_toNat, BitVec.setWidth_eq, fld_append_high, fld_append_low, Nat.reduceSub,
      BitVec.extractLsb'_eq_self,
      bit_append_high, bit_append_low, bit_b1]
    rfl
  | nx =>
    have kind : isMx format.toNat = true := by simpa using kind
    simp (disch := decide) only [kind, encVec, encN, BitVec.ofNat_toNat, BitVec.setWidth_eq, fld_append_high, fld_append_low, Nat.reduceSub,
      BitVec.extractLsb'_eq_self,
      bit_append_high, bit_append_low, bit_b1, only, reservedZero_iff_keepsMask, keepsMask_append, keepsMask_zero, keepsMask_used, keepsMask_high, if_true,
        and_true]

theorem cvtw_encVec {format : BitVec 4} {a : WArgs} (h : wfVec (.cvtw format a) = true) : vec (encVec (.cvtw format a)) = some (.cvtw format a) := by
  obtain ⟨known, kind⟩ := Bool.and_eq_true_iff.1 h
  have known : format.toNat ≤ 12 := of_decide_eq_true known
  have op : opcode (encVec (.cvtw format a)) = 0x40 + format.toNat := by
    rw [encVec, opcode_encW]
    exact toNat_base_add 0x40 format (by decide)
  rw [vec_cvtw (by omega) (by omega), op, Nat.add_sub_cancel_left, vcvtw]
  cases a with
  | wn =>
    have kind : isMx format.toNat = false := by simpa using kind
    simp (disch := decide) only [kind, encVec, encW, BitVec.ofNat_toNat, BitVec.setWidth_eq, fld_append_high, fld_append_low, Nat.reduceSub,
      BitVec.extractLsb'_eq_self,
      bit_append_high, bit_append_low, bit_b1, only, reservedZero_iff_keepsMask, keepsMask_append, keepsMask_zero, keepsMask_used, keepsMask_high, if_true,
        and_true]
    rfl
  | wx =>
    have kind : isMx format.toNat = true := by simpa using kind
    simp (disch := decide) only [kind, encVec, encW, BitVec.ofNat_toNat, BitVec.setWidth_eq, fld_append_high, fld_append_low, Nat.reduceSub,
      BitVec.extractLsb'_eq_self,
      bit_append_high, bit_append_low, bit_b1, only, reservedZero_iff_keepsMask, keepsMask_append, keepsMask_zero, keepsMask_used, keepsMask_high, if_true,
        and_true]

theorem cmp_encVec (cond : BitVec 3) (a : MD) : vec (encVec (.cmp cond a)) = some (.cmp cond a) := by
  have op := opcode_cmp cond a
  have := cond.isLt
  have low := low_base_add 0x60#8 cond (by decide) (by decide)
  rw [vec_upper (by omega)]
  simp (disch := omega) only [vecUpper, if_neg, if_pos]
  simp (disch := decide) only [encVec, low, fld_append_high, fld_append_low, Nat.reduceSub, BitVec.extractLsb'_eq_self,
      bit_append_high, bit_append_low, bit_b1, only, reservedZero_iff_keepsMask, keepsMask_append, keepsMask_zero, keepsMask_used, keepsMask_high, if_true,
        and_true]

theorem acc_encVec {form : BitVec 3} (a : AC) (known : form.toNat ≤ 5) : vec (encVec (.acc form a)) = some (.acc form a) := by
  have op := opcode_acc form a
  rw [vec_upper (by omega), op]
  simp (disch := omega) only [vecUpper, if_neg, if_pos, Nat.add_sub_cancel_left, BitVec.ofNat_toNat, BitVec.setWidth_eq]
  simp (disch := decide) only [encVec, fld_append_high, fld_append_low, Nat.reduceSub, BitVec.extractLsb'_eq_self,
    bit_append_high, bit_append_low, bit_b1, only, reservedZero_iff_keepsMask, keepsMask_append, keepsMask_zero, keepsMask_used, keepsMask_high, if_true,
      and_true]

theorem gust_encVec (seed : BitVec 4) (a : GU) : vec (encVec (.gust seed a)) = some (.gust seed a) := by
  have op := opcode_gust seed a
  have := seed.isLt
  have low := low_base_add 0x70#8 seed (by decide) (by decide)
  rw [vec_upper (by omega), op]
  simp (disch := omega) only [vecUpper, if_neg, if_pos]
  simp (disch := decide) only [encVec, low, fld_append_high, fld_append_low, Nat.reduceSub, BitVec.extractLsb'_eq_self,
    bit_append_high, bit_append_low, bit_b1, only, reservedZero_iff_keepsMask, keepsMask_append, keepsMask_zero, keepsMask_used, keepsMask_high, if_true,
      and_true]

theorem mlogic_encVec (o : MLogic) (a : ML) : vec (encVec (.mlogic o a)) = some (.mlogic o a) := by
  have res : reservedZero (encMl (maskOpcode o) a) 0xFFF03E = true := by
    simp (disch := decide) only [reservedZero_iff_keepsMask, encMl, keepsMask_append, keepsMask_high, keepsMask_used, keepsMask_zero, and_true]
  rw [encVec, vec_upper (by rw [opcode_encMl]; cases o <;> decide), opcode_encMl]
  cases o <;> simp only [maskOpcode, BitVec.ofNat_eq_ofNat] at res <;>
    simp only [vecUpper, maskOpcode, BitVec.ofNat_eq_ofNat, BitVec.reduceToNat, Nat.reduceEqDiff, if_false, if_true, only, res, ml_encMl]

theorem biqScale_encVec {a : V3} (h : wfVec (.biqScale a) = true) : vec (encVec (.biqScale a)) = some (.biqScale a) := by
  obtain ⟨low, high⟩ : a.x0 = false ∧ a.vb.getLsbD 5 = false := by simpa only [wfVec, Bool.and_eq_true, Bool.not_eq_true'] using h
  have none_left : b1 a.x0 = 0#1 := by rw [low]; rfl
  have source : KeepsMask 0xFFF7FE#24 (0 + 1 + 1 + 4) a.vb := by
    have reserved : ∀ i, i < 6 → (0xFFF7FE#24).getLsbD (6 + i) = false → i = 5 := by decide
    intro i hi _ hm
    rw [reserved i hi hm, high]
  have res : reservedZero (encV3 0x5F#8 a) 0xFFF7FE#24 = true := by
    simp (disch := decide) only [reservedZero_iff_keepsMask, encV3, none_left, source, keepsMask_append, keepsMask_high, keepsMask_used, keepsMask_zero,
      and_true]
  rw [encVec, vec_upper (by rw [opcode_encV3]; decide), opcode_encV3]
  simp only [vecUpper, BitVec.ofNat_eq_ofNat, BitVec.reduceToNat, Nat.reduceEqDiff, if_false, if_true, only, v3_encV3, res]

theorem vec_encVec {o : VecOp} (h : wfVec o = true) : vec (encVec o) = some o := by
  cases o with
  | nop => rfl
  | fn f a => exact fn_encVec f (by simpa [wfVec] using h)
  | arith o rm a => exact arith_encVec o a (of_decide_eq_true h)
  | fused o a => exact fused_encVec o a
  | lane o a => exact lane_encVec h
  | cmp cond a => exact cmp_encVec cond a
  | acc form a => exact acc_encVec a (of_decide_eq_true h)
  | cvtn => exact cvtn_encVec h
  | cvtw => exact cvtw_encVec h
  | gust seed a => exact gust_encVec seed a
  | mlogic o a => exact mlogic_encVec o a
  | biq sr a => cases sr <;> simp only [encVec, vec, opcode_encBi, bi_encBi, BitVec.reduceToNat, Nat.reduceLeDiff, Nat.reduceEqDiff, vfn, vlane, if_false,
    if_true, and_false, Bool.false_eq_true]
  | biqMark a => simp only [encVec, vec, opcode_encBi, bi_encBi, BitVec.reduceToNat, Nat.reduceLeDiff, Nat.reduceEqDiff, vfn, vlane, if_false, if_true,
    and_false]
  | bidq a =>
    rw [encVec, vec_upper (by rw [opcode_encBi]; decide), opcode_encBi]
    simp only [vecUpper, BitVec.reduceToNat, Nat.reduceEqDiff, Nat.reduceLeDiff, if_false, if_true, and_false, bi_encBi]
  | biqScale a => exact biqScale_encVec h
  | biadd a =>
    have low : bit (encV3 0x6E a) 0 = false := by
      simpa (disch := decide) only [wfVec, encV3, bit_append_low, bit_b1, Bool.not_eq_true'] using h
    rw [encVec, vec_upper (by rw [opcode_encV3]; decide), opcode_encV3]
    simp only [vecUpper, BitVec.reduceToNat, Nat.reduceEqDiff, Nat.reduceLeDiff, if_false, if_true, and_false, low, Bool.false_eq_true, v3_encV3]
  | biaddHeader a =>
    have low : bit (encV3 0x6E a) 0 = true := by
      simpa (disch := decide) only [wfVec, encV3, bit_append_low, bit_b1] using h
    rw [encVec, vec_upper (by rw [opcode_encV3]; decide), opcode_encV3]
    simp only [vecUpper, BitVec.reduceToNat, Nat.reduceEqDiff, Nat.reduceLeDiff, if_false, if_true, and_false, low, v3_encV3]
  | _ =>
    simp (disch := decide) only [vec, vecUpper, encVec, opcode, fld_append_high, fld_append_low, Nat.reduceSub, BitVec.extractLsb'_eq_self, BitVec.reduceToNat,
      Nat.reduceLeDiff, Nat.reduceEqDiff, vfn, vlane, if_false, and_false,
      bit_append_high, bit_append_low, bit_b1, only, reservedZero_iff_keepsMask, keepsMask_append, keepsMask_zero, keepsMask_used, keepsMask_high, if_true,
        and_true]

end

/-! ## A VEC slot that decodes is the word of its operation -/

section
variable {w : W32} {o : VecOp}

theorem encVec_of_vfused (fused : 0x80 ≤ opcode w) (h : vfused w = some o) : wfVec o = true ∧ encVec o = w := by
  have top : StandsAt w 31 1#1 := (fused_iff.1 fused).symm
  have named {f : VFused} (code : fusedCode f = fld w 29 2) : encVec (.fused f
      { p := bit w 28, rm := fld w 25 3, zm := bit w 24, mm := fld w 20 4, vd := fld w 15 5, va := fld w 10 5, vb := fld w 5 5, vc := fld w 0 5 }) = w := by
    rw [← standsAt_word]
    simp (disch := decide) only [encVec, code, standsAt_append, standsAt_fld, standsAt_bit, and_true]
    exact top
  unfold vfused at h
  split at h
  case h_4 => cases h
  all_goals
    rename_i code
    cases h
    exact ⟨rfl, named (BitVec.eq_of_toNat_eq code.symm)⟩

theorem encVec_of_vcvtn {format : Nat} (op : opcode w = 0x30 + format) (known : format ≤ 12) (h : vcvtn w format = some o) :
    wfVec o = true ∧ encVec o = w := by
  have small : (BitVec.ofNat 4 format).toNat = format := by rw [BitVec.toNat_ofNat]; omega
  have code : 0x30 + (BitVec.ofNat 4 format).setWidth 8 = BitVec.ofNat 8 (0x30 + format) := base_add_eq (by rw [small]; rfl)
  unfold vcvtn at h
  split at h
  next mx =>
    obtain ⟨res, rfl⟩ := only_eq_some.1 h
    refine ⟨by simp only [wfVec, small, known, mx, decide_true, Bool.and_self], ?_⟩
    rw [← standsAt_word]
    simp (disch := decide) only [encVec, encN, code, standsAt_append, standsAt_fld, standsAt_bit, standsAt_reserved res, standsAt_opcode op, and_true]
  next plain =>
    cases h
    refine ⟨by simp only [wfVec, small, known, plain, decide_true, Bool.not_false, Bool.and_self], ?_⟩
    rw [← standsAt_word]
    simp (disch := decide) only [encVec, encN, code, standsAt_append, standsAt_fld, standsAt_bit, standsAt_opcode op, and_true]

theorem encVec_of_vcvtw {format : Nat} (op : opcode w = 0x40 + format) (known : format ≤ 12) (h : vcvtw w format = some o) :
    wfVec o = true ∧ encVec o = w := by
  have small : (BitVec.ofNat 4 format).toNat = format := by rw [BitVec.toNat_ofNat]; omega
  have code : 0x40 + (BitVec.ofNat 4 format).setWidth 8 = BitVec.ofNat 8 (0x40 + format) := base_add_eq (by rw [small]; rfl)
  unfold vcvtw at h
  split at h
  next mx =>
    obtain ⟨res, rfl⟩ := only_eq_some.1 h
    refine ⟨by simp only [wfVec, small, known, mx, decide_true, Bool.and_self], ?_⟩
    rw [← standsAt_word]
    simp (disch := decide) only [encVec, encW, code, standsAt_append, standsAt_fld, standsAt_bit, standsAt_reserved res, standsAt_opcode op, and_true]
  next plain =>
    obtain ⟨res, rfl⟩ := only_eq_some.1 h
    refine ⟨by simp only [wfVec, small, known, plain, decide_true, Bool.not_false, Bool.and_self], ?_⟩
    rw [← standsAt_word]
    simp (disch := decide) only [encVec, encW, code, standsAt_append, standsAt_fld, standsAt_bit, standsAt_reserved res, standsAt_opcode op, and_true]

/-- A rounding mode is what an opcode has above the first of its operation. -/
theorem encVec_of_arith (f : VArith) (lo : (arithOpcode f).toNat ≤ opcode w) (hi : opcode w ≤ (arithOpcode f).toNat + 4) :
    wfVec (.arith f (fld w 24 3) (v3 w)) = true ∧ encVec (.arith f (fld w 24 3) (v3 w)) = w := by
  have aligned : (arithOpcode f).toNat % 2 ^ 3 = 0 := by cases f <;> rfl
  have mode := toNat_fld_opcode (n := 3) w (by decide)
  refine ⟨decide_eq_true (by omega), ?_⟩
  rw [encVec, base_add_eq (k := opcode w) (by omega), encV3_v3 rfl]

theorem encVec_of_lane {f : VLane} {mask : BitVec 24} (named : vlane (opcode w) = some (f, mask)) (res : reservedZero w mask = true) :
    wfVec (.lane f (v3 w)) = true ∧ encVec (.lane f (v3 w)) = w := by
  obtain ⟨m, again⟩ := vlane_laneOpcode f
  have code := laneOpcode_of_vlane named
  have same : encV3 (laneOpcode f) (v3 w) = w := by rw [code, encV3_v3 rfl]
  have masks : m = mask := by
    rw [← same, opcode_encV3, again] at named
    cases named
    rfl
  refine ⟨?_, same⟩
  simp only [wfVec, again, masks]
  rw [← reservedZero_encV3 (laneOpcode f), same, res]

theorem encVec_of_vecUpper {k : Nat} (op : opcode w = k) (h : vecUpper w k = some o) : wfVec o = true ∧ encVec o = w := by
  have low3 := toNat_fld_opcode (n := 3) w (by decide)
  have low4 := toNat_fld_opcode (n := 4) w (by decide)
  unfold vecUpper at h
  rcases ite_eq_iff.1 h with ⟨code, h⟩ | ⟨-, h⟩
  · obtain ⟨res, rfl⟩ := only_eq_some.1 h
    exact ⟨rfl, encMl_ml (op.trans code) res⟩
  rcases ite_eq_iff.1 h with ⟨code, h⟩ | ⟨-, h⟩
  · obtain ⟨res, rfl⟩ := only_eq_some.1 h
    exact ⟨rfl, encMl_ml (op.trans code) res⟩
  rcases ite_eq_iff.1 h with ⟨code, h⟩ | ⟨-, h⟩
  · obtain ⟨res, rfl⟩ := only_eq_some.1 h
    exact ⟨rfl, encMl_ml (op.trans code) res⟩
  rcases ite_eq_iff.1 h with ⟨code, h⟩ | ⟨-, h⟩
  · obtain ⟨res, rfl⟩ := only_eq_some.1 h
    exact ⟨rfl, encMl_ml (op.trans code) res⟩
  rcases ite_eq_iff.1 h with ⟨code, h⟩ | ⟨-, h⟩
  · subst code
    obtain ⟨res, rfl⟩ := only_eq_some.1 h
    refine ⟨rfl, ?_⟩
    rw [← standsAt_word]
    simp (disch := decide) only [encVec, standsAt_append, standsAt_fld, standsAt_bit, standsAt_reserved res, standsAt_opcode op, and_true]
  rcases ite_eq_iff.1 h with ⟨code, h⟩ | ⟨-, h⟩
  · subst code
    cases h
    refine ⟨rfl, ?_⟩
    rw [← standsAt_word]
    simp (disch := decide) only [encVec, standsAt_append, standsAt_fld, standsAt_bit, standsAt_opcode op, and_true]
  rcases ite_eq_iff.1 h with ⟨code, h⟩ | ⟨-, h⟩
  · obtain ⟨res, rfl⟩ := only_eq_some.1 h
    refine ⟨?_, encV3_v3 (op.trans code)⟩
    have source : (v3 w).vb.getLsbD 5 = false := by
      simpa [v3] using bit_reserved res 11 (by decide) (by decide)
    have low : (v3 w).x0 = false := bit_reserved res 0 (by decide) (by decide)
    simp only [wfVec, source, low, Bool.not_false, Bool.and_self]
  rcases ite_eq_iff.1 h with ⟨range, h⟩ | ⟨-, h⟩
  · obtain ⟨res, rfl⟩ := only_eq_some.1 h
    have code : 0x60#8 + (fld w 24 3).setWidth 8 = BitVec.ofNat 8 k := base_add_eq (by rw [low3]; simp only [BitVec.reduceToNat]; omega)
    refine ⟨rfl, ?_⟩
    rw [← standsAt_word]
    simp (disch := decide) only [encVec, code, standsAt_append, standsAt_fld, standsAt_bit, standsAt_reserved res, standsAt_opcode op, and_true]
  rcases ite_eq_iff.1 h with ⟨range, h⟩ | ⟨-, h⟩
  · obtain ⟨res, rfl⟩ := only_eq_some.1 h
    have form : (BitVec.ofNat 3 (k - 0x68)).toNat = k - 0x68 := by rw [BitVec.toNat_ofNat]; omega
    have code : 0x68#8 + (BitVec.ofNat 3 (k - 0x68)).setWidth 8 = BitVec.ofNat 8 k := base_add_eq (by rw [form]; simp only [BitVec.reduceToNat]; omega)
    refine ⟨decide_eq_true (by omega), ?_⟩
    rw [← standsAt_word]
    simp (disch := decide) only [encVec, code, standsAt_append, standsAt_fld, standsAt_bit, standsAt_reserved res, standsAt_opcode op, and_true]
  rcases ite_eq_iff.1 h with ⟨code, h⟩ | ⟨-, h⟩
  · cases h
    split
    next header => exact ⟨header, encV3_v3 (op.trans code)⟩
    next plain => exact ⟨by simpa [wfVec, v3] using plain, encV3_v3 (op.trans code)⟩
  rcases ite_eq_iff.1 h with ⟨code, h⟩ | ⟨-, h⟩
  · cases h
    exact ⟨rfl, encBi_bi (op.trans code)⟩
  rcases ite_eq_iff.1 h with ⟨range, h⟩ | ⟨-, h⟩
  · obtain ⟨res, rfl⟩ := only_eq_some.1 h
    have code : 0x70#8 + (fld w 24 4).setWidth 8 = BitVec.ofNat 8 k := base_add_eq (by rw [low4]; simp only [BitVec.reduceToNat]; omega)
    refine ⟨rfl, ?_⟩
    rw [← standsAt_word]
    simp (disch := decide) only [encVec, code, standsAt_append, standsAt_fld, standsAt_bit, standsAt_reserved res, standsAt_opcode op, and_true]
  cases h

theorem encVec_of_vec (h : vec w = some o) : wfVec o = true ∧ encVec o = w := by
  unfold vec at h
  dsimp only at h
  split at h
  next fused => exact encVec_of_vfused fused h
  split at h
  next op =>
    obtain ⟨res, rfl⟩ := only_eq_some.1 h
    exact ⟨rfl, bare_eq op res⟩
  split at h
  next f named =>
    obtain ⟨res, rfl⟩ := only_eq_some.1 h
    refine ⟨?_, ?_⟩
    · simp only [wfVec, v3, bit_reserved res 0 (by decide) (by decide), Bool.not_false]
    · rw [encVec, fnOpcode_of_vfn named, encV3_v3 rfl]
  split at h
  next range =>
    cases h
    exact encVec_of_arith .add range.1 range.2
  split at h
  next range =>
    cases h
    exact encVec_of_arith .sub range.1 range.2
  split at h
  next range =>
    cases h
    exact encVec_of_arith .mul range.1 range.2
  split at h
  next f mask named =>
    obtain ⟨res, rfl⟩ := only_eq_some.1 h
    exact encVec_of_lane named res
  split at h
  next op =>
    obtain ⟨res, rfl⟩ := only_eq_some.1 h
    refine ⟨rfl, ?_⟩
    rw [← standsAt_word]
    simp (disch := decide) only [encVec, standsAt_append, standsAt_bit, standsAt_reserved res, standsAt_opcode op, and_true]
  split at h
  next range => exact encVec_of_vcvtn (by omega) (by omega) h
  split at h
  next op =>
    cases h
    exact ⟨rfl, encBi_bi op⟩
  split at h
  next op =>
    cases h
    exact ⟨rfl, encBi_bi op⟩
  split at h
  next op =>
    cases h
    exact ⟨rfl, encBi_bi op⟩
  split at h
  next range => exact encVec_of_vcvtw (by omega) (by omega) h
  exact encVec_of_vecUpper rfl h
end

/-! ## The slots of a word (03 R78) -/

/-- Settles O8: each slot by its decoder, whose masks leave no bit out of its fields. -/
theorem slotWordReencodes : Obligations.SlotWordReencodes := by
  intro raw i o h
  fin_cases i <;> obtain ⟨p, decoded, rfl⟩ := Option.map_eq_some_iff.1 h
  · exact ⟨rfl, encCtl_of_ctl decoded⟩
  · exact ⟨rfl, encSin_of_sin decoded⟩
  · exact encMat_of_mat decoded
  · exact encVec_of_vec decoded
  · exact encVec_of_vec decoded
  · exact ⟨rfl, encRed_of_red decoded⟩
  · exact ⟨rfl, encMem_of_mem decoded⟩
  · exact ⟨rfl, encMsg_of_msg decoded⟩

/-- Settles O9: each slot by the word of its operation, whose opcode selects its branch and whose fields its decoder reads back. -/
theorem slotOpDecodes : Obligations.SlotOpDecodes := by
  intro raw i o fit word
  cases o with
  | ctl o =>
    obtain rfl := eq_of_beq fit
    exact Option.map_eq_some_iff.2 ⟨o, by rw [word]; exact ctl_encCtl o, rfl⟩
  | sin o =>
    obtain rfl := eq_of_beq fit
    exact Option.map_eq_some_iff.2 ⟨o, by rw [word]; exact sin_encSin o, rfl⟩
  | mat o =>
    obtain ⟨at_, wf⟩ := Bool.and_eq_true_iff.1 fit
    obtain rfl := eq_of_beq at_
    exact Option.map_eq_some_iff.2 ⟨o, by rw [word]; exact mat_encMat wf, rfl⟩
  | vec o =>
    obtain ⟨at_, wf⟩ := Bool.and_eq_true_iff.1 fit
    rcases Bool.or_eq_true_iff.1 at_ with at_ | at_ <;> obtain rfl := eq_of_beq at_ <;>
      exact Option.map_eq_some_iff.2 ⟨o, by rw [word]; exact vec_encVec wf, rfl⟩
  | red o =>
    obtain rfl := eq_of_beq fit
    exact Option.map_eq_some_iff.2 ⟨o, by rw [word]; exact red_encRed o, rfl⟩
  | mem o =>
    obtain rfl := eq_of_beq fit
    exact Option.map_eq_some_iff.2 ⟨o, by rw [word]; exact mem_encMem o, rfl⟩
  | msg o =>
    obtain rfl := eq_of_beq fit
    exact Option.map_eq_some_iff.2 ⟨o, by rw [word]; exact msg_encMsg o, rfl⟩

end Sys2Proof.Decode

/-! # Statistic counters (03 R126, R127) -/

namespace Sys2Proof.Machine

section
variable (t : Stat)

variable {t} in
theorem Stat.add_room {n : Nat} (room : t.count.toNat + n < 2 ^ 48) : t.add n = { t with count := BitVec.ofNat 48 (t.count.toNat + n) } := by
  unfold Stat.add
  by_cases zero : n = 0
  · simp [zero]
  · rw [if_neg zero, if_pos room]

variable {t} in
theorem Stat.add_over {n : Nat} (past : 2 ^ 48 ≤ t.count.toNat + n) : t.add n = { count := BitVec.allOnes 48, pinned := true } := by
  have positive : n ≠ 0 := fun zero => absurd t.count.isLt (by omega)
  rw [Stat.add, if_neg positive, if_neg (Nat.not_lt.2 past)]

/-- Several events at once count as single ones (03 R127). -/
theorem Stat.add_succ (n : Nat) : t.add (n + 1) = (t.add n).bump := by
  rcases Nat.lt_trichotomy (t.count.toNat + n + 1) (2 ^ 48) with room | full | past
  · have below : BitVec.ofNat 48 (t.count.toNat + n) ≠ BitVec.allOnes 48 := by
      rw [ne_eq, ← BitVec.toNat_inj, BitVec.toNat_ofNat, BitVec.toNat_allOnes]
      omega
    rw [add_room (n := n) (by omega), add_room room, Stat.bump_below _ below, ← Nat.add_assoc, BitVec.ofNat_add _ 1]
    rfl
  · have last : BitVec.ofNat 48 (t.count.toNat + n) = BitVec.allOnes 48 := by
      rw [← BitVec.toNat_inj, BitVec.toNat_ofNat, BitVec.toNat_allOnes]
      omega
    rw [add_room (n := n) (by omega), add_over (n := n + 1) (by omega), Stat.bump_full _ last, last]
  · rw [add_over (n := n) (by omega), add_over (n := n + 1) (by omega), Stat.bump_full _ rfl]

theorem Stat.bits_pinned : t.bits.getLsbD 63 = t.pinned := by
  cases h : t.pinned <;> simp [Stat.bits, h]

theorem Stat.bits_reserved : t.bits.extractLsb' 48 15 = 0 := by
  have mark : BitVec.extractLsb' 48 15 (if t.pinned then (0x8000000000000000 : W64) else 0) = 0 := by split <;> rfl
  rw [Stat.bits, BitVec.extractLsb'_or, mark]
  apply BitVec.eq_of_getLsbD_eq
  intro i hi
  simp [hi]

theorem Stat.bits_count : t.bits.extractLsb' 0 48 = t.count := by
  have mark : BitVec.extractLsb' 0 48 (if t.pinned then (0x8000000000000000 : W64) else 0) = 0 := by split <;> rfl
  rw [Stat.bits, BitVec.extractLsb'_or, mark, ← BitVec.setWidth_eq_extractLsb' (by decide), BitVec.setWidth_setWidth_of_le _ (by decide)]
  simp

end

/-- Settles O16. -/
theorem statisticsSaturate : Obligations.StatisticsSaturate := fun t =>
  ⟨t.bump_below, t.bump_full, ⟨rfl, t.add_succ⟩, t.bits_pinned, t.bits_reserved, t.bits_count⟩

end Sys2Proof.Machine

/-! # The faults of a core, its Lull and its calm report (03 R106 to R113, R129, R797; 18 R681, R682) -/

namespace Sys2Proof.Machine

/-! ## Faults, fences and stops change neither the latch of a core nor its statistics -/

/-- The fault latch of a core, and its statistics. -/
def recordOf (c : Core) : Latch CoreFault × CoreStats := (c.fault, c.stats)

section
variable {s : State} (n : Nat)

theorem recordOf_modCore {m : Nat} {f : Core → Core} (h : ∀ c, recordOf (f c) = recordOf c) :
    recordOf (getCore (modCore s m f) n) = recordOf (getCore s n) := by
  by_cases own : n = m
  · rw [own, getCore_modCore_same, h]
  · rw [getCore_modCore_other _ _ _ _ own]

theorem recordOf_haltCore (m : Nat) (st : RunState) : recordOf (getCore (haltCore s m st) n) = recordOf (getCore s n) := by
  unfold haltCore
  dsimp only
  split
  · exact recordOf_modCore n (f := fun c => { c with state := st, cause := .none, frozenFor := 0, idleFor := 0, waking := false }) fun _ => rfl
  · split
    · exact recordOf_modCore n (f := fun c => { c with state := st, release := false }) fun _ => rfl
    · rfl

theorem recordOf_holdCore (m : Nat) (record : Bool) : recordOf (getCore (holdCore s m record) n) = recordOf (getCore s n) := by
  have released (t : State) : recordOf (getCore (releaseHeld t m) n) = recordOf (getCore t n) := by
    unfold releaseHeld
    dsimp only
    split
    · exact recordOf_modCore n (f := fun c => { c with state := .running, release := false }) fun _ => rfl
    · rfl
  unfold holdCore
  split
  · split
    · rw [released, recordOf_modCore n fun _ => by rfl, recordOf_haltCore]
    · rfl
  · exact recordOf_haltCore ..

theorem recordOf_emptyQueue (m t : Nat) (st : TqState) : recordOf (getCore (emptyQueue s m t st) n) = recordOf (getCore s n) := by
  rw [emptyQueue, getCore_modClus, recordOf_modCore n fun _ => by rfl]

theorem recordOf_emptyQueues (m : Nat) (st : TqState) : recordOf (getCore (emptyQueues s m st) n) = recordOf (getCore s n) :=
  foldl_keeps (g := fun t => recordOf (getCore t n)) _ _ fun _ _ => recordOf_emptyQueue ..

theorem recordOf_fenceUnit (u : FUnit) : recordOf (getCore (fenceUnit s u) n) = recordOf (getCore s n) := by
  cases u with
  | none_ => rfl
  | core m => rw [fenceUnit, fenceCore, recordOf_emptyQueues, getCore_modClus, recordOf_modCore n fun _ => by rfl, recordOf_haltCore]
  | bank c b => rfl
  | queue m t => exact recordOf_emptyQueue ..

theorem recordOf_stopLate (m : Nat) : recordOf (getCore (stopLate s m) n) = recordOf (getCore s n) := by
  unfold stopLate
  split
  · split
    · exact recordOf_haltCore ..
    · rfl
  · rfl

theorem recordOf_stopAfterCc (c : Nat) : recordOf (getCore (stopAfterCc s c) n) = recordOf (getCore s n) :=
  foldl_keeps (g := fun t => recordOf (getCore t n)) _ _ fun _ _ => recordOf_stopLate ..

theorem getCore_partEvent (p : Nat) (vector : Part → Nat) : getCore (partEvent s p vector) n = getCore s n := by
  simp only [partEvent, vecEvent, modPort, setPort]
  split <;> rfl

theorem getCore_recordCluster (c : Nat) (tie : Option (Nat × Nat)) (i : FfInfo) : getCore (recordCluster s c tie i) n = getCore s n := by
  unfold recordCluster
  dsimp only
  split
  · split
    · exact getCore_partEvent ..
    · rfl
  · rfl

theorem getCore_recordDevice (tie : Option (Nat × Nat)) (i : FfInfo) : getCore (recordDevice s tie i) n = getCore s n := by
  simp only [recordDevice, platformEvent, vecEvent, modPort, setPort]
  (repeat' split) <;> rfl

theorem recordOf_raiseIn (c : Nat) (i : FfInfo) (u : FUnit) (stream : Bool) : recordOf (getCore (raiseIn s c i u stream) n) = recordOf (getCore s n) := by
  have reaction (t : State) (part : Option Nat) (r : Nat) : recordOf (getCore (applyReaction t part c r u) n) = recordOf (getCore t n) := by
    simp only [applyReaction, stopByFault]
    repeat' split
    · rfl
    · exact recordOf_fenceUnit ..
    · rfl
    · rw [getCore_partEvent, getCore_modPart, recordOf_fenceUnit]
    · rfl
    · rw [recordOf_stopAfterCc, getCore_partEvent, getCore_modPart, recordOf_fenceUnit]
    · exact recordOf_fenceUnit ..
  rw [raiseIn, reaction, getCore_recordDevice, getCore_recordCluster]

theorem recordOf_faultCore (m slot code pc : Nat) (issue detail : W64) (u : FUnit) :
    recordOf (getCore (faultCore s m slot code pc issue detail u) n) = recordOf (getCore (latchCore s m slot code pc issue detail) n) := by
  rw [faultCore, recordOf_raiseIn, recordOf_holdCore]

end

/-- Settles O15: after the latch no step of a fault's reaction touches it. -/
theorem firstFaultIsKept : Obligations.FirstFaultIsKept := by
  intro s n slot code pc issue detail u
  obtain ⟨latch, stats⟩ := Prod.mk.inj (recordOf_faultCore (s := s) n n slot code pc issue detail u)
  simp only [latch, stats, latchCore, getCore_modCore_same, Latch.put]
  exact ⟨trivial, fun held => if_pos held, fun fresh => by simp [fresh]⟩

/-! ## The stall deadline, late faults, Lull and wake (03 R107 to R109, R797) -/

section
variable {s : State} {k : CoreId}

theorem exec_stallDeadline (due : stallDue s k.num = true) : exec (.stallDeadline k) s = .next (calmCheckAt (faultCore
    (modClus s (clusOf k.num) (fun x => { x with msg := { x.msg with snap := x.msg.snap.put (snapshotOf s k.num) } }))
    k.num (getCore s k.num).slot 0x0108 (getCore s k.num).pc (getCore s k.num).issued (BitVec.ofNat 64 ((getCore s k.num).waitIx % 65536)) .none_)
    (clusOf k.num)) := by
  refine Eq.trans (b := execStallDeadline k s) rfl ?_
  rw [execStallDeadline, due]
  rfl

theorem exec_lateFault {f : CoreFault} {rest : List CoreFault} (late : (getCore s k.num).late = f :: rest) :
    exec (.lateFault k) s = .next (calmCheckAt (faultCore (setCore s k.num { getCore s k.num with late := rest })
      k.num f.slot f.code f.pc f.issue f.detail (coreFence k.num f.code)) (clusOf k.num)) := by
  refine Eq.trans (b := execLateFault k s) rfl ?_
  simp only [execLateFault, late]
  rfl

theorem exec_coreLull {idle : Nat} (set : (getClus s (clusOf k.num)).coreLullIdle = idle) (frozen : (getCore s k.num).state = .frozen) (enabled : idle ≠ 0)
    (long : idle ≤ (getCore s k.num).idleFor) : exec (.coreLull k) s = .next (setCore s k.num
      { getCore s k.num with state := .lull, waking := false, stats := { (getCore s k.num).stats with lullEntries := (getCore s k.num).stats.lullEntries.bump } }) := by
  refine Eq.trans (b := execCoreLull k s) rfl ?_
  have enters : ¬((getCore s k.num).state ≠ .frozen ∨ idle = 0 ∨ (getCore s k.num).idleFor < idle) := by
    simp only [frozen, enabled, Nat.not_lt.2 long, ne_eq, not_true, or_self, not_false_eq_true]
  simp only [execCoreLull, set, if_neg enters]
  rfl

theorem exec_coreWake (asleep : (getCore s k.num).state = .lull) (woken : ((getCore s k.num).waking || causeReleased s k.num) = true) :
    exec (.coreWake k) s = .next (setCore s k.num { getCore s k.num with
      state := .frozen, cause := .external, waking := false, ccs := (getCore s k.num).ccs + 24, idleFor := 0, frozenFor := (getCore s k.num).frozenFor + 24
      stats := { (getCore s k.num).stats with freezeExt := (getCore s k.num).stats.freezeExt.add 24 } }) := by
  refine Eq.trans (b := execCoreWake k s) rfl ?_
  simp only [execCoreWake, asleep, woken, ne_eq, not_true, Bool.not_true, Bool.false_eq_true, or_self, if_false]
  rfl

end

/-- Settles O26: each command's conditions lead to its one step. -/
theorem coreFaultAndSleep : Obligations.CoreFaultAndSleep :=
  ⟨fun _ _ => ⟨exec_stallDeadline, fun _ _ => exec_lateFault⟩, fun _ _ => ⟨exec_coreLull rfl, exec_coreWake⟩⟩

/-! ## The calm report (03 R111, R113) -/

/-- The report of a core in calm wait `w` has been taken. -/
def calmReported (s : State) (n : Nat) (w : CalmWait) : State := setCore s n { getCore s n with calm := some { w with reported := true } }

section
variable {s : State} {k : CoreId} {w : CalmWait} {p : Nat} (waits : (getCore s k.num).calm = some w) (part : partOfCluster s (clusOf k.num) = some p)
  (goes : (w.reported || !calmDrained s k.num || !isParticipant s p k.num || (getPart s p).calmHeld) = false)
include waits part goes

/-- The first report of a calm point names it. -/
theorem exec_calmReport_first (first : (getPart s p).calm = none) : exec (.calmReport k) s =
    .next (calmCheck (setPart (calmReported s k.num w) p { getPart s p with calm := some (w.index, w.step) }) p) := by
  refine Eq.trans (b := execCalmReport k s) rfl ?_
  simp only [execCalmReport, waits, part, goes, first, Bool.false_eq_true, if_false]
  rfl

variable {index : BitVec 16} {step : Bool} (formed : (getPart s p).calm = some (index, step))
include formed

theorem exec_calmReport_same (same : index = w.index ∧ step = w.step) : exec (.calmReport k) s = .next (calmCheck (calmReported s k.num w) p) := by
  refine Eq.trans (b := execCalmReport k s) rfl ?_
  simp only [execCalmReport, waits, part, goes, formed, if_pos same, Bool.false_eq_true, if_false]
  rfl

theorem exec_calmReport_other (other : ¬(index = w.index ∧ step = w.step)) : exec (.calmReport k) s =
    .next (calmCheckAt (faultCore s k.num 0 0x0107 w.pc (getCore s k.num).issued 0 .none_) (clusOf k.num)) := by
  refine Eq.trans (b := execCalmReport k s) rfl ?_
  simp only [execCalmReport, waits, part, goes, formed, if_neg other, Bool.false_eq_true, if_false]

end

/-! ## The end of a STOP reaction (17 R661; 18 R682) -/

section
variable {s : State}

theorem haltCore_stops (n : Nat) : issuing (getCore (haltCore s n .stopped) n) = false := by
  unfold haltCore
  dsimp only
  split
  · rw [getCore_setCore_same]
    rfl
  · split
    · rw [getCore_setCore_same]
      rfl
    · exact Bool.eq_false_iff.2 ‹_›

theorem haltCore_keepsStopped {n : Nat} (m : Nat) (stopped : issuing (getCore s n) = false) : issuing (getCore (haltCore s m .stopped) n) = false := by
  by_cases own : n = m
  · rw [own, haltCore_stops]
  · unfold haltCore
    dsimp only
    (repeat' split) <;> simpa only [getCore_setCore_other _ _ _ _ own] using stopped

theorem stopCluster_stops {c n : Nat} (own : n ∈ coresOf c) : issuing (getCore (stopCluster s c) n) = false :=
  foldl_establishes (P := fun t => issuing (getCore t n) = false) own s (fun _ => haltCore_stops n) fun _ m => haltCore_keepsStopped m

theorem stopCluster_keepsStopped {n : Nat} (c : Nat) (stopped : issuing (getCore s n) = false) : issuing (getCore (stopCluster s c) n) = false :=
  List.foldlRecOn (coresOf c) _ (motive := fun t => issuing (getCore t n) = false) stopped fun _ held m _ => haltCore_keepsStopped m held

/-- The clusters of a partition stopped. -/
def clustersStopped (s : State) (p : Nat) : State := (clustersOf s p).foldl stopCluster s

theorem clustersStopped_stops {p n : Nat} (own : n ∈ partCores s p) : issuing (getCore (clustersStopped s p) n) = false := by
  obtain ⟨c, cluster, core⟩ := List.mem_flatMap.1 own
  exact foldl_establishes (P := fun t => issuing (getCore t n) = false) cluster s (fun _ => stopCluster_stops core) fun _ c => stopCluster_keepsStopped c

/-- A partition whose STOP reaction has ended. -/
def faultStopped (s : State) (p : Nat) : State :=
  partEvent (modPart (clustersStopped s p) p (fun x => { x with state := .faulted, faultStop := false, stopPending := false, kept := false })) p (·.faultVec)

theorem exec_faultStopComplete {p : PartId} (stops : (getPart s p.val).faultStop = true) : exec (.faultStopComplete p) s = .next (faultStopped s p.val) := by
  refine Eq.trans (b := execFaultStopComplete p s) rfl ?_
  simp only [execFaultStopComplete, stops, Bool.not_true, Bool.false_eq_true, if_false]
  rfl

theorem held_faultStopped (p : Nat) : held (faultStopped s p) = held s := by
  rw [faultStopped, held_partEvent, held_modPart]
  exact held_foldl _ _ _ held_stopCluster

theorem getPart_faultStopped (p : Nat) : getPart (faultStopped s p) p =
    { getPart (clustersStopped s p) p with state := .faulted, faultStop := false, stopPending := false, kept := false } := by
  rw [faultStopped, getPart_congr (partEvent_parts ..), getPart_modPart_same]

theorem faultStopped_stops {p n : Nat} (own : n ∈ partCores s p) : issuing (getCore (faultStopped s p) n) = false := by
  rw [faultStopped, getCore_partEvent, getCore_modPart, clustersStopped_stops own]

end

/-- Settles O27: a report by what the partition's calm point names; the end of a STOP reaction by its walk over the clusters, which the partition's own change does not touch. -/
theorem calmAndStopEvents : Obligations.CalmAndStopEvents := by
  refine ⟨fun s k w p waits part fresh drained counts unheld => ?_, fun s p stops => ?_⟩
  · have goes : (w.reported || !calmDrained s k.num || !isParticipant s p k.num || (getPart s p).calmHeld) = false := by
      simp only [fresh, drained, counts, unheld, Bool.not_true, Bool.or_self]
    exact ⟨exec_calmReport_first waits part goes, fun formed => exec_calmReport_same waits part goes formed ⟨rfl, rfl⟩,
      fun i f formed differs => exec_calmReport_other waits part goes formed (not_and_or.2 differs)⟩
  · have memories := held_faultStopped (s := s) p.val
    refine ⟨_, exec_faultStopComplete stops, ?_⟩
    rw [getPart_faultStopped]
    exact ⟨rfl, rfl, rfl, fun _ => faultStopped_stops, congrArg Held.cm memories, congrArg Held.dm memories⟩

end Sys2Proof.Machine

/-! # The cc of a word: any row of a slot, CALM and END, and the results that land (03 R81, R85, R94, R102 to R105, R109 to R111) -/

namespace Sys2Proof.Machine

/-! ## Every row of a slot evaluates the word that holds it -/

/-- The command of an operation of a slot spends the cc of the word that holds the operation in that slot. -/
theorem exec_slotCommand_slot (k : CoreId) (u : Bool) (o : SlotOp) (s : State) :
    ∃ b, exec (slotCommand k u o).2 s = issueNamed k.num (slotCommand k u o).1 o b s := by
  cases o with
  | ctl o => cases o with
    | x o => cases o <;> exact ⟨_, rfl⟩
    | _ => exact ⟨_, rfl⟩
  | sin o => cases o <;> exact ⟨_, rfl⟩
  | mat o => cases o <;> exact ⟨_, rfl⟩
  | vec o => exact exec_vecCommand k u o s
  | red o => cases o with
    | nop => exact ⟨_, rfl⟩
    | red o a => exact ⟨_, exec_redCommand k o a s⟩
  | mem o => cases o <;> exact ⟨_, rfl⟩
  | msg o => cases o <;> exact ⟨_, rfl⟩

theorem issueHere_startCc (s : State) (n : Nat) : issueHere (startCc s n) n = issueOf s n := by
  rw [issueHere, getCore_startCc]
  rfl

/-- Settles O11: a row of a slot is a cc of its core, and a core that fetches faults, freezes or issues its word. -/
theorem everyRowEvaluatesItsWord : Obligations.EveryRowEvaluatesItsWord := by
  intro s k u o c fetches holds
  obtain ⟨b, row⟩ := exec_slotCommand_slot k u o s
  simp only
  rewrite [row, issueNamed_holds s k.num _ o b fetches.spends holds, issueHere_startCc]
  cases fails : firstFail (wordFails s k.num c (wordAt c) (Decode.word (wordAt c))) with
  | some f => exact congrArg Host.Outcome.next (coreCc_fails s k.num fetches f fails)
  | none =>
    cases held : firstHold s k.num c (Decode.word (wordAt c)) with
    | some x => exact congrArg Host.Outcome.next (coreCc_freezes s k.num fetches x fails held)
    | none => exact congrArg Host.Outcome.next (coreCc_issues s k.num fetches ⟨fails, held⟩)

/-! ## CALM and END -/

section
variable {s : State} {n : Nat}

/-- A word whose operations in flight, after its slots, advance to a core `stageCore (runUp d)`: CALM and END follow its cc. -/
theorem issueWord_afterCtl {t : State} {w : WordOps} {d : Core} (slots : issueSlots (runStart s n) (issueOf s n) w = t)
    (staged : advance t n = setCore t n (stageCore (runUp d))) :
    issueWord (startCc s n) (issueOf s n) w = afterCtl (setCore t n (afterWord d (nextPc (issueOf s n) w.ctl))) (issueOf s n) w.ctl := by
  have start : modCore (startCc s n) n (fun c => { c with state := .running, cause := .none, slot := 0, waitIx := 0, frozenFor := 0, idleFor := 0 }) =
      runStart s n := by
    simp only [startCc, modCore_modCore]; rfl
  unfold issueWord
  simp only
  rw [show (issueOf s n).n = n from rfl, start, slots, staged]
  simp only [endCc, modCore_setCore]
  rfl

/-- A word whose CTL operation writes no register: its cc, and then CALM or END. -/
theorem issueNamed_ctl {o : CtlOp} {isNop : Bool} (lone : Lone s n 0 (.ctl o)) (plain : ∀ t i, goCtl t i o = t) :
    issueNamed n 0 (.ctl o) isNop s =
      .next (stopLate (afterCtl (setCore s n (afterWord (getCore s n) (nextPc (issueOf s n) o))) (issueOf s n) o) n) := by
  have core : getCore (runStart s n) n = runUp (getCore s n) := getCore_setCore_same ..
  have slots : issueSlots (runStart s n) (issueOf s n) (loneWord 0 (.ctl o)) = runStart s n := (issueSlots_ctl ..).trans (plain ..)
  have staged : advance (runStart s n) n = setCore (runStart s n) n (stageCore (runUp (getCore s n))) := by
    rw [advance_idle, modCore, core] <;> rw [core]
    · exact fun f hf => (lone.still f hf).1
    · exact fun f hf => secondCycle_of_not_load _ _ _ (lone.still f hf).2
  rw [issueNamed_lone _ _ _ _ _ lone, issueWord_afterCtl slots staged, runStart, setCore_setCore]
  rfl

end

theorem exec_calm {s : State} {k : CoreId} {step : Bool} {index : BitVec 16} (lone : Lone s k.num 0 (.ctl (.calm step index))) :
    exec (.calm k step index) s = .next (setCore s k.num
      { afterWord (getCore s k.num) (nextOf (getCore s k.num)) with
        calm := some { index := index, step := step, pc := (getCore s k.num).pc, reported := false, issue := (getCore s k.num).issued }
        state := .frozen, cause := .calm, waitIx := index.toNat }) := by
  refine (issueNamed_ctl lone fun _ _ => rfl).trans ?_
  rw [afterCtl_calm, stopLate_id]
  · rw [show (issueOf s k.num).n = k.num from rfl, modCore_setCore]
    rfl
  · exact lone.fetches.goesOn

/-- Where no calm point forms and no stop waits, a core that leaves its partition's calm points changes nothing (03 R110). -/
theorem calmCheckAt_idle {s : State} {c : Nat} (idle : ∀ p, partOfCluster s c = some p → (getPart s p).calm = none ∧ (getPart s p).stopPending = false) :
    calmCheckAt s c = s := by
  unfold calmCheckAt
  split
  next p part =>
    obtain ⟨unformed, going⟩ := idle p part
    simp only [calmCheck, unformed, going, Bool.false_eq_true, if_false, ite_self]
  next => rfl

/-- A core that issues no more; `open_` tells one whose operations have not all completed (03 R94). -/
def ended (open_ : Bool) (c : Core) : Core := { c with state := .ended, ending := open_, cause := .none, slot := 0, frozenFor := 0, idleFor := 0 }

/-- A core that has ended its task, in Lull (03 R94, R109). -/
def atEnd (c : Core) : Core := { ended false c with stats := { c.stats with lullEntries := c.stats.lullEntries.bump } }

/-- A core with nothing in flight ends its task at once (03 R94). -/
theorem endTask_drained {s : State} {n : Nat} {d : Core} (drains : drained d = true)
    (idle : ∀ p, partOfCluster s (clusOf n) = some p → (getPart s p).calm = none ∧ (getPart s p).stopPending = false) :
    endTask (setCore s n d) n = emptyQueues (setCore s n (atEnd d)) n .closed := by
  have ends : ((getCore (setCore s n (ended true d)) n).ending && drained (getCore (setCore s n (ended true d)) n)) = true := by
    rw [getCore_setCore_same]
    exact drains
  have parts : (emptyQueues (setCore s n (atEnd d)) n .closed).parts = s.parts := emptyQueues_parts ..
  have finish : endTask (setCore s n d) n = finishEnd (setCore s n (ended true d)) n := by
    rw [endTask, modCore_setCore]
    exact if_pos ends
  have closes : finishEnd (setCore s n (ended true d)) n = calmCheckAt (emptyQueues (setCore s n (atEnd d)) n .closed) (clusOf n) := by
    rw [finishEnd, modCore_setCore]
    rfl
  rw [finish, closes, calmCheckAt_idle]
  intro p part
  rw [partOfCluster_congr _ _ parts] at part
  rw [getPart_congr parts]
  exact idle p part

theorem stopAt_emptyQueues (s : State) (n : Nat) (st : TqState) (c : Nat) : (getClus (emptyQueues s n st) c).stopAt = (getClus s c).stopAt :=
  foldl_keeps (g := fun t => (getClus t c).stopAt) _ _ fun t m => by
    rw [emptyQueue, stopAt_modClus fun _ => by rfl, getClus_modCore]

theorem exec_end {s : State} {k : CoreId} (lone : Lone s k.num 0 (.ctl .end_)) (quiet : (getCore s k.num).inflight = []) (free : (getCore s k.num).mat.elastic = [])
    (idle : ∀ p, partOfCluster s (clusOf k.num) = some p → (getPart s p).calm = none ∧ (getPart s p).stopPending = false) :
    exec (.end_ k) s = .next (emptyQueues (setCore s k.num { afterWord (getCore s k.num) (nextOf (getCore s k.num)) with
      state := .ended, ending := false, stats := { (getCore s k.num).stats with lullEntries := (getCore s k.num).stats.lullEntries.bump } }) k.num .closed) := by
  have drains : drained (afterWord (getCore s k.num) (nextOf (getCore s k.num))) = true := by
    have flights : (afterWord (getCore s k.num) (nextOf (getCore s k.num))).inflight = [] := congrArg _ quiet
    have waits : (afterWord (getCore s k.num) (nextOf (getCore s k.num))).mat.elastic = [] := free
    rw [drained, flights, waits]
    rfl
  refine (issueNamed_ctl lone fun _ _ => rfl).trans ?_
  rw [afterCtl_end, show (issueOf s k.num).n = k.num from rfl, show nextPc (issueOf s k.num) .end_ = nextOf (getCore s k.num) from rfl,
    endTask_drained drains idle, stopLate_id]
  · rfl
  · rw [stopAt_emptyQueues]
    exact lone.fetches.goesOn

/-- Settles O18: CALM and END take effect after the cc of their word. -/
theorem calmAndEnd : Obligations.CalmAndEnd := fun _ _ => ⟨fun _ _ => exec_calm, exec_end⟩

/-! ## Results that land while a word of NOPs issues -/

/-- The core of `stageCore` before its landing operations take effect: none is in flight, and its weight sets are one cc nearer to their end. -/
def unloaded (c : Core) : Core :=
  { c with inflight := [], mat := { c.mat with set0 := { c.mat.set0 with busy := c.mat.set0.busy - 1 }, set1 := { c.mat.set1 with busy := c.mat.set1.busy - 1 } } }

/-- The counting windows of a core are one cc nearer to their end (07 R270). -/
def windowsShut (c : Core) : Core :=
  modMem c (fun m => { m with cntWindows := m.cntWindows.filterMap (fun w => if w.2.2.2 ≤ 1 then none else some (w.1, w.2.1, w.2.2.1, w.2.2.2 - 1)) })

/-- A stage in which the only operation in flight lands. -/
theorem advance_lands {s : State} {n : Nat} {f : Flight} (alone : (getCore s n).inflight = [f]) (ripe : f.left = 1) :
    advance s n = modCore (landFlight (modCore s n unloaded) n f) n windowsShut := by
  have second : secondCycle s n f = (f, s) := by
    unfold secondCycle
    split
    · rw [if_neg (by omega)]
    · rfl
  have landing : [f].filter (fun g => decide (g.left ≤ 1)) = [f] := by simp [ripe]
  have later : [f].filter (fun g => decide (1 < g.left)) = [] := by simp [ripe]
  unfold advance
  simp only [alone, secondCycles, second, landing, later, List.map_nil, List.foldl_cons, List.foldl_nil]
  rfl

/-- The state in which an operation in flight lands, as a word issues. -/
def landing (s : State) (n : Nat) : State := setCore s n (unloaded (runUp (getCore s n)))

/-- A core whose word has issued, at the end of its cc (03 R81, R105). -/
def wordEnded (next : Nat × List LoopLevel) (c : Core) : Core := { closeCc c with issued := c.issued + 1, pc := next.1, loops := next.2 }

/-- The end of the cc of a word of NOPs in which an operation has landed. -/
def afterLanding (s t : State) (n : Nat) : State := modCore t n (fun c => wordEnded (nextOf (getCore s n)) (windowsShut c))

theorem issueWord_lands {s : State} {n : Nat} {f : Flight} (alone : (getCore s n).inflight = [f]) (ripe : f.left = 1) :
    issueWord (startCc s n) (issueOf s n) {} = afterLanding s (landFlight (landing s n) n f) n := by
  have start : modCore (startCc s n) n (fun c => { c with state := .running, cause := .none, slot := 0, waitIx := 0, frozenFor := 0, idleFor := 0 }) =
      runStart s n := by
    simp only [startCc, modCore_modCore]; rfl
  have core : getCore (runStart s n) n = runUp (getCore s n) := getCore_setCore_same ..
  have advanced : advance (runStart s n) n = modCore (landFlight (landing s n) n f) n windowsShut := by
    rw [advance_lands (by rw [core]; exact alone) ripe, runStart, modCore_setCore]
    rfl
  unfold issueWord
  simp only
  rw [show (issueOf s n).n = n from rfl, start, show issueSlots (runStart s n) (issueOf s n) {} = runStart s n from rfl, advanced, endCc]
  simp only [modCore_modCore]
  rfl

section
variable {s : State} {k : CoreId} {i : Fin 8} {f : Flight} (alone : (getCore s k.num).inflight = [f]) (ripe : f.left = 1)
  (fetches : Fetches s k.num) (holds : Holds (getCore s k.num) i (nopOf i)) (passes : Passes s k.num)
include alone ripe fetches holds passes

theorem exec_nop_lands : exec (.nop k i) s = .next (stopLate (afterLanding s (landFlight (landing s k.num) k.num f) k.num) k.num) := by
  have slot := holds i
  rw [if_pos rfl] at slot
  refine (issueNamed_holds s k.num i (nopOf i) true fetches.spends slot).trans ?_
  rw [coreCc_issues s k.num fetches passes, word_of_holds _ _ _ holds, loneWord_nopOf, issueWord_lands alone ripe]

/-- A result that changes its own core alone. -/
theorem exec_nop_own {g : Core → Core} (lands : ∀ t, landFlight t k.num f = modCore t k.num g)
    (apart : ∀ c, windowsShut (g (unloaded (runUp c))) = stageCore (runUp (g { c with inflight := [] }))) :
    exec (.nop k i) s = .next (setCore s k.num (afterWord (g { getCore s k.num with inflight := [] }) (nextOf (getCore s k.num)))) := by
  rw [exec_nop_lands alone ripe fetches holds passes, lands, landing, modCore_setCore, afterLanding, modCore_setCore, apart, stopLate_id]
  · rfl
  · exact fetches.goesOn

end

/-! ## A row that lands in its bank (06 R213; 07 R243, R262, R283, R284) -/

section
variable (s : State) (n : Nat)

theorem mem_noteCollision (c : Nat) (cm : Bool) (row : Nat) (rd wr : Party) : (getCore (noteCollision s c cm n row rd wr) n).mem = (getCore s n).mem := by
  unfold noteCollision
  dsimp only
  split
  · split
    · rfl
    · split
      · rw [getCore_modCore_same]
        rfl
      · split
        · rw [getCore_modCore_same]
          rfl
        · rfl
  · rfl

theorem held_writeSp (row : Nat) (v : Row) (by_ : Party) (produce : Bool) : held (writeSp s n row v by_ produce) = held (setSpRow s n row v) := by
  unfold writeSp
  dsimp only
  split
  · rw [held_noteCollision, held_setCore]
  · rw [held_setCore]

theorem mem_writeSp (row : Nat) (v : Row) (by_ : Party) (produce : Bool) : let m := (getCore s n).mem
    (getCore (writeSp s n row v by_ produce) n).mem.ovf = mset m.ovf row false ∧
      (getCore (writeSp s n row v by_ produce) n).mem.valid = if produce then mset m.valid row true else m.valid := by
  unfold writeSp
  dsimp only
  split
  · rw [mem_noteCollision, getCore_setCore_same]
    exact ⟨rfl, rfl⟩
  · rw [getCore_setCore_same]
    exact ⟨rfl, rfl⟩

/-- The step of a guarded buffer's ring leaves the cores and the memories. -/
theorem landFlight_rowWrite {f : Flight} {row : Nat} {v : Row} {produce : Bool} (eff : f.eff = .rowWrite row v produce) :
    held (landFlight s n f) = held (progWrite s n row v f produce) ∧ getCore (landFlight s n f) n = getCore (progWrite s n row v f produce) n := by
  simp only [landFlight, eff]
  split <;> exact ⟨rfl, rfl⟩

theorem progWrite_off {row : Nat} (off : (spPower s n (spBank row)).ready = false) (v : Row) (f : Flight) (produce : Bool) :
    held (progWrite s n row v f produce) = held s := by
  simp only [progWrite, off, Bool.false_eq_true, if_false, held_dropAndRaise]

theorem progWrite_on {row : Nat} (on : (spPower s n (spBank row)).ready = true) (v : Row) (f : Flight) (produce : Bool) :
    progWrite s n row v f produce = writeSp s n row v (progParty (getCore s n) f.slot f.pc f.issue) produce := by
  simp only [progWrite, on, if_true]

theorem mem_stopLate : (getCore (stopLate s n) n).mem = (getCore s n).mem := by
  have halted : (getCore (haltCore s n .stopped) n).mem = (getCore s n).mem := by
    unfold haltCore
    dsimp only
    (repeat' split) <;> simp only [getCore_setCore_same]
  unfold stopLate
  (repeat' split) <;> simp only [halted]

theorem held_landing : held (landing s n) = held s := held_setCore ..

theorem spPower_landing (b : Nat) : spPower (landing s n) n b = mget {} (getCore s n).mem.banks b := by
  rw [spPower, landing, getCore_setCore_same]
  rfl

end

section
variable {s : State} {k : CoreId} {i : Fin 8} {f : Flight} (alone : (getCore s k.num).inflight = [f]) (ripe : f.left = 1)
  (fetches : Fetches s k.num) (holds : Holds (getCore s k.num) i (nopOf i)) (passes : Passes s k.num)
  {row : Nat} {v : Row} {produce : Bool} (eff : f.eff = .rowWrite row v produce)
include alone ripe fetches holds passes eff

theorem exec_nop_rowWrite_off (off : (mget {} (getCore s k.num).mem.banks (spBank row)).ready = false) :
    ∃ t, exec (.nop k i) s = .next t ∧ t.spMem = s.spMem := by
  have kept : held (landFlight (landing s k.num) k.num f) = held s := by
    rw [(landFlight_rowWrite _ _ eff).1, progWrite_off _ _ (by rw [spPower_landing]; exact off), held_landing]
  have same : held (stopLate (afterLanding s (landFlight (landing s k.num) k.num f) k.num) k.num) = held s := by
    rw [held_stopLate, afterLanding, held_modCore, kept]
  exact ⟨_, exec_nop_lands alone ripe fetches holds passes, congrArg Held.sp same⟩

theorem exec_nop_rowWrite_on (on : (mget {} (getCore s k.num).mem.banks (spBank row)).ready = true) :
    ∃ t, exec (.nop k i) s = .next t ∧ spRow t k.num row = v ∧ mget false (getCore t k.num).mem.ovf row = false ∧
      (produce = true → mget false (getCore t k.num).mem.valid row = true) ∧
      (∀ a, (a < spAddr k.num row ∨ spAddr k.num row + 512 ≤ a) → readByte t.spMem a = readByte s.spMem a) ∧ t.cmMem = s.cmMem ∧ t.dmMem = s.dmMem := by
  obtain ⟨memories, core⟩ := landFlight_rowWrite (landing s k.num) k.num eff
  rw [progWrite_on _ _ (by rw [spPower_landing]; exact on)] at memories core
  obtain ⟨ovf, valid⟩ := mem_writeSp (landing s k.num) k.num row v (progParty (getCore (landing s k.num) k.num) f.slot f.pc f.issue) produce
  rw [← core] at ovf valid
  have kept : held (stopLate (afterLanding s (landFlight (landing s k.num) k.num f) k.num) k.num) = held (setSpRow s k.num row v) := by
    rw [held_stopLate, afterLanding, held_modCore, memories, held_writeSp]
    rfl
  have sp : State.spMem _ = _ := congrArg Held.sp kept
  refine ⟨_, exec_nop_lands alone ripe fetches holds passes, ?_, ?_, fun produces => ?_, fun a outside => ?_, congrArg Held.cm kept, congrArg Held.dm kept⟩
  · rw [spRow, sp]
    exact readRow_writeRow_same ..
  · rw [mem_stopLate, afterLanding, getCore_modCore_same]
    exact (congrArg (mget false · row) ovf).trans (mget_mset_same ..)
  · rw [mem_stopLate, afterLanding, getCore_modCore_same]
    rw [if_pos produces] at valid
    exact (congrArg (mget false · row) valid).trans (mget_mset_same ..)
  · rw [sp]
    exact readByte_writeBytes_other _ _ _ _ (by rwa [natBytes_length])

end

/-- Settles O12: a result of its own core by the change that it makes there; a row by whether its bank has power. -/
theorem resultsLand : Obligations.ResultsLand := by
  intro s k i f c alone ripe _ fetches holds passes d
  have own {g : Core → Core} := exec_nop_own alone ripe fetches holds passes (g := g)
  cases eff : f.eff with
  | writeV r v m zm => exact own (g := fun c => setV c r (mergeLanes (getV c r) v m zm)) (fun t => by simp only [landFlight, eff]) fun _ => rfl
  | mergeV r v keep => exact own (g := fun c => setV c r ((getV c r &&& keep) ||| (v &&& ~~~keep))) (fun t => by simp only [landFlight, eff]) fun _ => rfl
  | writeM r v m zm => exact own (g := fun c => setM c r (mergeMask (getM c r) v m zm)) (fun t => by simp only [landFlight, eff]) fun _ => by unfold setM; split <;> rfl
  | writeX r v => exact own (g := fun c => setX c r v) (fun t => by simp only [landFlight, eff]) fun _ => rfl
  | vecEvents ev => exact own (g := fun c => vecFlagEvents c ev) (fun t => by simp only [landFlight, eff]) fun _ => rfl
  | accClear => exact own (g := accCleared) (fun t => by simp only [landFlight, eff]; rfl) fun _ => rfl
  | rowWrite row v produce =>
    exact ⟨exec_nop_rowWrite_off alone ripe fetches holds passes eff, exec_nop_rowWrite_on alone ripe fetches holds passes eff⟩
  | _ => trivial

end Sys2Proof.Machine
